-- ==== Sys2Proof/Word.lean ====
section
/-! DEFINITION. The word types of the model: register words, memory words and the field widths the manual names. -/

namespace Sys2Proof

/-- One byte of a memory or a message. -/
abbrev Byte := BitVec 8
/-- A 16-bit reason or error code (R11), tag or context number. -/
abbrev W16 := BitVec 16
/-- A 20-bit instruction index (R95). -/
abbrev W20 := BitVec 20
/-- A 32-bit general register or buoy value. -/
abbrev W32 := BitVec 32
/-- A 40-bit address register (R95) or module-space address (R33). -/
abbrev W40 := BitVec 40
/-- A 64-bit register word. -/
abbrev W64 := BitVec 64
/-- A 128-bit generator key, counter or block (R195). -/
abbrev W128 := BitVec 128
/-- A 32-byte scratchpad or exchange word (R45). -/
abbrev W256 := BitVec 256

end Sys2Proof
end

