-- ==== Sys2Proof/Syntax.lean ====
section
/-! DEFINITION. The commands of the block: one constructor of `Instr` per row of the command table, and the records that their operands are made of.  The table gives no operands and no bits; the operands are the model's own, read off the rule that each row names (log entry 1). -/

namespace Sys2Proof

/-- Who makes a register access or asks for a dialogue: the principals that address module space (R442, R445). -/
inductive Requester where
  | host | gallery | keeper
  deriving DecidableEq, Repr

/-- Where the address of a register access counts from: module space (R33), or one of the two BARs of the PCIe function (R492, R495). -/
inductive Space where
  | module | bar0 | bar2
  deriving DecidableEq, Repr

/-- What the steps of Keeper boot found (R459): ROM self-hash, PUF reconstruction, entropy health, replay-protected region, whether the signatures of the two records and of each Gallery bank verify. -/
structure BootChecks where
  romOk : Bool
  pufOk : Bool
  entropyOk : Bool
  replayOk : Bool
  configOk : Bool
  repairOk : Bool
  bankAOk : Bool
  bankBOk : Bool
  deriving DecidableEq, Repr

/-- What power-on self-test found (R25, R225, R529): physical tiles that failed, compute dies made unavailable by a router or wire group, SRAM and link dies that passed. -/
structure SelfTest where
  failedTiles : List Nat
  badDies : Byte
  sramPass : W16
  linkPass : BitVec 6
  deriving DecidableEq, Repr

/-- A measurement of the module input (R563, R580): mean power in W, voltage in 10 mV, current in 0.1 A. -/
structure PowerReading where
  watts : Nat
  volts : Nat
  amps : Nat
  deriving DecidableEq, Repr

/-- A reading of temperature sensor `n` of TEMPn in 1/16 °C (R580); `failed` for a sensor that gives none (0x112B). -/
structure SensorReading where
  n : Nat
  temp : W16
  failed : Bool
  deriving DecidableEq, Repr

/-- A node of the exchange fabric: a tile's router node, the edge node whose table a tile holds (R240), or the node of a link die (R419). -/
inductive NodeId where
  | tile (t : Nat)
  | edge (t : Nat)
  | link (j : Nat)
  deriving DecidableEq, Repr

/-- The source of an operation on a buoy (R290). -/
inductive Source where
  | none
  | thread (t th : Nat)
  | ring (r : Nat)
  | plane (s : Nat)
  | gallery (core : Nat)
  | host
  | keeper
  | jicen (mid : Nat)
  | done (t : Nat)
  deriving DecidableEq, Repr

/-- A unit that can wait at a buoy home (R280). -/
inductive Waiter where
  | thread (t th : Nat)
  | ringHead (r : Nat)
  deriving DecidableEq, Repr

/-- A watch registration (R282). -/
structure Watch where
  cond : BitVec 3
  value : W32
  mask : W32
  deadline : W64
  target : Byte
  cookie : W32
  deriving DecidableEq, Repr

/-- A request that a requester presents to the arbiter of a pseudo-channel: its number (R332) and its age, in controller cycles waited. -/
structure ArbRequest where
  x : Nat
  age : Nat
  deriving DecidableEq, Repr

/-- A granted HBM access that completes (R317, R318): stack offset, bytes written (none for a read), bytes read, bursts that the codec corrected, whether a burst was uncorrectable, and whether it is the debug port that took the pseudo-channel (R334). -/
structure HbmAccess where
  off : Nat
  write : Option (List Byte)
  len : Nat
  corrected : Nat
  uncorrectable : Bool
  debug : Bool := false
  deriving DecidableEq, Repr

/-- The bytes that an access covers. -/
def HbmAccess.size (a : HbmAccess) : Nat := max a.len (a.write.getD []).length

/-- What the far side of a Jicen port says of itself (R405), with the measured one-way delay in 1/64 bt (R254). -/
structure Neighbour where
  id : BitVec 12
  port : BitVec 3
  dims : BitVec 12
  delay64 : W32
  deriving DecidableEq, Repr

/-- A word of a compiled frame: bt within the slot, port lane, stream, content (R418). -/
structure PortWord where
  b : Nat
  lane : Nat
  stream : W16
  word : W256
  deriving DecidableEq, Repr

/-- A COMPILED frame as received (R242): whether its checks pass, the bt after launch of its slot, its words. -/
structure CompiledArrival where
  ok : Bool
  bt : Nat
  words : List PortWord
  fecBad : Bool := false
  deriving DecidableEq, Repr

/-- A REQ or RSP frame (R409, R411): the header in clear, whether CRC and GCM tag verify, the message header and its data; `fecBad` of a frame that fails because its FEC could not correct it (R416). -/
structure Frame where
  rsp : Bool
  vc : Bool
  seq : BitVec 12
  dst : BitVec 12
  src : BitVec 12
  job : W16
  ctr : W64
  crcOk : Bool
  tagOk : Bool
  msg : Byte
  flags : Byte
  token : W16
  status : W16
  addr : W64
  arg : W64
  wait : W64
  data : List Byte
  fecBad : Bool := false
  deriving DecidableEq, Repr

/-- The payload of a VOTE block (R422), and whether its tag verifies. -/
structure VoteBlock where
  job : W16
  kind : BitVec 4
  phase : BitVec 2
  group : BitVec 6
  origin : BitVec 12
  hops : BitVec 4
  refr : W32
  count : BitVec 13
  flags : W16
  tagOk : Bool
  deriving DecidableEq, Repr

/-- An ACK block (R413): acknowledged sequence, NAK, credits returned for REQ0, REQ1, RSP0, RSP1. -/
structure AckBlock where
  ackSeq : BitVec 12
  nak : Bool
  req0 : Nat
  req1 : Nat
  rsp0 : Nat
  rsp1 : Nat
  deriving DecidableEq, Repr

/-- A TIME block (R413) with the residual that the phase detector measures against it, in 1/64 bt. -/
structure TimeWord where
  count : W64
  depth : Byte
  state : Byte
  master : BitVec 12
  resid : W16
  ok : Bool
  deriving DecidableEq, Repr

/-- A CAL_RSP block (R413) with the local send and receive instants of the exchange, in 1/64 bt (R254). -/
structure CalRsp where
  tag : Byte
  t1 : Nat
  t2 : Nat
  t3mt2 : Nat
  t4 : Nat
  deriving DecidableEq, Repr

/-- A Feed DATA datagram (R430, R433): `formOk` says that its other header fields are right, `fill` how many bytes the ingress buffer held when it came. -/
structure FeedDatagram where
  flow : Nat
  epoch : Byte
  seq : W64
  len : Nat
  data : List Byte
  tagOk : Bool
  formOk : Bool
  fill : Nat
  deriving DecidableEq, Repr

/-- A Feed ACK datagram (R430). -/
structure FeedAck where
  flow : Nat
  epoch : Byte
  cum : W64
  windowEnd : W64
  sack : W64
  tagOk : Bool
  deriving DecidableEq, Repr

/-- A frame that is not a Feed datagram (R429). -/
inductive EtherFrame where
  | other (bytes : List Byte)
  | pauseAnnex31B
  | badUdpChecksum
  | ipFragment
  deriving DecidableEq, Repr

/-- What the signature engine finds of a staged or stored signed object (R458, action 4); `otherOk` of the Gallery bank that a restart tries second (R459). -/
structure SignatureCheck where
  sigOk : Bool
  otherOk : Bool
  deriving DecidableEq, Repr

/-- Where a host command came from: the module command channel (R499) or HOST_CMD ring `r` (R500). -/
inductive Channel where
  | mcmd
  | ring (r : Nat)
  deriving DecidableEq, Repr

/-- A check of a tile's stores and paths that fails (R528): an uncorrectable scratchpad word, data entering or leaving the scratchpad, a veneer tag, a register file, an operand path of the array or output stage, a generator, the vector unit or quantiser, an exchange port, router or node. -/
inductive TileCheck where
  | word | data | veneerTag | registers | operands | generator | vector | exchange
  deriving DecidableEq, Repr

/-- A fault of the Keeper die while it runs (R444, R454, R473): ROM, SRAM or core; the entropy source's health test; the HMAC of a read of the replay-protected region. -/
inductive KeeperFault where
  | core | entropy | replay
  deriving DecidableEq, Repr

/-- What a check of a store or path finds (R51, R106, R502, R528): a correctable scratchpad word at a byte address of a tile; another fault of a tile, with its location; an instruction cache line; a die's part of the beacon tree; a buoy home; a ring descriptor; a plane or controller, with its shard entry; a link die; a Feed interface; a host memory access (or, where `own` holds, a host interface buffer) of the command that a channel offers, after `n` sections or tiles of a load; the error block; the Keeper die. -/
inductive StoreFault where
  | corrected (t a : Nat)
  | tile (t : Nat) (k : TileCheck) (loc : Nat)
  | cacheLine (t : Nat)
  | beacon (die : Nat)
  | buoy (b : Nat)
  | ring (r : Nat)
  | plane (k e : Nat)
  | port (j : Nat)
  | feed (e : Nat)
  | host (via : Channel) (own : Bool) (n : Nat)
  | errorBlock
  | keeper (f : KeeperFault)
  deriving DecidableEq, Repr

/-- What a margined lamp test found (R546, R547): physical tiles that failed, physical tiles tested and passed, dies made unavailable, spares used on each die. -/
structure LampOutcome where
  failedTiles : List Nat
  passedTiles : List Nat
  badDies : Byte
  spares : List Nat
  deriving DecidableEq, Repr

/-- The units of a tile that have instruction queues (R102). -/
inductive TileUnit where
  | array | output | vector | quantiser | random
  deriving DecidableEq, Repr

/-- A request through the DOE mailbox (R492, R493). -/
inductive DoeRequest where
  | spdm (body : List Byte)
  | ideKeySet (stream : Nat)
  | ideKeyStop (stream : Nat)
  | ideIntegrityFail (stream : Nat)
  deriving DecidableEq, Repr

/-- The commands: one constructor per row of the command table. -/
inductive Instr where
  /-- POWER_ON (R570). -/
  | powerOn (maddr : BitVec 3)
  /-- STANDBY_RAILS_GOOD (R570). -/
  | standbyRailsGood
  /-- KEEPER_BOOT_COMPLETE (R459). -/
  | keeperBootComplete (o : BootChecks)
  /-- MAIN_RAILS_RAMPED (R570). -/
  | mainRailsRamped
  /-- TILE_SELF_TEST_DONE (R25). -/
  | tileSelfTestDone (o : SelfTest)
  /-- HBM_TRAINING_DONE (R571). -/
  | hbmTrainingDone (failed : W32)
  /-- JICEN_TRAINING_PHASE_DONE (R570). -/
  | jicenTrainingPhaseDone
  /-- BEACON_LOCK_PHASE_END (R571). -/
  | beaconLockPhaseEnd
  /-- POWER_LOSS (R574). -/
  | powerLoss
  /-- INPUT_OVERVOLTAGE (R556). -/
  | inputOvervoltage
  /-- THERM_N_ASSERT (R569). -/
  | thermNAssert
  /-- THERM_N_DEASSERT (R569). -/
  | thermNDeassert
  /-- MOD_RST_N_ASSERT (R573). -/
  | modRstNAssert
  /-- MOD_RST_N_RELEASE (R573). -/
  | modRstNRelease
  /-- THROTTLE_UPDATE (R563). -/
  | throttleUpdate (p : PowerReading)
  /-- HEADROOM_UPDATE (R566). -/
  | headroomUpdate (p16 : Nat)
  /-- OVERPOWER_DETECT (R565). -/
  | overpowerDetect (p : Nat)
  /-- THERM_RELEASE (R565). -/
  | thermRelease
  /-- SENSOR_SAMPLE (R568). -/
  | sensorSample (readings : List SensorReading)
  /-- RAIL_SETTLED (R263). -/
  | railSettled (i : Nat)
  /-- RAIL_FAULT (R582). -/
  | railFault (die : Nat)
  /-- DARK_MAIN_RAIL_REMOVAL (R560). -/
  | darkMainRailRemoval
  /-- PARTITION_POWER_UP_DONE (R561). -/
  | partitionPowerUpDone (slot : Nat) (ok : Bool)
  /-- CLEAR_FAULTS (R578). -/
  | clearFaults
  /-- CAPABILITY (R578). -/
  | capability
  /-- STATUS_WORD (R578). -/
  | statusWord
  /-- STATUS_INPUT (R578). -/
  | statusInput
  /-- STATUS_TEMPERATURE (R578). -/
  | statusTemperature
  /-- READ_VIN (R578). -/
  | readVin
  /-- READ_IIN (R578). -/
  | readIin
  /-- READ_PIN (R578). -/
  | readPin
  /-- READ_TEMPERATURE_1 (R578). -/
  | readTemperature1
  /-- READ_TEMPERATURE_2 (R578). -/
  | readTemperature2
  /-- READ_TEMPERATURE_3 (R578). -/
  | readTemperature3
  /-- PMBUS_REVISION (R578). -/
  | pmbusRevision
  /-- MFR_ID (R578). -/
  | mfrId
  /-- MFR_MODEL (R578). -/
  | mfrModel
  /-- MFR_SERIAL (R578). -/
  | mfrSerial
  /-- MFR_POWER_CAP (R578). -/
  | mfrPowerCap (write : Option W16)
  /-- PMBUS_UNSUPPORTED_CODE (R578). -/
  | pmbusUnsupportedCode (code : Byte)
  /-- FRU_READ (R578). -/
  | fruRead (off : Nat) (len : Nat)
  /-- BYPASS (R469). -/
  | bypass
  /-- IDCODE (R577). -/
  | idcode
  /-- SAMPLE_PRELOAD (R577). -/
  | samplePreload
  /-- EXTEST (R577). -/
  | extest
  /-- PERST_N_ASSERT (R572). -/
  | perstNAssert
  /-- PERST_N_DEASSERT (R572). -/
  | perstNDeassert
  /-- FUNCTION_LEVEL_RESET (R494). -/
  | functionLevelReset
  /-- PCIE_LINK_DOWN (R527). -/
  | pcieLinkDown
  /-- MARK (R250). -/
  | mark
  /-- STEP_BOUNDARY_MARK (R389). -/
  | stepBoundaryMark (slot : Nat)
  /-- BEACON_CHECK_WORD (R251). -/
  | beaconCheckWord (die : Nat) (count : W64)
  /-- BCN_CMD_ALIGN (R255). -/
  | bcnCmdAlign (who : Requester)
  /-- BCN_CMD_RECAL (R254). -/
  | bcnCmdRecal (who : Requester)
  /-- BCN_CTL_WRITE (R269). -/
  | bcnCtlWrite (who : Requester) (v : W64)
  /-- HALF_CLK_WRITE (R262). -/
  | halfClkWrite (who : Requester) (i : Nat) (v : W64)
  /-- HALF_PLL_LOCKED (R263). -/
  | halfPllLocked (i : Nat)
  /-- HALF_CLOCK_SWITCH_DONE (R264). -/
  | halfClockSwitchDone (i : Nat)
  /-- HALF_PLL_LOCK_LOSS (R272). -/
  | halfPllLockLoss (i : Nat)
  /-- MODULE_PLL_LOCKED (R253). -/
  | modulePllLocked
  /-- BEACON_ALIGNED (R254). -/
  | beaconAligned (resid : W16)
  /-- MODULE_PLL_LOCK_LOSS (R256). -/
  | modulePllLockLoss
  /-- HOLDOVER_ENTRY (R256). -/
  | holdoverEntry (altValid : Bool)
  /-- HOLDOVER_LIMIT (R256). -/
  | holdoverLimit
  /-- BEACON_STEER (R255). -/
  | beaconSteer (resid : W16)
  /-- TRIM_RECALIBRATION (R257). -/
  | trimRecalibration (die : Nat) (trim : W16)
  /-- PPS_IN_EDGE (R267). -/
  | ppsInEdge
  /-- PPS_OUT_RISE (R267). -/
  | ppsOutRise
  /-- PPS_OUT_FALL (R267). -/
  | ppsOutFall
  /-- TILE_ENABLE (R97). -/
  | tileEnable (who : Requester) (t : Nat)
  /-- TILE_DISABLE (R99). -/
  | tileDisable (who : Requester) (t : Nat)
  /-- DOWEL_VALID_SET (R54). -/
  | dowelValidSet (who : Requester) (t : Nat) (d : Nat) (v : W64)
  /-- DOWEL_VALID_CLEAR (R55). -/
  | dowelValidClear (who : Requester) (t : Nat) (d : Nat)
  /-- JIG_ENABLE (R69). -/
  | jigEnable (who : Requester) (t : Nat) (j : Nat) (v : W64)
  /-- JIG_DISABLE (R70). -/
  | jigDisable (who : Requester) (t : Nat) (j : Nat)
  /-- VENEER_CTL_WRITE (R72). -/
  | veneerCtlWrite (who : Requester) (t : Nat) (v : W64)
  /-- VENEER_FLUSH_DONE (R73). -/
  | veneerFlushDone (t : Nat)
  /-- VENEER_LINE_FILL (R74). -/
  | veneerLineFill (t : Nat) (q : Nat) (h : Nat) (ok : Bool)
  /-- ECC_CORRECTION_WRITE (R51). -/
  | eccCorrectionWrite (f : StoreFault)
  /-- MITRE_DONE (R76). -/
  | mitreDone (t : Nat)
  /-- TILE_SCRUB_DONE (R84). -/
  | tileScrubDone (t : Nat) (verified : Bool)
  /-- SCRATCHPAD_APERTURE_ACCESS (R89). -/
  | scratchpadApertureAccess (who : Requester) (t : Nat) (off : Nat) (write : Option W64)
  /-- NUM_CTL_WRITE (R207). -/
  | numCtlWrite (who : Requester) (t : Nat) (v : W64)
  /-- SEQ_DBG_RESUME (R126). -/
  | seqDbgResume (who : Requester) (t : Nat)
  /-- ILLEGAL_INSTRUCTION (R114). -/
  | illegalInstruction (t : Nat) (th : Nat) (w : W64)
  /-- NOP (R116). -/
  | nop (t : Nat) (th : Nat) (f : BitVec 56)
  /-- BR (R116). -/
  | br (t : Nat) (th : Nat) (f : BitVec 56)
  /-- JR (R116). -/
  | jr (t : Nat) (th : Nat) (f : BitVec 56)
  /-- CALL (R112). -/
  | call (t : Nat) (th : Nat) (f : BitVec 56)
  /-- RET (R112). -/
  | ret (t : Nat) (th : Nat) (f : BitVec 56)
  /-- LOOP (R111). -/
  | loop (t : Nat) (th : Nat) (f : BitVec 56)
  /-- LOOPI (R111). -/
  | loopi (t : Nat) (th : Nat) (f : BitVec 56)
  /-- TSTART (R116). -/
  | tstart (t : Nat) (th : Nat) (f : BitVec 56)
  /-- END (R116). -/
  | endThread (t : Nat) (th : Nat) (f : BitVec 56)
  /-- FENCE (R116). -/
  | fence (t : Nat) (th : Nat) (f : BitVec 56)
  /-- LEND (R111). -/
  | lend (t : Nat) (th : Nat) (f : BitVec 56)
  /-- ADD (R116). -/
  | add (t : Nat) (th : Nat) (f : BitVec 56)
  /-- SUB (R116). -/
  | sub (t : Nat) (th : Nat) (f : BitVec 56)
  /-- MUL (R116). -/
  | mul (t : Nat) (th : Nat) (f : BitVec 56)
  /-- MULHS (R116). -/
  | mulhs (t : Nat) (th : Nat) (f : BitVec 56)
  /-- MULHU (R116). -/
  | mulhu (t : Nat) (th : Nat) (f : BitVec 56)
  /-- AND (R116). -/
  | andI (t : Nat) (th : Nat) (f : BitVec 56)
  /-- OR (R116). -/
  | orI (t : Nat) (th : Nat) (f : BitVec 56)
  /-- XOR (R116). -/
  | xorI (t : Nat) (th : Nat) (f : BitVec 56)
  /-- SHL (R116). -/
  | shl (t : Nat) (th : Nat) (f : BitVec 56)
  /-- SHR (R116). -/
  | shr (t : Nat) (th : Nat) (f : BitVec 56)
  /-- SRA (R116). -/
  | sra (t : Nat) (th : Nat) (f : BitVec 56)
  /-- MIN (R116). -/
  | minI (t : Nat) (th : Nat) (f : BitVec 56)
  /-- MAX (R116). -/
  | maxI (t : Nat) (th : Nat) (f : BitVec 56)
  /-- SLT (R116). -/
  | slt (t : Nat) (th : Nat) (f : BitVec 56)
  /-- SLTU (R116). -/
  | sltu (t : Nat) (th : Nat) (f : BitVec 56)
  /-- MOVI (R116). -/
  | movi (t : Nat) (th : Nat) (f : BitVec 56)
  /-- AADD (R116). -/
  | aadd (t : Nat) (th : Nat) (f : BitVec 56)
  /-- AMOV (R116). -/
  | amov (t : Nat) (th : Nat) (f : BitVec 56)
  /-- AGET (R116). -/
  | aget (t : Nat) (th : Nat) (f : BitVec 56)
  /-- LCGET (R116). -/
  | lcget (t : Nat) (th : Nat) (f : BitVec 56)
  /-- LDW (R118). -/
  | ldw (t : Nat) (th : Nat) (f : BitVec 56)
  /-- STW (R118). -/
  | stw (t : Nat) (th : Nat) (f : BitVec 56)
  /-- CSRR (R119). -/
  | csrr (t : Nat) (th : Nat) (f : BitVec 56)
  /-- CSRW (R119). -/
  | csrw (t : Nat) (th : Nat) (f : BitVec 56)
  /-- BCNT (R116). -/
  | bcnt (t : Nat) (th : Nat) (f : BitVec 56)
  /-- JCTL (R116). -/
  | jctl (t : Nat) (th : Nat) (f : BitVec 56)
  /-- JFILL (R116). -/
  | jfill (t : Nat) (th : Nat) (f : BitVec 56)
  /-- JBASE (R116). -/
  | jbase (t : Nat) (th : Nat) (f : BitVec 56)
  /-- JDIM (R116). -/
  | jdim (t : Nat) (th : Nat) (f : BitVec 56)
  /-- JDAX (R116). -/
  | jdax (t : Nat) (th : Nat) (f : BitVec 56)
  /-- JAXIS (R116). -/
  | jaxis (t : Nat) (th : Nat) (f : BitVec 56)
  /-- JEN (R117). -/
  | jen (t : Nat) (th : Nat) (f : BitVec 56)
  /-- JDIS (R116). -/
  | jdis (t : Nat) (th : Nat) (f : BitVec 56)
  /-- JWAIT (R107). -/
  | jwait (t : Nat) (th : Nat) (f : BitVec 56)
  /-- MITRE (R76). -/
  | mitre (t : Nat) (th : Nat) (f : BitVec 56)
  /-- MMA (R137). -/
  | mma (t : Nat) (th : Nat) (f : BitVec 56)
  /-- MLATCH (R142). -/
  | mlatch (t : Nat) (th : Nat) (f : BitVec 56)
  /-- OCFG (R153). -/
  | ocfg (t : Nat) (th : Nat) (f : BitVec 56)
  /-- OVEC (R153). -/
  | ovec (t : Nat) (th : Nat) (f : BitVec 56)
  /-- OCLAMP (R153). -/
  | oclamp (t : Nat) (th : Nat) (f : BitVec 56)
  /-- ODRAIN (R147). -/
  | odrain (t : Nat) (th : Nat) (f : BitVec 56)
  /-- VOP (R178). -/
  | vop (t : Nat) (th : Nat) (f : BitVec 56)
  /-- VRED (R182). -/
  | vred (t : Nat) (th : Nat) (f : BitVec 56)
  /-- QUANT (R183). -/
  | quant (t : Nat) (th : Nat) (f : BitVec 56)
  /-- RKEY (R196). -/
  | rkey (t : Nat) (th : Nat) (f : BitVec 56)
  /-- RCTR (R196). -/
  | rctr (t : Nat) (th : Nat) (f : BitVec 56)
  /-- RAND (R201). -/
  | rand (t : Nat) (th : Nat) (f : BitVec 56)
  /-- SAMPLE (R204). -/
  | sample (t : Nat) (th : Nat) (f : BitVec 56)
  /-- BSIG (R120). -/
  | bsig (t : Nat) (th : Nat) (f : BitVec 56)
  /-- BCAS (R120). -/
  | bcas (t : Nat) (th : Nat) (f : BitVec 56)
  /-- BWAIT (R121). -/
  | bwait (t : Nat) (th : Nat) (f : BitVec 56)
  /-- BREAD (R120). -/
  | bread (t : Nat) (th : Nat) (f : BitVec 56)
  /-- RPUSH (R120). -/
  | rpush (t : Nat) (th : Nat) (f : BitVec 56)
  /-- XARM (R220). -/
  | xarm (t : Nat) (th : Nat) (f : BitVec 56)
  /-- XWAIT (R223). -/
  | xwait (t : Nat) (th : Nat) (f : BitVec 56)
  /-- MWAIT (R122). -/
  | mwait (t : Nat) (th : Nat) (f : BitVec 56)
  /-- PREF (R123). -/
  | pref (t : Nat) (th : Nat) (f : BitVec 56)
  /-- STAG (R124). -/
  | stag (t : Nat) (th : Nat) (f : BitVec 56)
  /-- TRAP (R116). -/
  | trapI (t : Nat) (th : Nat) (f : BitVec 56)
  /-- BRK (R126). -/
  | brk (t : Nat) (th : Nat) (f : BitVec 56)
  /-- IC_LINE_FILL (R105). -/
  | icLineFill (t : Nat) (th : Nat)
  /-- SEQ_CLOCK_GATE (R108). -/
  | seqClockGate (t : Nat)
  /-- THREAD_WAKE (R109). -/
  | threadWake (t : Nat) (th : Nat)
  /-- TILE_DONE_SIGNAL (R100). -/
  | tileDoneSignal (t : Nat)
  /-- BUOY_REFUSAL_ARRIVAL (R278). -/
  | buoyRefusalArrival (t : Nat)
  /-- NUM_TABLE_UPDATE (R189). -/
  | numTableUpdate (t : Nat)
  /-- XCH_RECORD_WRITE (R214). -/
  | xchRecordWrite (who : Requester) (slot : Nat) (n : Nat) (word : Bool) (v : W64)
  /-- LAUNCH_VOTE (R229). -/
  | launchVote (slot : Nat)
  /-- PHASE_LAUNCH (R231). -/
  | phaseLaunch (slot : Nat)
  /-- PHASE_END (R210). -/
  | phaseEnd (slot : Nat)
  /-- KERF_END (R235). -/
  | kerfEnd (slot : Nat)
  /-- XCH_SEND_WORD (R221). -/
  | xchSendWord (t : Nat) (desc : Nat) (n : Nat)
  /-- XCH_RECV_WORD (R221): tile, stream of the word. -/
  | xchRecvWord (t : Nat) (a : W16)
  /-- NODE_WORD_COMBINE (R236): node, stream of the word. -/
  | nodeWordCombine (node : NodeId) (a : W16)
  /-- BUOY_ADD (R275). -/
  | buoyAdd (src : Source) (b : Nat) (x : W32)
  /-- BUOY_SET (R275). -/
  | buoySet (src : Source) (b : Nat) (x : W32)
  /-- BUOY_CAS (R275). -/
  | buoyCas (src : Source) (b : Nat) (cmp : W32) (x : W32)
  /-- BUOY_READ (R275). -/
  | buoyRead (src : Source) (b : Nat)
  /-- BUOY_WAIT_REQUEST (R280). -/
  | buoyWaitRequest (w : Waiter) (b : Nat)
  /-- WATCH_REGISTRATION (R282). -/
  | watchRegistration (who : Requester) (b : Nat) (w : Watch)
  /-- WATCH_TIMEOUT (R283). -/
  | watchTimeout (b : Nat) (n : Nat)
  /-- WATCH_CANCEL (R283). -/
  | watchCancel (b : Nat) (target : Byte) (cookie : W32)
  /-- GATE_SUBSCRIBE (R284). -/
  | gateSubscribe (s : Nat) (b : Nat)
  /-- BUOY_OWNER_RESET (R285). -/
  | buoyOwnerReset (b : Nat)
  /-- BUOY_PREEMPT (R286). -/
  | buoyPreempt (b : Nat)
  /-- BUOY_OP_ADD (R278). -/
  | buoyOpAdd (who : Requester) (b : Nat) (x : W32)
  /-- BUOY_OP_SET (R278). -/
  | buoyOpSet (who : Requester) (b : Nat) (x : W32)
  /-- RING_ENABLE (R295). -/
  | ringEnable (who : Requester) (r : Nat) (v : W64)
  /-- RING_DISABLE (R296). -/
  | ringDisable (who : Requester) (r : Nat)
  /-- RING_STOPPED (R296). -/
  | ringStopped (r : Nat)
  /-- RING_DOORBELL (R297). -/
  | ringDoorbell (who : Requester) (r : Nat) (tail : W32)
  /-- COMPLETION_DOORBELL (R298). -/
  | completionDoorbell (who : Requester) (r : Nat) (head : W32)
  /-- RING_ENTRY_START (R302). -/
  | ringEntryStart (r : Nat) (fetchOk : Bool)
  /-- RING_HEAD_RELEASE (R280). -/
  | ringHeadRelease (r : Nat)
  /-- RING_ENTRY_COMPLETE (R302). -/
  | ringEntryComplete (r : Nat) (writeOk : Bool)
  /-- RING_SIGNAL_ANSWER (R302). -/
  | ringSignalAnswer (r : Nat) (writeOk : Bool)
  /-- RING_STALL_RELEASE (R299). -/
  | ringStallRelease (r : Nat)
  /-- DMA_LOAD (R305). -/
  | dmaLoad (r : Nat)
  /-- DMA_STORE (R305). -/
  | dmaStore (r : Nat)
  /-- DMA_COPY (R305). -/
  | dmaCopy (r : Nat)
  /-- DMA_MITRE (R305). -/
  | dmaMitre (r : Nat)
  /-- DMA_SYNC (R305). -/
  | dmaSync (r : Nat)
  /-- ARBITER_GRANT (R333). -/
  | arbiterGrant (s : Nat) (q : Nat) (reqs : List ArbRequest)
  /-- HBM_ACCESS_COMPLETE (R336). -/
  | hbmAccessComplete (s : Nat) (a : HbmAccess)
  /-- REFRESH (R319). -/
  | refresh (s : Nat) (q : Nat)
  /-- HBM_SCRUB_DONE (R320). -/
  | hbmScrubDone (s : Nat)
  /-- ARB_CTL_WRITE (R333). -/
  | arbCtlWrite (who : Requester) (s : Nat) (v : W64)
  /-- PC_RETIRE (R338). -/
  | pcRetire (who : Requester) (s : Nat) (q : Nat)
  /-- PC_RETURN (R338). -/
  | pcReturn (who : Requester) (s : Nat) (q : Nat)
  /-- PC_SPARING_COPY_DONE (R338). -/
  | pcSparingCopyDone (s : Nat) (q : Nat)
  /-- PC_RETURN_DONE (R338). -/
  | pcReturnDone (s : Nat) (q : Nat) (ok : Bool)
  /-- GRAD (R326). -/
  | grad (r : Nat)
  /-- DISCARD (R328). -/
  | discard (r : Nat)
  /-- REDO (R377). -/
  | redo (r : Nat)
  /-- SET_RULE (R325). -/
  | setRule (r : Nat)
  /-- SET_SHARD (R325). -/
  | setShard (r : Nat)
  /-- GATE_MESSAGE (R327). -/
  | gateMessage (s : Nat) (b : Nat) (status : Byte) (value : W32)
  /-- PLANE_UPDATE_PASS_END (R328). -/
  | planeUpdatePassEnd (s : Nat) (e : Nat) (ok : Bool)
  /-- PLANE_ZEROING_DONE (R328). -/
  | planeZeroingDone (s : Nat) (e : Nat)
  /-- STEP_DECISION1 (R385). -/
  | stepDecision1 (slot : Nat)
  /-- STEP_SETTLE (R383). -/
  | stepSettle (slot : Nat)
  /-- STEP_DECISION2 (R385). -/
  | stepDecision2 (slot : Nat)
  /-- STEP_ROLLBACK (R387). -/
  | stepRollback (slot : Nat)
  /-- VOTE_TIMEOUT (R384). -/
  | voteTimeout (slot : Nat)
  /-- SETTLE_TIMEOUT (R384). -/
  | settleTimeout (slot : Nat)
  /-- STEER_ENTRY_CHECK (R395). -/
  | steerEntryCheck (slot : Nat)
  /-- STEER_PUSH (R398). -/
  | steerPush (who : Requester) (slot : Nat)
  /-- RESHARD_STEP_END (R361). -/
  | reshardStepEnd (slot : Nat) (agree : Bool)
  /-- JICEN_PORT_ENABLE (R408). -/
  | jicenPortEnable (who : Requester) (j : Nat) (v : W64)
  /-- JICEN_PORT_DISABLE (R408). -/
  | jicenPortDisable (who : Requester) (j : Nat)
  /-- JICEN_TRAINING_DONE (R408). -/
  | jicenTrainingDone (j : Nat)
  /-- JICEN_TRAINING_TIMEOUT (R408). -/
  | jicenTrainingTimeout (j : Nat)
  /-- NEIGHBOUR_IDENTITY (R405). -/
  | neighbourIdentity (j : Nat) (n : Neighbour)
  /-- PORT_ADMIT (R428). -/
  | portAdmit (j : Nat) (markCount : W64)
  /-- PORT_ADMISSION_MARK (R428). -/
  | portAdmissionMark (j : Nat)
  /-- JC_CMD_RETRAIN (R408). -/
  | jcCmdRetrain (who : Requester) (j : Nat)
  /-- JC_CMD_SWAP (R427). -/
  | jcCmdSwap (who : Requester) (j : Nat) (lane : Nat)
  /-- JICEN_SLOT (R407). -/
  | jicenSlot (j : Nat)
  /-- COMPILED_FRAME (R418). -/
  | compiledFrame (j : Nat) (a : CompiledArrival)
  /-- PUT (R412). -/
  | put (j : Nat) (x : Frame)
  /-- PUT_ACK (R425). -/
  | putAck (j : Nat) (x : Frame)
  /-- GET (R412). -/
  | get (j : Nat) (x : Frame)
  /-- GET_DATA (R425). -/
  | getData (j : Nat) (x : Frame)
  /-- BUOY_MESSAGE (R412). -/
  | buoyMessage (j : Nat) (x : Frame)
  /-- BUOY_RSP (R425). -/
  | buoyRsp (j : Nat) (x : Frame)
  /-- VOTE (R423). -/
  | vote (j : Nat) (v : VoteBlock)
  /-- LANE_SWAP (R427). -/
  | laneSwap (j : Nat) (lane : Nat) (spare : Nat) (markCount : W64)
  /-- LANE_SWITCH (R427). -/
  | laneSwitch (j : Nat) (lane : Nat)
  /-- LANE_DUPLICATION_END (R427). -/
  | laneDuplicationEnd (j : Nat) (lane : Nat)
  /-- LANE_FAULT (R427). -/
  | laneFault (j : Nat) (lane : Nat) (symbols : W32) (lost : Bool)
  /-- ACK_BLOCK (R416). -/
  | ackBlock (j : Nat) (a : AckBlock)
  /-- TIME (R413). -/
  | time (j : Nat) (w : TimeWord)
  /-- CAL_REQ (R254). -/
  | calReq (j : Nat) (tag : Byte)
  /-- CAL_RSP (R254). -/
  | calRsp (j : Nat) (c : CalRsp)
  /-- RESERVED_CONTROL_BLOCK (R413). -/
  | reservedControlBlock (j : Nat) (ty : Byte) (crcOk : Bool)
  /-- REPLAY_TIMEOUT (R416). -/
  | replayTimeout (j : Nat)
  /-- JICEN_ENTRY_PUT (R425). -/
  | jicenEntryPut (r : Nat)
  /-- JICEN_ENTRY_GET (R425). -/
  | jicenEntryGet (r : Nat)
  /-- JICEN_ENTRY_BUOY (R425). -/
  | jicenEntryBuoy (r : Nat)
  /-- RWAIT_POLL (R426). -/
  | rwaitPoll (j : Nat) (n : Nat)
  /-- RWAIT_TIMEOUT (R426). -/
  | rwaitTimeout (j : Nat) (n : Nat)
  /-- FEED_DATA (R433). -/
  | feedData (e : Nat) (x : FeedDatagram)
  /-- FEED_ACK (R435). -/
  | feedAck (e : Nat) (x : FeedAck)
  /-- NON_FEED_FRAME (R429). -/
  | nonFeedFrame (e : Nat) (x : EtherFrame)
  /-- PFC_PAUSE_FRAME (R429). -/
  | pfcPauseFrame (e : Nat) (xoff : Bool)
  /-- FEED_XON (R429). -/
  | feedXon (e : Nat)
  /-- FEED_ACK_TIMER (R434). -/
  | feedAckTimer (e : Nat) (k : Nat)
  /-- FEED_RTO_EXPIRY (R435). -/
  | feedRtoExpiry (e : Nat) (k : Nat) (seq : W64)
  /-- FEED_IDLE_TIMEOUT (R433). -/
  | feedIdleTimeout (e : Nat) (k : Nat)
  /-- FEED_RECV (R432). -/
  | feedRecv (r : Nat)
  /-- FEED_SEND (R435). -/
  | feedSend (r : Nat)
  /-- ETHERNET_LINK_DOWN (R440). -/
  | ethernetLinkDown (e : Nat)
  /-- ETHERNET_LINK_UP (R440). -/
  | ethernetLinkUp (e : Nat)
  /-- KEY_LOAD (R446). -/
  | keyLoad (die : Nat)
  /-- KEY_CLEAR (R451). -/
  | keyClear (die : Nat)
  /-- DOMAIN (R446). -/
  | domain (die : Nat)
  /-- LOCK (R467). -/
  | lock (die : Nat)
  /-- UNLOCK (R481). -/
  | unlock (die : Nat)
  /-- MEASURE_REQ (R448). -/
  | measureReq (die : Nat)
  /-- MEASURE_RSP (R448). -/
  | measureRsp (die : Nat)
  /-- ZEROISE_MESSAGE (R536). -/
  | zeroiseMessage (die : Nat)
  /-- KEEPER_BUS_ACK (R447). -/
  | keeperBusAck (die : Nat) (nak : Bool)
  /-- DEBUG_GATE (R469). -/
  | debugGate (die : Nat)
  /-- KEEPER_BUS_TIMEOUT (R447). -/
  | keeperBusTimeout (die : Nat)
  /-- PERIODIC_MEASURE (R448). -/
  | periodicMeasure
  /-- MB_GO (R463). -/
  | mbGo (who : Requester) (ch : Nat)
  /-- MB_ACK (R463). -/
  | mbAck (who : Requester) (ch : Nat)
  /-- GET_STATUS (R464). -/
  | getStatus
  /-- GET_IDENTITY (R464). -/
  | getIdentity
  /-- GET_MEASUREMENTS (R465). -/
  | getMeasurements
  /-- ATTEST (R477). -/
  | attest
  /-- DELIVER_JOB_KEY (R480). -/
  | deliverJobKey (tagOk : Bool)
  /-- SEALING_CONFIRM (R480). -/
  | sealingConfirm (slot : Nat)
  /-- LOAD_FEED_EPOCH (R484). -/
  | loadFeedEpoch
  /-- SEAL_EXPORT (R490). -/
  | sealExport
  /-- TEARDOWN (R491). -/
  | teardown
  /-- TEARDOWN_SCRUB_DONE (R491). -/
  | teardownScrubDone (slot : Nat)
  /-- KEM_KEY_EXPIRY (R474). -/
  | kemKeyExpiry (slot : Nat)
  /-- OPEN_DOMAIN (R451). -/
  | openDomain
  /-- SCRUB_PARTITION (R464). -/
  | scrubPartition
  /-- FLASH_WRITE (R464). -/
  | flashWrite
  /-- FLASH_COMMIT (R464). -/
  | flashCommit (v : SignatureCheck)
  /-- ADVANCE_SVN (R464). -/
  | advanceSvn
  /-- GALLERY_RESTART (R464). -/
  | galleryRestart (v : SignatureCheck)
  /-- DEBUG_ENABLE (R469). -/
  | debugEnable
  /-- DEBUG_DISABLE (R469). -/
  | debugDisable
  /-- ZEROISE (R464). -/
  | zeroise
  /-- HI_MCMD_GO (R499). -/
  | hiMcmdGo (who : Requester)
  /-- HI_MCMD_ACK (R499). -/
  | hiMcmdAck (who : Requester)
  /-- HOST_NOP (R504). -/
  | hostNop (via : Channel)
  /-- MOD_QUERY (R504). -/
  | modQuery (via : Channel)
  /-- MOD_HALT (R505). -/
  | modHalt (via : Channel)
  /-- MOD_RESUME (R505). -/
  | modResume (via : Channel)
  /-- MOD_STANDBY (R562). -/
  | modStandby (via : Channel)
  /-- MOD_WAKE (R562). -/
  | modWake (via : Channel)
  /-- PART_CREATE (R506). -/
  | partCreate (via : Channel)
  /-- PART_DELETE (R506). -/
  | partDelete (via : Channel)
  /-- PART_POWER (R561). -/
  | partPower (via : Channel)
  /-- PLAN_LOAD (R508). -/
  | planLoad (via : Channel)
  /-- PROG_LOAD (R509). -/
  | progLoad (via : Channel)
  /-- CTX_NEW (R510). -/
  | ctxNew (via : Channel)
  /-- JOB_START (R511); `stream` is what the import flow delivers (R367). -/
  | jobStart (via : Channel) (stream : List Byte)
  /-- JOB_STOP (R512). -/
  | jobStop (via : Channel)
  /-- RESHARD (R360). -/
  | reshard (via : Channel)
  /-- EXPORT (R365); `countsOk` that the counts summed over the job agree with the tensor sizes (R366). -/
  | exportCheckpoint (via : Channel) (countsOk : Bool)
  /-- CTX_SAVE (R514). -/
  | ctxSave (via : Channel)
  /-- CTX_SAVE_WRITTEN (R514). -/
  | ctxSaveWritten (slot : Nat)
  /-- CTX_RESTORE (R515); `stream` is what the ingress flow delivers, deciphered where the slot is sealed, `tagsOk` that every unit's tag held (R488). -/
  | ctxRestore (via : Channel) (tagsOk : Bool) (stream : List Byte)
  /-- CTX_RESET (R513). -/
  | ctxReset (via : Channel)
  /-- CTX_DISCARD (R513). -/
  | ctxDiscard (via : Channel)
  /-- BUOY_ALLOC (R516). -/
  | buoyAlloc (via : Channel)
  /-- BUOY_RELEASE (R516). -/
  | buoyRelease (via : Channel)
  /-- BUOY_WATCH (R516). -/
  | buoyWatch (via : Channel)
  /-- BUOY_WATCH_CANCEL (R516). -/
  | buoyWatchCancel (via : Channel)
  /-- CSR_READ (R517). -/
  | csrRead (via : Channel)
  /-- CSR_WRITE (R517). -/
  | csrWrite (via : Channel)
  /-- TELEM_READ (R517). -/
  | telemRead (via : Channel)
  /-- LAMP_TEST (R546). -/
  | lampTest (via : Channel)
  /-- LAMP_TEST_END (R547). -/
  | lampTestEnd (o : LampOutcome)
  /-- REGISTER_WRITE (R7, R495, R496). -/
  | registerWrite (who : Requester) (space : Space) (addr : W40) (wide : Bool) (v : W64)
  /-- ERR_FE_VALID_WRITE (R552). -/
  | errFeValidWrite (who : Requester) (v : W64)
  /-- HANDLING_DEADLINE (R539). -/
  | handlingDeadline (slot : Nat)
  /-- MODULE_FATAL_DEADLINE (R539). -/
  | moduleFatalDeadline
  /-- ZEROISE_START_TIMEOUT (R536). -/
  | zeroiseStartTimeout
  /-- ZEROISE_ROUND_DONE (R536). -/
  | zeroiseRoundDone
  /-- PARTITION_FAULT_REACHED (R535). -/
  | partitionFaultReached (slot : Nat)
  /-- PCIE_LINK_UP (R527). -/
  | pcieLinkUp
  /-- TRANSIT_FRAME (R414). -/
  | transitFrame (j : Nat) (x : Frame)
  /-- UNIT_INSTRUCTION_DONE (R102). -/
  | unitInstructionDone (t : Nat) (u : TileUnit)
  /-- DOE_REQUEST (R493). -/
  | doeRequest (q : DoeRequest)
  /-- PARTITION_POWER_DOWN_DONE (R561). -/
  | partitionPowerDownDone (slot : Nat)
  /-- MOD_STANDBY_DONE (R562). -/
  | modStandbyDone
  deriving DecidableEq, Repr

end Sys2Proof
end

