-- ==== Sys2Proof/Decode.lean ====
section
/-! DEFINITION. Reading words.  The command table gives its rows no bits, so no table word spells a command.  The tile instructions do have an encoding of their own (R113, R116): the word that a command of that family stands for, and the command that a word at a thread's PC is. -/

namespace Sys2Proof

/-- The rows of the command table give no bits: no word spells a command. -/
def decodeTableWord (_nbits _w : Nat) : Option Instr := none

/-- The command that thread `th` of tile `t` issues for the 64-bit instruction word `w`: its opcode in bits [63:56], its fields below (R113, R116); a reserved opcode is an illegal instruction (R114). -/
def decodeTile (t th : Nat) (w : W64) : Instr :=
  let f : BitVec 56 := w.truncate 56
  match (w >>> 56).toNat with
  | 0x00 => .nop t th f
  | 0x01 => .br t th f
  | 0x02 => .jr t th f
  | 0x03 => .call t th f
  | 0x04 => .ret t th f
  | 0x05 => .loop t th f
  | 0x06 => .loopi t th f
  | 0x07 => .tstart t th f
  | 0x08 => .endThread t th f
  | 0x09 => .fence t th f
  | 0x0a => .lend t th f
  | 0x10 => .add t th f
  | 0x11 => .sub t th f
  | 0x12 => .mul t th f
  | 0x13 => .mulhs t th f
  | 0x14 => .mulhu t th f
  | 0x15 => .andI t th f
  | 0x16 => .orI t th f
  | 0x17 => .xorI t th f
  | 0x18 => .shl t th f
  | 0x19 => .shr t th f
  | 0x1a => .sra t th f
  | 0x1b => .minI t th f
  | 0x1c => .maxI t th f
  | 0x1d => .slt t th f
  | 0x1e => .sltu t th f
  | 0x1f => .movi t th f
  | 0x20 => .aadd t th f
  | 0x21 => .amov t th f
  | 0x22 => .aget t th f
  | 0x23 => .lcget t th f
  | 0x24 => .ldw t th f
  | 0x25 => .stw t th f
  | 0x26 => .csrr t th f
  | 0x27 => .csrw t th f
  | 0x28 => .bcnt t th f
  | 0x30 => .jctl t th f
  | 0x31 => .jfill t th f
  | 0x32 => .jbase t th f
  | 0x33 => .jdim t th f
  | 0x34 => .jdax t th f
  | 0x35 => .jaxis t th f
  | 0x36 => .jen t th f
  | 0x37 => .jdis t th f
  | 0x38 => .jwait t th f
  | 0x39 => .mitre t th f
  | 0x40 => .mma t th f
  | 0x41 => .mlatch t th f
  | 0x48 => .ocfg t th f
  | 0x49 => .ovec t th f
  | 0x4a => .oclamp t th f
  | 0x4b => .odrain t th f
  | 0x50 => .vop t th f
  | 0x51 => .vred t th f
  | 0x58 => .quant t th f
  | 0x60 => .rkey t th f
  | 0x61 => .rctr t th f
  | 0x62 => .rand t th f
  | 0x63 => .sample t th f
  | 0x68 => .bsig t th f
  | 0x69 => .bcas t th f
  | 0x6a => .bwait t th f
  | 0x6b => .bread t th f
  | 0x70 => .rpush t th f
  | 0x78 => .xarm t th f
  | 0x79 => .xwait t th f
  | 0x7a => .mwait t th f
  | 0x80 => .pref t th f
  | 0x88 => .stag t th f
  | 0xf0 => .trapI t th f
  | 0xf1 => .brk t th f
  | _ => .illegalInstruction t th w

/-- The opcode of a tile instruction (R116). -/
def tileOpcode : Instr → Option Nat
  | .nop _ _ _ => some 0x00
  | .br _ _ _ => some 0x01
  | .jr _ _ _ => some 0x02
  | .call _ _ _ => some 0x03
  | .ret _ _ _ => some 0x04
  | .loop _ _ _ => some 0x05
  | .loopi _ _ _ => some 0x06
  | .tstart _ _ _ => some 0x07
  | .endThread _ _ _ => some 0x08
  | .fence _ _ _ => some 0x09
  | .lend _ _ _ => some 0x0a
  | .add _ _ _ => some 0x10
  | .sub _ _ _ => some 0x11
  | .mul _ _ _ => some 0x12
  | .mulhs _ _ _ => some 0x13
  | .mulhu _ _ _ => some 0x14
  | .andI _ _ _ => some 0x15
  | .orI _ _ _ => some 0x16
  | .xorI _ _ _ => some 0x17
  | .shl _ _ _ => some 0x18
  | .shr _ _ _ => some 0x19
  | .sra _ _ _ => some 0x1a
  | .minI _ _ _ => some 0x1b
  | .maxI _ _ _ => some 0x1c
  | .slt _ _ _ => some 0x1d
  | .sltu _ _ _ => some 0x1e
  | .movi _ _ _ => some 0x1f
  | .aadd _ _ _ => some 0x20
  | .amov _ _ _ => some 0x21
  | .aget _ _ _ => some 0x22
  | .lcget _ _ _ => some 0x23
  | .ldw _ _ _ => some 0x24
  | .stw _ _ _ => some 0x25
  | .csrr _ _ _ => some 0x26
  | .csrw _ _ _ => some 0x27
  | .bcnt _ _ _ => some 0x28
  | .jctl _ _ _ => some 0x30
  | .jfill _ _ _ => some 0x31
  | .jbase _ _ _ => some 0x32
  | .jdim _ _ _ => some 0x33
  | .jdax _ _ _ => some 0x34
  | .jaxis _ _ _ => some 0x35
  | .jen _ _ _ => some 0x36
  | .jdis _ _ _ => some 0x37
  | .jwait _ _ _ => some 0x38
  | .mitre _ _ _ => some 0x39
  | .mma _ _ _ => some 0x40
  | .mlatch _ _ _ => some 0x41
  | .ocfg _ _ _ => some 0x48
  | .ovec _ _ _ => some 0x49
  | .oclamp _ _ _ => some 0x4a
  | .odrain _ _ _ => some 0x4b
  | .vop _ _ _ => some 0x50
  | .vred _ _ _ => some 0x51
  | .quant _ _ _ => some 0x58
  | .rkey _ _ _ => some 0x60
  | .rctr _ _ _ => some 0x61
  | .rand _ _ _ => some 0x62
  | .sample _ _ _ => some 0x63
  | .bsig _ _ _ => some 0x68
  | .bcas _ _ _ => some 0x69
  | .bwait _ _ _ => some 0x6a
  | .bread _ _ _ => some 0x6b
  | .rpush _ _ _ => some 0x70
  | .xarm _ _ _ => some 0x78
  | .xwait _ _ _ => some 0x79
  | .mwait _ _ _ => some 0x7a
  | .pref _ _ _ => some 0x80
  | .stag _ _ _ => some 0x88
  | .trapI _ _ _ => some 0xf0
  | .brk _ _ _ => some 0xf1
  | _ => none

/-- The low 56 bits of a tile instruction. -/
def tileFields : Instr → BitVec 56
  | .nop _ _ f => f
  | .br _ _ f => f
  | .jr _ _ f => f
  | .call _ _ f => f
  | .ret _ _ f => f
  | .loop _ _ f => f
  | .loopi _ _ f => f
  | .tstart _ _ f => f
  | .endThread _ _ f => f
  | .fence _ _ f => f
  | .lend _ _ f => f
  | .add _ _ f => f
  | .sub _ _ f => f
  | .mul _ _ f => f
  | .mulhs _ _ f => f
  | .mulhu _ _ f => f
  | .andI _ _ f => f
  | .orI _ _ f => f
  | .xorI _ _ f => f
  | .shl _ _ f => f
  | .shr _ _ f => f
  | .sra _ _ f => f
  | .minI _ _ f => f
  | .maxI _ _ f => f
  | .slt _ _ f => f
  | .sltu _ _ f => f
  | .movi _ _ f => f
  | .aadd _ _ f => f
  | .amov _ _ f => f
  | .aget _ _ f => f
  | .lcget _ _ f => f
  | .ldw _ _ f => f
  | .stw _ _ f => f
  | .csrr _ _ f => f
  | .csrw _ _ f => f
  | .bcnt _ _ f => f
  | .jctl _ _ f => f
  | .jfill _ _ f => f
  | .jbase _ _ f => f
  | .jdim _ _ f => f
  | .jdax _ _ f => f
  | .jaxis _ _ f => f
  | .jen _ _ f => f
  | .jdis _ _ f => f
  | .jwait _ _ f => f
  | .mitre _ _ f => f
  | .mma _ _ f => f
  | .mlatch _ _ f => f
  | .ocfg _ _ f => f
  | .ovec _ _ f => f
  | .oclamp _ _ f => f
  | .odrain _ _ f => f
  | .vop _ _ f => f
  | .vred _ _ f => f
  | .quant _ _ f => f
  | .rkey _ _ f => f
  | .rctr _ _ f => f
  | .rand _ _ f => f
  | .sample _ _ f => f
  | .bsig _ _ f => f
  | .bcas _ _ f => f
  | .bwait _ _ f => f
  | .bread _ _ f => f
  | .rpush _ _ f => f
  | .xarm _ _ f => f
  | .xwait _ _ f => f
  | .mwait _ _ f => f
  | .pref _ _ f => f
  | .stag _ _ f => f
  | .trapI _ _ f => f
  | .brk _ _ f => f
  | _ => 0

/-- The word of an instruction: opcode and fields (R113). -/
def tileWord (op : Nat) (f : BitVec 56) : W64 := BitVec.ofNat 64 (op * 2 ^ 56 + f.toNat)

/-- The word of a tile instruction (R113, R116). -/
def encodeTile (i : Instr) : Option W64 := (tileOpcode i).map (fun op => tileWord op (tileFields i))

end Sys2Proof
end

