-- ==== Sys2Proof/Machine/Bits.lean ====
section
/-! DEFINITION. Bit fields, sign extension and byte order (R5: bit 0 is the least significant, bytes are little-endian). -/

namespace Sys2Proof

/-- Bits [lo + len − 1 : lo] of a word, as a number. -/
def bf {n : Nat} (w : BitVec n) (lo len : Nat) : Nat := (w.extractLsb' lo len).toNat

/-- Bit `i` of a word. -/
def bit {n : Nat} (w : BitVec n) (i : Nat) : Bool := w.getLsbD i

/-- A word of `n` bits whose bits [lo + len − 1 : lo] are 1. -/
def fieldMask (n lo len : Nat) : BitVec n := BitVec.ofNat n (2 ^ len - 1) <<< lo

/-- Writes `v` into bits [lo + len − 1 : lo]; the other bits keep their values. -/
def setBf {n : Nat} (w : BitVec n) (lo len v : Nat) : BitVec n :=
  (w &&& ~~~(fieldMask n lo len)) ||| (BitVec.ofNat n (v % 2 ^ len) <<< lo)

/-- Writes one bit. -/
def setBit {n : Nat} (w : BitVec n) (i : Nat) (b : Bool) : BitVec n := setBf w i 1 (if b then 1 else 0)

/-- The bits of `new` under the mask, and of `old` elsewhere. -/
def merge {n : Nat} (mask old new : BitVec n) : BitVec n := (old &&& ~~~mask) ||| (new &&& mask)

/-- A number read as a signed value of `n` bits. -/
def sext (n v : Nat) : Int := (BitVec.ofNat n v).toInt

/-- The low `n` bytes of a number, lowest first (R5). -/
def bytesOf : Nat → Nat → List Byte
  | 0, _ => []
  | n + 1, v => BitVec.ofNat 8 v :: bytesOf n (v / 256)

/-- The bytes of a word, lowest first (R5). -/
def bytesIn (n : Nat) (w : BitVec (8 * n)) : List Byte := bytesOf n w.toNat

/-- The number that a byte string spells, lowest byte first (R5). -/
def natOf : List Byte → Nat
  | [] => 0
  | b :: r => b.toNat + 256 * natOf r

/-- The number in `n` bytes of a byte string from offset `o`. -/
def num (b : List Byte) (o n : Nat) : Nat := natOf ((b.drop o).take n)

/-- Every byte from offset `o` on, `n` of them, is zero. -/
def zeros (b : List Byte) (o n : Nat) : Bool := ((b.drop o).take n).all (fun x => decide (x = 0))

/-- Ceiling division. -/
def ceilDiv (a b : Nat) : Nat := (a + b - 1) / b

/-- Rounds up to a multiple. -/
def roundUp (a b : Nat) : Nat := ceilDiv a b * b

/-- A counter of R88: it saturates at all ones. -/
def satAdd (w : W64) (n : Nat) : W64 :=
  if w.toNat + n < 2 ^ 64 then BitVec.ofNat 64 (w.toNat + n) else BitVec.allOnes 64

/-- Replaces the element at an index; other indices keep theirs. -/
def setNth {α : Type} : List α → Nat → α → List α
  | [], _, _ => []
  | _ :: r, 0, v => v :: r
  | x :: r, n + 1, v => x :: setNth r n v

/-- Ascending numbers below `n`. -/
def upto (n : Nat) : List Nat := List.range n

end Sys2Proof
end

