-- ==== Sys2Proof/Machine/Crypto.lean ====
section
/-! DEFINITION. The functions that the spec takes from other standards and that fix a value here: CRC-32 of IEEE 802.3 (R413, R446), SHA-256 (FIPS 180-4; R130, R450), HMAC and HKDF on it (RFC 2104, RFC 5869; R450), AES-128 (FIPS 197; R197). -/

namespace Sys2Proof

/-! ## CRC-32 -/

/-- Eight steps of the reflected CRC-32. -/
def crcBits : Nat → W32 → W32
  | 0, c => c
  | n + 1, c => crcBits n (if c.getLsbD 0 then (c >>> 1) ^^^ 0xEDB8_8320 else c >>> 1)
/-- The CRC-32 of IEEE 802.3 over a byte string. -/
def crc32 (b : List Byte) : W32 :=
  ~~~(b.foldl (fun c x => crcBits 8 (c ^^^ (x.zeroExtend 32))) (BitVec.allOnes 32))

/-! ## SHA-256 -/

namespace Sha

/-- Word `i` of a register of 32-bit words, the first in the lowest bits. -/
def word {n : Nat} (v : BitVec n) (i : Nat) : W32 := v.extractLsb' (32 * i) 32
/-- The register that holds a list of words. -/
def register (n : Nat) (l : List W32) : BitVec n := BitVec.ofNat n (natOf (l.flatMap (fun w => bytesOf 4 w.toNat)))

/-- The whole part of the `e`-th root of `x`, from its low `n` bits, above the bits `r` that stand already. -/
def root (e x : Nat) : Nat → Nat → Nat
  | 0, r => r
  | n + 1, r => root e x n (if (r + 2 ^ n) ^ e ≤ x then r + 2 ^ n else r)
/-- The first 64 primes: what below 312 no smaller one of those up to 17 divides. -/
def primes : List Nat := (upto 312).filter (fun p => decide (2 ≤ p) && [2, 3, 5, 7, 11, 13, 17].all (fun d => decide (p = d ∨ p % d ≠ 0)))
/-- The first 32 bits of the fractional part of the `e`-th root of a prime (FIPS 180-4 4.2.2, 5.3.3). -/
def fraction (e p : Nat) : W32 := BitVec.ofNat 32 (root e (p * 2 ^ (32 * e)) 37 0)

/-- The exclusive or of three rotations to the right. -/
def turns (x : W32) (a b c : Nat) : W32 := x.rotateRight a ^^^ x.rotateRight b ^^^ x.rotateRight c
/-- The exclusive or of two rotations and a shift to the right. -/
def slides (x : W32) (a b c : Nat) : W32 := x.rotateRight a ^^^ x.rotateRight b ^^^ (x >>> c)

/-- One round with its constant: the eight working variables move up one word in their register, and the window of 16 schedule words moves down one (FIPS 180-4 6.2.2). -/
def turn (x : BitVec 256 × BitVec 512) (k : W32) : BitVec 256 × BitVec 512 :=
  let v := word x.1
  let w := word x.2
  let pick := v 6 ^^^ (v 4 &&& (v 5 ^^^ v 6))
  let most := (v 0 &&& v 1) ||| (v 2 &&& (v 0 ||| v 1))
  let t := v 7 + turns (v 4) 6 11 25 + pick + k + w 0
  let up := setBf (x.1 <<< 32) 0 32 (t + turns (v 0) 2 13 22 + most).toNat
  (setBf up 128 32 (v 3 + t).toNat, setBf (x.2 >>> 32) 480 32 (w 0 + slides (w 1) 7 18 3 + w 9 + slides (w 14) 17 19 10).toNat)

/-- Takes the 64 bytes of one block into the hash value. -/
def absorb (h : BitVec 256) (b : List Byte) : BitVec 256 :=
  let window : BitVec 512 := BitVec.ofNat 512 (natOf ((upto 16).flatMap (fun i => ((b.drop (4 * i)).take 4).reverse)))
  let v := ((primes.map (fraction 3)).foldl turn (h, window)).1
  register 256 ((upto 8).map (fun i => word h i + word v i))

/-- Takes `n` blocks. -/
def absorbAll : Nat → BitVec 256 → List Byte → BitVec 256
  | 0, h, _ => h
  | n + 1, h, b => absorbAll n (absorb h (b.take 64)) (b.drop 64)

end Sha

/-- SHA-256 of a byte string. -/
def sha256 (b : List Byte) : List Byte :=
  let filled := b ++ 0x80 :: List.replicate ((119 - b.length % 64) % 64) 0 ++ (bytesOf 8 (8 * b.length)).reverse
  let h := Sha.absorbAll (filled.length / 64) (Sha.register 256 ((Sha.primes.take 8).map (Sha.fraction 2))) filled
  (upto 8).flatMap (fun i => (bytesOf 4 (Sha.word h i).toNat).reverse)

/-- HMAC-SHA-256 (RFC 2104). -/
def hmac (key msg : List Byte) : List Byte :=
  let k0 := (if 64 < key.length then sha256 key else key)
  let k := k0 ++ List.replicate (64 - k0.length) 0
  sha256 (k.map (· ^^^ 0x5C) ++ sha256 (k.map (· ^^^ 0x36) ++ msg))

/-- HKDF-Expand (RFC 5869): block number `i` onward. -/
def hkdfBlocks (prk info : List Byte) : Nat → Nat → List Byte → List Byte
  | 0, _, _ => []
  | n + 1, i, prev =>
    let t := hmac prk (prev ++ info ++ [BitVec.ofNat 8 i])
    t ++ hkdfBlocks prk info n (i + 1) t
def hkdfExpand (prk info : List Byte) (len : Nat) : List Byte := (hkdfBlocks prk info (ceilDiv len 32) 1 []).take len
/-- HKDF-Extract. -/
def hkdfExtract (salt ikm : List Byte) : List Byte := hmac salt ikm

/-- The bytes of an ASCII string. -/
def ascii (s : String) : List Byte := s.toList.map (fun c => BitVec.ofNat 8 c.toNat)

/-! ## AES-128 -/

namespace Aes

/-- Multiplication by x in GF(2^8). -/
def xtime (a : Byte) : Byte := if a.getLsbD 7 then (a <<< 1) ^^^ 0x1B else a <<< 1
/-- Multiplication in GF(2^8), `n` bits of `b` from the low end. -/
def gmul : Nat → Byte → Byte → Byte
  | 0, _, _ => 0
  | n + 1, a, b => (if b.getLsbD 0 then a else 0) ^^^ gmul n (xtime a) (b >>> 1)
def mul (a b : Byte) : Byte := gmul 8 a b
/-- a^254, the inverse (0 for 0). -/
def inv (a : Byte) : Byte :=
  let a2 := mul a a
  let a3 := mul a2 a
  let a6 := mul a3 a3
  let a12 := mul a6 a6
  let a15 := mul a12 a3
  let a30 := mul a15 a15
  let a60 := mul a30 a30
  let a120 := mul a60 a60
  let a126 := mul a120 a6
  let a127 := mul a126 a
  mul a127 a127
/-- The S-box: the inverse and the affine map of FIPS 197. -/
def sbox (a : Byte) : Byte :=
  let b := inv a
  b ^^^ b.rotateLeft 1 ^^^ b.rotateLeft 2 ^^^ b.rotateLeft 3 ^^^ b.rotateLeft 4 ^^^ 0x63

/-- The next round key from a 16-byte round key. -/
def nextKey (k : List Byte) (rcon : Byte) : List Byte :=
  let g := fun i => k.getD i 0
  let w0 := [g 0 ^^^ sbox (g 13) ^^^ rcon, g 1 ^^^ sbox (g 14), g 2 ^^^ sbox (g 15), g 3 ^^^ sbox (g 12)]
  let w1 := List.zipWith (· ^^^ ·) w0 [g 4, g 5, g 6, g 7]
  let w2 := List.zipWith (· ^^^ ·) w1 [g 8, g 9, g 10, g 11]
  let w3 := List.zipWith (· ^^^ ·) w2 [g 12, g 13, g 14, g 15]
  w0 ++ w1 ++ w2 ++ w3

/-- SubBytes and ShiftRows, column order. -/
def subShift (s : List Byte) : List Byte :=
  (upto 16).map (fun i => sbox (s.getD ((i + 4 * (i % 4)) % 16) 0))
/-- MixColumns on one column. -/
def mixColumn (c : List Byte) : List Byte :=
  (upto 4).map (fun i => xtime (c.getD i 0) ^^^ (xtime (c.getD ((i + 1) % 4) 0) ^^^ c.getD ((i + 1) % 4) 0) ^^^
    c.getD ((i + 2) % 4) 0 ^^^ c.getD ((i + 3) % 4) 0)
def mixColumns (s : List Byte) : List Byte := (upto 4).flatMap (fun c => mixColumn ((s.drop (4 * c)).take 4))
def addKey (s k : List Byte) : List Byte := List.zipWith (· ^^^ ·) s k

/-- The rounds after the first key addition; the last has no MixColumns. -/
def rounds : Nat → List Byte → List Byte → Byte → List Byte
  | 0, s, _, _ => s
  | 1, s, k, rc => addKey (subShift s) (nextKey k rc)
  | n + 2, s, k, rc =>
    let k' := nextKey k rc
    rounds (n + 1) (addKey (mixColumns (subShift s)) k') k' (xtime rc)

end Aes

/-- AES-128 of a 16-byte block. -/
def aes128 (key block : List Byte) : List Byte := Aes.rounds 10 (Aes.addKey block key) key 1

end Sys2Proof
end

