-- ==== Sys2Proof/Config.lean ====
section
/-! DEFINITION. What the spec leaves open: free values, as constants without a body.  Nothing can be proved of them, so a statement that mentions one holds for every value (log entry 3). -/

namespace Sys2Proof.Config

/-- A fresh free value of `w` bits, for the next number of the model's own counter (`Mod.free`). -/
opaque fresh : (w : Nat) → Nat → BitVec w

/-- A drawn secret or key: the DRBG output number `n` (R444), `len` bytes. -/
opaque drbg : (len n : Nat) → BitVec (8 * len)

/-- The device seed that the PUF reconstructs (R444, R449), as the hash of its attestation public key (R465). -/
opaque devicePkHash : BitVec 256

/-- SHA-256 of the Keeper ROM (R465 M_KEEPER). -/
opaque keeperRomHash : BitVec 256

/-- SLH-DSA signature under key `key` of a message, `len` bytes (R457, R477, R490). -/
opaque sign : (len key : Nat) → List Byte → BitVec (8 * len)

/-- The public or encapsulation key of the pair drawn as number `n`, `len` bytes (R449, R477). -/
opaque publicKey : (len n : Nat) → BitVec (8 * len)

/-- The job key that ML-KEM decapsulation and AES-GCM unwrap from a delivery under KEM key `n` (R479), 32 bytes. -/
opaque unwrap : (n : Nat) → List Byte → BitVec 256

/-- The GCM encryption of bytes under a key and nonce (R410, R487, R489), with tag. -/
opaque encipher : (key nonce plain : List Byte) → BitVec (8 * (plain.length + 16))

/-- The AES-256-GCM tag of authenticated data with an empty plaintext, under a key and a nonce (R413). -/
opaque gcmTag : List Byte → List Byte → List Byte → BitVec 128

/-- Which of the values within the bound of R179 a vector function gives, per function code and operand. -/
opaque vfunc : (code : Nat) → W32 → W32

/-- Which of the values within the bound of R180 an activation gives, per activation code and operand. -/
opaque act : (code : Nat) → W32 → W32

/-- Which of the values within the bound of R201 a normally distributed element is: whether it is the odd one of its pair, and the random bits of the even and the odd element. -/
opaque normal : Bool → W32 → W32 → W32

/-- How far the key of a SAMPLE candidate lies from its exact value (R204), in 2^−256, from its score, the temperature and its random bits; the model holds it to the bound. -/
opaque sampleKey : W32 → W32 → Nat → Int

/-- An element of the rotation of a last block of fewer than 32 elements (R183), from the block and the element's place. -/
opaque shortRotation : List W32 → Nat → W32

/-- The contents that an accumulator cell holds after a stopped pass (R99), per tile, cell and counter. -/
opaque stoppedCell : Nat → Nat → Nat → W32

/-- The contents of a byte of a quarter that leaves veneer mode (R73), per tile, byte address and counter. -/
opaque leftByte : Nat → Nat → Nat → Byte

/-- An element that tile code has updated, as an export carries it (R364, R372): the place of the code's own slots is the code's, per counter, tensor, KIND and logical index. -/
opaque tileWeight : (n id kind i : Nat) → W32

/-- The moments that tile update code keeps for a tensor (R364): whether they are BF16, and whether there is a second one. -/
opaque tileRule : (id : Nat) → Bool × Bool

/-- An element of a persistent tensor that another module held before a RESHARD and that the reshard step brings here (R361), per counter, tensor, kind and logical index. -/
opaque movedElem : (n id kind i : Nat) → W32

/-- The overflow or vanish share of a layer and role whose TOTAL is 0, which R393 does not state: per layer, role, and 0 for overflow or 1 for vanish. -/
opaque emptyShare : (layer role k : Nat) → W32

/-- DETAIL of an error record whose diagnostic values the spec does not lay out (R541): per error number. -/
opaque errDetail : Nat → BitVec 128

/-- The FRU data (R578), 2 KiB of the IPMI format, which the spec names and does not give. -/
opaque fru : Nat → Byte

end Sys2Proof.Config
end

