-- ==== Sys2Proof/Machine/Map.lean ====
section
/-! DEFINITION. Module space (R33): the address of every register by name, and for every register word the access kind of its bits and its reset value (R7, R9, R10).  A bit in none of a word's masks is read only or reserved. -/

namespace Sys2Proof.Machine

/-- The access kinds of the bits of a register word (R7) and its reset value. -/
structure RegSpec where
  reset : W64 := 0
  rw : W64 := 0
  rws : W64 := 0
  rwl : W64 := 0
  w1c : W64 := 0
  wo : W64 := 0
  kg : W64 := 0
  deriving DecidableEq, Repr

/-- A read-only word. -/
def roSpec (reset : W64) : RegSpec := { reset := reset }
/-- A counter (R88): live in all its bits. -/
def cntSpec : RegSpec := { rw := BitVec.allOnes 64 }

/-! ## Windows and named addresses -/

/-- Base of the window of logical tile `t` (R33). -/
def tileBase (t : Nat) : Nat := 0x1000_0000 + t * 0x10_0000
/-- A register of tile `t` by its offset (R87). -/
def tileReg (t off : Nat) : Nat := tileBase t + off
def physBase (p : Nat) : Nat := 0x1_0000_0000 + p * 0x10_0000
def partReg (s off : Nat) : Nat := 0x20_0000 + s * 0x1_0000 + off
def bcnReg (off : Nat) : Nat := 0x10_0000 + off
def buoyReg (b off : Nat) : Nat := 0x40_0000 + 64 * b + off
def errReg (off : Nat) : Nat := 0x80_0000 + off
def ringReg (r off : Nat) : Nat := 0x100_0000 + 64 * r + off
def stackReg (s off : Nat) : Nat := 0x2_0000_0000 + s * 0x100_0000 + off
def portReg (j off : Nat) : Nat := 0x3_0000_0000 + j * 0x100_0000 + off
/-- A register of the block that every Jicen port window shows at 0x80_0000 (R436). -/
def jcReg (off : Nat) : Nat := portReg 0 (0x80_0000 + off)
def feedReg (e off : Nat) : Nat := 0x3_1000_0000 + e * 0x10_0000 + off
def flowReg (e k off : Nat) : Nat := feedReg e (0x1_0000 + 64 * k + off)
def hostReg (off : Nat) : Nat := 0x3_2000_0000 + off
def galReg (off : Nat) : Nat := 0x4_0000_0000 + off
def mbReg (ch off : Nat) : Nat := 0x5_0000_0000 + ch * 0x1_0000 + off
def kprReg (off : Nat) : Nat := 0x5_0002_0000 + off
def pwrReg (off : Nat) : Nat := 0x6_0000_0000 + off

-- 01: module global (R36)
def MOD_STATE : Nat := 0x10
def MOD_DIES : Nat := 0x18
def MOD_PART_MAP : Nat := 0x20
-- 02: tile (R87 to R89)
def TILE_CTL (t : Nat) : Nat := tileReg t 0x8
def TILE_STATUS (t : Nat) : Nat := tileReg t 0x10
def TILE_SEC (t : Nat) : Nat := tileReg t 0x18
def VENEER_CTL (t : Nat) : Nat := tileReg t 0x20
def VENEER_STATUS (t : Nat) : Nat := tileReg t 0x28
def SP_WIN_BASE (t : Nat) : Nat := tileReg t 0x30
def CNT_QCONFLICT (t : Nat) : Nat := tileReg t 0x100
def CNT_OOB_DROP (t : Nat) : Nat := tileReg t 0x108
def CNT_BURST_COLL (t : Nat) : Nat := tileReg t 0x110
def CNT_ECC_CORR (t : Nat) : Nat := tileReg t 0x120
def CNT_VEN_HIT (t : Nat) : Nat := tileReg t 0x128
def CNT_VEN_MISS (t : Nat) : Nat := tileReg t 0x130
def CNT_VEN_WB (t : Nat) : Nat := tileReg t 0x138
def DOWEL0 (t d : Nat) : Nat := tileReg t (0x1000 + 16 * d)
def DOWEL1 (t d : Nat) : Nat := tileReg t (0x1008 + 16 * d)
def jigReg (t j off : Nat) : Nat := tileReg t (0x2000 + 0x100 * j + off)
def JIG_CTL (t j : Nat) : Nat := jigReg t j 0
def JIG_FILL (t j : Nat) : Nat := jigReg t j 8
def JIG_BASE (t j : Nat) : Nat := jigReg t j 0x10
def JIG_STATUS (t j : Nat) : Nat := jigReg t j 0x18
def DIM_A (t j n : Nat) : Nat := jigReg t j (0x20 + 0x10 * n)
def DIM_B (t j n : Nat) : Nat := jigReg t j (0x28 + 0x10 * n)
def AXIS (t j g : Nat) : Nat := jigReg t j (0x80 + 8 * g)
def MITRE_STATUS (t : Nat) : Nat := tileReg t 0x2600
-- 03: sequencer (R132)
def SEQ_PROG (t : Nat) : Nat := tileReg t 0x1_0000
def SEQ_ENTRY01 (t : Nat) : Nat := tileReg t 0x1_0008
def SEQ_ENTRY23 (t : Nat) : Nat := tileReg t 0x1_0010
def SEQ_RESTART (t : Nat) : Nat := tileReg t 0x1_0018
def SEQ_STATUS (t : Nat) : Nat := tileReg t 0x1_0020
def SEQ_TRAP (t : Nat) : Nat := tileReg t 0x1_0028
def CNT_ISSUE (t : Nat) : Nat := tileReg t 0x1_0100
def CNT_IC_MISS (t : Nat) : Nat := tileReg t 0x1_0108
def CNT_IC_PARITY (t : Nat) : Nat := tileReg t 0x1_0110
def CNT_PREF_DROP (t : Nat) : Nat := tileReg t 0x1_0128
-- 04: array (R160)
def ARR_STATUS (t : Nat) : Nat := tileReg t 0x2_0000
def OUT_CFG (t : Nat) : Nat := tileReg t 0x2_0008
def OUT_VEC (t w : Nat) : Nat := tileReg t (0x2_0010 + 8 * w)
def OUT_CLAMP (t : Nat) : Nat := tileReg t 0x2_0028
def CNT_ENTRY (t : Nat) : Nat := tileReg t 0x2_0100
def CNT_PROD (t : Nat) : Nat := tileReg t 0x2_0108
def CNT_PROD_GATED (t : Nat) : Nat := tileReg t 0x2_0110
def CNT_ACC_SAT (t : Nat) : Nat := tileReg t 0x2_0118
def CNT_LATCH (t : Nat) : Nat := tileReg t 0x2_0120
def CNT_DRAIN (t : Nat) : Nat := tileReg t 0x2_0130
-- 05: numeric (R206)
def NUM_CTL (t : Nat) : Nat := tileReg t 0x3_0000
def NUM_STATUS (t : Nat) : Nat := tileReg t 0x3_0008
def SHADOW_CTL (t : Nat) : Nat := tileReg t 0x3_0010
def SHADOW_LAST (t : Nat) : Nat := tileReg t 0x3_0018
def CNT_CONV (t : Nat) : Nat := tileReg t 0x3_0100
def CNT_OVF (t : Nat) : Nat := tileReg t 0x3_0108
def CNT_VAN (t : Nat) : Nat := tileReg t 0x3_0110
def CNT_NONFIN (t : Nat) : Nat := tileReg t 0x3_0118
def CNT_TAG_OUT (t : Nat) : Nat := tileReg t 0x3_0120
def CNT_SHADOW_CAP (t : Nat) : Nat := tileReg t 0x3_0128
def CNT_SHADOW_CMP (t : Nat) : Nat := tileReg t 0x3_0130
def CNT_SHADOW_SKIP (t : Nat) : Nat := tileReg t 0x3_0138
def CNT_SHADOW_ORPHAN (t : Nat) : Nat := tileReg t 0x3_0140
def CNT_SAMPLE_NONE (t : Nat) : Nat := tileReg t 0x3_0148
def genReg (t n off : Nat) : Nat := tileReg t (0x3_1000 + 0x40 * n + off)
def GEN_CTL (t n : Nat) : Nat := genReg t n 0
-- 06: exchange (R244, R245)
def XP_STATUS (t : Nat) : Nat := tileReg t 0x4_0000
def CNT_XSENT (t : Nat) : Nat := tileReg t 0x4_0100
def CNT_XRECV (t : Nat) : Nat := tileReg t 0x4_0108
def CNT_XLATE (t : Nat) : Nat := tileReg t 0x4_0110
def CNT_XCOMB (t : Nat) : Nat := tileReg t 0x4_0118
def CNT_XDRAIN_LATE (t : Nat) : Nat := tileReg t 0x4_0120
def CNT_XFAULT (t : Nat) : Nat := tileReg t 0x4_0128
def XLIST (t e : Nat) : Nat := tileReg t (0x4_1000 + 8 * e)
def XNODE (t n w : Nat) : Nat := tileReg t (0x4_4000 + 32 * n + 8 * w)
def XEDGE (t n w : Nat) : Nat := tileReg t (0x4_5000 + 32 * n + 8 * w)
def XDESC (t d w : Nat) : Nat := tileReg t (0x4_8000 + 16 * d + 8 * w)
def XCH_CTL (s : Nat) : Nat := partReg s 0x8000
def XCH_STATUS (s : Nat) : Nat := partReg s 0x8008
def XCH_LAUNCH (s : Nat) : Nat := partReg s 0x8010
def CNT_SLIP (s : Nat) : Nat := partReg s 0x8018
def CNT_BARRIER_MARKS (s : Nat) : Nat := partReg s 0x8020
def XCH_RECORD (s n w : Nat) : Nat := partReg s (0xC000 + 16 * n + 8 * w)
-- 07: Beacon (R268)
def BCN_COUNT : Nat := bcnReg 0
def BCN_CTL : Nat := bcnReg 8
def BCN_STATUS : Nat := bcnReg 0x10
def BCN_CMD : Nat := bcnReg 0x18
def BCN_PPS_CAPTURE : Nat := bcnReg 0x20
def BCN_PPS_CTL : Nat := bcnReg 0x28
def HALF_CLK (i : Nat) : Nat := bcnReg (0x100 + 8 * i)
def BCN_PORT_DELAY (j : Nat) : Nat := bcnReg (0x200 + 8 * j)
def CNT_STEER : Nat := bcnReg 0x300
def CNT_HOLDOVER : Nat := bcnReg 0x308
def CNT_FREQ_DEFER : Nat := bcnReg 0x310
def CNT_PPS_IN : Nat := bcnReg 0x318
-- 08: rings (R294)
def RING_CTL (r : Nat) : Nat := ringReg r 0
def RING_BASE (r : Nat) : Nat := ringReg r 8
def RING_PTR (r : Nat) : Nat := ringReg r 0x10
def RING_COMPL (r : Nat) : Nat := ringReg r 0x20
def RING_STATUS (r : Nat) : Nat := ringReg r 0x28
def RING_CNT_DONE (r : Nat) : Nat := ringReg r 0x30
def RING_CNT_EVENT (r : Nat) : Nat := ringReg r 0x38
-- 09: HBM (R339)
def HBM_STATUS (s : Nat) : Nat := stackReg s 0
def HBM_SEC (s : Nat) : Nat := stackReg s 8
def ARB_CTL (s : Nat) : Nat := stackReg s 0x10
def PC_RETIRE_THRESH (s : Nat) : Nat := stackReg s 0x20
def PLANE_CTL (s : Nat) : Nat := stackReg s 0x28
def PLANE_STATUS (s : Nat) : Nat := stackReg s 0x30
def PC_STATE (s p : Nat) : Nat := stackReg s (0x100 + 8 * p)
def CNT_HBM_CORR (s : Nat) : Nat := stackReg s 0x200
def CNT_HBM_UNCORR (s : Nat) : Nat := stackReg s 0x208
def CNT_RMW (s : Nat) : Nat := stackReg s 0x210
def CNT_REFRESH_PREEMPT (s : Nat) : Nat := stackReg s 0x218
def CNT_NTH_GRANT (s : Nat) : Nat := stackReg s 0x220
def ARB_MAXWAIT (s : Nat) : Nat := stackReg s 0x228
def CNT_GRAD (s : Nat) : Nat := stackReg s 0x230
def CNT_UPDATE (s : Nat) : Nat := stackReg s 0x238
def CNT_PLANE_WITHHELD (s : Nat) : Nat := stackReg s 0x240
def CNT_SHARD_DEFER (s : Nat) : Nat := stackReg s 0x248
def RULE (s r w : Nat) : Nat := stackReg s (0x1_0000 + 0x40 * r + 8 * w)
def SHARD (s e w : Nat) : Nat := stackReg s (0x2_0000 + 0x40 * e + 8 * w)
def PSTATE (s e : Nat) : Nat := stackReg s (0x3_0000 + 8 * e)
-- 11: step block (R399)
def STEP_NUM (s : Nat) : Nat := partReg s 0x2000
def STEP_STATUS (s : Nat) : Nat := partReg s 0x2008
def STEP_CFG0 (s : Nat) : Nat := partReg s 0x2010
def STEP_CFG1 (s : Nat) : Nat := partReg s 0x2018
def STEP_TIMING (s : Nat) : Nat := partReg s 0x2020
def STEER_BASE (s : Nat) : Nat := partReg s 0x2028
def STEER_INDEX (s : Nat) : Nat := partReg s 0x2030
def STEER_PUSH (s : Nat) : Nat := partReg s 0x2038
def STEP_RESULT (s : Nat) : Nat := partReg s 0x2040
def CNT_STEP_COMMITTED (s : Nat) : Nat := partReg s 0x2048
def CNT_STEP_SKIPPED (s : Nat) : Nat := partReg s 0x2050
def CNT_ROLLBACK (s : Nat) : Nat := partReg s 0x2058
def CNT_WITHHELD (s : Nat) : Nat := partReg s 0x2060
def CNT_STEER_LATE (s : Nat) : Nat := partReg s 0x2068
def CNT_REDO (s : Nat) : Nat := partReg s 0x2070
def STEER_VIEW_G (s : Nat) : Nat := partReg s 0x2100
def STEER_STAGE (s w : Nat) : Nat := partReg s (0x2800 + 8 * w)
def STEER_VIEW (s w : Nat) : Nat := partReg s (0x3000 + 8 * w)
-- 12: Jicen and Feed (R436, R437)
def JC_CTL (j : Nat) : Nat := portReg j 0
def JC_STATUS (j : Nat) : Nat := portReg j 8
def JC_LAT (j : Nat) : Nat := portReg j 0x10
def JC_ADMIT (j : Nat) : Nat := portReg j 0x18
def JC_LANE_THRESH (j : Nat) : Nat := portReg j 0x28
def JC_CNT (j n : Nat) : Nat := portReg j (0x100 + 8 * n)
def JC_LANE (j l : Nat) : Nat := portReg j (0x1000 + 8 * l)
def JC_NODES (j n w : Nat) : Nat := portReg j (0x1_0000 + 32 * n + 8 * w)
def JC_TOPO : Nat := jcReg 0
def JC_MODULE_ID : Nat := jcReg 8
def JC_HOP_MAX : Nat := jcReg 0x10
def JC_RWAIT_TIMEOUT : Nat := jcReg 0x18
def VGROUP (s g w : Nat) : Nat := jcReg (0x1000 + 0x400 * s + 16 * g + 8 * w)
def JC_KEYSLOT (i : Nat) : Nat := jcReg (0x4000 + 16 * i)
def FD_CTL (e : Nat) : Nat := feedReg e 0
def FD_STATUS (e : Nat) : Nat := feedReg e 8
def FD_PFC (e : Nat) : Nat := feedReg e 0x30
def FD_CNT (e n : Nat) : Nat := feedReg e (0x100 + 8 * n)
-- 13: Keeper (R461, R470, R471)
def MB_STATUS (ch : Nat) : Nat := mbReg ch 8
def MB_CTL (ch : Nat) : Nat := mbReg ch 0x10
def CNT_MB_REFUSED (ch : Nat) : Nat := mbReg ch 0x18
def MB_REQ (ch w : Nat) : Nat := mbReg ch (0x1000 + 8 * w)
def MB_RSP (ch w : Nat) : Nat := mbReg ch (0x8000 + 8 * w)
def KPR_STATUS : Nat := kprReg 0
def KPR_SVN0 : Nat := kprReg 8
def KPR_SVN1 : Nat := kprReg 0x10
def CNT_BUS_RESEND : Nat := kprReg 0x18
def GAL_STATUS : Nat := galReg 0
def GAL_IMAGE : Nat := galReg 8
-- 15: host interface and partitions (R522, R523)
def HI_STATUS : Nat := hostReg 0
def HI_MCMD_STATUS : Nat := hostReg 8
def HI_MCMD_CTL : Nat := hostReg 0x18
def HI_APER (n : Nat) : Nat := hostReg (0x20 + 8 * n)
def HI_REFUSAL : Nat := hostReg 0x40
def HI_ERR_VEC : Nat := hostReg 0x48
def CNT_CMD_DONE : Nat := hostReg 0x100
def CNT_CMD_REFUSED : Nat := hostReg 0x108
def CNT_BAR_REFUSED : Nat := hostReg 0x110
def CNT_PCIE_ERR : Nat := hostReg 0x118
def HI_MCMD_REQ (w : Nat) : Nat := hostReg (0x1000 + 8 * w)
def HI_MCMD_RSP (w : Nat) : Nat := hostReg (0x1040 + 8 * w)
def PART_STATUS (s : Nat) : Nat := partReg s 0
def PART_PLAN_HASH (s k : Nat) : Nat := partReg s (8 + 8 * k)
def PART_JOB (s : Nat) : Nat := partReg s 0x28
-- 16: errors (R551)
def ERR_STATUS : Nat := errReg 0
def ERR_CTL : Nat := errReg 8
def ERR_RING_TAIL : Nat := errReg 0x10
def ERR_RING_HEAD : Nat := errReg 0x18
def ERR_DL_STEP : Nat := errReg 0x20
def ERR_DL_PART : Nat := errReg 0x28
def ERR_DL_MOD : Nat := errReg 0x30
def ERR_FE_VALID : Nat := errReg 0x38
def CNT_CORR : Nat := errReg 0x100
def CNT_STEP_FATAL : Nat := errReg 0x108
def CNT_PART_FATAL : Nat := errReg 0x110
def CNT_MOD_FATAL : Nat := errReg 0x118
def CNT_ALSO : Nat := errReg 0x120
def CNT_ESCALATED : Nat := errReg 0x128
def CNT_RING_OVF : Nat := errReg 0x130
def TALLY_STATUS (s : Nat) : Nat := errReg (0x2000 + 64 * s)
def CNT_TALLY (s : Nat) : Nat := errReg (0x2008 + 64 * s)
def CNT_TALLY_MISMATCH (s : Nat) : Nat := errReg (0x2010 + 64 * s)
def LAMP_STATUS : Nat := errReg 0x3000
def LAMP_RESULT (d : Nat) : Nat := errReg (0x3100 + 8 * d)
-- 17: power (R580)
def PWR_STATUS : Nat := pwrReg 0
def PWR_CAP : Nat := pwrReg 8
def PWR_IN : Nat := pwrReg 0x10
def PWR_HEADROOM : Nat := pwrReg 0x18
def PWR_FLIMIT (i : Nat) : Nat := pwrReg (0x100 + 8 * i)
def HEADROOM_BUOY (s : Nat) : Nat := pwrReg (0x200 + 8 * s)
def TEMP (n : Nat) : Nat := pwrReg (0x300 + 8 * n)
def CNT_THROTTLE : Nat := pwrReg 0x400
def CNT_OVERPOWER : Nat := pwrReg 0x408
def CNT_THERM : Nat := pwrReg 0x410

/-! ## Register words by window -/

/-- Module global registers (R36). -/
def globalSpec : Nat → Option RegSpec
  | 0x00 => some (roSpec 0x3233_4A43_5657_0100)
  | 0x08 => some (roSpec 0x0000_0620_060B_0A08)
  | 0x10 => some (roSpec 1)
  | 0x18 => some (roSpec 0xC000_0000)
  | 0x20 => some (roSpec 0)
  | _ => none

/-- Beacon registers (R268). -/
def bcnSpec (o : Nat) : Option RegSpec :=
  if o = 0 then some (roSpec 0)
  else if o = 8 then some { reset := 0x6_0770, rwl := 0x1F_0777 }
  else if o = 0x10 then some (roSpec 0x1F70)
  else if o = 0x18 then some { wo := 3 }
  else if o = 0x20 then some (roSpec 0)
  else if o = 0x28 then some { rw := 3 }
  else if 0x100 ≤ o ∧ o < 0x180 then some { reset := 0x7D_008C_007D, rws := 0xFF_00FF }
  else if 0x200 ≤ o ∧ o < 0x230 then some (roSpec 0)
  else if 0x300 ≤ o ∧ o < 0x320 then some cntSpec
  else none

/-- A partition window: status (R523), step block (R399), exchange block (R245). -/
def partSpec (o : Nat) : Option RegSpec :=
  if o ≤ 0x28 then some (roSpec 0)
  else if o < 0x2000 then none
  else if o ≤ 0x2008 then some (roSpec 0)
  else if o = 0x2010 then some { rwl := 0xFFFF_FFFF_FFFF_F3FF }
  else if o = 0x2018 then some { rwl := 0xFFFF_FFFF_FE01_FFFF }
  else if o = 0x2020 then some { reset := 0x4_C4B4, rwl := 0xFFFF_FFFF }
  else if o = 0x2028 then some { rwl := 0x000F_01FF_FFFF_FFFF }
  else if o = 0x2030 ∨ o = 0x2040 ∨ o = 0x2100 then some (roSpec 0)
  else if o = 0x2038 then some { wo := 1 }
  else if 0x2048 ≤ o ∧ o ≤ 0x2070 then some cntSpec
  else if 0x2800 ≤ o ∧ o < 0x3000 then some { wo := BitVec.allOnes 64 }
  else if 0x3000 ≤ o ∧ o < 0x7000 then some (roSpec 0)
  else if o = 0x8000 then some { rws := 0xFFF }
  else if o = 0x8008 ∨ o = 0x8010 then some (roSpec 0)
  else if o = 0x8018 ∨ o = 0x8020 then some cntSpec
  else if 0xC000 ≤ o then
    (if o % 16 = 0 then some { rwl := BitVec.allOnes 64 } else some { rwl := 0x8000_0000_00FF_FFFF })
  else none

/-- A buoy block (R289); the values and states live in the buoy table. -/
def buoySpec (o : Nat) : Option RegSpec :=
  if o = 0x08 then some { kg := 0x100 }
  else if o = 0x10 then some { wo := 0x3_FFFF_FFFF }
  else if o = 0x28 then some { rw := 0x11_FFFF }
  else some (roSpec 0)

/-- The error and event block (R551). -/
def errSpec (o : Nat) : Option RegSpec :=
  if o = 0 ∨ o = 0x10 then some (roSpec 0)
  else if o = 0x08 then some { reset := 7, rw := 0xF }
  else if o = 0x18 then some { rw := 0xFFFF_FFFF }
  else if o = 0x20 then some { reset := 0x100_0000, rws := 0xFFFF_FFFF }
  else if o = 0x28 then some { reset := 0x10_0000, rws := 0xFFFF_FFFF }
  else if o = 0x30 then some (roSpec 0x26_25A0)
  else if o = 0x38 then some { w1c := 0x1FF }
  else if 0x100 ≤ o ∧ o ≤ 0x130 then some cntSpec
  else if 0x1000 ≤ o ∧ o < 0x1240 then some (roSpec 0)
  else if 0x2000 ≤ o ∧ o < 0x2200 then
    (if o % 64 = 0 then some (roSpec 0) else if o % 64 ≤ 0x10 then some cntSpec else none)
  else if o = 0x3000 then some (roSpec 0)
  else if 0x3100 ≤ o ∧ o < 0x3140 then some (roSpec 0)
  else if 0x1_0000 ≤ o ∧ o < 0x2_0000 then some (roSpec 0)
  else none

/-- The kind of a ring, fixed by its number (R293). -/
def ringKind (r : Nat) : Nat :=
  if r < 4096 then 0 else if r < 45056 then 1 else if r < 49152 then 2 else if r < 55296 then 3 else if r < 59392 then 4 else 5

/-- A ring descriptor (R294). -/
def ringSpec (r o : Nat) : Option RegSpec :=
  if o = 0 then some { reset := BitVec.ofNat 64 (ringKind r * 2 ^ 16), rwl := 0xFFFF_FF1F_0F88_0000, rw := 1 }
  else if o = 8 then some { rwl := BitVec.allOnes 64 }
  else if o = 0x10 ∨ o = 0x28 then some (roSpec 0)
  else if o = 0x18 then some { wo := 0xFFFF_FFFF }
  else if o = 0x20 then some { rwl := 0x8000_FFFF_87FF_0000 }
  else some cntSpec

/-- A jig block (R89). -/
def jigSpec (o : Nat) : Option RegSpec :=
  if o = 0 then some { rwl := 0xFFFC_0000, rw := 1 }
  else if o = 0x08 then some { rwl := 0xFFFF_FFFF }
  else if o = 0x10 then some { rwl := 0xFF_FFFF }
  else if o = 0x18 then some (roSpec 0)
  else if o < 0x80 then
    (if o % 16 = 0 then some { rwl := 0x000F_FFFF_0000_FFFF } else some { rwl := 0x7_0000_FFFF })
  else if o < 0xB0 then some { rwl := 0x000F_FFFF_000F_FFFF }
  else none

/-- A tile window (R87): every sub-window but the aperture. -/
def tileSpec (t o : Nat) : Option RegSpec :=
  if o = 0 then some (roSpec (BitVec.ofNat 64 t))
  else if o = 0x08 then some { rw := 1 }
  else if o = 0x10 ∨ o = 0x28 then some (roSpec 0)
  else if o = 0x18 then some { kg := 0x1_FFFF }
  else if o = 0x20 then some { rws := 0xF }
  else if o = 0x30 then some { rw := 0x7FFF }
  else if 0x100 ≤ o ∧ o ≤ 0x138 then some cntSpec
  else if 0x1000 ≤ o ∧ o < 0x2000 then
    (if o % 16 = 0 then some { rwl := 0x7803_FF00_3FFF_1FFF, rw := 0x8000_0000_0000_0000 }
     else some { rwl := 0xFFFF_FFFF })
  else if 0x2000 ≤ o ∧ o < 0x2600 then jigSpec (o % 0x100)
  else if o = 0x2600 then some (roSpec 0)
  else if o = 0x1_0000 then some { rwl := 0x001F_FFFF_0000_F0FF }
  else if o = 0x1_0008 ∨ o = 0x1_0010 then some { rwl := 0x000F_FFFF_000F_FFFF }
  else if o = 0x1_0018 then some { rwl := 0x3FFF_000F_FFFF }
  else if o = 0x1_0020 ∨ o = 0x1_0028 then some (roSpec 0)
  else if o = 0x1_0030 then some { wo := 1 }
  else if 0x1_0100 ≤ o ∧ o ≤ 0x1_0128 then some cntSpec
  else if 0x1_1000 ≤ o ∧ o < 0x1_2000 then some (roSpec 0)
  else if 0x2_0000 ≤ o ∧ o ≤ 0x2_0028 then some (roSpec 0)
  else if 0x2_0100 ≤ o ∧ o ≤ 0x2_0138 then some cntSpec
  else if 0x2_4000 ≤ o ∧ o < 0x2_6000 then some (roSpec 0)
  else if 0x2_8000 ≤ o ∧ o < 0x2_A000 then some (roSpec 0)
  else if o = 0x3_0000 then some { reset := 0xC_0000_0000, rws := 0xFFFF_000F_0FFF_FF01 }
  else if o = 0x3_0008 ∨ o = 0x3_0018 then some (roSpec 0)
  else if o = 0x3_0010 then some { rw := 1 }
  else if 0x3_0100 ≤ o ∧ o ≤ 0x3_0150 then some cntSpec
  else if 0x3_1000 ≤ o ∧ o < 0x3_1100 then
    (if o % 0x40 = 0 then some { rwl := 1 } else if o % 0x40 ≤ 0x20 then some { rwl := BitVec.allOnes 64 } else none)
  else if 0x3_5000 ≤ o ∧ o < 0x3_6000 then some (roSpec 0)
  else if o = 0x4_0000 then some (roSpec 0)
  else if 0x4_0100 ≤ o ∧ o ≤ 0x4_0128 then some cntSpec
  else if 0x4_1000 ≤ o ∧ o < 0x4_3000 then some { rwl := 0x80FF_CFFF_FFFF_FC00 }
  else if 0x4_4000 ≤ o ∧ o < 0x4_6000 then
    (if o % 32 = 0 then some { rwl := 0xFFFC_FFFF_FFFF_FFFF }
     else if o % 32 = 24 then some { rwl := 0xFFFF_0000_0000_0000 }
     else some { rwl := BitVec.allOnes 64 })
  else if 0x4_8000 ≤ o ∧ o < 0x5_0000 then
    (if o % 16 = 0 then some { rwl := BitVec.allOnes 64 } else some { rwl := 0xFFFF_FFFF_F0FF_0001 })
  else none

/-- A stack window (R339). -/
def stackSpec (o : Nat) : Option RegSpec :=
  if o = 0 ∨ o = 0x30 then some (roSpec 0)
  else if o = 0x08 then some { kg := 0x1_FFFF }
  else if o = 0x10 then some { reset := 0x10, rws := 0x7F }
  else if o = 0x18 then some { wo := 0x31F }
  else if o = 0x20 then some { reset := 0x400, rw := 0xFFFF_FFFF }
  else if o = 0x28 then some { rw := 1, rwl := 0x00FF_FFFF_FF00_0000 }
  else if 0x100 ≤ o ∧ o < 0x200 then some (roSpec 0)
  else if 0x200 ≤ o ∧ o ≤ 0x248 then some cntSpec
  else if 0x1_0000 ≤ o ∧ o < 0x1_0200 then some { rws := BitVec.allOnes 64 }
  else if 0x2_0000 ≤ o ∧ o < 0x2_4000 then some { rws := BitVec.allOnes 64 }
  else if 0x3_0000 ≤ o ∧ o < 0x3_0800 then some (roSpec 0)
  else none

/-- A Jicen port window with the shared block (R436). -/
def portSpec (o : Nat) : Option RegSpec :=
  if o = 0 then some { rw := 1, rwl := 0x1E }
  else if o = 0x08 ∨ o = 0x10 ∨ o = 0x18 then some (roSpec 0)
  else if o = 0x20 then some { wo := 0x3F03 }
  else if o = 0x28 then some { reset := 0x1000, rw := 0xFFFF_FFFF }
  else if 0x100 ≤ o ∧ o ≤ 0x158 then some cntSpec
  else if 0x1000 ≤ o ∧ o < 0x1140 then some (roSpec 0)
  else if 0x1_0000 ≤ o ∧ o < 0x1_2000 then
    (if o % 32 = 0 then some { rwl := 0xFFFC_FFFF_FFFF_FFFF }
     else if o % 32 = 24 then some { rwl := 0xFFFF_0000_0000_0000 }
     else some { rwl := BitVec.allOnes 64 })
  else if o = 0x80_0000 then some { reset := 0x11_1000, rwl := 0xFF_FFFF }
  else if o = 0x80_0008 then some (roSpec 0)
  else if o = 0x80_0010 then some { reset := 0x40, rwl := 0xFFF }
  else if o = 0x80_0018 then some { reset := 0x100_0000, rw := BitVec.allOnes 64 }
  else if 0x80_1000 ≤ o ∧ o < 0x80_3000 then
    (if o % 16 = 0 then some { rwl := 0x01_FFFF_FFFF_FFFF } else some (roSpec 0))
  else if 0x80_4000 ≤ o ∧ o < 0x80_4100 then
    (if o % 16 = 0 then some { kg := 0x1F_FFFF } else none)
  else none

/-- A Feed interface window (R437). -/
def feedSpec (o : Nat) : Option RegSpec :=
  if o = 0 then some { reset := 0xCA12_000C, rw := 1, rwl := 0xFFFF_001E }
  else if o = 8 then some (roSpec 0)
  else if o = 0x10 then some { rwl := 0xFFFF_FFFF_FFFF }
  else if o = 0x18 then some { rwl := 0x1_FFFF_FFFF }
  else if o = 0x20 ∨ o = 0x28 then some { rwl := BitVec.allOnes 64 }
  else if o = 0x30 then some { reset := 0x800_0C00, rwl := 0xFFFF_FFFF }
  else if o = 0x38 then some { reset := 0xA, rwl := 0xFFFF }
  else if 0x100 ≤ o ∧ o ≤ 0x140 then some cntSpec
  else if 0x1_0000 ≤ o ∧ o < 0x3_0000 then
    (if o % 64 = 0 then some { rwl := 0xFFFF_FFFF_FFFF_000F, kg := 0x0300 }
     else if o % 64 = 8 ∨ o % 64 = 16 then some { rwl := BitVec.allOnes 64 }
     else if o % 64 = 24 then some { rwl := 0xFFFF_FFFF_FFFF }
     else if o % 64 = 32 then some { rwl := BitVec.allOnes 64 }
     else some (roSpec 0))
  else none

/-- The host interface window (R522). -/
def hostSpec (o : Nat) : Option RegSpec :=
  if o = 0 ∨ o = 8 ∨ o = 0x40 then some (roSpec 0)
  else if o = 0x10 then some { wo := 3 }
  else if o = 0x18 ∨ o = 0x48 then some { rw := 0x1_07FF }
  else if 0x20 ≤ o ∧ o < 0x40 then some { rw := 0xFF_FFC0_0000 }
  else if 0x100 ≤ o ∧ o ≤ 0x118 then some cntSpec
  else if 0x1000 ≤ o ∧ o < 0x1040 then some cntSpec
  else if 0x1040 ≤ o ∧ o < 0x1080 then some (roSpec 0)
  else none

/-- The Gallery window's registers (R471); the memory aperture is not a register. -/
def galSpec (o : Nat) : Option RegSpec :=
  if o ≤ 0x10 then some (roSpec 0) else none

/-- Mailbox channels and Keeper registers (R461, R470).  CNT_BUS_RESEND is read only to every requester, as R470 says of the whole block. -/
def keeperSpec (o : Nat) : Option RegSpec :=
  if o < 0x2_0000 then
    (let c := o % 0x1_0000
     if c = 0 then some { wo := 3 }
     else if c = 8 then some (roSpec 0)
     else if c = 0x10 then some { rw := 0x1_07FF }
     else if c = 0x18 then some cntSpec
     else if 0x1000 ≤ c ∧ c < 0x8000 then some cntSpec
     else if 0x8000 ≤ c then some (roSpec 0)
     else none)
  else if o ≤ 0x2_0018 then some (roSpec 0)
  else none

/-- The power window (R580).  PWR_STATUS.STBY_UP resets to 1.  The map gives offsets 0x400 to 0x410 both to TEMP32 to TEMP34 and to the three counters; the counters stand there (log entry 6). -/
def pwrSpec (o : Nat) : Option RegSpec :=
  if o = 0 then some (roSpec 1)
  else if o = 8 then some { reset := 14500, rw := 0xFFFF }
  else if o = 0x10 ∨ o = 0x18 then some (roSpec 0)
  else if 0x100 ≤ o ∧ o < 0x180 then some (roSpec 140)
  else if 0x200 ≤ o ∧ o < 0x240 then some { rw := 0x1_1FFF }
  else if 0x400 ≤ o ∧ o ≤ 0x410 then some cntSpec
  else if 0x300 ≤ o ∧ o < 0x4D0 then some (roSpec 0)
  else none

/-- The register word at a module-space address, or none where no register stands (R33, R34). -/
def regSpec (a : Nat) : Option RegSpec :=
  if a % 8 ≠ 0 then none
  else if a < 0x10_0000 then globalSpec a
  else if a < 0x20_0000 then bcnSpec (a - 0x10_0000)
  else if a < 0x28_0000 then partSpec (a % 0x1_0000)
  else if a < 0x40_0000 then none
  else if a < 0x48_0000 then buoySpec (a % 64)
  else if a < 0x80_0000 then none
  else if a < 0x100_0000 then errSpec (a - 0x80_0000)
  else if a < 0x140_0000 then ringSpec ((a - 0x100_0000) / 64) (a % 64)
  else if a < 0x1000_0000 then none
  else if a < 0x6000_0000 then tileSpec ((a - 0x1000_0000) / 0x10_0000) (a % 0x10_0000)
  else if a < 0x2_0000_0000 then none
  else if a < 0x2_2000_0000 then stackSpec (a % 0x100_0000)
  else if a < 0x3_0000_0000 then none
  else if a < 0x3_0600_0000 then portSpec (a % 0x100_0000)
  else if a < 0x3_1000_0000 then none
  else if a < 0x3_1020_0000 then feedSpec (a % 0x10_0000)
  else if a < 0x3_2000_0000 then none
  else if a < 0x3_3000_0000 then hostSpec (a - 0x3_2000_0000)
  else if a < 0x4_0000_0000 then none
  else if a < 0x5_0000_0000 then galSpec (a - 0x4_0000_0000)
  else if a < 0x6_0000_0000 then keeperSpec (a - 0x5_0000_0000)
  else if a < 0x7_0000_0000 then pwrSpec (a - 0x6_0000_0000)
  else none

/-- The reset value of the word at an address (R7, R9). -/
def regReset (a : Nat) : W64 := match regSpec a with
  | some s => s.reset
  | none => 0

end Sys2Proof.Machine
end

