-- ==== Sys2Proof/Machine/Sparse.lean ====
section
/-! DEFINITION. Sparse tables: a finite list of (key, value) pairs over a default, in one canonical form (keys strictly rising, no entry equal to its default).  Register words, memory bytes and every indexed unit of the module are held this way, so that equal contents are equal data. -/

namespace Sys2Proof

/-- A list in rising order of a key; members of one key keep their order. -/
def sortBy {α : Type} (key : α → Nat) : List α → List α
  | [] => []
  | x :: r => place x (sortBy key r)
where
  place (x : α) : List α → List α
    | [] => [x]
    | y :: r => if key x ≤ key y then x :: y :: r else y :: place x r

namespace Sparse

/-- The value at key `k`: the listed one, or the default of that key. -/
def get {α : Type} (d : Nat → α) : List (Nat × α) → Nat → α
  | [], k => d k
  | (a, v) :: r, k => if a = k then v else get d r k

/-- Inserts a pair before the first greater key. -/
def insertAt {α : Type} (k : Nat) (v : α) : List (Nat × α) → List (Nat × α)
  | [] => [(k, v)]
  | (a, w) :: r => if k < a then (k, v) :: (a, w) :: r else (a, w) :: insertAt k v r

/-- Drops every entry of key `k`. -/
def erase {α : Type} (k : Nat) : List (Nat × α) → List (Nat × α)
  | [] => []
  | (a, w) :: r => if a = k then erase k r else (a, w) :: erase k r

/-- Writes `v` at key `k`; a value equal to the default is not listed. -/
def put {α : Type} [DecidableEq α] (d : Nat → α) (m : List (Nat × α)) (k : Nat) (v : α) : List (Nat × α) :=
  if v = d k then erase k m else insertAt k v (erase k m)

/-- The canonical form above a lower bound: keys strictly rising, no entry at its default. -/
def wfFrom {α : Type} [DecidableEq α] (d : Nat → α) : Nat → List (Nat × α) → Bool
  | _, [] => true
  | lo, (a, v) :: r => decide (lo ≤ a) && decide (v ≠ d a) && wfFrom d (a + 1) r

/-- The canonical form of a sparse table. -/
def wf {α : Type} [DecidableEq α] (d : Nat → α) (m : List (Nat × α)) : Bool := wfFrom d 0 m

end Sparse

end Sys2Proof
end

