-- ==== Sys2Proof/Machine/State.lean ====
section
/-! DEFINITION. The state of the module, as plain data, and the state after reset.  Register words that the spec's register maps list stand in one sparse table keyed by module-space address (`regs`); what the spec names but maps to no register stands in the typed records below. -/

namespace Sys2Proof.Machine

/-- Why the machine stops with a fault.  There is no reason: the spec gives every command an effect (a detected fault is an error code, recorded and handled in the state), and an event whose conditions a state does not meet changes nothing (log entry 2).  Safe: no run ends in a fault. -/
inductive Fault where
  deriving DecidableEq, Repr

/-- Why the machine has no meaning for a command. -/
inductive Refusal where
  /-- The arm of `exec` for a command that the model does not have yet (safe: the run stops there). -/
  | notModelled (mnemonic : String)
  deriving DecidableEq, Repr

/-! ## The tile (chapters 02 to 06) -/

/-- A loop counter (R95). -/
structure LoopCounter where
  count : W32 := 0
  first : W20 := 0
  last : W20 := 0
  active : Bool := false
  deriving DecidableEq, Repr

/-- The states of a thread (R96). -/
inductive ThState where
  | off | ready | wait | ended | trapped | stopped | debug
  deriving DecidableEq, Repr

/-- The wait record of a thread (R95, R107, R131): what it waits for; `remote` carries the operands of a BCAS; `memory` the tile byte address of a scalar access, with the register that a load writes or the value that a store carries. -/
inductive WaitRec where
  | none
  | buoy (b : Nat) (cond : BitVec 3) (value mask : W32)
  | mark (count : W64)
  | ring (r : Nat)
  | fence (mask : Byte)
  | jig (mask : BitVec 6)
  | exchange (entry : Nat)
  | queue (u : TileUnit)
  | memory (addr : Nat) (load : Option Nat) (v : W32)
  | fetch
  | remote (b : Nat) (dst : Nat) (cas : Option (W32 × W32))
  deriving DecidableEq, Repr

/-- What has been sent to a waiting unit: nothing yet, a release, a release with BROKEN (R285), a refusal (R278), or the value a BCAS or BREAD asked for. -/
inductive Release where
  | none
  | met
  | broken
  | refused
  | reply (v : W32)
  deriving DecidableEq, Repr

/-- A thread of the sequencer (R95).  `held` is the state a BRK took it from (R126); `late` that its next instruction may have to wait some cycles for the last one's result or target, or for its release (R101, R109). -/
structure Thread where
  pc : W20 := 0
  g : List (Nat × W32) := []
  a : List (Nat × W40) := []
  lc : List (Nat × LoopCounter) := []
  stack : List W20 := []
  layer : BitVec 10 := 0
  role : BitVec 2 := 0
  st : ThState := .off
  waitOn : WaitRec := .none
  release : Release := .none
  held : ThState := .off
  late : Bool := false
  deriving DecidableEq, Repr

/-- Counts on their way to the entry of the numeric table that a tag names (R186 to R189, R193): the unit that holds them, the tag, and what each slot of the entry takes. -/
structure TableUpd where
  unit : Nat
  layer : Nat
  role : Nat
  total : Nat := 0
  ovf : Nat := 0
  van : Nat := 0
  nonfin : Nat := 0
  shadowN : Nat := 0
  shadowNonfin : Nat := 0
  dev : Option W32 := none
  deriving DecidableEq, Repr

/-- An instruction in a unit queue (R102): opcode, low 56 bits, issuing thread and PC, its tag (R124), the g values it read, its issue number, whether the unit has started it, whether it is a reference drain (R192), the generator it uses, and what it delivers when it completes: g registers and counts. -/
structure QEntry where
  op : Byte
  f : BitVec 56
  th : Nat
  pc : W20
  layer : BitVec 10
  role : BitVec 2
  args : List W32
  seq : Nat
  started : Bool := false
  reference : Bool := false
  gen : Option Nat := none
  results : List (Nat × W32) := []
  counts : List TableUpd := []
  deriving DecidableEq, Repr

/-- A BSIG whose home has not answered (R278): thread, PC, buoy, whether it sets (or adds), its operand, whether the home has refused it, and whether the tile's enable has stood since (`live`). -/
structure SentOp where
  th : Nat
  pc : W20
  b : Nat
  isSet : Bool
  x : W32
  refused : Bool
  live : Bool := true
  deriving DecidableEq, Repr

/-- The progress of a jig since its enable: next line access (R60) and the position within it that the next word of an output stream takes (R583). -/
structure JigPos where
  line : Nat := 0
  pos : Nat := 0
  deriving DecidableEq, Repr

/-- A line held in a veneer quarter (R71): the HBM line, whether it is dirty, and when it was last used (a use number). -/
structure VLine where
  valid : Bool := false
  line : Nat := 0
  dirty : Bool := false
  used : Nat := 0
  deriving DecidableEq, Repr

/-- A mitre copy in progress (R76): the four words that describe it, and the ring and entry index it belongs to, if a ring issued it. -/
structure Mitre where
  w0 : W32
  w1 : W32
  w2 : W32
  w3 : W32
  ring : Option (Nat × W32)
  deriving DecidableEq, Repr

/-- A stream in progress at an exchange port in the current phase: descriptor index, words sent or received so far. -/
structure Stream where
  desc : Nat
  words : Nat
  deriving DecidableEq, Repr

/-- A word in a buffer of an exchange port (R221): its descriptor, its number in the stream, its content. -/
structure BufWord where
  desc : Nat
  num : Nat
  word : W256
  deriving DecidableEq, Repr

/-- A compiled word on its way (R224 to R228): where its segment ends, the count at which the schedule has it there. -/
structure FabricWord where
  goal : NodeId
  stream : W16
  lane : Nat
  due : Nat
  word : W256
  deriving DecidableEq, Repr

/-- An output lane of a router that a compiled word has at a count (R226): physical tile position of the router, direction (0 and 1 along the row, 2 and 3 along the column, 4 Dovetail, 5 far edge, 6 receive port). -/
structure LaneClaim where
  router : Nat
  out : Nat
  lane : Nat
  at_ : Nat
  deriving DecidableEq, Repr

/-- A partly combined word at a node (R236, R239): node entry index, word number, operand that has come, its arrival. -/
structure NodeOperand where
  entry : Nat
  idx : Nat
  isB : Bool
  bt : Nat
  word : W256
  deriving DecidableEq, Repr

/-- One logical tile: what its registers do not hold.  `xEntry` is the armed entry, `xDone` the entries released since they were last armed; `xRead` the words read into the send buffer `xBuf`, `xIn` the receive buffer, `xOver` the count at which the kerf ended of an entry whose received words are not all written (R221, R223); `xFaults` the (code, stream) pairs already raised in the phase (R239); `nodeQ` the operands waiting at its node (false) and edge node (true); `latch` the A staging latch; `block` the words of the 32 KiB mitre block buffer, row by row, zeros beyond its end; `accs` the accumulator cells (set × 1,024 + row × 32 + column); `dmaLast` the ring, 0 to 31, of the entry that the DMA engine started last (R307; 31 after reset, so that ring 0 is then the first, log entry 97); `lastIssue` the thread that issued last (R101; none has after reset, and thread 0 is then the first, log entry 97); `heldSave` the hold of R514; `powered` false in M2; `scrub` the domain of a scrub in progress; `accepted` that an accepted load last wrote its program (R482). -/
structure Tile where
  threads : List (Nat × Thread) := []
  queues : List (Nat × List QEntry) := []
  icache : List Nat := []
  sent : List SentOp := []
  jigs : List (Nat × JigPos) := []
  accs : List (Nat × W32) := []
  latch : List (Nat × W256) := []
  shadow : List (Nat × W32) := []
  shadowShape : Nat := 0
  tableQ : List TableUpd := []
  veneer : List (Nat × VLine) := []
  veneerUse : Nat := 0
  prefetch : List (Nat × Nat) := []
  mitre : List Mitre := []
  block : List W256 := []
  scrub : Option W16 := none
  issueSeq : Nat := 0
  lastIssue : Nat := 3
  dmaLast : Nat := 31
  doneSent : Bool := false
  doneFlight : Bool := false
  heldSave : Bool := false
  accepted : Bool := false
  xEntry : Option Nat := none
  xDone : List Nat := []
  xSend : List Stream := []
  xRecv : List Stream := []
  xRead : List Stream := []
  xBuf : List BufWord := []
  xIn : List BufWord := []
  xOver : Option Nat := none
  xLateRec : Option Nat := none
  xFaults : List (Nat × Nat) := []
  nodeQ : List (Bool × NodeOperand) := []
  nodeCount : List (Nat × Nat) := []
  deriving DecidableEq, Repr

/-! ## Buoys and rings (chapter 08) -/

/-- The states of a buoy (R274). -/
inductive BuoyState where
  | free | live | broken | saved
  deriving DecidableEq, Repr

/-- An entry of a waiter list (R280). -/
structure WaitEntry where
  who : Waiter
  cond : BitVec 3
  value : W32
  mask : W32
  deriving DecidableEq, Repr

/-- A buoy at its home (R273, R289).  `savedValue` and `savedWaiters` are what a saved context holds of it (R286); `away` says that the threads among those waiters have left their tiles with the context. -/
structure Buoy where
  st : BuoyState := .free
  value : W32 := 0
  owner : W16 := 0
  pub : Bool := false
  lastSrc : W32 := 0
  lastTime : W64 := 0
  waiters : List WaitEntry := []
  watches : List Watch := []
  subs : W32 := 0
  savedValue : W32 := 0
  savedWaiters : List WaitEntry := []
  away : Bool := false
  deriving DecidableEq, Repr

/-- An entry of a ring that its consumer has started (R302): index, its 64 bytes, whether its own work is done, its status, the bytes it moved, its completion detail, whether its SIGNAL has been sent, answered and refused, and whether the entry itself was refused (R303). -/
structure RingEntry where
  index : W32
  image : List Byte
  begun : Bool := false
  done : Bool := false
  status : W16 := 0
  bytes : Nat := 0
  detail : List Byte := []
  signalled : Bool := false
  answered : Bool := false
  refusedSig : Bool := false
  refused : Bool := false
  acks : Nat := 0
  token : W16 := 0
  deriving DecidableEq, Repr

/-- What a ring holds beside its descriptor (R294): its entries in progress, oldest first; the buoy its head waits for and whether it has been released; whether it is stopping (R296); whether it has entered ERROR, which a stall in between does not end (R299, R303). -/
structure Ring where
  prog : List RingEntry := []
  waitOn : Option Nat := none
  headRelease : Release := .none
  stopping : Bool := false
  inError : Bool := false
  deriving DecidableEq, Repr

/-! ## HBM stacks (chapter 09) -/

/-- The arbiter of one pseudo-channel (R333): grants so far, priorities raised above the class, round-robin pointer, the owner of the last grant. -/
structure Arbiter where
  grants : Nat := 0
  prio : List (Nat × Nat) := []
  rr : Nat := 0
  owner : Option Nat := none
  deriving DecidableEq, Repr

/-- A pass of a plane over a shard (R326, R328): the entry it belongs to, if a ring asked for it; for an update pass, whether it is the one REDO of R379; for a zeroing pass, whether the shard goes to IDLE (DISCARD) or to DONE. -/
structure PlaneWork where
  shard : Nat
  ring : Option (Nat × W32) := none
  again : Bool := false
  toIdle : Bool := false
  deriving DecidableEq, Repr

/-- A stack and its plane: what its registers do not hold.  `moved` is the pseudo-channel whose copy has ended and waits for the mark, with the state it takes; `updating` and `zeroing` the plane's passes; `planeLast` the ring, 0 to 127, of the entry that the plane started last (R326; 127 after reset, log entry 97); `bad` the stack lines whose check bytes mark them uncorrectable (R338). -/
structure Stack where
  arbs : List (Nat × Arbiter) := []
  selfRefresh : Bool := false
  moved : Option (Nat × Nat) := none
  copying : Option Nat := none
  scrubbing : Bool := false
  updating : List PlaneWork := []
  zeroing : List PlaneWork := []
  planeLast : Nat := 127
  bad : List Nat := []
  deriving DecidableEq, Repr

/-! ## Partitions, jobs and the step block (chapters 06, 10, 11, 15) -/

/-- A job of a partition (R511, R512): whether its first mark has come, whether it resumes a restored context, a MODE 0 stop asked for and by whom, a save asked for, by whom and with PREEMPT or not. -/
structure Job where
  started : Bool := false
  resume : Bool := false
  stopMode0 : Option Channel := none
  save : Option (Channel × Bool) := none
  deriving DecidableEq, Repr

/-- The loaded layout of a plan (R344, R345, R347): the job table, the tensor entries and the piece records as bytes. -/
structure Layout where
  jobTable : List Byte := []
  tensors : List Byte := []
  pieces : List Byte := []
  deriving DecidableEq, Repr

/-- A vote word held in a combination (R423). -/
structure VoteWord where
  kind : Nat
  phase : Nat
  group : Nat
  origin : Nat
  refr : W32
  count : Nat
  flags : W16
  deriving DecidableEq, Repr

/-- The vote of a step as the step block holds it (R383 to R385). -/
structure StepVote where
  sent : Bool := false
  count : Nat := 0
  flags : W16 := 0
  at_ : W64 := 0
  deriving DecidableEq, Repr

/-- An element that an import or a RESHARD has placed for tile update code, whose own slots R372 leaves to the code: its tensor, its KIND of R364, its logical index and its bits. -/
structure TileElem where
  id : Nat
  kind : Nat
  index : Nat
  bits : W32
  deriving DecidableEq, Repr

/-- What the Lampist in Gallery remembers of a job (R393): the quiet counts of the layers that have one, the steps without a non-finite value in role 2, the steps without a late drain, and the losses of the last 64 committed steps, the newest first. -/
structure Lampist where
  quiet : List (Nat × Nat) := []
  grow : Nat := 0
  kerfQuiet : Nat := 0
  losses : List W32 := []
  deriving DecidableEq, Repr

/-- One partition slot: what its registers do not hold.  `handed` are the elements placed for tile update code, as they stand at the opening of step `handedAt`; `stepLost` says that the last step of the job ended without the commit of its updates, `reshardLost` that an error has abandoned the RESHARD whose command is still to complete.  `words` are the compiled words on their way, by count and lane, `claims` the output lanes that they have or had, `laneFaults` the (router, stream) pairs for which 0x0623 was raised in the phase (R226, R239). -/
structure Part where
  job : Option Job := none
  layout : Layout := {}
  newPlan : List Byte := []
  mask : Byte := 0
  m2 : Bool := false
  powering : Bool := false
  vote1 : StepVote := {}
  vote2 : StepVote := {}
  votes : List VoteWord := []
  launches : List (Nat × StepVote) := []
  stepMark : W64 := 0
  decision1At : W64 := 0
  rollbackDone : Bool := false
  rollbacks : Nat := 0
  slips : Nat := 0
  afterHalt : Bool := false
  words : List FabricWord := []
  claims : List LaneClaim := []
  laneFaults : List (Nat × Nat) := []
  cutPhase : Bool := false
  stepFatalNext : Bool := false
  steerOk : Bool := false
  steerNew : Option Nat := none
  lampist : Lampist := {}
  xlate0 : List (Nat × Nat) := []
  xdrain0 : List (Nat × Nat) := []
  reshard : Bool := false
  reshardLost : Bool := false
  stepLost : Bool := false
  handed : List TileElem := []
  handedAt : Nat := 0
  throttleSum : Nat := 0
  throttleNum : Nat := 0
  lampAsk : Bool := false
  lampRun : Bool := false
  zeroSteps : Nat := 0
  saving : Bool := false
  deriving DecidableEq, Repr

/-! ## Jicen and Feed (chapter 12) -/

/-- A frame that waits at a port or stands in its replay buffer (R415 to R417): its link sequence once sent, the JICEN ring it belongs to, how often it was resent, the port it came in by and the virtual channel it came on when in transit. -/
structure SentFrame where
  frame : Frame
  seq : BitVec 12 := 0
  ring : Option Nat := none
  resent : Nat := 0
  inPort : Option Nat := none
  inVc : Bool := false
  deriving DecidableEq, Repr

/-- A request that a link die holds for its buoy (R426). -/
structure HeldWait where
  frame : Frame
  since : W64
  deriving DecidableEq, Repr

/-- A Jicen port: what its registers do not hold.  `outq` the frames that wait, `rr` the JICEN ring served last, `slotSent` one more than the number of the last slot sent, `ackAt` since when the sender waits for an acknowledgement (R416); `swap` and `txSwap` the announced lane swaps of the two directions (lane, spare, effective mark), `dup` the old lane that still duplicates and until when, `txMap` the transmit lanes replaced; `badId` a failed identity check; `admitted` that JC_ADMIT names the admission mark. -/
structure Port where
  txSeq : BitVec 12 := 0
  rxSeq : BitVec 12 := 0
  replay : List SentFrame := []
  outq : List SentFrame := []
  rr : Nat := 0
  slotSent : Nat := 0
  ackAt : W64 := 0
  credits : List (Nat × Nat) := []
  held : List HeldWait := []
  ctrl : List (List Byte) := []
  swap : Option (Nat × Nat × W64) := none
  txSwap : Option (Nat × Nat × W64) := none
  txMap : List (Nat × Nat) := []
  dup : Option (Nat × W64) := none
  badId : Bool := false
  admitted : Bool := false
  ctlCtr : W64 := 0
  compiledOut : List PortWord := []
  nodeQ : List NodeOperand := []
  nodeCount : List (Nat × Nat) := []
  xFaults : List (Nat × Nat) := []
  deriving DecidableEq, Repr

/-- An egress record that is not acknowledged (R435). -/
structure SentRecord where
  seq : W64
  bytes : List Byte
  resent : Nat
  deriving DecidableEq, Repr

/-- A Feed flow: what its entry does not hold (R433 to R435).  Ingress: `cum` is CUM, `above` the sequence numbers accepted above it, `used` the slots of posted entries that records below CUM have filled, `ackEnd` the WINDOW_END of the last ACK; egress: `cum` is CUM, `sentTo` the next record to send, `sent` the records without acknowledgement, `peerEnd` the receiver's WINDOW_END.  `epochs` are the numbers of the loaded key epochs by place, `owner` the slot whose dialogue loaded them (R484). -/
structure Flow where
  cum : W64 := 0
  above : List Nat := []
  used : Nat := 0
  ackCtr : W64 := 0
  ackEnd : W64 := 0
  epochs : List (Nat × Byte) := []
  sentTo : W64 := 0
  sent : List SentRecord := []
  peerEnd : W64 := 0
  owner : Option Nat := none
  deriving DecidableEq, Repr

/-- A Feed interface: what its registers do not hold. -/
structure Feed where
  gallery : List (List Byte) := []
  xoff : Bool := false
  paused : Bool := false
  deriving DecidableEq, Repr

/-! ## The Keeper (chapters 13 and 14) -/

/-- A place that holds a key (R446). -/
inductive KeyPlace where
  | stack (s : Nat)
  | link (j slot : Nat)
  | context (i : Nat)
  | feed (iface flow epoch : Nat)
  deriving DecidableEq, Repr

/-- A message of the keeper bus (R446): type, number, target, slot, payload. -/
structure KMsg where
  ty : Nat
  seq : Byte := 0
  target : Nat := 0
  slot : Nat := 0
  payload : List Byte := []
  deriving DecidableEq, Repr

/-- The keeper-bus side of one die: the messages that wait for it (the first is on the wire), resends of that one, the answers on the way back, the number of the last message; the lock mask, debug gate and lists that the die holds (R467, R469, R481); the locks and domains that the Keeper has had acknowledged (R448), and whether its last measurement told of a failed tile scrub (R85). -/
structure KDie where
  out : List KMsg := []
  resends : Nat := 0
  answers : List KMsg := []
  seq : Byte := 0
  lock : Byte := 0
  debug : Bool := false
  images : List (Nat × List Byte) := []
  plans : List (Nat × List Byte) := []
  flows : List (Nat × W32) := []
  zeroised : Bool := false
  scrubFail : Bool := false
  setLock : Byte := 0
  setDom : List (Nat × W16) := []
  deriving DecidableEq, Repr

/-- The sealing states (R474). -/
inductive Sealing where
  | unsealed | attested | sealing | sealed | tearing
  deriving DecidableEq, Repr

/-- What the Keeper keeps for one slot (R449, R474, R477, R489): sealing state, manifest and hashes, the numbers of the KEM and seal key pairs drawn, the job key, job tag, domain number, the record of the last export, and that a plan load failed the manifest (R483). -/
structure KSlot where
  st : Sealing := .unsealed
  manifest : List Byte := []
  manifestHash : List Byte := []
  attHash : List Byte := []
  kemAt : Option Nat := none
  sealKey : Option Nat := none
  jk : List Byte := []
  jobTag : W16 := 0
  domain : W16 := 0
  refusedPlan : Bool := false
  exportRec : List Byte := []
  deriving DecidableEq, Repr

/-- A step that a dialogue has still to make (R480, R491): send messages to dies and have them acknowledged; wait for the scrubs of its slot; wait for the command that confirms. -/
inductive KStep where
  | send (l : List (Nat × KMsg))
  | scrubs
  | event
  deriving DecidableEq, Repr

/-- A dialogue that the Keeper has taken (R463): its channel (none: the Keeper's own, for a deletion), request bytes, whether it has begun, what it has still to do, the code that it ends with, its response body. -/
structure Dialogue where
  ch : Option Nat
  req : List Byte
  begun : Bool := false
  plan : List KStep := []
  code : W16 := 0
  body : List Byte := []
  deriving DecidableEq, Repr

/-! ## Board, errors, host -/

/-- Pins and board-side state (R569, R573, R576). -/
structure Board where
  pwrEn : Bool := true
  pwrGood : Bool := false
  modRstLow : Bool := false
  perstLow : Bool := false
  boardTherm : Bool := false
  thermSrc : List Nat := []
  maddr : BitVec 3 := 0
  ppsOut : Bool := false
  statusBits : W16 := 0
  tap : Byte := 0
  keeperDown : Bool := false
  wake : Bool := false
  deriving DecidableEq, Repr

/-- An error record (R541). -/
structure ErrRec where
  code : W16 := 0
  severity : Nat := 0
  flags : Byte := 0
  slot : Byte := 0
  unitKind : Byte := 0
  unit : W16 := 0
  time : W64 := 0
  step : W64 := 0
  location : W64 := 0
  detail : W128 := 0
  seq : W32 := 0
  also : W32 := 0
  handling : Nat := 0
  escCode : W16 := 0
  deadline : W64 := 0
  deriving DecidableEq, Repr

/-- A half's clock pair (R262, R263): the frequency the idle PLL was asked for, whether it has locked, whether the rail has settled, whether a switch is in progress (R264). -/
structure Half where
  target : Option Nat := none
  pllLocked : Bool := false
  railSettled : Bool := false
  switching : Bool := false
  activeLost : Bool := false
  deriving DecidableEq, Repr

/-- A command packet that Gallery has started and not completed (R499, R500): its 64 bytes, and the index of its ring entry. -/
structure HostCmd where
  ch : Channel
  packet : List Byte
  index : W32 := 0
  deriving DecidableEq, Repr

/-- A context (R510). -/
structure Context where
  slot : Nat
  saved : Bool := false
  restored : Bool := false
  deriving DecidableEq, Repr

/-- What the module sends: MSI-X vectors, watch messages, frames, control blocks, compiled frames, datagrams, Ethernet control frames, Gallery interrupts, checkpoint and context streams by Feed egress flow. -/
inductive Out where
  | msix (vec : Nat)
  | gallery (irq : Nat)
  | watchMsg (target : Byte) (bytes : List Byte)
  | ctrl (port : Nat) (block : List Byte)
  | frame (port : Nat) (f : Frame)
  | compiled (port : Nat) (slot : BitVec 12) (job : W16) (ctr : W64) (words : List PortWord)
  | feedData (iface flow : Nat) (seq : W64) (bytes : List Byte)
  | feedAck (iface flow : Nat) (bytes : List Byte)
  | pfc (iface : Nat) (xoff : Bool)
  | stream (slot flow : Nat) (bytes : List Byte)
  deriving DecidableEq, Repr

/-- The answer of the last access or transaction: reason code, value, bytes. -/
structure Reply where
  code : W16 := 0
  value : W64 := 0
  data : List Byte := []
  nack : Bool := false
  deriving DecidableEq, Repr

/-- Everything the spec gives the module except the queue of waiting commands. -/
structure Mod where
  regs : List (Nat × W64) := []
  staged : List (Nat × W64) := []
  mem : List Host.Cell := []
  tiles : List (Nat × Tile) := []
  buoys : List (Nat × Buoy) := []
  rings : List (Nat × Ring) := []
  hbmStacks : List (Nat × Stack) := []
  parts : List (Nat × Part) := []
  ports : List (Nat × Port) := []
  flows : List (Nat × Flow) := []
  feeds : List (Nat × Feed) := []
  halves : List (Nat × Half) := []
  temps : List (Nat × W16) := []
  kdies : List (Nat × KDie) := []
  kslots : List (Nat × KSlot) := []
  keys : List (KeyPlace × List Byte) := []
  keysSet : List KeyPlace := []
  keyCtrs : List (Nat × W64) := []
  nextToken : W16 := 1
  master : BitVec 12 := 0
  dialogues : List Dialogue := []
  nextDomain : Nat := 1
  draws : Nat := 0
  kboot : Byte := 0
  zeroising : Bool := false
  zeroiseBegun : Bool := false
  keeperBad : Bool := false
  disabled : List Nat := []
  repairDisabled : List Nat := []
  board : Board := {}
  firsts : List (Nat × ErrRec) := []
  ring : List (Nat × ErrRec) := []
  errSeq : Nat := 1
  fatalAt : W64 := 0
  haltAt : W64 := 0
  cmds : List HostCmd := []
  contexts : List (Nat × Context) := []
  nextContext : Nat := 1
  hostLast : Nat := 4095
  lampStart : W64 := 0
  lampScrub : Byte := 0
  msix : List (Nat × W64) := []
  msixPending : List Nat := []
  ide : List Nat := []
  linkUp : Bool := false
  count : W64 := 0
  running : Bool := false
  crossLost : Bool := false
  countLoaded : Bool := false
  calDone : List Nat := []
  badTimes : Nat := 0
  dieCounts : List (Nat × W64) := []
  holdoverBt : Nat := 0
  wasState : Nat := 2
  config : List Byte := []
  configHeader : List Byte := []
  galHeader : List Byte := []
  repairHeader : List Byte := []
  repair : List Byte := []
  repairRecord : List Byte := []
  stagings : List Nat := []
  trims : List (Nat × W16) := []
  free : Nat := 0
  reply : Reply := {}
  outbox : List Out := []
  deriving DecidableEq, Repr

/-- The state of the block: the commands that wait, first in first out, and the module. -/
structure State where
  pending : List Instr
  m : Mod
  deriving DecidableEq, Repr

/-- The module right after reset: every register at the reset value its map states (`regs` lists nothing), STANDBY with START_PHASE 0x0 (R36), the Beacon at 0 and not advancing (R249), memory with nothing listed, no command waiting. -/
def State.reset : State := { pending := [], m := {} }

end Sys2Proof.Machine
end

