-- ==== Sys2Proof/Machine/Ops.lean ====
section
/-! DEFINITION. The named operations over the state: register words and their fields, memory, the typed tables, who owns what, and the lifts that turn an effect on the module into a command's meaning. -/

namespace Sys2Proof.Machine

namespace Mod

/-! ## Register words -/

/-- The word at a module-space address. -/
def rd (m : Mod) (a : Nat) : W64 := Sparse.get regReset m.regs a
/-- Writes a whole register word. -/
def wr (m : Mod) (a : Nat) (v : W64) : Mod := { m with regs := Sparse.put regReset m.regs a v }
/-- A field of a register. -/
def fld (m : Mod) (a lo len : Nat) : Nat := bf (m.rd a) lo len
/-- One bit of a register. -/
def flag (m : Mod) (a i : Nat) : Bool := bit (m.rd a) i
/-- Writes a field of a register. -/
def setF (m : Mod) (a lo len v : Nat) : Mod := m.wr a (setBf (m.rd a) lo len v)
/-- Writes one bit of a register. -/
def setFlag (m : Mod) (a i : Nat) (b : Bool) : Mod := m.setF a i 1 (if b then 1 else 0)
/-- Adds to a counter, which saturates (R88). -/
def addCnt (m : Mod) (a n : Nat) : Mod := m.wr a (satAdd (m.rd a) n)
/-- The status registers that show the last code of a range: of chapter 11 in a slot, 0x0E and 0x11 (R399, R522, R580). -/
def noteRange (m : Mod) (code : W16) (slot : Option Nat) : Mod :=
  match code.toNat / 256, slot with
  | 0x0B, some s => m.setF (STEP_STATUS s) 48 16 code.toNat
  | 0x0E, _ => m.setF HI_STATUS 48 16 code.toNat
  | 0x11, _ => m.setF PWR_STATUS 48 16 code.toNat
  | _, _ => m
/-- The word that takes effect at the next step boundary mark, where one is staged (R7 RWS, R8). -/
def stagedWord (m : Mod) (a : Nat) : W64 :=
  match m.staged.find? (fun p => p.1 = a) with
  | some p => p.2
  | none => m.rd a
/-- Is a value staged for a register? -/
def isStaged (m : Mod) (a : Nat) : Bool := (m.staged.find? (fun p => p.1 = a)).isSome
/-- Stages a word; a later one replaces an earlier one (R8). -/
def stage (m : Mod) (a : Nat) (v : W64) : Mod := { m with staged := Sparse.insertAt a v (Sparse.erase a m.staged) }
/-- Drops what is staged for a register. -/
def unstage (m : Mod) (a : Nat) : Mod := { m with staged := Sparse.erase a m.staged }

/-- Puts every register word of a range of addresses back to its reset value, with nothing staged. -/
def resetRegs (m : Mod) (lo hi : Nat) : Mod :=
  { m with regs := m.regs.filter (fun p => p.1 < lo || hi ≤ p.1), staged := m.staged.filter (fun p => p.1 < lo || hi ≤ p.1) }

/-! ## Memory: one space of bytes, by region.  A byte that nothing has written reads 0 (log entry 5). -/

end Mod

/-- Byte `off` of the scratchpad of tile `t` (R45). -/
def scratchAt (t off : Nat) : Nat := t * 2 ^ 25 + off
/-- Byte `off` of HBM stack `s` (R312). -/
def hbmAt (s off : Nat) : Nat := 2 ^ 40 + s * 2 ^ 36 + off
/-- Byte `off` of Gallery memory (R471). -/
def galleryAt (off : Nat) : Nat := 2 ^ 46 + off
/-- Byte `off` of the module flash (R453). -/
def flashAt (off : Nat) : Nat := 2 ^ 47 + off
/-- Byte `off` of the staging copy of flash target `k` (R464). -/
def stagingAt (k off : Nat) : Nat := 2 ^ 48 + k * 2 ^ 26 + off
/-- Byte at an I/O virtual address of host memory (R294 LOC 0x2). -/
def hostAt (a : Nat) : Nat := 2 ^ 64 + a

/-- What an unlisted byte of memory reads as. -/
def memDefault (_ : Nat) : Byte := 0

/-- The canonical form of memory: addresses strictly rising, no entry equal to what an unlisted address reads as. -/
def Memory.wf (cells : List Host.Cell) : Bool := Sparse.wf memDefault cells

/-- Writes bytes upward from an address. -/
def Memory.write : List Host.Cell → Nat → List Byte → List Host.Cell
  | c, _, [] => c
  | c, a, b :: r => Memory.write (Sparse.put memDefault c a b) (a + 1) r

/-- Reads `n` bytes upward from an address. -/
def Memory.read (c : List Host.Cell) : Nat → Nat → List Byte
  | _, 0 => []
  | a, n + 1 => Sparse.get memDefault c a :: Memory.read c (a + 1) n

/-- Drops every byte of a range, which then reads as an unlisted one. -/
def Memory.clear (c : List Host.Cell) (lo hi : Nat) : List Host.Cell := c.filter (fun p => p.1 < lo || hi ≤ p.1)

namespace Mod

def ldByte (m : Mod) (a : Nat) : Byte := Sparse.get memDefault m.mem a
def ld (m : Mod) (a n : Nat) : List Byte := Memory.read m.mem a n
def st (m : Mod) (a : Nat) (b : List Byte) : Mod := { m with mem := Memory.write m.mem a b }
def ldNat (m : Mod) (a n : Nat) : Nat := natOf (m.ld a n)
def stNat (m : Mod) (a n v : Nat) : Mod := m.st a (bytesOf n v)
def clearMem (m : Mod) (lo hi : Nat) : Mod := { m with mem := Memory.clear m.mem lo hi }

/-! ## Typed tables -/

def tile (m : Mod) (t : Nat) : Tile := Sparse.get (fun _ => {}) m.tiles t
def setTile (m : Mod) (t : Nat) (x : Tile) : Mod := { m with tiles := Sparse.put (fun _ => {}) m.tiles t x }
def modTile (m : Mod) (t : Nat) (f : Tile → Tile) : Mod := m.setTile t (f (m.tile t))
def buoy (m : Mod) (b : Nat) : Buoy := Sparse.get (fun _ => {}) m.buoys b
def setBuoy (m : Mod) (b : Nat) (x : Buoy) : Mod := { m with buoys := Sparse.put (fun _ => {}) m.buoys b x }
def ringOf (m : Mod) (r : Nat) : Ring := Sparse.get (fun _ => {}) m.rings r
def setRing (m : Mod) (r : Nat) (x : Ring) : Mod := { m with rings := Sparse.put (fun _ => {}) m.rings r x }
def stack (m : Mod) (s : Nat) : Stack := Sparse.get (fun _ => {}) m.hbmStacks s
def setStack (m : Mod) (s : Nat) (x : Stack) : Mod := { m with hbmStacks := Sparse.put (fun _ => {}) m.hbmStacks s x }
def part (m : Mod) (s : Nat) : Part := Sparse.get (fun _ => {}) m.parts s
def setPart (m : Mod) (s : Nat) (x : Part) : Mod := { m with parts := Sparse.put (fun _ => {}) m.parts s x }
def modPart (m : Mod) (s : Nat) (f : Part → Part) : Mod := m.setPart s (f (m.part s))
def port (m : Mod) (j : Nat) : Port := Sparse.get (fun _ => {}) m.ports j
def setPort (m : Mod) (j : Nat) (x : Port) : Mod := { m with ports := Sparse.put (fun _ => {}) m.ports j x }
/-- Flow `k` of interface `e` (R431). -/
def flow (m : Mod) (e k : Nat) : Flow := Sparse.get (fun _ => {}) m.flows (2048 * e + k)
def setFlow (m : Mod) (e k : Nat) (x : Flow) : Mod := { m with flows := Sparse.put (fun _ => {}) m.flows (2048 * e + k) x }
def feed (m : Mod) (e : Nat) : Feed := Sparse.get (fun _ => {}) m.feeds e
def setFeed (m : Mod) (e : Nat) (x : Feed) : Mod := { m with feeds := Sparse.put (fun _ => {}) m.feeds e x }
def half (m : Mod) (i : Nat) : Half := Sparse.get (fun _ => {}) m.halves i
def setHalf (m : Mod) (i : Nat) (x : Half) : Mod := { m with halves := Sparse.put (fun _ => {}) m.halves i x }
def kdie (m : Mod) (d : Nat) : KDie := Sparse.get (fun _ => {}) m.kdies d
def setKdie (m : Mod) (d : Nat) (x : KDie) : Mod := { m with kdies := Sparse.put (fun _ => {}) m.kdies d x }
def kslot (m : Mod) (s : Nat) : KSlot := Sparse.get (fun _ => {}) m.kslots s
def setKslot (m : Mod) (s : Nat) (x : KSlot) : Mod := { m with kslots := Sparse.put (fun _ => {}) m.kslots s x }
def first (m : Mod) (k : Nat) : ErrRec := Sparse.get (fun _ => {}) m.firsts k
def setFirst (m : Mod) (k : Nat) (x : ErrRec) : Mod := { m with firsts := Sparse.put (fun _ => {}) m.firsts k x }
def temp (m : Mod) (n : Nat) : W16 := Sparse.get (fun _ => 0) m.temps n

/-- The mask bit of an MSI-X vector in the table (R492, R495). -/
def msixMasked (m : Mod) (v : Nat) : Bool := bit (Sparse.get (fun _ => (0 : W64)) m.msix (2 * v + 1)) 32
/-- What leaves the module; a masked vector goes to the pending-bit array instead. -/
def sendOut (m : Mod) (o : Out) : Mod := match o with
  | .msix v => if m.msixMasked v then { m with msixPending := v :: m.msixPending.erase v } else { m with outbox := m.outbox ++ [o] }
  | _ => { m with outbox := m.outbox ++ [o] }
def answer (m : Mod) (code : W16) : Mod := { m with reply := { code := code } }
def answerValue (m : Mod) (v : W64) : Mod := { m with reply := { value := v } }
def answerBytes (m : Mod) (b : List Byte) : Mod := { m with reply := { data := b } }
/-- The key that stands at a place; empty where none does (R446). -/
def keyAt (m : Mod) (k : KeyPlace) : List Byte := match m.keys.find? (fun p => decide (p.1 = k)) with
  | some p => p.2
  | none => []
/-- Draws a fresh free value (log entry 3). -/
def draw (m : Mod) (w : Nat) : BitVec w × Mod := (Config.fresh w m.free, { m with free := m.free + 1 })
/-- Draws bytes from the Keeper's DRBG (R444). -/
def drawBytes (m : Mod) (len : Nat) : List Byte × Mod := (bytesIn len (Config.drbg len m.draws), { m with draws := m.draws + 1 })

/-! ## Threads -/

def thread (m : Mod) (t th : Nat) : Thread := Sparse.get (fun _ => {}) (m.tile t).threads th
def setThread (m : Mod) (t th : Nat) (x : Thread) : Mod :=
  m.modTile t (fun tl => { tl with threads := Sparse.put (fun _ => {}) tl.threads th x })
def modThread (m : Mod) (t th : Nat) (f : Thread → Thread) : Mod := m.setThread t th (f (m.thread t th))

end Mod

/-- A g register (R95). -/
def Thread.gReg (x : Thread) (i : Nat) : W32 := Sparse.get (fun _ => 0) x.g i
def Thread.setG (x : Thread) (i : Nat) (v : W32) : Thread := { x with g := Sparse.put (fun _ => 0) x.g i v }
/-- An a register (R95). -/
def Thread.aReg (x : Thread) (i : Nat) : W40 := Sparse.get (fun _ => 0) x.a i
def Thread.setA (x : Thread) (i : Nat) (v : W40) : Thread := { x with a := Sparse.put (fun _ => 0) x.a i v }
def Thread.loop (x : Thread) (i : Nat) : LoopCounter := Sparse.get (fun _ => {}) x.lc i
def Thread.setLoop (x : Thread) (i : Nat) (v : LoopCounter) : Thread := { x with lc := Sparse.put (fun _ => {}) x.lc i v }

/-- The code of a thread state (R96). -/
def ThState.code : ThState → Nat
  | .off => 0 | .ready => 1 | .wait => 2 | .ended => 3 | .trapped => 4 | .stopped => 5 | .debug => 6

/-- The reason code of a wait record (R107). -/
def WaitRec.code : WaitRec → Nat
  | .none => 0 | .buoy .. => 1 | .mark .. => 2 | .ring .. => 3 | .fence .. => 4 | .jig .. => 5
  | .exchange .. => 6 | .queue .. => 7 | .memory .. => 8 | .fetch => 9 | .remote .. => 10

/-- The state of a buoy as BUOY_CTL shows it (R274). -/
def BuoyState.code : BuoyState → Nat
  | .free => 0 | .live => 1 | .broken => 2 | .saved => 3

/-- The identity of a source (R290). -/
def Source.id : Source → W32
  | .none => 0
  | .thread t th => BitVec.ofNat 32 (0x1000_0000 + 4 * t + th)
  | .ring r => BitVec.ofNat 32 (0x2000_0000 + r)
  | .plane s => BitVec.ofNat 32 (0x3000_0000 + s)
  | .gallery c => BitVec.ofNat 32 (0x4000_0000 + c)
  | .host => 0x5000_0000
  | .keeper => 0x6000_0000
  | .jicen m => BitVec.ofNat 32 (0x7000_0000 + m)
  | .done t => BitVec.ofNat 32 (0x8000_0000 + t)

/-! ## Geometry and ownership -/

/-- Numbers of the module's units (R31). -/
def numTiles : Nat := 1280
def numStacks : Nat := 32
def numBuoys : Nat := 8192
def numRings : Nat := 65536
def numPorts : Nat := 6
def numSlots : Nat := 8

/-- The half 2d + h of a logical tile (R23). -/
def halfOfTile (t : Nat) : Nat := t / 80
def dieOfTile (t : Nat) : Nat := t / 160
/-- The half that a stack attaches to (R16). -/
def halfOfStack (s : Nat) : Nat := s / 2
def dieOfStack (s : Nat) : Nat := s / 4
/-- The home die of a buoy (R273). -/
def dieOfBuoy (b : Nat) : Nat := b / 1024
/-- The tile that consumes a TILE_DMA ring (R293). -/
def tileOfRing (r : Nat) : Nat := (r - 4096) / 32
def stackOfRing (r : Nat) : Nat := (r - 45056) / 128
def portOfRing (r : Nat) : Nat := (r - 49152) / 1024
def ifaceOfRing (r : Nat) : Nat := (r - 55296) / 2048
def flowOfRing (r : Nat) : Nat := (r - 55296) % 2048

namespace Mod

/-- The slot of the partition that a compute die belongs to (MOD_PART_MAP, R36). -/
def slotOfDie (m : Mod) (d : Nat) : Option Nat :=
  if m.flag MOD_PART_MAP (4 * d + 3) then some (m.fld MOD_PART_MAP (4 * d) 3) else none
def slotOfTile (m : Mod) (t : Nat) : Option Nat := m.slotOfDie (dieOfTile t)
def slotOfStack (m : Mod) (s : Nat) : Option Nat := m.slotOfDie (dieOfStack s)
/-- A buoy belongs to the partition of its home die (R273). -/
def slotOfBuoy (m : Mod) (b : Nat) : Option Nat := m.slotOfDie (dieOfBuoy b)
/-- The slot that a ring's descriptor names (R294). -/
def slotOfRing (m : Mod) (r : Nat) : Option Nat :=
  if m.flag (RING_CTL r) 44 then some (m.fld (RING_CTL r) 45 3) else none
/-- Slot `s` holds a partition. -/
def hasPart (m : Mod) (s : Nat) : Bool := decide (s < 8) && decide (m.slotOfDie s = some s)
/-- The dies of the partition in a slot. -/
def diesOf (m : Mod) (s : Nat) : List Nat := (upto 8).filter (fun d => decide (m.slotOfDie d = some s))
def tilesOf (m : Mod) (s : Nat) : List Nat := (m.diesOf s).flatMap (fun d => (upto 160).map (fun i => 160 * d + i))
def stacksOf (m : Mod) (s : Nat) : List Nat := (m.diesOf s).flatMap (fun d => (upto 4).map (fun i => 4 * d + i))
/-- The physical rows of a column of a half that are not disabled, ascending (R24). -/
def goodRows (m : Mod) (half col : Nat) : List Nat := (upto 11).filter (fun r => !m.disabled.contains (half * 88 + r * 8 + col))
/-- The physical tile onto which logical tile `t` is mapped (R22 to R24). -/
def physTile (m : Mod) (t : Nat) : Nat :=
  let h := halfOfTile t
  let col := t % 8
  h * 88 + (m.goodRows h col).getD (t % 80 / 8) 0 * 8 + col
/-- The logical tile that a physical tile carries, if any (R22 to R24). -/
def logicalOf (m : Mod) (p : Nat) : Option Nat :=
  let h := p / 88
  match (m.goodRows h (p % 8)).findIdx? (fun r => decide (r = p % 88 / 8)) with
  | some i => if i < 10 then some (80 * h + 8 * i + p % 8) else none
  | none => none
/-- The slots that hold a partition. -/
def slots (m : Mod) : List Nat := (upto 8).filter (fun s => m.hasPart s)
/-- A job of the partition runs: from the acceptance of its JOB_START (R512). -/
def jobRuns (m : Mod) (s : Nat) : Bool := (m.part s).job.isSome
/-- The locks of a slot hold from SEALING to the end of TEARING (R474). -/
def locked (m : Mod) (s : Nat) : Bool :=
  match (m.kslot s).st with
  | .sealing => true | .sealed => true | .tearing => true | _ => false
/-- A partition is sealed only in SEALED (R474). -/
def isSealed (m : Mod) (s : Nat) : Bool := decide ((m.kslot s).st = .sealed)
def anySealed (m : Mod) : Bool := (upto 8).any (fun s => m.isSealed s)
/-- The lock of the slot that an owner names, if any. -/
def lockedOwner (m : Mod) (o : Option Nat) : Bool := match o with
  | some s => m.locked s
  | none => false
/-- Steering is sealed in a slot whose locks hold and whose manifest says so (R475 STEERING). -/
def sealedSteering (m : Mod) (s : Nat) : Bool := m.locked s && decide (natOf (((m.kslot s).manifest.drop 0xC).take 1) = 1)
/-- The disclosure level of a locked slot (R475 DISCLOSURE). -/
def disclosure (m : Mod) (s : Nat) : Nat := natOf (((m.kslot s).manifest.drop 0xB).take 1)

/-! ## Module state and time -/

/-- MOD_STATE.STATE (R36). -/
def modState (m : Mod) : Nat := m.fld MOD_STATE 0 4
def startPhase (m : Mod) : Nat := m.fld MOD_STATE 8 4
/-- Moves the module to a state and start-up phase (R36, R37). -/
def goState (m : Mod) (st phase : Nat) : Mod := m.wr MOD_STATE (BitVec.ofNat 64 (phase * 256 + st))
/-- The main rails are up: start-up phases 0x3 to 0x6, READY, RUN and HALTED (R560). -/
def mainUp (m : Mod) : Bool :=
  (decide (m.modState = 1) && decide (3 ≤ m.startPhase)) || (decide (2 ≤ m.modState) && decide (m.modState ≤ 4))
def halted (m : Mod) : Bool := decide (m.modState = 4)
/-- The count of a clock that pauses in HALTED: while it pauses, the count at which the halt began (R384, R539). -/
def pausedCount (m : Mod) : W64 := if m.halted then m.haltAt else m.count
/-- The clock of tile `t` runs: it is gated in HALTED (R38) and while its half switches its clock (R264). -/
def tileClocked (m : Mod) (t : Nat) : Bool := !m.halted && !(m.half (halfOfTile t)).switching
/-- The mark period 2^k (R250). -/
def markPeriod (m : Mod) : Nat := 2 ^ (m.fld BCN_CTL 16 5)
/-- The first mark after the current count. -/
def nextMark (m : Mod) : Nat := (m.count.toNat / m.markPeriod + 1) * m.markPeriod
/-- The count stands at a mark (R250). -/
def atMark (m : Mod) : Bool := m.running && decide (m.count.toNat % m.markPeriod = 0)
/-- LOCKED (R253). -/
def beaconLocked (m : Mod) : Bool := decide (m.fld BCN_STATUS 0 4 = 3)
/-- The module's own ID (R404). -/
def moduleId (m : Mod) : Nat := m.fld JC_MODULE_ID 0 12
/-- The debug TAP is open: KPR_STATUS.DEBUG_EN (R469). -/
def debugOn (m : Mod) : Bool := m.flag KPR_STATUS 4

end Mod

/-! ## Outcomes and lifts -/

/-- A meaning that changes the module by `f` and nothing of the queue. -/
def onModule (s : State) (f : Mod → Mod) : Host.Outcome State Fault Refusal := .next { s with m := f s.m }

/-- A meaning of a unit that runs from the main rails: without them the event cannot occur and nothing changes (R560, log entry 2). -/
def onMain (s : State) (f : Mod → Mod) : Host.Outcome State Fault Refusal :=
  .next { s with m := if s.m.mainUp then f s.m else s.m }

/-- A meaning that acts only where a condition holds; otherwise the event cannot occur and nothing changes (log entry 2). -/
def onWhen (s : State) (c : Bool) (f : Mod → Mod) : Host.Outcome State Fault Refusal :=
  .next { s with m := if c then f s.m else s.m }

/-- A meaning of a unit of tile `t`. -/
def onTile (s : State) (t : Nat) (f : Mod → Mod) : Host.Outcome State Fault Refusal :=
  onWhen s (s.m.mainUp && decide (t < numTiles)) f
/-- A meaning of a unit that runs on the clock of tile `t`: while the clock is gated, nothing changes (R38, R264). -/
def onTileClock (s : State) (t : Nat) (f : Mod → Mod) : Host.Outcome State Fault Refusal :=
  onWhen s (s.m.mainUp && decide (t < numTiles) && s.m.tileClocked t) f
/-- A meaning of partition slot `p`. -/
def onSlot (s : State) (p : Nat) (f : Mod → Mod) : Host.Outcome State Fault Refusal :=
  onWhen s (s.m.mainUp && decide (p < numSlots)) f
/-- A meaning of HBM stack `k`. -/
def onStack (s : State) (k : Nat) (f : Mod → Mod) : Host.Outcome State Fault Refusal :=
  onWhen s (s.m.mainUp && decide (k < numStacks)) f
/-- A meaning of Jicen port `j`. -/
def onPort (s : State) (j : Nat) (f : Mod → Mod) : Host.Outcome State Fault Refusal :=
  onWhen s (s.m.mainUp && decide (j < numPorts)) f
/-- A meaning of buoy `b`. -/
def onBuoy (s : State) (b : Nat) (f : Mod → Mod) : Host.Outcome State Fault Refusal :=
  onWhen s (s.m.mainUp && decide (b < numBuoys)) f
/-- A meaning of ring `r`. -/
def onRing (s : State) (r : Nat) (f : Mod → Mod) : Host.Outcome State Fault Refusal :=
  onWhen s (s.m.mainUp && decide (r < numRings)) f
/-- A meaning of Feed interface `e`. -/
def onFeed (s : State) (e : Nat) (f : Mod → Mod) : Host.Outcome State Fault Refusal :=
  onWhen s (s.m.mainUp && decide (e < 2)) f

/-- Applies `f` for each number of a list, in order. -/
def forEach (m : Mod) (l : List Nat) (f : Mod → Nat → Mod) : Mod := l.foldl f m

end Sys2Proof.Machine
end

