-- ==== Sys2Proof/Machine/KeeperBase.lean ====
section
/-! DEFINITION. The Keeper's dialogues and the keeper bus, as far as errors and scrubs need them (R446, R460 to R463, R474): the queue of dialogues, responses, messages waiting for dies, the steps of a dialogue. -/

namespace Sys2Proof.Machine

/-! ## Requests (R462) -/

def Dialogue.op (d : Dialogue) : Nat := num d.req 0 2
def Dialogue.slot (d : Dialogue) : Nat := num d.req 0xC 1
/-- LEN. -/
def Dialogue.len (d : Dialogue) : Nat := num d.req 8 4
def Dialogue.data (d : Dialogue) : List Byte := d.req.drop 32

/-- The dies on the keeper bus, by their bits in MOD_DIES (R36): 0 to 7 compute, 8 to 23 SRAM, 24 to 29 link, 30 bridge. -/
def bridgeDie : Nat := 30
def linkDie (j : Nat) : Nat := 24 + j
def busDies : List Nat := upto 31

namespace Mod

/-- KPR_STATUS.STATE (R460): 0 BOOT, 1 RECOVERY, 2 RUN, 3 DARK. -/
def keeperState (m : Mod) : Nat := m.fld KPR_STATUS 0 4
/-- MB_STATUS.STATE: 0 IDLE, 1 BUSY, 2 DONE (R461). -/
def mbState (m : Mod) (ch : Nat) : Nat := m.fld (MB_STATUS ch) 0 2

/-- Writes bytes into register words from an address on. -/
def putRegWords (m : Mod) (a : Nat) : List Byte → Nat → Mod
  | _, 0 => m
  | b, n + 1 => putRegWords (m.wr a (BitVec.ofNat 64 (natOf (b.take 8)))) (a + 8) (b.drop 8) n
/-- Bytes of register words from an address on. -/
def getRegWords (m : Mod) (a n : Nat) : List Byte := (upto n).flatMap (fun k => bytesOf 8 (m.rd (a + 8 * k)).toNat)

/-- A response (R462): header and body into MB_RSP, the channel DONE, its interrupt (R463). -/
def respond (m : Mod) (ch : Nat) (req : List Byte) (status : W16) (body : List Byte) : Mod :=
  let time := if m.beaconLocked then m.count.toNat else 0
  let b := req.take 2 ++ bytesOf 2 status.toNat ++ (req.drop 4).take 4 ++ bytesOf 4 body.length ++ bytesOf 4 0 ++ bytesOf 8 time ++ bytesOf 8 0 ++ body
  let m := m.putRegWords (MB_RSP ch 0) b (ceilDiv b.length 8)
  let m := m.setF (MB_STATUS ch) 0 2 2
  let m := if status = 0 then m else m.setF (MB_STATUS ch) 48 16 status.toNat
  if ch = 1 then m.sendOut (.gallery 0)
  else if m.flag (MB_CTL ch) 16 then m.sendOut (.msix (m.fld (MB_CTL ch) 0 11)) else m

/-- The dialogue in service ends with a STATUS and a body. -/
def endDialogue (m : Mod) (status : W16) (body : List Byte) : Mod :=
  match m.dialogues with
  | [] => m
  | d :: r =>
    let m := { m with dialogues := r }
    let m := if status.toNat / 256 = 0x0F then m.setF KPR_STATUS 48 16 status.toNat else m
    match d.ch with
    | some ch => m.respond ch d.req status body
    | none => m

/-- A module-fatal error ends the dialogue in service with 0x0F0B (R463). -/
def abortDialogue (m : Mod) : Mod := match m.dialogues with
  | [] => m
  | d :: _ => if d.begun then m.endDialogue 0x0F0B [] else m

/-! ## Messages (R446, R447) -/

/-- Puts a message in a die's queue, with the next number of that die. -/
def sendTo (m : Mod) (d : Nat) (x : KMsg) : Mod :=
  let k := m.kdie d
  m.setKdie d { k with seq := k.seq + 1, out := k.out ++ [{ x with seq := k.seq }] }
def sendAll (m : Mod) (l : List (Nat × KMsg)) : Mod := l.foldl (fun m p => m.sendTo p.1 p.2) m
/-- No message waits for a die or its answer. -/
def busQuiet (m : Mod) : Bool := m.kdies.all (fun p => p.2.out.isEmpty)

/-- Every tile and stack scrub of a slot has completed. -/
def scrubsDone (m : Mod) (s : Nat) : Bool :=
  (m.tilesOf s).all (fun t => (m.tile t).scrub.isNone) && (m.stacksOf s).all (fun k => !(m.stack k).scrubbing)

/-! ## Steps of a dialogue -/

/-- The dialogue in service. -/
def inService (m : Mod) : Option Dialogue := match m.dialogues with
  | d :: _ => if d.begun then some d else none
  | [] => none
/-- Gives the dialogue in service the steps that it has still to make. -/
def setPlan (m : Mod) (plan : List KStep) : Mod := match m.dialogues with
  | [] => m
  | d :: r => { m with dialogues := { d with begun := true, plan := plan } :: r }

/-- Moves the dialogue in service through its steps as far as it goes; `n` bounds the steps. -/
def advancePlan (m : Mod) : Nat → Mod
  | 0 => m
  | n + 1 => match m.inService with
    | none => m
    | some d => if !m.busQuiet then m else match d.plan with
      | .send l :: r => advancePlan ((m.setPlan r).sendAll l) n
      | .scrubs :: r => if m.scrubsDone d.slot then advancePlan (m.setPlan r) n else m
      | _ => m

/-- After a scrub or an answer, the dialogue in service goes on. -/
def keeperGoesOn (m : Mod) : Mod := match m.inService with
  | none => m
  | some d => m.advancePlan d.plan.length

/-- KPR_STATUS shows the sealing state of a slot, PART_STATUS whether it is SEALED (R470, R474, R523). -/
def showSealing (m : Mod) (s : Nat) : Mod :=
  let st := (m.kslot s).st
  let m := m.setFlag KPR_STATUS (8 + s) (decide (st = .sealed ∨ st = .tearing))
  let m := m.setFlag KPR_STATUS (16 + s) (m.locked s)
  m.setFlag (PART_STATUS s) 21 (decide (st = .sealed))
def setSealing (m : Mod) (s : Nat) (st : Sealing) : Mod := (m.setKslot s { m.kslot s with st := st }).showSealing s

/-- The debug gate of a tile's die (R469). -/
def gateOpen (m : Mod) (t : Nat) : Bool := (m.kdie (dieOfTile t)).debug

end Mod

end Sys2Proof.Machine
end

