-- ==== Sys2Proof/Machine/Scratch.lean ====
section
/-! DEFINITION. The scratchpad and its dowels (R45, R52 to R58): where a dowel-relative word lies, words and 32-bit pieces of the scratchpad, and partition HBM addresses (R312 to R314). -/

namespace Sys2Proof.Machine.Mod

/-! ## Dowels -/

def dowelValid (m : Mod) (t d : Nat) : Bool := m.flag (DOWEL0 t d) 63
/-- MODE: 0 DATA_RW, 1 DATA_RO, 2 PROGRAM, 3 VENEER (R52). -/
def dowelMode (m : Mod) (t d : Nat) : Nat := m.fld (DOWEL0 t d) 60 3
def dowel2D (m : Mod) (t d : Nat) : Bool := m.flag (DOWEL0 t d) 59
def dowelQuarter (m : Mod) (t d : Nat) : Nat := m.fld (DOWEL0 t d) 48 2
def dowelBw (m : Mod) (t d : Nat) : Nat := m.fld (DOWEL0 t d) 40 8 + 1
def dowelRows (m : Mod) (t d : Nat) : Nat := m.fld (DOWEL0 t d) 16 14
def dowelBase (m : Mod) (t d : Nat) : Nat := m.fld (DOWEL0 t d) 0 13
def dowelHbmLine (m : Mod) (t d : Nat) : Nat := m.fld (DOWEL1 t d) 0 32
/-- The words a dowel holds (R63). -/
def dowelWords (m : Mod) (t d : Nat) : Nat := 32 * m.dowelRows t d

/-- The line and word of a quarter that dowel-relative word `a` maps to (R53). -/
def dowelPlace (m : Mod) (t d a : Nat) : Nat × Nat :=
  if m.dowel2D t d then
    let bw := m.dowelBw t d
    let w := 32 * bw
    let y := a / w
    let x := a % w
    (m.dowelBase t d + ((y / 32) * bw + x / 32) * 32 + y % 32, x % 32)
  else (m.dowelBase t d + a / 32, a % 32)

/-- The tile byte address of dowel-relative word `a` (R45, R53). -/
def dowelAddr (m : Mod) (t d a : Nat) : Nat :=
  let p := m.dowelPlace t d a
  m.dowelQuarter t d * 2 ^ 23 + p.1 * 1024 + p.2 * 32

/-- A dowel in scratchpad that is VALID, has one of the modes, and contains words `a` to `a + n − 1`. -/
def dowelHolds (m : Mod) (t d : Nat) (modes : List Nat) (a n : Nat) : Bool :=
  m.dowelValid t d && modes.contains (m.dowelMode t d) && decide (a + n ≤ m.dowelWords t d)

/-! ## Words -/

/-- The 32-byte word at a tile byte address. -/
def ldWord (m : Mod) (t addr : Nat) : W256 := BitVec.ofNat 256 (m.ldNat (scratchAt t addr) 32)
def stWord (m : Mod) (t addr : Nat) (w : W256) : Mod := m.stNat (scratchAt t addr) 32 w.toNat
/-- Word `a` of a dowel. -/
def ldDowel (m : Mod) (t d a : Nat) : W256 := m.ldWord t (m.dowelAddr t d a)
def stDowel (m : Mod) (t d a : Nat) (w : W256) : Mod := m.stWord t (m.dowelAddr t d a) w
/-- `n` words of a dowel from word `a`, as bytes. -/
def ldDowelWords (m : Mod) (t d a : Nat) : Nat → List Byte
  | 0 => []
  | n + 1 => m.ld (scratchAt t (m.dowelAddr t d a)) 32 ++ ldDowelWords m t d (a + 1) n
/-- Writes bytes into a dowel from word `a`, `n` words of 32 bytes. -/
def stDowelWords (m : Mod) (t d a : Nat) : Nat → List Byte → Mod
  | 0, _ => m
  | n + 1, b => stDowelWords (m.st (scratchAt t (m.dowelAddr t d a)) (b.take 32)) t d (a + 1) n (b.drop 32)

/-- Quarter `q` is in veneer mode (VENEER_STATUS.VQ_EFFECT, R88). -/
def veneerMode (m : Mod) (t q : Nat) : Bool := m.flag (VENEER_STATUS t) q
/-- The mode that quarter `q` has or is pending to enter (VENEER_STATUS.VQ_PENDING, R88). -/
def veneerPending (m : Mod) (t q : Nat) : Bool := m.flag (VENEER_STATUS t) (4 + q)

/-! ## Partition HBM (R312 to R314) -/

/-- The stack and offset of a partition HBM address (R312). -/
def hbmPlace (slot a : Nat) : Nat × Nat := (4 * slot + a / 2 ^ 36, a % 2 ^ 36)
/-- The byte of partition HBM address `a` in the memory. -/
def hbmByte (slot a : Nat) : Nat := hbmAt (hbmPlace slot a).1 (hbmPlace slot a).2
/-- A range of partition HBM is valid: inside the partition's stacks, within one stack's 62 GiB, aligned (R314). -/
def hbmRange (m : Mod) (slot a n align : Nat) : Bool :=
  decide (a % align = 0) && decide (a / 2 ^ 36 < 4 * (m.diesOf slot).length) && decide (a % 2 ^ 36 + n ≤ 0xF_8000_0000)
/-- The pseudo-channel of a stack offset (R313). -/
def pcOf (off : Nat) : Nat := (off / 1024 % 32) ^^^ (off / 32768 % 32)
/-- The local line of a stack offset in its pseudo-channel (R313). -/
def lineOf (off : Nat) : Nat := off / 1024 / 32
/-- HBM_STATUS.STATE: 0 OFF, 1 TRAINING, 2 SCRUB, 3 READY, 4 FAILED. -/
def hbmState (m : Mod) (s : Nat) : Nat := m.fld (HBM_STATUS s) 0 4
def setHbmState (m : Mod) (s v : Nat) : Mod := m.setF (HBM_STATUS s) 0 4 v
/-- PC_STATEp: 0 ACTIVE, 1 SPARING, 2 RETIRED, 3 RETURNING (R338). -/
def pcState (m : Mod) (s p : Nat) : Nat := m.fld (PC_STATE s p) 0 3
def setPcState (m : Mod) (s p v : Nat) : Mod := m.setF (PC_STATE s p) 0 3 v
/-- The spare place, pseudo-channel and local line, of local line `l` of pseudo-channel `p` (R337). -/
def spareOf (p l : Nat) : Nat × Nat := (((upto 32).filter (fun q => decide (q ≠ p))).getD (l % 31) 0, 2031616 + l / 31)
/-- The places, pseudo-channel and local line, that an access to a stack offset goes to, by the state of its pseudo-channel (R338).  The memory of the model is kept by stack offset: the lines that the states keep in two places are equal, so no read depends on which place holds them. -/
def hbmPlaces (m : Mod) (s off : Nat) (write : Bool) : List (Nat × Nat) :=
  let p := pcOf off
  let own := (p, lineOf off)
  let spare := spareOf p (lineOf off)
  match m.pcState s p with
  | 0 => [own]
  | 1 => if write then [own, spare] else [own]
  | 2 => [spare]
  | _ => if write then [own, spare] else [spare]
/-- LOCATION of an error at a stack offset: the pseudo-channel and the local line that a read of it goes to (R541). -/
def hbmSpot (m : Mod) (s off : Nat) : Nat := match m.hbmPlaces s off false with
  | p :: _ => p.1 + 32 * p.2
  | [] => 0
/-- A range of a stack holds a line that is marked uncorrectable (R338). -/
def hbmBad (m : Mod) (s off n : Nat) : Bool :=
  (m.stack s).bad.any (fun h => decide (h * 1024 < off + n) && decide (off < (h + 1) * 1024))
/-- A write gives the lines that it covers whole fresh check bytes (R338; log entry 91). -/
def healHbm (m : Mod) (s off n : Nat) : Mod :=
  if (m.stack s).bad.isEmpty then m
  else m.setStack s { m.stack s with bad := (m.stack s).bad.filter (fun h => !(decide (off ≤ h * 1024) && decide ((h + 1) * 1024 ≤ off + n))) }
def ldHbm (m : Mod) (slot a n : Nat) : List Byte := m.ld (hbmByte slot a) n
def stHbm (m : Mod) (slot a : Nat) (b : List Byte) : Mod := m.st (hbmByte slot a) b
/-- The stack of a partition address holds its key (R316). -/
def stackKeyed (m : Mod) (s : Nat) : Bool := m.flag (HBM_SEC s) 17
/-- What stops an access to a stack: a scrub (0x0909) or no key (0x0926) (R316, R320). -/
def stackCode (m : Mod) (s : Nat) : W16 := if m.hbmState s = 2 then 0x0909 else if m.stackKeyed s then 0 else 0x0926
/-- What stops an access to partition HBM (R316, R320). -/
def hbmCode (m : Mod) (slot a : Nat) : W16 := m.stackCode (hbmPlace slot a).1

end Sys2Proof.Machine.Mod
end

