-- ==== Sys2Proof/Machine/Rings.lean ====
section
/-! DEFINITION. The ring mechanism common to every kind of ring (R293 to R304): pointers, storage, full and empty, completion records, stopping. -/

namespace Sys2Proof.Machine.Mod

def ringEnabled (m : Mod) (r : Nat) : Bool := m.flag (RING_CTL r) 0
/-- RING_CTL.STATE: 0 DISABLED, 1 IDLE, 2 ACTIVE, 3 WAIT_BUOY, 4 STALLED, 5 ERROR, 6 SAVED (R294). -/
def ringState (m : Mod) (r : Nat) : Nat := m.fld (RING_CTL r) 1 3
def setRingState (m : Mod) (r v : Nat) : Mod := m.setF (RING_CTL r) 1 3 v
def ringHead (m : Mod) (r : Nat) : Nat := m.fld (RING_PTR r) 0 32
def ringTail (m : Mod) (r : Nat) : Nat := m.fld (RING_PTR r) 32 32
def setRingHead (m : Mod) (r v : Nat) : Mod := m.setF (RING_PTR r) 0 32 v
def setRingTail (m : Mod) (r v : Nat) : Mod := m.setF (RING_PTR r) 32 32 v
/-- Capacity N (R297). -/
def ringCap (m : Mod) (r : Nat) : Nat := 2 ^ m.fld (RING_CTL r) 32 5
/-- F = TAIL − HEAD modulo 2^32 (R297). -/
def ringFill (m : Mod) (r : Nat) : Nat := (m.ringTail r + 2 ^ 32 - m.ringHead r) % 2 ^ 32
def ringLoc (m : Mod) (r : Nat) : Nat := m.fld (RING_CTL r) 40 4
def ringClass (m : Mod) (r : Nat) : Nat := m.fld (RING_CTL r) 26 2
/-- LAST_CODE of a ring. -/
def ringCode (m : Mod) (r : Nat) (c : W16) : Mod := m.setF (RING_STATUS r) 48 16 c.toNat
/-- The high count of RING_CNT_EVENT: doorbells ignored; it saturates (R294). -/
def countIgnored (m : Mod) (r : Nat) : Mod :=
  m.setF (RING_CNT_EVENT r) 32 32 (min (m.fld (RING_CNT_EVENT r) 32 32 + 1) (2 ^ 32 - 1))
/-- The low count of RING_CNT_EVENT: completion stalls; it saturates (R294). -/
def countStall (m : Mod) (r : Nat) : Mod :=
  m.setF (RING_CNT_EVENT r) 0 32 (min (m.fld (RING_CNT_EVENT r) 0 32 + 1) (2 ^ 32 - 1))

/-- The 64 bytes of the entry of index `i` in a ring's storage (R294, R297). -/
def ringEntryBytes (m : Mod) (r i : Nat) : List Byte :=
  let k := i % m.ringCap r
  let base := (m.rd (RING_BASE r)).toNat
  let slot := m.fld (RING_CTL r) 45 3
  match m.ringLoc r with
  | 0 => m.ldHbm slot (base + 64 * k) 64
  | 1 => m.ldDowelWords (tileOfRing r) (base / 2 ^ 24 % 256) (base % 2 ^ 24 + 2 * k) 2
  | 2 => m.ld (hostAt (base + 64 * k)) 64
  | _ => m.ld (galleryAt (base + 64 * k)) 64

/-- Writes the entry of index `i` of a ring's storage. -/
def setRingEntryBytes (m : Mod) (r i : Nat) (b : List Byte) : Mod :=
  let k := i % m.ringCap r
  let base := (m.rd (RING_BASE r)).toNat
  let slot := m.fld (RING_CTL r) 45 3
  match m.ringLoc r with
  | 0 => m.stHbm slot (base + 64 * k) b
  | 1 => m.stDowelWords (tileOfRing r) (base / 2 ^ 24 % 256) (base % 2 ^ 24 + 2 * k) 2 b
  | 2 => m.st (hostAt (base + 64 * k)) b
  | _ => m.st (galleryAt (base + 64 * k)) b

/-- A completion record (R304). -/
def completionRecord (ring : Nat) (status : W16) (index : Nat) (tag : W16) (time : W64) (bytes : Nat) (detail : List Byte) : List Byte :=
  bytesOf 2 ring ++ bytesOf 2 status.toNat ++ bytesOf 4 index ++ bytesOf 2 tag.toNat ++ bytesOf 6 0 ++
    bytesOf 8 time.toNat ++ bytesOf 8 bytes ++ (detail ++ List.replicate 32 0).take 32

/-- Where a ring's completions go: CQ_RING with CQ_VALID (R294). -/
def cqOf (m : Mod) (r : Nat) : Option Nat :=
  if m.flag (RING_COMPL r) 63 then some (m.fld (RING_COMPL r) 32 16) else none

/-- What became of a completion record (R299): written, its ring full, or dropped because the ring is not enabled or SAVED. -/
inductive RecordFate where
  | written | full | dropped
  deriving DecidableEq, Repr

def recordFate (m : Mod) (cq : Nat) : RecordFate :=
  if ¬ m.ringEnabled cq ∨ m.ringState cq = 6 then .dropped
  else if m.ringFill cq = m.ringCap cq then .full
  else .written

/-- Writes a record into a completion ring that has room: TAIL advances, and MSI-X is sent when the ring was empty (R298, R299). -/
def pushRecord (m : Mod) (cq : Nat) (b : List Byte) : Mod :=
  let wasEmpty := decide (m.ringFill cq = 0)
  let t := m.ringTail cq
  let m := m.setRingEntryBytes cq t b
  let m := m.setRingTail cq ((t + 1) % 2 ^ 32)
  let m := if m.ringState cq = 1 then m.setRingState cq 2 else m
  if wasEmpty && m.flag (RING_COMPL cq) 31 then m.sendOut (.msix (m.fld (RING_COMPL cq) 16 11)) else m

/-- Stops a ring at once: entries not yet started are not performed, DISABLED (R296); a Feed flow closes with its ring (R437). -/
def stopRingNow (m : Mod) (r : Nat) : Mod :=
  let m := m.setF (RING_CTL r) 0 4 0
  let m := if ringKind r = 4 then m.setF (flowReg (ifaceOfRing r) (flowOfRing r) 56) 0 8 0 else m
  m.setRing r { m.ringOf r with stopping := false, headRelease := .none, waitOn := none, inError := false }

/-- The ring enters ERROR (R303). -/
def errRing (m : Mod) (r : Nat) : Mod := (m.setRingState r 5).setRing r { m.ringOf r with inError := true }

/-- The state of a ring that runs: ERROR once it has entered it or a refused entry is in it, WAIT_BUOY, IDLE or ACTIVE; DISABLED, STALLED, ERROR and SAVED stay (R294, R299, R303). -/
def settleRing (m : Mod) (r : Nat) : Mod :=
  if m.ringState r = 0 ∨ 4 ≤ m.ringState r then m
  else if (m.ringOf r).inError || (m.ringOf r).prog.any (fun e => e.refused) then m.errRing r
  else if (m.ringOf r).waitOn.isSome then m.setRingState r 3
  else if m.ringFill r = 0 then m.setRingState r 1
  else m.setRingState r 2

/-- The rings whose control word is not at its reset value. -/
def ringKeys (m : Mod) : List Nat :=
  (m.regs.filter (fun p => decide (0x100_0000 ≤ p.1) && decide (p.1 < 0x140_0000) && decide (p.1 % 64 = 0))).map
    (fun p => (p.1 - 0x100_0000) / 64)

/-- The rings of a slot that are not DISABLED. -/
def ringsOf (m : Mod) (s : Nat) : List Nat :=
  m.ringKeys.filter (fun r => decide (m.slotOfRing r = some s) && decide (m.ringState r ≠ 0))

end Sys2Proof.Machine.Mod
end

