-- ==== Sys2Proof/Machine/Buoys.lean ====
section
/-! DEFINITION. The buoy homes (R273 to R292): conditions, releases, watches, gate subscriptions, the three operations, going BROKEN, pre-emption. -/

namespace Sys2Proof.Machine

/-- A wait condition of R279: 0 v ≥ x, 1 v = x, 2 v ≠ x, 3 masked equality. -/
def condHolds (cond : BitVec 3) (v x mask : W32) : Bool :=
  match cond.toNat with
  | 0 => decide (x.toNat ≤ v.toNat)
  | 1 => decide (v = x)
  | 2 => decide (v ≠ x)
  | 3 => decide (v &&& mask = x &&& mask)
  | _ => false

/-- The watch message of R283. -/
def watchMessage (b : Nat) (status : Nat) (cookie value lastSrc : W32) (time : W64) : List Byte :=
  bytesOf 2 b ++ bytesOf 1 status ++ bytesOf 1 0 ++ bytesOf 4 cookie.toNat ++ bytesOf 4 value.toNat ++
    bytesOf 4 lastSrc.toNat ++ bytesOf 8 time.toNat ++ bytesOf 8 0

namespace Mod

/-- Sends a release to a waiting unit (R280, R281, R285). -/
def sendRelease (m : Mod) (w : Waiter) (x : Release) : Mod :=
  match w with
  | .thread t th => m.modThread t th (fun h => { h with release := x })
  | .ringHead r => m.setRing r { m.ringOf r with headRelease := x }

/-- LAST_SRC as a watch message to a target shows it: 0 to a Gallery core, through which the host too registers its watches, in a sealed partition (R283, R292). -/
def shownSrc (m : Mod) (b : Nat) (target : Byte) : W32 :=
  if m.lockedOwner (m.slotOfBuoy b) && decide (target.toNat < 8) then 0 else (m.buoy b).lastSrc

/-- A watch message to Gallery completes the BUOY_WATCH whose watch it answers: its entry is done, with the message as DETAIL (R516). -/
def answerWatch (m : Mod) (b : Nat) (w : Watch) (msg : List Byte) : Mod :=
  match m.cmds.find? (fun c => decide (num c.packet 0 2 = 0x42) && decide (num c.packet 0x18 2 % 8192 = b) && decide (num c.packet 0x24 4 = w.cookie.toNat)) with
  | some c => match c.ch with
    | .ring r =>
      let m := { m.addCnt CNT_CMD_DONE 1 with cmds := m.cmds.erase c }
      m.setRing r { m.ringOf r with prog := (m.ringOf r).prog.map (fun e => if e.index = c.index then { e with done := true, detail := msg } else e) }
    | .mcmd => m
  | none => m

/-- Sends a watch message to its target (R283). -/
def sendWatch (m : Mod) (b : Nat) (w : Watch) (status : Nat) (value : W32) : Mod :=
  let msg := watchMessage b status w.cookie value (m.shownSrc b w.target) m.count
  let m := m.sendOut (.watchMsg w.target msg)
  if w.target.toNat < 8 then m.answerWatch b w msg else m

/-- Sends a gate message to each plane of a mask (R284). -/
def sendGates (m : Mod) (b : Nat) (subs : W32) (status : Nat) (value : W32) : Mod :=
  forEach m ((upto 32).filter (fun s => bit subs s)) (fun m s =>
    let target := BitVec.ofNat 8 (0x20 + s)
    m.sendOut (.watchMsg target (watchMessage b status 0 value (m.shownSrc b target) m.count)))

/-- After an operation, or on the return to LIVE, the home evaluates every waiter, watch and subscription against the value (R281, R282, R284, R286). -/
def evalBuoy (m : Mod) (b : Nat) : Mod :=
  let x := m.buoy b
  let metW := x.waiters.filter (fun w => condHolds w.cond x.value w.value w.mask)
  let metX := x.watches.filter (fun w => condHolds w.cond x.value w.value w.mask)
  let subs := if x.value ≠ 0 then x.subs else 0
  let m := m.setBuoy b { x with
    waiters := x.waiters.filter (fun w => !condHolds w.cond x.value w.value w.mask)
    watches := x.watches.filter (fun w => !condHolds w.cond x.value w.value w.mask)
    subs := if x.value ≠ 0 then 0 else x.subs }
  let m := metW.foldl (fun m w => m.sendRelease w.who .met) m
  let m := metX.foldl (fun m w => m.sendWatch b w 0 x.value) m
  m.sendGates b subs 0 x.value

/-- Writes a value with its signaller and time, then evaluates (R275, R277). -/
def buoyWrite (m : Mod) (b : Nat) (v src : W32) : Mod :=
  (m.setBuoy b { m.buoy b with value := v, lastSrc := src, lastTime := m.count }).evalBuoy b

/-- The buoy is LIVE. -/
def buoyLive (m : Mod) (b : Nat) : Bool := decide ((m.buoy b).st = .live)

/-- Add on a LIVE buoy (R275). -/
def buoyAddOp (m : Mod) (b : Nat) (x src : W32) : Mod := m.buoyWrite b ((m.buoy b).value + x) src
/-- Set on a LIVE buoy (R275). -/
def buoySetOp (m : Mod) (b : Nat) (x src : W32) : Mod := m.buoyWrite b x src
/-- Compare-and-set on a LIVE buoy: it writes only when the value equals the compare operand (R275, R277). -/
def buoyCasOp (m : Mod) (b : Nat) (cmp x src : W32) : Mod :=
  if (m.buoy b).value = cmp then m.buoyWrite b x src else m

/-- Sets a buoy that the step block or power controller owns, when it is LIVE (R385, R389, R566: LAST_SRC 0). -/
def buoySetBy (m : Mod) (b : Nat) (x src : W32) : Mod := if m.buoyLive b then m.buoySetOp b x src else m

/-- The waiters that a saved context holds and that are still units of the module: its rings, and its threads until they have left their tiles (R286). -/
def savedHere (x : Buoy) : List WaitEntry := x.savedWaiters.filter (fun w => match w.who with
  | .thread _ _ => !x.away
  | .ringHead _ => true)

/-- A buoy goes BROKEN: waiters are released with BROKEN, watches and subscriptions send BROKEN (R285). -/
def breakBuoy (m : Mod) (b : Nat) : Mod :=
  let x := m.buoy b
  let m := m.setBuoy b { x with st := .broken, waiters := [], watches := [], subs := 0, savedWaiters := [], away := false }
  let m := (x.waiters ++ savedHere x).foldl (fun m w => m.sendRelease w.who .broken) m
  let m := x.watches.foldl (fun m w => m.sendWatch b w 1 0) m
  m.sendGates b x.subs 1 0

/-- Is a waiter a unit of the context `ctx`: a thread of the owner's partition, or a ring whose OWNER_CTX it is (R286; log entry 21). -/
def waiterOf (m : Mod) (ctx : W16) (slot : Option Nat) (w : WaitEntry) : Bool :=
  match w.who with
  | .thread t _ => decide (m.slotOfTile t = slot)
  | .ringHead r => decide (m.fld (RING_CTL r) 48 16 = ctx.toNat)

/-- Pre-emption: the saved context takes the value and its own waiters; the others, the watches and the mask stay (R286). -/
def preemptBuoy (m : Mod) (b : Nat) : Mod :=
  let x := m.buoy b
  let own := m.waiterOf x.owner (m.slotOfBuoy b)
  m.setBuoy b { x with
    st := .saved
    savedValue := x.value
    savedWaiters := x.waiters.filter own
    waiters := x.waiters.filter (fun w => !own w) }

/-- The return of a SAVED buoy to LIVE: value and waiters come back and everything is evaluated again (R274, R286). -/
def restoreBuoy (m : Mod) (b : Nat) : Mod :=
  let x := m.buoy b
  (m.setBuoy b { x with st := .live, value := x.savedValue, waiters := x.savedWaiters ++ x.waiters, savedWaiters := [], savedValue := 0, away := false }).evalBuoy b

/-- FREE: value 0, no owner, no waiters (R274); PUBLIC, a KG field, stays (R481). -/
def freeBuoy (m : Mod) (b : Nat) : Mod := m.setBuoy b { pub := (m.buoy b).pub }

/-- Withdraws a waiting unit from a buoy's waiter list (R99, R296). -/
def withdrawFrom (m : Mod) (b : Nat) (w : Waiter) : Mod :=
  let x := m.buoy b
  m.setBuoy b { x with
    waiters := x.waiters.filter (fun e => decide (e.who ≠ w))
    savedWaiters := x.savedWaiters.filter (fun e => !((savedHere x).contains e && decide (e.who = w))) }

/-- Clears ENABLE: the head withdraws from its waiter list; entries already started complete first (R296). -/
def stopRing (m : Mod) (r : Nat) : Mod :=
  let m := match (m.ringOf r).waitOn with
    | some b => m.withdrawFrom b (.ringHead r)
    | none => m
  let m := m.setFlag (RING_CTL r) 0 false
  if (m.ringOf r).prog.isEmpty then m.stopRingNow r
  else m.setRing r { m.ringOf r with stopping := true, headRelease := .none, waitOn := none }

/-- The buoys homed on the dies of a slot that the table lists. -/
def buoysOf (m : Mod) (s : Nat) : List Nat := (m.buoys.map (·.1)).filter (fun b => decide (m.slotOfBuoy b = some s))

end Mod

end Sys2Proof.Machine
end

