-- ==== Sys2Proof/Machine/TileBase.lean ====
section
/-! DEFINITION. Stopping and disabling the threads of a tile (R99, R125), the derived states of a tile (R584), and what a scrub zeroes (R84). -/

namespace Sys2Proof.Machine.Mod

def tileEnabled (m : Mod) (t : Nat) : Bool := m.flag (TILE_CTL t) 0

/-- Withdraws a thread's wait from the buoy home it may be registered at (R99, R125). -/
def withdrawThread (m : Mod) (t th : Nat) : Mod :=
  match (m.thread t th).waitOn with
  | .buoy b _ _ _ => m.withdrawFrom b (.thread t th)
  | _ => m

/-- A thread enters a state with its wait withdrawn and nothing left to release. -/
def settleThread (m : Mod) (t th : Nat) (x : ThState) : Mod :=
  (m.withdrawThread t th).modThread t th (fun h => { h with st := x, waitOn := .none, release := .none, held := .off })

/-- Every thread in READY or WAIT enters STOPPED and its waits are withdrawn (R125, R532). -/
def stopThreads (m : Mod) (t : Nat) : Mod :=
  forEach m (upto 4) (fun m th =>
    match (m.thread t th).st with
    | .ready => m.settleThread t th .stopped
    | .wait => m.settleThread t th .stopped
    | _ => m)

/-- The queue of a unit: 0 array, 1 output stage, 2 vector, 3 quantiser, 4 random (R102). -/
def unitNo : TileUnit → Nat
  | .array => 0 | .output => 1 | .vector => 2 | .quantiser => 3 | .random => 4

def queue (m : Mod) (t u : Nat) : List QEntry := Sparse.get (fun _ => []) (m.tile t).queues u
def setQueue (m : Mod) (t u : Nat) (q : List QEntry) : Mod :=
  m.modTile t (fun x => { x with queues := Sparse.put (fun _ => []) x.queues u q })
def allQueuesEmpty (m : Mod) (t : Nat) : Bool := (upto 5).all (fun u => (m.queue t u).isEmpty)

/-- The accumulators after a stopped pass: undefined, a free value in every cell (R99). -/
def loseAccs (m : Mod) (t : Nat) : Mod :=
  { m.modTile t (fun x => { x with accs := (upto 2048).map (fun c => (c, Config.stoppedCell t c m.free)) }) with free := m.free + 1 }

/-- The set and latch VALID bits clear, as they do when TILE_CTL.ENABLE changes in either direction (R138). -/
def clearValid (m : Mod) (t : Nat) : Mod := ((m.setF (ARR_STATUS t) 7 1 0).setF (ARR_STATUS t) 15 1 0).setF (ARR_STATUS t) 23 1 0
/-- The sequencer's clock comes back: SEQ_STATUS.GATED clears (R108). -/
def ungate (m : Mod) (t : Nat) : Mod := m.setFlag (SEQ_STATUS t) 32 false

/-- Clearing TILE_CTL.ENABLE (R99): issue stops, threads go OFF, waits are withdrawn, queues are discarded; a pass in progress leaves the accumulators undefined; the VALID bits clear (R138). -/
def disableTile (m : Mod) (t : Nat) : Mod :=
  if m.tileEnabled t then
    let m := forEach m (upto 4) (fun m th => m.settleThread t th .off)
    let busy := ((m.queue t 0) ++ (m.queue t 2)).any (fun e => e.started)
    let m := if busy then m.loseAccs t else m
    let m := m.modTile t (fun x => { x with queues := [], sent := x.sent.map (fun o => { o with live := false }) })
    let m := forEach m (upto 4) (fun m n => m.setF (GEN_CTL t n) 8 1 0)
    (m.clearValid t).setFlag (TILE_CTL t) 0 false
  else m

/-- TILE_STATUS.STATE: 0 OFF, 1 SCRUB, 2 IDLE, 3 ACTIVE, 4 HALTED (R584). -/
def tileState (m : Mod) (t : Nat) : Nat :=
  match m.slotOfTile t with
  | none => 0
  | some s =>
    if (m.part s).m2 then 0
    else if (m.tile t).scrub.isSome then 1
    else if m.tileEnabled t && (m.halted || (m.tile t).heldSave) then 4
    else if m.tileEnabled t then 3
    else 2

/-- The tile scrubs: accesses are refused (R85). -/
def scrubbing (m : Mod) (t : Nat) : Bool := (m.tile t).scrub.isSome

/-- The Keeper's write of TILE_SEC: another domain or SCRUB starts the scrub, after the enable is cleared (R83). -/
def keeperDomain (m : Mod) (t : Nat) (domain : W16) (scrub : Bool) : Mod :=
  if domain.toNat ≠ m.fld (TILE_SEC t) 0 16 ∨ scrub = true then
    let m := m.disableTile t
    let m := m.setF (TILE_SEC t) 0 16 domain.toNat
    m.modTile t (fun x => { x with scrub := some domain })
  else m

/-- The counters of a tile's logical window, by offset (R84). -/
def tileCounters : List Nat :=
  (upto 8).map (fun i => 0x100 + 8 * i) ++ (upto 6).map (fun i => 0x1_0100 + 8 * i) ++
  (upto 8).map (fun i => 0x2_0100 + 8 * i) ++ (upto 11).map (fun i => 0x3_0100 + 8 * i) ++
  (upto 6).map (fun i => 0x4_0100 + 8 * i)

/-- What the scrub leaves (R84): memory zero, every quarter in scratchpad mode, dowels not VALID, jigs disabled, array, latch, output stage configuration (R138), block buffer, tags, cache and generators zero, the sequencer sub-window and every counter zero.  That it also empties the shadow buffer and the counts on their way to the numeric table, drops mitre copies (MITRE_STATUS 0), and zeroes all of ARR_STATUS is read from the purpose of the scrub: R84 does not list them (DEDUCED, log entry 96). -/
def scrubTile (m : Mod) (t : Nat) : Mod :=
  let m := m.clearMem (scratchAt t 0) (scratchAt (t + 1) 0)
  let m := m.wr (VENEER_CTL t) 0
  let m := (m.unstage (VENEER_CTL t)).wr (VENEER_STATUS t) 0
  let m := forEach m (upto 256) (fun m d => m.setFlag (DOWEL0 t d) 63 false)
  let m := forEach m (upto 6) (fun m j => (m.setFlag (JIG_CTL t j) 0 false).setF (JIG_STATUS t j) 0 4 0)
  let m := forEach (m.wr (MITRE_STATUS t) 0) (upto 6) (fun m k => m.wr (tileReg t (0x2_0000 + 8 * k)) 0)
  let m := forEach m (upto 4) (fun m n => forEach m (upto 5) (fun m k => m.wr (genReg t n (8 * k)) 0))
  let m := forEach m (upto 6) (fun m k => m.wr (tileReg t (0x1_0000 + 8 * k)) 0)
  let m := forEach m tileCounters (fun m o => m.wr (tileReg t o) 0)
  let x := m.tile t
  m.setTile t { x with
    threads := [], queues := [], icache := [], jigs := [], accs := [], latch := [], shadow := [], shadowShape := 0, tableQ := []
    veneer := [], prefetch := [], mitre := [], block := [], lastIssue := 3, accepted := false, scrub := none }

/-- The buoys of a compute die that the scrub under R83 frees: BROKEN ones go FREE (R274). -/
def freeBroken (m : Mod) (d : Nat) : Mod :=
  forEach m ((m.buoys.map (·.1)).filter (fun b => decide (dieOfBuoy b = d) && decide ((m.buoy b).st = .broken)))
    (fun m b => m.freeBuoy b)

end Sys2Proof.Machine.Mod
end

