-- ==== Sys2Proof/Machine/Votes.lean ====
section
/-! DEFINITION. Vote words (R421 to R424): groups, the word that a module sends in each dimension, forwarding and combination; the two step votes (R383, R384). -/

namespace Sys2Proof.Machine

namespace Mod

/-! ## The torus (R404) -/

/-- This module's coordinate in dimension `x` (0 X, 1 Y, 2 Z). -/
def coord (m : Mod) (x : Nat) : Nat := m.fld JC_TOPO (4 * x) 4
/-- The size of dimension `x`. -/
def dimSize (m : Mod) (x : Nat) : Nat := m.fld JC_TOPO (12 + 4 * x) 4 + 1
/-- A port's state: 0 DOWN, 1 TRAINING, 2 ALIGNING, 3 WAITING, 4 ACTIVE, 5 FAILED (R408). -/
def portState (m : Mod) (j : Nat) : Nat := m.fld (JC_STATUS j) 0 4
def setPortState (m : Mod) (j v : Nat) : Mod := m.setF (JC_STATUS j) 0 4 v
def portActive (m : Mod) (j : Nat) : Bool := decide (m.portState j = 4)

/-! ## Groups (R421) -/

def groupValid (m : Mod) (s g : Nat) : Bool := m.flag (VGROUP s g 0) 48
/-- The start of a group in dimension `x`. -/
def groupStart (m : Mod) (s g x : Nat) : Nat := m.fld (VGROUP s g 0) (16 * x) 8
/-- The count N of a group in dimension `x`. -/
def groupSize (m : Mod) (s g x : Nat) : Nat := m.fld (VGROUP s g 0) (16 * x + 8) 8
def groupMembers (m : Mod) (s g : Nat) : Nat := m.fld (VGROUP s g 1) 16 16
/-- This module's position in its line of the group in dimension `x`. -/
def linePos (m : Mod) (s g x : Nat) : Nat := (m.coord x + m.dimSize x - m.groupStart s g x % m.dimSize x) % m.dimSize x

/-- How many hops a word sent in a direction travels (R423). -/
def voteReach (m : Mod) (s g x : Nat) (plus : Bool) : Nat :=
  let n := m.groupSize s g x
  let d := m.dimSize x
  if n = d then
    let pOk := m.portActive (2 * x + 1)
    let mOk := m.portActive (2 * x)
    if plus then (if !pOk then 0 else if !mOk then n - 1 else d / 2)
    else (if !mOk then 0 else if !pOk then n - 1 else ceilDiv d 2 - 1)
  else if plus then n - 1 - m.linePos s g x else m.linePos s g x

/-- The key slot of the link dies that a partition's job tag has (R410), if one is VALID and LOADED. -/
def keySlotOf (m : Mod) (s : Nat) : Option Nat :=
  (upto 16).find? (fun i => m.flag (JC_KEYSLOT i) 19 && m.flag (JC_KEYSLOT i) 20 && decide (m.fld (JC_KEYSLOT i) 16 3 = s))
def jobTagOf (m : Mod) (s : Nat) : Nat := match m.keySlotOf s with
  | some i => m.fld (JC_KEYSLOT i) 0 16
  | none => m.fld (PART_JOB s) 0 16

/-- A VOTE block (R413, R422): its first 16 bytes and their GCM tag. -/
def voteBlock (m : Mod) (s j : Nat) (w : VoteWord) (hops : Nat) : List Byte :=
  let body := bytesOf 1 7 ++ bytesOf 1 0 ++ bytesOf 2 (m.jobTagOf s) ++ bytesOf 1 (w.kind + 16 * w.phase) ++ bytesOf 1 w.group ++
    bytesOf 2 (w.origin + 4096 * hops) ++ bytesOf 4 w.refr.toNat ++ bytesOf 2 w.count ++ bytesOf 2 w.flags.toNat
  let key := m.keyAt (.link j ((m.keySlotOf s).getD 0))
  body ++ bytesOf 16 (Config.gcmTag key (bytesOf 8 (m.port j).ctlCtr.toNat ++ [0xFF, 0] ++ bytesOf 2 m.moduleId) body).toNat

/-- Queues a control block on a port. -/
def queueCtrl (m : Mod) (j : Nat) (b : List Byte) : Mod := m.setPort j { m.port j with ctrl := (m.port j).ctrl ++ [b] }

/-- Queues a vote word on a port, under the port's control counter. -/
def queueVote (m : Mod) (s j : Nat) (w : VoteWord) (hops : Nat) : Mod :=
  let b := m.voteBlock s j w hops
  (m.setPort j { m.port j with ctlCtr := (m.port j).ctlCtr + 1 }).queueCtrl j b

/-- Sends a word on both ports of its dimension, as far as each direction has a hop (R423). -/
def launchWord (m : Mod) (s : Nat) (w : VoteWord) : Mod :=
  let m := if 0 < m.voteReach s w.group w.phase true then m.queueVote s (2 * w.phase + 1) w 1 else m
  if 0 < m.voteReach s w.group w.phase false then m.queueVote s (2 * w.phase) w 1 else m

end Mod


/-- Combines the flags of two words of one kind: READY and STEER_OK by AND, SKIP and FATAL by OR (R423). -/
def combineFlags (kind : Nat) (a b : W16) : W16 :=
  if kind = 1 then a &&& b
  else if kind = 2 then a ||| b
  else ((a ||| b) &&& 2) ||| ((a &&& b) &&& 4)

namespace Mod

/-- The vote of a kind that a slot keeps; launch votes are kept by REF, the low 32 bits of their mark's count. -/
def voteOf (m : Mod) (s kind : Nat) (refr : W32) : StepVote :=
  if kind = 1 then Sparse.get (fun _ => {}) (m.part s).launches refr.toNat else if kind = 2 then (m.part s).vote1 else (m.part s).vote2
def setVoteOf (m : Mod) (s kind : Nat) (refr : W32) (v : StepVote) : Mod :=
  m.modPart s (fun p => if kind = 1 then { p with launches := Sparse.put (fun _ => {}) p.launches refr.toNat v }
    else if kind = 2 then { p with vote1 := v } else { p with vote2 := v })

/-- The words that a module holds of one vote and phase. -/
def votesHeld (m : Mod) (s : Nat) (w : VoteWord) : List VoteWord :=
  (m.part s).votes.filter (fun v => decide (v.kind = w.kind ∧ v.phase = w.phase ∧ v.group = w.group ∧ v.refr = w.refr))

/-- The phases of R423 in order, from `w.phase`, at most `n` more: a dimension with N = 1 is skipped; a phase whose line is complete combines and starts the next; the last phase stores the complete vote. -/
def advanceVote (m : Mod) (s : Nat) (w : VoteWord) : Nat → Mod
  | 0 => m
  | n + 1 =>
    if 3 ≤ w.phase then m.setVoteOf s w.kind w.refr { sent := true, count := w.count, flags := w.flags, at_ := (m.voteOf s w.kind w.refr).at_ }
    else if m.groupSize s w.group w.phase ≤ 1 then advanceVote m s { w with phase := w.phase + 1 } n
    else
      let held := m.votesHeld s w
      let others := held.filter (fun v => decide (v.origin ≠ w.origin))
      if others.length + 1 < m.groupSize s w.group w.phase then m
      else
        let c : VoteWord := others.foldl (fun (a v : VoteWord) => { a with flags := combineFlags w.kind a.flags v.flags, count := a.count + v.count }) w
        let nxt : VoteWord := { c with phase := w.phase + 1 }
        let m := if nxt.phase < 3 ∧ 1 < m.groupSize s nxt.group nxt.phase then
            (m.modPart s (fun p => { p with votes := p.votes ++ [nxt] })).launchWord s nxt else m
        advanceVote m s nxt n

/-- Starts the exchange of a vote over a group: the module's own word in its first phase (R423). -/
def startVote (m : Mod) (s kind g : Nat) (refr : W32) (flags : W16) : Mod :=
  let ph := if 1 < m.groupSize s g 0 then 0 else if 1 < m.groupSize s g 1 then 1 else if 1 < m.groupSize s g 2 then 2 else 3
  let w : VoteWord := { kind := kind, phase := ph, group := g, origin := m.moduleId, refr := refr, count := 1, flags := flags }
  let m := m.setVoteOf s kind refr { sent := true, count := 0, flags := flags, at_ := m.pausedCount }
  let m := if ph < 3 then (m.modPart s (fun p => { p with votes := p.votes ++ [w] })).launchWord s w else m
  m.advanceVote s w 5

/-! ## Step votes (R383, R384) -/

/-- J of the loaded job table (R344); a job without a table runs on one module. -/
def jobModules (m : Mod) (s : Nat) : Nat := max 1 (natOf (((m.part s).layout.jobTable.drop 4).take 2))
/-- A buoy field of STEP_CFG0 or STEP_CFG1, or VOTE1_RECORD (R399). -/
def flagBuoy (m : Mod) (s : Nat) : Nat := m.fld (STEP_CFG0 s) 51 13
def repGateBuoy (m : Mod) (s : Nat) : Nat := m.fld (STEP_CFG0 s) 38 13
def locGateBuoy (m : Mod) (s : Nat) : Nat := m.fld (STEP_CFG0 s) 25 13
def settleBuoy (m : Mod) (s : Nat) : Nat := m.fld (STEP_CFG0 s) 12 13
def vote1Record (m : Mod) (s : Nat) : Nat := m.fld (STEP_CFG0 s) 0 10
def finalBuoy (m : Mod) (s : Nat) : Nat := m.fld (STEP_CFG1 s) 51 13
def steerPendBuoy (m : Mod) (s : Nat) : Nat := m.fld (STEP_CFG1 s) 38 13
def steerBuoy (m : Mod) (s : Nat) : Nat := m.fld (STEP_CFG1 s) 25 13
/-- STEP_STATUS.PHASE: 0 IDLE, 1 RUN, 2 VOTE, 3 UPDATE, 4 SETTLE, 5 FINAL, 6 ROLLBACK (R399). -/
def stepPhase (m : Mod) (s : Nat) : Nat := m.fld (STEP_STATUS s) 0 4
def setStepPhase (m : Mod) (s v : Nat) : Mod := m.setF (STEP_STATUS s) 0 4 v
def stepFatal (m : Mod) (s : Nat) : Bool := m.flag (STEP_STATUS s) 8

/-- The group that the votes of a step go to: VOTE_GROUP of VOTE1_RECORD (R384). -/
def stepGroup (m : Mod) (s : Nat) : Nat := m.fld (XCH_RECORD s (m.vote1Record s) 1) 0 16

/-- Sends a step vote: in a job of one module it is complete at once (R384). -/
def sendStepVote (m : Mod) (s kind : Nat) (flags : W16) : Mod :=
  if m.jobModules s = 1 then m.setVoteOf s kind 0 { sent := true, count := 1, flags := flags, at_ := m.pausedCount }
  else m.startVote s kind (m.stepGroup s) ((m.rd (STEP_NUM s)).truncate 32) flags

/-- Vote 1 (R383): SKIP when FLAG_BUOY is not 0, FATAL when a step-fatal error was raised; STEP_RESULT takes FLAG_BUOY (R399). -/
def takeVote1 (m : Mod) (s : Nat) : Mod :=
  if (m.part s).vote1.sent then m
  else
    let v := (m.buoy (m.flagBuoy s)).value
    let m := m.setF (STEP_RESULT s) 32 32 v.toNat
    let m := m.setStepPhase s 2
    m.sendStepVote s 2 ((if v ≠ 0 then 1 else 0) ||| (if m.stepFatal s then 2 else 0))

/-- Vote 2 (R383): FATAL for a step-fatal error, STEER_OK under R396. -/
def takeVote2 (m : Mod) (s : Nat) : Mod :=
  if (m.part s).vote2.sent then m
  else m.sendStepVote s 3 ((if m.stepFatal s then 2 else 0) ||| (if (m.part s).steerOk then 4 else 0))

/-- The votes of every module are present (R384). -/
def voteComplete (m : Mod) (s kind : Nat) : Bool :=
  let v := m.voteOf s kind 0
  v.sent && decide (v.count = if m.jobModules s = 1 then 1 else m.groupMembers s (m.stepGroup s))

end Mod

end Sys2Proof.Machine
end

