-- ==== Sys2Proof/Machine/Errors.lean ====
section
/-! DEFINITION. Errors (R528 to R542): the severity of every code, the records, the ring, nesting and escalation, and what each severity makes the module do.  One operation raises every error. -/

namespace Sys2Proof.Machine

/-- The severity of an error code (R530 and the code tables): 0 corrected, 1 step-fatal, 2 partition-fatal, 3 module-fatal.  `slotted` says that the scope is a partition, which 0x1027 asks for (R555). -/
def severityOf (code : W16) (slotted : Bool) : Nat :=
  let c := code.toNat
  if [0x0221, 0x032E, 0x0522, 0x0721, 0x0722, 0x0723, 0x0921, 0x0928, 0x0B23, 0x0B24, 0x0B25, 0x0C21, 0x0C23, 0x0C25,
      0x0C28, 0x0D21, 0x0D23, 0x0E21, 0x0E22, 0x0E23, 0x0E24, 0x0E25, 0x0F21, 0x0F24, 0x0F25, 0x0F26, 0x1021, 0x1024,
      0x1028, 0x1121, 0x1122, 0x1123, 0x1129, 0x112A, 0x112B].contains c then 0
  else if [0x0121, 0x0224, 0x0724, 0x0726, 0x0821, 0x0925, 0x0B21, 0x0B22, 0x0B27, 0x0F22, 0x1022, 0x1023, 0x1025,
      0x1026, 0x1126].contains c then 2
  else if [0x0725, 0x0F23, 0x0F27, 0x0F28, 0x0F29, 0x0F2A, 0x1124, 0x1125, 0x1127, 0x1128].contains c then 3
  else if c = 0x1027 then (if slotted then 2 else 0)
  else 1

/-- An error as a unit raises it (R541).  A DETAIL that is not given is a free value: for a memory, a link or any other unit the spec states no layout of it; a trap gives SEQ_TRAP (log entry 57). -/
structure ErrIn where
  code : W16
  slot : Option Nat := none
  kind : Nat := 0
  unit : Nat := 0
  loc : Nat := 0
  detail : Option W128 := none
  deriving DecidableEq, Repr

/-- The 64 bytes of a record (R541). -/
def ErrRec.bytes (r : ErrRec) : List Byte :=
  bytesOf 2 r.code.toNat ++ bytesOf 1 r.severity ++ [r.flags] ++ [r.slot] ++ [r.unitKind] ++ bytesOf 2 r.unit.toNat ++
  bytesOf 8 r.time.toNat ++ bytesOf 8 r.step.toNat ++ bytesOf 8 r.location.toNat ++ bytesOf 16 r.detail.toNat ++
  bytesOf 4 r.seq.toNat ++ bytesOf 4 r.also.toNat ++ bytesOf 1 r.handling ++ bytesOf 1 0 ++ bytesOf 2 r.escCode.toNat ++
  bytesOf 4 r.deadline.toNat

/-- Word `w` of a record. -/
def ErrRec.word (r : ErrRec) (w : Nat) : W64 := BitVec.ofNat 64 (natOf ((r.bytes.drop (8 * w)).take 8))

namespace Mod

/-! ## Records -/

/-- Sends the vector of HI_ERR_VEC (R537). -/
def sendErrVec (m : Mod) : Mod := if m.flag HI_ERR_VEC 16 then m.sendOut (.msix (m.fld HI_ERR_VEC 0 11)) else m

/-- Appends to the error ring; a full ring counts instead; an entry into an empty ring sends the vector (R537). -/
def appendErr (m : Mod) (r : ErrRec) : Mod :=
  let tail := (m.rd ERR_RING_TAIL).toNat
  let fill := (tail + 2 ^ 32 - (m.rd ERR_RING_HEAD).toNat % 2 ^ 32) % 2 ^ 32
  if fill = 1024 then m.addCnt CNT_RING_OVF 1
  else
    let m := { m with ring := Sparse.put (fun _ => {}) m.ring (tail % 1024) r }
    let m := m.wr ERR_RING_TAIL (BitVec.ofNat 64 ((tail + 1) % 2 ^ 32))
    if fill = 0 then m.sendErrVec else m

/-- The record of an error in a scope, with the next error number; redacted in a sealed partition (R541, R542). -/
def mkRec (m : Mod) (e : ErrIn) (scope : Option Nat) (sev : Nat) : ErrRec :=
  let red := m.lockedOwner scope
  { code := e.code, severity := sev, flags := if red then 2 else 0
    slot := match scope with | some s => BitVec.ofNat 8 s | none => 0xFF
    unitKind := BitVec.ofNat 8 e.kind, unit := BitVec.ofNat 16 e.unit, time := m.count
    step := match scope with | some s => m.rd (STEP_NUM s) | none => 0
    location := BitVec.ofNat 64 e.loc, detail := if red then 0 else e.detail.getD (Config.errDetail m.errSeq)
    seq := BitVec.ofNat 32 m.errSeq }

/-- The scope's key in the table of first-error records: the slot, or 8 (R537). -/
def scopeKey : Option Nat → Nat
  | some s => s
  | none => 8

def feValid (m : Mod) (k : Nat) : Bool := m.flag ERR_FE_VALID k
/-- The level of the handling in progress in a scope: 0 none, 1 to 3, 4 DARK (R541). -/
def handling (m : Mod) (k : Nat) : Nat := (m.first k).handling
/-- Module-fatal handling is in progress, or DARK reached (R538). -/
def fatalStopped (m : Mod) : Bool := decide (3 ≤ m.handling 8)

/-- The deadline of a handling that starts now; in HALTED those of the lower levels run from the halt, to be moved by all of it on resume (R538, R539). -/
def deadlineFor (m : Mod) (level : Nat) : W64 :=
  if level = 1 then m.pausedCount + m.rd ERR_DL_STEP else if level = 2 then m.pausedCount + m.rd ERR_DL_PART else m.count + m.rd ERR_DL_MOD

/-- ERR_STATUS shows which scopes are being handled (R551). -/
def showHandling (m : Mod) (k level : Nat) : Mod :=
  if k < 8 then m.setFlag ERR_STATUS (16 + k) (decide (level = 1 ∨ level = 2 ∨ level = 3))
  else m.setF ERR_STATUS 0 3 (if level = 3 then 1 else if level = 4 then 2 else 0)

/-- Sets the level of a scope's handling. -/
def setHandling (m : Mod) (k level : Nat) : Mod :=
  (m.setFirst k { m.first k with handling := level, deadline := m.deadlineFor level }).showHandling k level

/-- Ends a handling. -/
def endHandling (m : Mod) (k : Nat) : Mod :=
  (m.setFirst k { m.first k with handling := 0, deadline := 0 }).showHandling k 0

/-- Captures the first error of a scope; the vector is sent when the record becomes valid (R537). -/
def capture (m : Mod) (k : Nat) (r : ErrRec) : Mod :=
  if m.feValid k then m
  else ((m.setFirst k { r with handling := m.handling k, deadline := (m.first k).deadline }).setFlag ERR_FE_VALID k true).sendErrVec

/-- The status registers show the last error (R399, R470, R522, R551, R580). -/
def noteCode (m : Mod) (code : W16) (slot : Option Nat) : Mod :=
  let m := (m.setF ERR_STATUS 48 16 code.toNat).noteRange code slot
  if code.toNat / 256 = 0x0F then m.setF KPR_STATUS 48 16 code.toNat else m

/-- Counts an error by its severity (R551). -/
def countErr (m : Mod) (sev : Nat) : Mod :=
  m.addCnt (if sev = 0 then CNT_CORR else if sev = 1 then CNT_STEP_FATAL else if sev = 2 then CNT_PART_FATAL else CNT_MOD_FATAL) 1

/-- A nested error: ALSO counts it and the ring takes it with NESTED set (R538), a corrected one only while LOG_CORR is 1 (R537). -/
def nestErr (m : Mod) (k : Nat) (r : ErrRec) : Mod :=
  let f := m.first k
  let m := (m.setFirst k { f with also := f.also + 1 }).addCnt CNT_ALSO 1
  if r.severity = 0 ∧ m.flag ERR_CTL 0 = false then m else m.appendErr { r with flags := r.flags ||| 4 }

/-! ## What the severities do -/

/-- The actions of a step-fatal error while a job runs (R532): FATAL, vote 1 at once, threads stopped.  After decision 2 with FINAL it counts in the following step. -/
def stepFatalActions (m : Mod) (s : Nat) : Mod :=
  if m.stepPhase s = 5 then m.modPart s (fun p => { p with stepFatalNext := true })
  else
    let m := m.setFlag (STEP_STATUS s) 8 true
    let m := if m.stepPhase s ≤ 1 then m.takeVote1 s else m
    forEach m (m.tilesOf s) (fun m t => m.stopThreads t)

/-- The actions of a partition-fatal error (R535): outstanding votes go out with FATAL, tiles are disabled, rings stop, LIVE buoys go BROKEN.  FAULT is reached at PARTITION_FAULT_REACHED. -/
def partFatalActions (m : Mod) (s : Nat) : Mod :=
  let m := if m.jobRuns s then
      let m := m.setFlag (STEP_STATUS s) 8 true
      (m.takeVote1 s).takeVote2 s
    else m
  let m := forEach m (m.tilesOf s) (fun m t => m.disableTile t)
  let m := forEach m (m.ringsOf s) (fun m r => m.stopRing r)
  forEach m ((m.buoysOf s).filter (fun b => m.buoyLive b)) (fun m b => m.breakBuoy b)

/-- The first actions of a module-fatal error (R536): tiles stop, no phase launches (the handling level says so), ports go DOWN, the Keeper is to send ZEROISE. -/
def modFatalActions (m : Mod) : Mod :=
  let m := forEach m m.slots (fun m s => forEach m (m.tilesOf s) (fun m t => m.disableTile t))
  let m := forEach m (upto 6) (fun m j => m.setPortState j 0)
  { m.abortDialogue with zeroising := true, fatalAt := m.count }

/-! ## Raising -/

/-- Records a module-fatal error in its scope and in every partition, and starts its handling; a fault of the Keeper die itself is noted, for the Keeper then sends no ZEROISE (R536, R538). -/
def raiseModule (m : Mod) (e : ErrIn) (r : ErrRec) : Mod :=
  let m := m.capture 8 r
  let m := forEach m m.slots (fun m s => m.capture s { r with slot := BitVec.ofNat 8 s, step := m.rd (STEP_NUM s) })
  let m := m.appendErr r
  let m := m.setHandling 8 3
  let m := if m.feValid 8 ∧ (m.first 8).code ≠ e.code then m.sendErrVec else m
  { m.modFatalActions with keeperBad := decide (e.unit = 31) && (decide (e.kind = 0x0A) || decide (e.code = 0x1127)) }

/-- A partition-fatal error that starts or escalates the handling of a slot (R535, R538). -/
def raisePart (m : Mod) (s : Nat) (e : ErrIn) (r : ErrRec) : Mod :=
  let esc := decide (m.handling s = 1)
  let m := (m.capture s r).appendErr r
  let m := if esc then
      let f := m.first s
      (m.setFirst s { f with escCode := e.code, flags := f.flags ||| 1 }).addCnt CNT_ESCALATED 1
    else m
  (m.setHandling s 2).partFatalActions s

/-- The error of the rollback limit (R534). -/
def rollbackLimit (s : Nat) : ErrIn := { code := 0x1026, slot := some s, kind := 0x0B, unit := s }

/-- A step-fatal error during the reshard step abandons the RESHARD: 0x0A22, with the effect of step 5 of R361 (R362); its command completes at RESHARD_STEP_END. -/
def abandonReshard (m : Mod) (s : Nat) : Mod :=
  if !(m.part s).reshard then m
  else
    let e : ErrIn := { code := 0x0A22, slot := some s, kind := 0x0B, unit := s }
    let r := m.mkRec e (some s) 1
    let m := { m with errSeq := m.errSeq + 1 }
    (((m.noteCode e.code e.slot).countErr 1).appendErr r).modPart s (fun p => { p with reshard := false, reshardLost := true })
/-- A step-fatal error that starts a handling; at the rollback limit 0x1026 takes the rollback's place and escalates it; without a running job its handling ends at once (R532, R534). -/
def raiseStep (m : Mod) (s : Nat) (r : ErrRec) : Mod :=
  let m := (m.capture s r).appendErr r
  if m.jobRuns s then
    if m.fld ERR_CTL 1 3 ≤ (m.part s).rollbacks then
      let e := rollbackLimit s
      let m := { m with errSeq := m.errSeq + 1 }
      let r2 := m.mkRec e (some s) 2
      (((m.setHandling s 1).noteCode e.code e.slot).countErr 2).raisePart s e r2
    else (m.setHandling s 1).stepFatalActions s
  else m.abandonReshard s

/-- Raises an error (R530, R531, R537, R538). -/
def raise (m : Mod) (e : ErrIn) : Mod :=
  let sev := severityOf e.code e.slot.isSome
  let scope := if sev = 3 then none else e.slot
  let m := (m.noteCode e.code e.slot).countErr sev
  let r := m.mkRec e scope sev
  let m := { m with errSeq := m.errSeq + 1 }
  let k := scopeKey scope
  if m.fatalStopped then
    let m := m.nestErr 8 r
    if sev = 3 ∧ m.handling 8 = 3 ∧ m.keeperBad = false then { m with zeroiseBegun := true } else m
  else if sev = 3 then
    let m := if 0 < m.handling 8 then m.addCnt CNT_ESCALATED 1 else m
    m.raiseModule e r
  else if 0 < m.handling k ∧ sev ≤ m.handling k then m.nestErr k r
  else match sev, scope with
    | 2, some s => m.raisePart s e r
    | 1, some s => m.raiseStep s r
    | 0, _ => if m.flag ERR_CTL 0 then m.appendErr r else m
    | _, _ => (m.capture k r).appendErr r

/-- A step-fatal error that a REDO is to mend (R379): recorded, counted and logged; no rollback follows from it. -/
def recordError (m : Mod) (e : ErrIn) : Mod :=
  let r := m.mkRec e e.slot 1
  let k := scopeKey e.slot
  let m := ({ m with errSeq := m.errSeq + 1 } : Mod)
  let m := (m.noteCode e.code e.slot).countErr 1
  if m.fatalStopped then m.nestErr 8 r else if 0 < m.handling k then m.nestErr k r else (m.capture k r).appendErr r

/-- The place of an error among those of one fabric cycle and scope: higher severity, then lower UNIT_KIND, then lower code (R540). -/
def errRank (e : ErrIn) : Nat := ((3 - severityOf e.code e.slot.isSome) * 256 + e.kind) * 2 ^ 16 + e.code.toNat
/-- Raises the errors of one fabric cycle, in the order of R540. -/
def raiseAll (m : Mod) (l : List ErrIn) : Mod := (sortBy errRank l).foldl (fun m e => m.raise e) m

/-- Raises an error in each of several partitions, or at module scope when there is none (R531). -/
def raiseIn (m : Mod) (l : List Nat) (e : ErrIn) : Mod :=
  match l with
  | [] => m.raise { e with slot := none }
  | _ => forEach m l (fun m s => m.raise { e with slot := some s })

/-- An error of a tile (R541). -/
def tileErr (m : Mod) (t : Nat) (code : W16) (loc : Nat) (detail : Option W128 := none) : ErrIn :=
  { code := code, slot := m.slotOfTile t, kind := 1, unit := t, loc := m.physTile t * 2 ^ 32 + loc % 2 ^ 32, detail := detail }
/-- TILE_STATUS.LAST_CODE takes an error of a tile (R88, R125). -/
def raiseTile (m : Mod) (t : Nat) (code : W16) (loc : Nat) (detail : Option W128 := none) : Mod :=
  (m.setF (TILE_STATUS t) 48 16 code.toNat).raise (m.tileErr t code loc detail)
/-- Errors of a tile in one cycle, in the order of R540. -/
def raiseTileAll (m : Mod) (t : Nat) (l : List ErrIn) : Mod :=
  (sortBy errRank l).foldl (fun m e => (m.setF (TILE_STATUS t) 48 16 e.code.toNat).raise e) m

/-- An error of a stack at a LOCATION: HBM_STATUS.LAST_CODE takes it (R339). -/
def stackErr (m : Mod) (s : Nat) (code : W16) (loc : Nat) : ErrIn := { code := code, slot := m.slotOfStack s, kind := 2, unit := s, loc := loc }
def raiseStackAt (m : Mod) (s : Nat) (code : W16) (loc : Nat) : Mod := (m.setF (HBM_STATUS s) 48 16 code.toNat).raise (m.stackErr s code loc)
/-- An error of a stack at an offset (R541). -/
def raiseStack (m : Mod) (s : Nat) (code : W16) (off : Nat) : Mod := m.raiseStackAt s code (m.hbmSpot s off)
/-- An error of a plane at a shard entry: PLANE_STATUS takes it as LAST_CODE (R339, R541). -/
def raisePlane (m : Mod) (s : Nat) (code : W16) (e : Nat) : Mod :=
  (m.setF (PLANE_STATUS s) 48 16 code.toNat).raise { code := code, slot := m.slotOfStack s, kind := 2, unit := s, loc := e * 2 ^ 32 }

/-! ## Stacks on behalf of their requesters (R315 to R318, R338) -/

/-- A read of a range in which a line is marked uncorrectable raises 0x0922 (R338). -/
def readBad (m : Mod) (s off n : Nat) : Mod :=
  if m.hbmBad s off n then (m.addCnt (CNT_HBM_UNCORR s) 1).raiseStack s 0x0922 off else m
/-- The bytes of a range of partition HBM, with what the read raises. -/
def readHbm (m : Mod) (slot a n : Nat) : List Byte × Mod :=
  (m.ldHbm slot a n, m.readBad (hbmPlace slot a).1 (hbmPlace slot a).2 n)
/-- Bursts of 64 bytes that a write covers in part (R318). -/
def partBursts (a n : Nat) : Nat :=
  let lo := if a % 64 = 0 then 0 else 1
  let hi := if (a + n) % 64 = 0 then 0 else 1
  if n = 0 then 0 else if a / 64 = (a + n - 1) / 64 then min 1 (lo + hi) else lo + hi
/-- A write into a stack with its merges counted (R318). -/
def storeStack (m : Mod) (s off : Nat) (b : List Byte) : Mod :=
  ((m.st (hbmAt s off) b).healHbm s off b.length).addCnt (CNT_RMW s) (partBursts off b.length)
/-- A write into partition HBM with its merges counted (R318). -/
def storeHbm (m : Mod) (slot a : Nat) (b : List Byte) : Mod := m.storeStack (hbmPlace slot a).1 (hbmPlace slot a).2 b
/-- An access that a code of `stackCode` stops; one without a key raises 0x0926 (R316). -/
def stackFault (m : Mod) (s : Nat) (code : W16) (off : Nat) : Mod := if code = 0x0926 then m.raiseStack s code off else m

/-- An access to partition HBM that a code stops. -/
def hbmFault (m : Mod) (slot a : Nat) : Mod := m.stackFault (hbmPlace slot a).1 (m.hbmCode slot a) (hbmPlace slot a).2

/-- An error of a ring (R541 UNIT_KIND 0x04). -/
def raiseRing (m : Mod) (r : Nat) (code : W16) (index : Nat) : Mod :=
  m.raise { code := code, slot := m.slotOfRing r, kind := 4, unit := r, loc := index }

/-- An error of the step block. -/
def raiseStepBlock (m : Mod) (s : Nat) (code : W16) : Mod := m.raise { code := code, slot := some s, kind := 0x0B, unit := s }

/-- An error of a Jicen port: its LOCATION is a lane and the far module ID (R541). -/
def portErr (m : Mod) (j : Nat) (code : W16) (slot : Option Nat) (lane : Nat) : ErrIn :=
  { code := code, slot := slot, kind := 6, unit := j, loc := lane % 64 + 2 ^ 16 * m.fld (JC_STATUS j) 16 12 }
/-- An error of a Jicen port, in each partition that uses it or at module scope (R531). -/
def raisePort (m : Mod) (j : Nat) (code : W16) (lane : Nat) : Mod :=
  (m.setF (JC_STATUS j) 48 16 code.toNat).raiseIn (m.slots.filter (fun s => m.jobRuns s)) (m.portErr j code none lane)
/-- An error of a Jicen port in one scope. -/
def raisePortIn (m : Mod) (j : Nat) (code : W16) (slot : Option Nat) (lane : Nat := 0) : Mod :=
  (m.setF (JC_STATUS j) 48 16 code.toNat).raise (m.portErr j code slot lane)

/-- An error of a Feed interface (R437 LAST_CODE). -/
def raiseFeed (m : Mod) (e : Nat) (code : W16) (flow : Nat) (slot : Option Nat) : Mod :=
  (m.setF (FD_STATUS e) 48 16 code.toNat).raise { code := code, slot := slot, kind := 7, unit := e, loc := flow }

/-- An error of the power controller (UNIT_KIND 0x0C). -/
def powerErr (code : W16) (unit : Nat) (slot : Option Nat) : ErrIn := { code := code, slot := slot, kind := 0x0C, unit := unit }
def raisePower (m : Mod) (code : W16) (unit : Nat) (slot : Option Nat) : Mod := m.raise (powerErr code unit slot)

/-- An error of the Keeper or the keeper bus (UNIT_KIND 0x0A). -/
def raiseKeeper (m : Mod) (code : W16) (die ty : Nat) (slot : Option Nat) : Mod :=
  m.raise { code := code, slot := slot, kind := 0x0A, unit := die, loc := ty }

end Mod

end Sys2Proof.Machine
end

