-- ==== Sys2Proof/Machine/Operands.lean ====
section
/-! DEFINITION. Operand forms of the tile instructions (R113, R114, R116): the fields of format S, the g registers that an instruction names, and the checks of reserved bits and code points.  `f` is the low 56 bits of the instruction word. -/

namespace Sys2Proof.Machine

/-! ## Format S (R113) -/

def fD (f : BitVec 56) : Nat := bf f 51 5
def fS1 (f : BitVec 56) : Nat := bf f 46 5
def fS2 (f : BitVec 56) : Nat := bf f 41 5
def fI (f : BitVec 56) : Bool := bit f 40
def fImm (f : BitVec 56) : W32 := f.extractLsb' 0 32
/-- OFF of a control instruction: a signed 24-bit instruction offset. -/
def fOff (f : BitVec 56) : Int := sext 24 (bf f 0 24)
/-- L_M1 + 1, the count of line accesses of a unit instruction. -/
def fLines (f : BitVec 56) : Nat := bf f 24 16 + 1

/-! ## Reserved bits (R114): the mask of the bits that the Fields column names -/

/-- Bits [lo + len − 1 : lo] of an instruction. -/
def fm (lo len : Nat) : BitVec 56 := fieldMask 56 lo len
def mD : BitVec 56 := fm 51 5
def mS1 : BitVec 56 := fm 46 5
def mS2 : BitVec 56 := fm 41 5
def mI : BitVec 56 := fm 40 1
def mImm : BitVec 56 := fm 0 32
def mOff : BitVec 56 := fm 0 24

/-- No bit outside the named fields is 1. -/
def only (mask : BitVec 56) (f : BitVec 56) : Bool := decide (f &&& ~~~mask = 0)

/-- Every bit of format S that an instruction with two operands uses: S2 or IMM as I selects; the other is ignored. -/
def mAlu : BitVec 56 := mD ||| mS1 ||| mS2 ||| mI ||| mImm

/-- Operand 2 of format S. -/
def operand2 (g : Nat → W32) (f : BitVec 56) : W32 := if fI f then fImm f else g (fS2 f)

/-- The g registers that an instruction with two operands names. -/
def aluRegs (f : BitVec 56) : List Nat := [fD f, fS1 f] ++ (if fI f then [] else [fS2 f])

/-- The run of four registers of MITRE, RKEY and RCTR. -/
def run4 (n : Nat) : List Nat := [n, n + 1, n + 2, n + 3]

/-- A 128-bit value from a run of four registers, the first lowest (R196). -/
def word128 (g : Nat → W32) (n : Nat) : W128 :=
  BitVec.ofNat 128 ((g n).toNat + 2 ^ 32 * (g (n + 1)).toNat + 2 ^ 64 * (g (n + 2)).toNat + 2 ^ 96 * (g (n + 3)).toNat)

/-! ## The address of a scalar access (R116 LDW, R118) -/

/-- The dowel that LDW or STW names. -/
def ldstDowel (f : BitVec 56) : Nat := bf f 24 8
/-- The byte address: an a register read as signed, plus the sign-extended immediate. -/
def ldstAddr (a : Nat → W40) (f : BitVec 56) : Int := (a (fS1 f)).toInt + sext 24 (bf f 0 24)

/-! ## The register that CSRR and CSRW name (R116, R119) -/

def csrOff (f : BitVec 56) : Nat := bf f 3 17 * 8
/-- IMM[2] selects the high half. -/
def csrHigh (f : BitVec 56) : Bool := bit f 2

/-! ## Jig setup fields -/

def fJig (f : BitVec 56) : Nat := bf f 53 3
/-- The jigs of a mask, in ascending order. -/
def jigMask (f : BitVec 56) : List Nat := (upto 6).filter (fun j => bit f (50 + j))

/-! ## Unit instructions: code points (R114, R115, R136, R142) -/

/-- The width class of an operand format: 16, 8 or 4 bits. -/
def widthClass (c : Nat) : Nat := if c ≤ 1 then 16 else if c = 2 ∨ c = 3 ∨ c = 5 then 8 else 4
/-- L, the element products of a unit in a K-line (R135). -/
def lanesOf (c : Nat) : Nat := 256 / widthClass c
def intFmt (c : Nat) : Bool := decide (c = 5) || decide (c = 6) || decide (c = 7)

def mmaShape (f : BitVec 56) : Nat := bf f 53 3
def mmaFA (f : BitVec 56) : Nat := bf f 49 4
def mmaFB (f : BitVec 56) : Nat := bf f 45 4
def mmaAcc (f : BitVec 56) : Nat := bf f 44 1
def mmaClr (f : BitVec 56) : Bool := bit f 43
def mmaOvf (f : BitVec 56) : Bool := bit f 42
/-- The accumulation kind is INT32 (R136). -/
def mmaInt (f : BitVec 56) : Bool := intFmt (mmaFA f) && intFmt (mmaFB f)
def mmaOk (f : BitVec 56) : Bool :=
  only (fm 53 3 ||| fm 49 4 ||| fm 45 4 ||| fm 44 1 ||| fm 43 1 ||| fm 42 1 ||| fm 24 16) f &&
  decide (mmaShape f ≤ 4) && decide (mmaFA f ≤ 7) && decide (mmaFB f ≤ 7) &&
  decide (widthClass (mmaFA f) = widthClass (mmaFB f)) && (!mmaOvf f || mmaInt f)

/-- KC of MLATCH. -/
def latchKc (f : BitVec 56) : Nat := bf f 32 11 + 1
def mlatchOk (f : BitVec 56) : Bool :=
  only (fm 49 4 ||| fm 32 11) f && decide (mmaFA f ≤ 7) &&
  decide (latchKc f % lanesOf (mmaFA f) = 0) && decide (latchKc f / lanesOf (mmaFA f) ≤ 32)

def ocfgAct (f : BitVec 56) : Nat := bf f 53 3
def ocfgFmt (f : BitVec 56) : Nat := bf f 49 4
def ocfgOk (f : BitVec 56) : Bool :=
  only (fm 53 3 ||| fm 49 4 ||| fm 48 1 ||| fm 46 2 ||| fm 45 1 ||| fm 44 1 ||| fm 43 1) f &&
  decide (ocfgAct f ≤ 4) && decide (ocfgFmt f ≤ 9) && !(bit f 48 && (decide (ocfgFmt f = 8) || decide (ocfgFmt f = 9)))

def vopFn (f : BitVec 56) : Nat := bf f 51 5
def vopOk (f : BitVec 56) : Bool :=
  only (fm 51 5 ||| fm 49 2 ||| fm 47 2 ||| fm 46 1 ||| fm 24 16) f && decide (vopFn f < 16)

/-- RF of VRED. -/
def vredRf (f : BitVec 56) : Nat := bf f 46 3
def vredOk (f : BitVec 56) : Bool :=
  only (fm 51 5 ||| fm 49 2 ||| fm 46 3 ||| fm 24 16) f && decide (vredRf f ≤ 3) &&
  !(decide (vredRf f = 1) && decide (fD f % 2 = 1)) && !(decide (2 ≤ vredRf f) && decide (fD f = 31))

def quantFo (f : BitVec 56) : Nat := bf f 52 4
def quantOk (f : BitVec 56) : Bool :=
  only (fm 52 4 ||| fm 51 1 ||| fm 50 1 ||| fm 48 2 ||| fm 46 2 ||| fm 45 1 ||| fm 40 5 ||| fm 24 16) f && decide (quantFo f < 8)

def sampleTopk (f : BitVec 56) : Nat := bf f 32 7
def sampleOk (f : BitVec 56) : Bool :=
  only (fm 51 5 ||| fm 46 5 ||| fm 44 2 ||| fm 42 2 ||| fm 41 1 ||| fm 32 7) f && decide (sampleTopk f ≤ 64) && decide (fS1 f ≤ 30)

def randOk (f : BitVec 56) : Bool := only (fm 54 2 ||| fm 52 2 ||| fm 24 16) f && decide (bf f 52 2 < 3)

end Sys2Proof.Machine
end

