-- ==== Sys2Proof/Machine/Port.lean ====
section
/-! DEFINITION. The exchange port of a tile (R217, R218, R221 to R223): its list and descriptors, its send and receive buffers of 512 words each, and the release of an armed entry. -/

namespace Sys2Proof.Machine.Mod

/-! ## The exchange list (R217, R218) -/

def xlValid (m : Mod) (t e : Nat) : Bool := m.flag (XLIST t e) 63
def xlRecord (m : Mod) (t e : Nat) : Nat := m.fld (XLIST t e) 46 10
def xlSends (m : Mod) (t e : Nat) : List Nat := (upto (m.fld (XLIST t e) 38 6)).map (· + m.fld (XLIST t e) 27 11)
def xlRecvs (m : Mod) (t e : Nat) : List Nat := (upto (m.fld (XLIST t e) 21 6)).map (· + m.fld (XLIST t e) 10 11)

def dDowel (m : Mod) (t d : Nat) : Nat := m.fld (XDESC t d 0) 56 8
def dBase (m : Mod) (t d : Nat) : Nat := m.fld (XDESC t d 0) 36 20
def dWords (m : Mod) (t d : Nat) : Nat := m.fld (XDESC t d 0) 16 20 + 1
/-- DEST of a send, WIN_EXTRA of a receive. -/
def dDest (m : Mod) (t d : Nat) : Nat := m.fld (XDESC t d 0) 0 16
def dStart (m : Mod) (t d : Nat) : Nat := m.fld (XDESC t d 1) 44 20
def dStream (m : Mod) (t d : Nat) : Nat := m.fld (XDESC t d 1) 28 16
def dLane (m : Mod) (t d : Nat) : Nat := m.fld (XDESC t d 1) 20 4
def dLanes (m : Mod) (t d : Nat) : Nat := m.fld (XDESC t d 1) 16 4 + 1
def dRecv (m : Mod) (t d : Nat) : Bool := m.flag (XDESC t d 1) 0
/-- The last bt of a send's leaving interval, or of a receive window (R219). -/
def dLast (m : Mod) (t d : Nat) : Nat :=
  m.dStart t d + ceilDiv (m.dWords t d) (m.dLanes t d) - 1 + (if m.dRecv t d then m.dDest t d else 0)

/-! ## Counts of words by descriptor -/

/-- The words of a stream so far. -/
def streamWords (l : List Stream) (d : Nat) : Nat := match l.find? (fun x => decide (x.desc = d)) with
  | some x => x.words
  | none => 0
/-- Descriptor `d` stands at `n` words. -/
def setStream (l : List Stream) (d n : Nat) : List Stream := { desc := d, words := n } :: l.filter (fun x => decide (x.desc ≠ d))
/-- Counts a word of descriptor `d`. -/
def bumpStream (l : List Stream) (d : Nat) : List Stream := setStream l d (streamWords l d + 1)

/-! ## The buffers (R221, R222) -/

/-- The words that a buffer of the port holds: 16 KiB of 32-byte words (R221). -/
def portDepth : Nat := 512

/-- The quarters grant the port at rank 7: the tile's clock runs, and no W8, W4 or W1 pass runs (R50, R222, R264). -/
def portGranted (m : Mod) (t : Nat) : Bool :=
  m.tileClocked t && !(m.queue t 0).any (fun e => e.started && decide (e.op = 0x40) && decide (2 ≤ mmaShape e.f))

/-- Descriptors in order of START; those of equal START keep their order. -/
def byStart (m : Mod) (t : Nat) (l : List Nat) : List Nat :=
  l.foldr (fun d r => (r.takeWhile (fun x => decide (m.dStart t x < m.dStart t d))) ++ d :: r.dropWhile (fun x => decide (m.dStart t x < m.dStart t d))) []

/-- Words of a descriptor that are neither read nor past go into the send buffer, as many as it has room for. -/
def readSend (m : Mod) (t d : Nat) : Mod :=
  let x := m.tile t
  let k := max (streamWords x.xRead d) (streamWords x.xSend d)
  let n := min (portDepth - x.xBuf.length) (m.dWords t d - k)
  let l := (upto n).map (fun i => { desc := d, num := k + i, word := m.ldDowel t (m.dDowel t d) (m.dBase t d + k + i) : BufWord })
  m.modTile t (fun x => { x with xBuf := x.xBuf ++ l, xRead := setStream x.xRead d (k + n) })

/-- The port reads send words as far as it is granted and has room (R221). -/
def fillSend (m : Mod) (t : Nat) : Mod := match (m.tile t).xEntry with
  | some e => if m.portGranted t then forEach m (m.byStart t (m.xlSends t e)) (fun m d => m.readSend t d) else m
  | none => m

/-- The received words are written in arrival order, as far as the port is granted (R221). -/
def drainRecv (m : Mod) (t : Nat) : Mod :=
  if m.portGranted t then
    let l := (m.tile t).xIn
    l.foldl (fun m w => m.stDowel t (m.dDowel t w.desc) (m.dBase t w.desc + w.num) w.word) (m.modTile t (fun x => { x with xIn := [] }))
  else m

/-! ## Release (R223) -/

/-- XP_STATUS.STATE: 0 IDLE, 1 ARMED, 2 RUN, 3 KERF, 4 FAULT (R244). -/
def setXp (m : Mod) (t v : Nat) : Mod := m.setF (XP_STATUS t) 0 4 v

/-- What the port holds for an entry is gone. -/
def clearPort (x : Tile) : Tile := { x with xEntry := none, xSend := [], xRecv := [], xRead := [], xBuf := [], xIn := [], xOver := none }
/-- The armed entry is released. -/
def releaseEntry (m : Mod) (t : Nat) : Mod :=
  (m.modTile t (fun x => { clearPort x with xDone := x.xEntry.toList ++ x.xDone })).setXp t 0

/-- The kerf of the tile's phase ended at count `c`: the entry is released once every received word is written, and each bt in between counts. -/
def overKerf (m : Mod) (t c : Nat) : Mod :=
  if (m.tile t).xIn.isEmpty then (m.addCnt (CNT_XDRAIN_LATE t) (m.count.toNat - c)).releaseEntry t
  else m.modTile t (fun x => { x with xOver := some c })

/-- The port is granted again: it reads and writes what it can, and a late entry is released. -/
def settlePort (m : Mod) (t : Nat) : Mod :=
  let m := (m.fillSend t).drainRecv t
  match (m.tile t).xOver with
  | some c => m.overKerf t c
  | none => m

end Sys2Proof.Machine.Mod
end

