-- ==== Sys2Proof/Machine/Power.lean ====
section
/-! DEFINITION. Power, throttling, temperature, module states and reset (R37 to R39, R556 to R575): the commands of the power controller. -/

namespace Sys2Proof.Machine

/-! ## The configuration record in use (R456) -/

namespace Mod

/-- A byte of the configuration record in use. -/
def cfgByte (m : Mod) (i : Nat) : Nat := natOf ((m.config.drop i).take 1)
/-- FMAX, 140 until a record is read (PWR_FLIMITi resets to it, R580). -/
def fmax (m : Mod) : Nat := if m.config.isEmpty then 140 else m.cfgByte 0
def fmin (m : Mod) : Nat := if m.config.isEmpty then 50 else m.cfgByte 1
def powerMax (m : Mod) : Nat := if m.config.isEmpty then 14500 else natOf ((m.config.drop 4).take 4)
def jicenEn (m : Mod) (j : Nat) : Bool := decide (m.cfgByte 8 / 2 ^ j % 2 = 1)
def feedEn (m : Mod) (e : Nat) : Bool := decide (m.cfgByte 9 / 2 ^ e % 2 = 1)
def debugAllowed (m : Mod) : Bool := decide (m.cfgByte 10 = 1)

/-- CAP_W (R563). -/
def capW (m : Mod) : Nat := m.fld PWR_CAP 0 16
/-- T, 0 to 8 (R563). -/
def throttle (m : Mod) : Nat := m.fld PWR_STATUS 4 4

/-! ## Module states (R37) -/

/-- A halt reaches a slot with a job or in a reshard step: an exchange phase in progress is abandoned with the words on their way, with 0x062C to come on resume; otherwise the next record launches, after resume, at the first mark whose vote succeeds (R233).  The reshard step counts as an exchange phase throughout (R362; log entry 109). -/
def haltPhase (m : Mod) (s : Nat) : Mod :=
  if !m.jobRuns s then (if (m.part s).reshard then m.modPart s (fun p => { p with cutPhase := true }) else m)
  else if m.fld (XCH_STATUS s) 0 4 = 2 then (m.modPart s (fun p => { p with cutPhase := true, words := [], claims := [] })).setF (XCH_STATUS s) 0 4 1
  else m.modPart s (fun p => { p with afterHalt := true })
/-- HALTED: the state before it is kept for the resume (R37, R38). -/
def enterHalted (m : Mod) : Mod := forEach { m.goState 4 0 with wasState := m.modState, haltAt := m.count } m.slots (fun m s => m.haltPhase s)
/-- Any job has started: its first step boundary mark has come (R37, R511). -/
def anyJob (m : Mod) : Bool := m.slots.any (fun s => match (m.part s).job with
  | some j => j.started
  | none => false)
/-- READY to RUN when a job starts, RUN to READY when the last ends; in HALTED the state to return to follows (R37). -/
def followJobs (m : Mod) : Mod :=
  if m.modState = 2 ∧ m.anyJob then m.goState 3 0
  else if m.modState = 3 ∧ ¬ m.anyJob then m.goState 2 0
  else if m.modState = 4 ∧ ¬ m.anyJob then { m with wasState := 2 }
  else m

/-- What a reset of the module leaves: the flash, the board's pins, and the module first-error record when power stayed (R536, R573, R574). -/
def resetModule (m : Mod) (keepFirst : Bool) : Mod :=
  let n : Mod := {}
  let n := { n with
    mem := m.mem.filter (fun p => decide (flashAt 0 ≤ p.1) && (decide (p.1 < stagingAt 0 0) || decide (hostAt 0 ≤ p.1)))
    board := { m.board with thermSrc := [], ppsOut := false, statusBits := 0, tap := 0, keeperDown := false, wake := false, pwrGood := false } }
  if keepFirst && m.feValid 8 then
    ({ n with firsts := [(8, { m.first 8 with handling := 0, deadline := 0 })] }).setFlag ERR_FE_VALID 8 true
  else n

/-- The main rails go off: what the units on them hold is lost, the keys that were loaded among it, and the Keeper knows them gone (R559, R560, R562). -/
def loseMain (m : Mod) : Mod :=
  let off := fun (a : Nat) => (decide (0x40_0000 ≤ a) && decide (a < 0x48_0000)) || (decide (0x100_0000 ≤ a) && decide (a < 0x3_2000_0000))
  let m := m.setFlag PWR_STATUS 1 false
  { m with
    regs := m.regs.filter (fun p => !off p.1), staged := m.staged.filter (fun p => !off p.1)
    mem := m.mem.filter (fun p => decide (galleryAt 0 ≤ p.1))
    keys := [], keysSet := [], keyCtrs := [], kdies := m.kdies.map (fun p => (p.1, { p.2 with setDom := [] }))
    tiles := [], buoys := [], rings := [], hbmStacks := [], ports := [], flows := [], feeds := [], halves := [] }

/-! ## THERM_N (R565, R568, R569) -/

/-- The module drives THERM_N. -/
def thermDrive (m : Mod) : Bool := !m.board.thermSrc.isEmpty
/-- THERM_N is seen low. -/
def thermLow (m : Mod) : Bool := m.thermDrive || m.board.boardTherm
/-- A start-up phase cannot end: THERM_N holds the start-up (R569). -/
def startHeld (m : Mod) : Bool := m.thermLow

/-- PWR_STATUS shows the pin; a new low level counts and moves READY or RUN to HALTED (R569).  In OFF, in STANDBY with START_PHASE 0x0 and in DARK it has no effect. -/
def thermEdge (m : Mod) (was : Bool) : Mod :=
  let m := (m.setFlag PWR_STATUS 10 m.thermDrive).setFlag PWR_STATUS 11 m.thermLow
  if m.thermLow && !was && !(decide (m.modState = 0) || decide (m.modState = 5) || (decide (m.modState = 1) && decide (m.startPhase = 0))) then
    let m := m.addCnt CNT_THERM 1
    if m.modState = 2 ∨ m.modState = 3 then m.enterHalted else m
  else m

/-- A source begins to drive THERM_N low. -/
def driveTherm (m : Mod) (src : Nat) : Mod :=
  let was := m.thermLow
  ({ m with board := { m.board with thermSrc := src :: m.board.thermSrc.erase src } }).thermEdge was
/-- A source releases THERM_N. -/
def releaseTherm (m : Mod) (src : Nat) : Mod :=
  let was := m.thermLow
  ({ m with board := { m.board with thermSrc := m.board.thermSrc.erase src } }).thermEdge was
/-- The source number of sustained overpower (R565); sensors have their TEMPn numbers. -/
def overpowerSrc : Nat := 64

/-- Sets a bit of the PMBus status that CLEAR_FAULTS clears: 0 over-voltage, 1 under-voltage, 2 over-power, 3 warn, 4 critical, 5 power limit (R578). -/
def noteStatus (m : Mod) (i : Nat) : Mod := { m with board := { m.board with statusBits := setBit m.board.statusBits i true } }

/-! ## Sensors (R567, R568) -/

/-- Critical, release and shutdown temperature of a sensor, in °C (R568): halves, stacks, link dies, bridge, Keeper. -/
def thermLimits (n : Nat) : Option (Nat × Nat × Nat) :=
  if 16 ≤ n ∧ n < 48 then some (95, 90, 105)
  else if n = 55 then some (100, 95, 110)
  else if n < 55 then some (105, 100, 115)
  else none
/-- The warn threshold (R568). -/
def thermWarn (n : Nat) : Option Nat :=
  if 16 ≤ n ∧ n < 48 then some 85 else if n < 55 then some 95 else none
/-- A reading in 1/16 °C is above a temperature in °C. -/
def hotter (t : W16) (c : Nat) : Bool := decide ((16 * c : Int) < t.toInt)
def atLeast (t : W16) (c : Nat) : Bool := decide ((16 * c : Int) ≤ t.toInt)

/-- One sensor reading (R568): the reading, then inlet, shutdown, critical and release; with the errors that it raises. -/
def takeReading (m : Mod) (r : SensorReading) : Mod × List ErrIn :=
  if r.failed then (m, [powerErr 0x112B r.n none])
  else if 58 ≤ r.n then (m, [])
  else
    let old := m.temp r.n
    let m := { m with temps := Sparse.put (fun _ => 0) m.temps r.n r.temp }
    let m := m.setF (TEMP r.n) 0 16 r.temp.toNat
    if r.n = 56 then (m, if hotter r.temp 35 && !hotter old 35 then [powerErr 0x1121 r.n none] else [])
    else match thermLimits r.n with
      | none => (m, [])
      | some (crit, rel, shut) =>
        let m := match thermWarn r.n with
          | some w => if hotter r.temp w then m.noteStatus 3 else m
          | none => m
        let off := if atLeast r.temp shut then [powerErr 0x1125 r.n none] else []
        if atLeast r.temp crit && !m.board.thermSrc.contains r.n then ((m.noteStatus 4).driveTherm r.n, off ++ [powerErr 0x1129 r.n none])
        else if !atLeast r.temp rel && m.board.thermSrc.contains r.n then (m.releaseTherm r.n, off)
        else (m, off)
/-- The readings of one round; their errors are those of one cycle (R540, R568). -/
def takeReadings (m : Mod) (l : List SensorReading) : Mod :=
  let x := l.foldl (fun (x : Mod × List ErrIn) r => let y := x.1.takeReading r; (y.1, x.2 ++ y.2)) (m, [])
  x.1.raiseAll x.2

/-! ## Power capping (R563 to R566) -/

/-- The next throttle level (R563). -/
def nextThrottle (t p cap : Nat) : Nat :=
  if cap < p then min (t + 1) 8 else if 100 * p < 98 * cap then t - 1 else t

/-- PWR_HEADROOM from P16: per mille of the cap, signed, rounded toward zero (R566; log entry 23). -/
def headroomOf (cap p16 : Nat) : W16 := BitVec.ofInt 16 (Int.tdiv (((cap : Int) - p16) * 1000) cap)

/-- The headroom buoy of a slot at its step boundary mark (R566). -/
def writeHeadroom (m : Mod) (s : Nat) : Mod :=
  if m.flag (HEADROOM_BUOY s) 16 then
    let b := m.fld (HEADROOM_BUOY s) 0 13
    if m.buoyLive b ∧ (m.buoy b).pub = true ∨ m.buoyLive b ∧ ¬ m.locked s then
      m.buoySetOp b ((m.rd PWR_HEADROOM).truncate 16 |>.signExtend 32) 0
    else m.raisePower 0x112A 0 (some s)
  else m

end Mod

/-! ## Meanings -/

/-- POWER_ON: 42 V in range and PWR_EN asserted; MADDR is sampled (R570, R576). -/
def execPowerOn (maddr : BitVec 3) (s : State) : Host.Outcome State Fault Refusal :=
  onWhen s (decide (s.m.modState = 0)) (fun m => { m with board := { m.board with pwrEn := true, maddr := maddr } })

/-- STANDBY_RAILS_GOOD: STANDBY, PWR_GOOD asserted, the Keeper's reset released (R37, R570). -/
def execStandbyRailsGood (s : State) : Host.Outcome State Fault Refusal :=
  onWhen s (s.m.board.pwrEn && !s.m.board.pwrGood && !s.m.board.modRstLow &&
      (decide (s.m.modState = 0) || (decide (s.m.modState = 1) && decide (s.m.startPhase = 0))))
    (fun m => ({ m.goState 1 1 with board := { m.board with pwrGood := true } }).setFlag PWR_STATUS 0 true)

/-- MAIN_RAILS_RAMPED: phase 0x2 (or the wake of MOD_WAKE) ends and phase 0x3 begins (R570, R562). -/
def execMainRailsRamped (s : State) : Host.Outcome State Fault Refusal :=
  onWhen s (decide (s.m.modState = 1) && !s.m.startHeld && decide (s.m.fld KPR_STATUS 0 4 = 2) &&
      (decide (s.m.startPhase = 2) || (decide (s.m.startPhase = 0) && s.m.board.wake)))
    (fun m => ({ m.goState 1 3 with board := { m.board with wake := false } }).setFlag PWR_STATUS 1 true)

/-- JICEN_TRAINING_PHASE_DONE: phase 0x5 ends; phase 0x6 starts the Beacon lock (R570, R253). -/
def execJicenTrainingPhaseDone (s : State) : Host.Outcome State Fault Refusal :=
  onWhen s (decide (s.m.modState = 1) && decide (s.m.startPhase = 5) && !s.m.startHeld)
    (fun m => ((m.goState 1 6).setF BCN_STATUS 0 4 1).setF BCN_STATUS 8 5 31)

/-- POWER_LOSS: PWR_EN deasserted or input below range; OFF, everything but the flash lost (R37, R574). -/
def execPowerLoss (s : State) : Host.Outcome State Fault Refusal :=
  onModule s (fun m =>
    let n := (m.resetModule false).goState 0 0
    (({ n with board := { n.board with pwrEn := false } }).setFlag PWR_STATUS 0 false))

/-- INPUT_OVERVOLTAGE: module-fatal error 0x1124 (R556). -/
def execInputOvervoltage (s : State) : Host.Outcome State Fault Refusal :=
  onWhen s (decide (s.m.modState ≠ 0)) (fun m => (m.noteStatus 0).raisePower 0x1124 0 none)

/-- THERM_N_ASSERT: the board drives THERM_N low for 2 µs (R569). -/
def execThermNAssert (s : State) : Host.Outcome State Fault Refusal :=
  onModule s (fun m => ({ m with board := { m.board with boardTherm := true } }).thermEdge m.thermLow)

/-- THERM_N_DEASSERT: the board releases THERM_N (R569). -/
def execThermNDeassert (s : State) : Host.Outcome State Fault Refusal :=
  onModule s (fun m => ({ m with board := { m.board with boardTherm := false } }).thermEdge m.thermLow)

/-- MOD_RST_N_ASSERT for 10 µs or more: 0x1128 in any state but OFF and DARK (R573). -/
def execModRstNAssert (s : State) : Host.Outcome State Fault Refusal :=
  onModule s (fun m =>
    let m := { m with board := { m.board with modRstLow := true } }
    if m.modState = 5 then m.setFlag PWR_STATUS 1 false
    else if m.modState = 0 then m else m.raisePower 0x1128 0 none)

/-- MOD_RST_N_RELEASE: DARK becomes STANDBY, and start-up runs from the release of the Keeper's reset (R37, R573). -/
def execModRstNRelease (s : State) : Host.Outcome State Fault Refusal :=
  onWhen s s.m.board.modRstLow (fun m =>
    let m := { m with board := { m.board with modRstLow := false } }
    if m.modState = 5 then
      let n := (m.resetModule true).goState 1 1
      { n with board := { n.board with pwrGood := true } }
    else m)

/-- THROTTLE_UPDATE, every 64 µs: PWR_IN, the level T and its counter (R563). -/
def execThrottleUpdate (p : PowerReading) (s : State) : Host.Outcome State Fault Refusal :=
  onWhen s (decide (s.m.modState ≠ 0)) (fun m =>
    let t := Mod.nextThrottle m.throttle p.watts m.capW
    let m := m.wr PWR_IN (BitVec.ofNat 64 (p.watts % 65536 + p.volts % 65536 * 2 ^ 16 + p.amps % 65536 * 2 ^ 32))
    let m := m.setF PWR_STATUS 4 4 t
    let m := if 0 < t then m.addCnt CNT_THROTTLE 1 else m
    let m := forEach m (m.slots.filter (fun k => m.jobRuns k))
      (fun m k => m.modPart k (fun x => { x with throttleSum := x.throttleSum + t, throttleNum := x.throttleNum + 1 }))
    if t = 8 ∧ m.capW < p.watts then (m.noteStatus 5).raisePower 0x1122 0 none else m)

/-- HEADROOM_UPDATE, every 1 ms, from the mean over 16 ms (R566). -/
def execHeadroomUpdate (p16 : Nat) (s : State) : Host.Outcome State Fault Refusal :=
  onWhen s (decide (s.m.modState ≠ 0)) (fun m => m.setF PWR_HEADROOM 0 16 (Mod.headroomOf m.capW p16).toNat)

/-- OVERPOWER_DETECT: T has been 8 and P above 1.05 × POWER_MAX_W for 10 ms; 0x1123, THERM_N low, HALTED (R565). -/
def execOverpowerDetect (p : Nat) (s : State) : Host.Outcome State Fault Refusal :=
  onMain s (fun m =>
    if m.throttle = 8 ∧ 105 * m.powerMax < 100 * p then
      (((m.addCnt CNT_OVERPOWER 1).noteStatus 2).raisePower 0x1123 0 none).driveTherm Mod.overpowerSrc
    else m)

/-- THERM_RELEASE: P has stayed below CAP_W for 100 ms (R565). -/
def execThermRelease (s : State) : Host.Outcome State Fault Refusal :=
  onWhen s (s.m.board.thermSrc.contains Mod.overpowerSrc) (fun m => m.releaseTherm Mod.overpowerSrc)

/-- SENSOR_SAMPLE: the readings of one 100 µs round (R568). -/
def execSensorSample (readings : List SensorReading) (s : State) : Host.Outcome State Fault Refusal :=
  onWhen s (decide (s.m.modState ≠ 0)) (fun m => m.takeReadings readings)

/-- RAIL_SETTLED: the power controller reports the rail of half `i` settled (R263). -/
def execRailSettled (i : Nat) (s : State) : Host.Outcome State Fault Refusal :=
  onWhen s (s.m.mainUp && decide (i < 16)) (fun m =>
    if (m.half i).target.isSome then m.setHalf i { m.half i with railSettled := true } else m)

/-- The compute die that carries a compute or SRAM die by its bit of MOD_DIES (R36). -/
def computeDieOf (die : Nat) : Nat := if die < 8 then die else (die - 8) / 2

/-- RAIL_FAULT: 0x1126 in the die's partition, or 0x1127 for the bridge, the Keeper or a link die (R582). -/
def execRailFault (die : Nat) (s : State) : Host.Outcome State Fault Refusal :=
  onWhen s (decide (s.m.modState ≠ 0) && decide (die < 32)) (fun m =>
    if die < 24 then m.raisePower 0x1126 die (m.slotOfDie (computeDieOf die))
    else m.raisePower 0x1127 die none)

/-- DARK_MAIN_RAIL_REMOVAL, within 100 ms of entry into DARK (R560). -/
def execDarkMainRailRemoval (s : State) : Host.Outcome State Fault Refusal :=
  onWhen s (decide (s.m.modState = 5)) (fun m => m.loseMain)

end Sys2Proof.Machine
end

