-- ==== Sys2Proof/Machine/Beacon.lean ====
section
/-! DEFINITION. The Beacon and the half clocks (R249 to R267): the count, source and state, alignment, holdover, steering, BCN_1PPS, frequency changes. -/

namespace Sys2Proof.Machine

namespace Mod

/-! ## Count and state -/

/-- While the module is HALTED, the step-fatal and partition-fatal deadlines (R539) and the timeouts of the votes (R384) pause: they move with the count. -/
def pauseDeadlines (m : Mod) (n : Nat) : Mod :=
  let d : W64 := BitVec.ofNat 64 n
  if m.halted then
    { m with
      firsts := m.firsts.map (fun p =>
        if p.2.handling = 1 ∨ p.2.handling = 2 then (p.1, { p.2 with deadline := p.2.deadline + d }) else p)
      parts := m.parts.map (fun p =>
        if p.2.job.isSome then (p.1, { p.2 with
          vote1 := { p.2.vote1 with at_ := p.2.vote1.at_ + d }, vote2 := { p.2.vote2 with at_ := p.2.vote2.at_ + d }
          decision1At := p.2.decision1At + d }) else p) }
  else m

/-- The count advances by `n` bt; in HOLDOVER the bt are counted (R249, R256). -/
def advance (m : Mod) (n : Nat) : Mod :=
  let m := { m.pauseDeadlines n with count := m.count + BitVec.ofNat 64 n }
  if m.fld BCN_STATUS 0 4 = 4 then ({ m with holdoverBt := m.holdoverBt + n }).addCnt CNT_HOLDOVER n else m

/-- BCN_STATUS.STATE: 0 UNLOCKED, 1 LOCKING, 2 ALIGNING, 3 LOCKED, 4 HOLDOVER (R253). -/
def bcnState (m : Mod) : Nat := m.fld BCN_STATUS 0 4
def setBcnState (m : Mod) (v : Nat) : Mod := m.setF BCN_STATUS 0 4 v
def bcnSource (m : Mod) : Nat := m.fld BCN_CTL 0 3
def srcPort (m : Mod) : Nat := m.fld BCN_CTL 4 3
def altPort (m : Mod) : Nat := m.fld BCN_CTL 8 3
def srcActive (m : Mod) : Nat := m.fld BCN_STATUS 4 3

/-- A port that has trained: ALIGNING, WAITING or ACTIVE (R408). -/
def portTrained (m : Mod) (j : Nat) : Bool := decide (2 ≤ m.portState j) && decide (m.portState j ≤ 4)

/-! ## Control blocks with a CRC (R413) -/

/-- A control block of a type with a CRC-32: 16 bytes of head and payload, the CRC, zeros. -/
def crcBlock (ty : Nat) (payload : List Byte) : List Byte :=
  let body := (bytesOf 1 ty ++ bytesOf 1 0 ++ payload ++ List.replicate 14 0).take 16
  body ++ bytesOf 4 (crc32 body).toNat ++ List.replicate 12 0

/-- Queues a control block with CRC on a port. -/
def sendCtrl (m : Mod) (j ty : Nat) (payload : List Byte) : Mod := m.queueCtrl j (crcBlock ty payload)

/-! ## Alignment -/

/-- LOCKED: the holdover ends and CROSS records are voted again (R253, R256). -/
def enterLocked (m : Mod) : Mod := { m.setBcnState 3 with crossLost := false, holdoverBt := 0 }
/-- Loads the count and lets it advance (R249). -/
def loadCount (m : Mod) (c : W64) : Mod := { m with count := c, running := true, countLoaded := true }
/-- RECAL: the delay measurement on every trained port (R254). -/
def recalibrate (m : Mod) : Mod :=
  forEach m ((upto 6).filter (fun j => m.portTrained j)) (fun m j => m.sendCtrl j 2 [BitVec.ofNat 8 j])
/-- ALIGNING: a REF_MASTER reads DEPTH 0, loads 0 and is LOCKED at once; a follower takes SRC_PORT at an unknown depth, and measures the delays of its trained ports (R253, R254, R268; log entry 101). -/
def enterAligning (m : Mod) : Mod :=
  if m.bcnSource = 0 then (((m.setF BCN_STATUS 8 5 0).setF BCN_STATUS 4 3 7).loadCount 0).enterLocked
  else { (((m.setBcnState 2).setF BCN_STATUS 8 5 31).setF BCN_STATUS 4 3 m.srcPort).recalibrate with countLoaded := false, calDone := [] }

/-- The alignment of a follower is complete: the count is loaded and the delay of every trained port calibrated (R253). -/
def aligned (m : Mod) : Bool := m.countLoaded && (upto 6).all (fun j => !m.portTrained j || m.calDone.contains j)

/-! ## Commands -/

/-- A residual beyond 4 bt, in 1/64 bt (R258). -/
def residFar (r : W16) : Bool := decide (256 < r.toInt.natAbs)
/-- A residual below 0.25 bt (R254). -/
def residNear (r : W16) : Bool := decide (r.toInt.natAbs < 16)

/-- HOLDOVER, with 0x0721 (R256). -/
def enterHoldover (m : Mod) : Mod :=
  { m.setBcnState 4 with holdoverBt := 0, badTimes := 0 }.raise { code := 0x0721, kind := 9, unit := 0xFFFF }
/-- A residual is measured: beyond 4 bt, 0x0723 is raised and CROSS records are voted not ready; within it they are voted again, but in HOLDOVER (R256, R258). -/
def measure (m : Mod) (resid : W16) : Mod :=
  let m := m.setF BCN_STATUS 32 16 resid.toNat
  if residFar resid then { m.raise { code := 0x0723, kind := 9, unit := 0xFFFF } with crossLost := true }
  else if m.bcnState = 3 then { m with crossLost := false }
  else m

/-- A write of BCN_CMD (R254, R255). -/
def writeBcnCmd (m : Mod) (v : W64) : W16 × Mod :=
  if bit v 0 ∧ (m.modState = 3 ∨ m.rd MOD_PART_MAP ≠ 0) then (0x0704, m)
  else
    let m := if bit v 1 then m.recalibrate else m
    (0, if bit v 0 then m.enterAligning else m)

/-- The conditions of R269 on a value of BCN_CTL. -/
def bcnCtlOk (v : W64) : Bool :=
  let k := bf v 16 5
  let alt := bf v 8 3
  let src := bf v 4 3
  let so := bf v 0 3
  decide (so ≤ 2) && decide (alt ≠ 6) && decide (src ≠ 6) && decide (4 ≤ k) && decide (k ≤ 16) &&
    !(decide (1 ≤ so) && decide (src = 7)) && !(decide (alt = src) && decide (alt ≠ 7))

/-- A write of BCN_CTL: `new` is the whole word that the write would leave (R269). -/
def writeBcnCtl (m : Mod) (new : W64) : W16 × Mod :=
  if new = m.rd BCN_CTL then (0, m)
  else if m.modState = 3 then (0x0701, m)
  else if bcnCtlOk new then (0, m.wr BCN_CTL new)
  else (0x0702, m)

/-! ## Half clocks (R262 to R265) -/

/-- FREQ_EFFECT of half `i`. -/
def freqEffect (m : Mod) (i : Nat) : Nat := m.fld (HALF_CLK i) 32 8
/-- The frequency that a value of HALF_CLKi asks for: the lowest of FREQ, FCAP and PWR_FLIMITi (R262, R564). -/
def freqAsked (m : Mod) (i : Nat) (v : W64) : Nat := min (min (bf v 0 8) (bf v 16 8)) (m.fld (PWR_FLIMIT i) 0 8)

/-- The idle PLL and the rail start toward a frequency when it differs from the one asked before (R262, R558). -/
def retarget (m : Mod) (i : Nat) : Mod :=
  let f := m.freqAsked i (m.stagedWord (HALF_CLK i))
  let h := m.half i
  if f = m.freqEffect i then m.setHalf i { h with target := none, pllLocked := false, railSettled := false }
  else if h.target = some f then m
  else m.setHalf i { h with target := some f, pllLocked := false, railSettled := false }

/-- Is a frequency field within 50 to 140 and within FMIN to FMAX (R269, R456)? -/
def freqOk (m : Mod) (f : Nat) : Bool := decide (50 ≤ f) && decide (f ≤ 140) && decide (m.fmin ≤ f) && decide (f ≤ m.fmax)

/-- The half belongs to a partition under sealed steering (R270). -/
def halfSealedSteering (m : Mod) (i : Nat) : Bool := match m.slotOfDie (i / 2) with
  | some s => m.sealedSteering s
  | none => false

/-- A write of HALF_CLKi under a lane mask (R262, R269, R270).  Under sealed steering FREQ reads 0 to the host and Gallery; a write that gives it that 0 is no write of FREQ (log entry 24). -/
def writeHalfClk (m : Mod) (i : Nat) (v mask : W64) : W16 × Mod :=
  let a := HALF_CLK i
  let old := m.stagedWord a
  let hidden := m.halfSealedSteering i
  let wmask := mask &&& (if hidden then 0xFF_0000 else 0xFF_00FF)
  let new := merge wmask old v
  if hidden ∧ bf (v &&& mask) 0 8 ≠ 0 then (0x0F01, m)
  else if (wmask &&& 0xFF ≠ 0 ∧ ¬ m.freqOk (bf new 0 8)) ∨ (wmask &&& 0xFF_0000 ≠ 0 ∧ ¬ m.freqOk (bf new 16 8)) then (0x0703, m)
  else (0, (m.stage a new).retarget i)

/-- The mark at which a staged frequency of half `i` can take effect (R262, R263): the switch begins when the idle PLL is locked and, for a raise, the rail is settled; otherwise the change waits and is counted. -/
def markHalf (m : Mod) (i : Nat) : Mod :=
  let a := HALF_CLK i
  let h := m.half i
  match h.target with
  | some f =>
    if h.pllLocked && (decide (f < m.freqEffect i) || h.railSettled) then
      let m := m.wr a (merge 0xFF_00FF (m.rd a) (m.stagedWord a))
      let m := (m.unstage a).setF a 32 8 f
      m.setHalf i { h with target := none, pllLocked := false, railSettled := false, switching := true }
    else m.addCnt CNT_FREQ_DEFER 1
  | none => (m.wr a (merge 0xFF_00FF (m.rd a) (m.stagedWord a))).unstage a

/-! ## The capping limits (R564) -/

/-- At a step boundary mark, PWR_FLIMITi of one half: by the mean of T over the step (`sum` over `num` intervals), by 16 steps of mean 0, and by a warn temperature (R564, R568); the idle PLL starts toward the frequency it leaves (R262). -/
def adjustLimit (m : Mod) (i : Nat) (fall rise : Bool) : Mod :=
  let hot := match thermWarn i with
    | some w => hotter (m.temp i) w
    | none => false
  let v := m.fld (PWR_FLIMIT i) 0 8
  let v := if fall then max (v - 5) m.fmin else if rise then min (v + 5) m.fmax else v
  let v := if hot then max (v - 5) m.fmin else v
  (m.setF (PWR_FLIMIT i) 0 8 v).retarget i

/-- The capping limits of a slot at its step boundary mark (R564). -/
def adjustLimits (m : Mod) (s : Nat) : Mod :=
  let p := m.part s
  let zero := decide (p.throttleSum = 0)
  let zs := if zero then p.zeroSteps + 1 else 0
  let fall := decide (0 < p.throttleNum) && decide (4 * p.throttleNum ≤ p.throttleSum)
  let rise := decide (16 ≤ zs)
  let m := m.setPart s { p with throttleSum := 0, throttleNum := 0, zeroSteps := if rise then 0 else zs }
  forEach m ((m.diesOf s).flatMap (fun d => [2 * d, 2 * d + 1])) (fun m i => m.adjustLimit i fall rise)

end Mod

/-! ## Meanings -/

/-- BEACON_CHECK_WORD: the count that a die's own copy holds, against the check word; 0x0724 in the partition that contains it, an SRAM die with the compute die it carries (R251, R272; log entry 102). -/
def execBeaconCheckWord (die : Nat) (count : W64) (s : State) : Host.Outcome State Fault Refusal :=
  onWhen s (s.m.running && decide (die < 32)) (fun m =>
    let m := { m with dieCounts := Sparse.put (fun _ => 0) m.dieCounts die (count - m.count) }
    if count = m.count then m
    else m.raise { code := 0x0724, slot := m.slotOfDie (computeDieOf die), kind := 9, unit := 0xFFFF })

/-- HALF_PLL_LOCKED: the idle PLL of half `i` has locked (R263). -/
def execHalfPllLocked (i : Nat) (s : State) : Host.Outcome State Fault Refusal :=
  onWhen s (s.m.mainUp && decide (i < 16)) (fun m =>
    if (m.half i).target.isSome then m.setHalf i { m.half i with pllLocked := true } else m)

/-- HALF_CLOCK_SWITCH_DONE, within 32 bt of the mark (R264). -/
def execHalfClockSwitchDone (i : Nat) (s : State) : Host.Outcome State Fault Refusal :=
  onWhen s (s.m.mainUp && decide (i < 16)) (fun m =>
    forEach (m.setHalf i { m.half i with switching := false }) (upto 80) (fun m k => m.settlePort (80 * i + k)))

/-- HALF_PLL_LOCK_LOSS: the active PLL of half `i` lost lock; 0x0726 (R272). -/
def execHalfPllLockLoss (i : Nat) (s : State) : Host.Outcome State Fault Refusal :=
  onWhen s (s.m.mainUp && decide (i < 16)) (fun m =>
    (m.setHalf i { m.half i with activeLost := true }).raise { code := 0x0726, slot := m.slotOfDie (i / 2), kind := 9, unit := i })

/-- MODULE_PLL_LOCKED: LOCKING ends (R253). -/
def execModulePllLocked (s : State) : Host.Outcome State Fault Refusal :=
  onWhen s (decide (s.m.bcnState = 1)) (fun m => m.enterAligning)

/-- BEACON_ALIGNED: a follower whose count is loaded and whose port delays are calibrated enters LOCKED when its residual lies below 0.25 bt (R253, R254). -/
def execBeaconAligned (resid : W16) (s : State) : Host.Outcome State Fault Refusal :=
  onWhen s (decide (s.m.bcnState = 2) && s.m.aligned) (fun m =>
    let m := m.setF BCN_STATUS 32 16 resid.toNat
    if Mod.residNear resid then m.enterLocked else m)

/-- MODULE_PLL_LOCK_LOSS, or REF_MASTER losing BCN_REF: module-fatal 0x0725 (R256). -/
def execModulePllLockLoss (s : State) : Host.Outcome State Fault Refusal :=
  onWhen s (decide (1 ≤ s.m.bcnState)) (fun m =>
    (((m.setBcnState 0).setF BCN_STATUS 8 5 31).setF BCN_STATUS 4 3 7).raise { code := 0x0725, kind := 9, unit := 0xFFFF })

/-- HOLDOVER_ENTRY: a follower's source port stops; 0x0721; ALT_PORT is taken as source when it is trained and valid (R256). -/
def execHoldoverEntry (altValid : Bool) (s : State) : Host.Outcome State Fault Refusal :=
  onWhen s (decide (s.m.bcnState = 3) && decide (s.m.bcnSource ≠ 0)) (fun m =>
    let m := m.enterHoldover
    if altValid ∧ m.altPort ≠ 7 ∧ m.portTrained m.altPort then m.setF BCN_STATUS 4 3 m.altPort else m)

/-- HOLDOVER_LIMIT: 1,000,000 bt of HOLDOVER; 0x0722, CROSS records are voted not ready (R256). -/
def execHoldoverLimit (s : State) : Host.Outcome State Fault Refusal :=
  onWhen s (decide (s.m.bcnState = 4) && decide (1_000_000 ≤ s.m.holdoverBt) && !s.m.crossLost) (fun m =>
    { m.raise { code := 0x0722, kind := 9, unit := 0xFFFF } with crossLost := true })

/-- BEACON_STEER: one phase correction of a follower, with the residual it leaves (R255, R258). -/
def execBeaconSteer (resid : W16) (s : State) : Host.Outcome State Fault Refusal :=
  onWhen s (decide (s.m.bcnSource ≠ 0) && decide (3 ≤ s.m.bcnState)) (fun m =>
    let m := (m.addCnt CNT_STEER 1).measure resid
    if m.bcnState = 4 ∧ Mod.residNear resid ∧ m.srcActive = m.altPort then m.enterLocked else m)

/-- TRIM_RECALIBRATION of a die's branch of the tree, every 2^30 bt (R257): the trim moves, no count does. -/
def execTrimRecalibration (die : Nat) (trim : W16) (s : State) : Host.Outcome State Fault Refusal :=
  onWhen s (s.m.running && decide (die < 32)) (fun m => { m with trims := Sparse.put (fun _ => 0) m.trims die trim })

/-- PPS_IN_EDGE: the count is captured when IN_EN is 1 (R267). -/
def execPpsInEdge (s : State) : Host.Outcome State Fault Refusal :=
  onModule s (fun m =>
    if m.flag BCN_PPS_CTL 1 then (m.wr BCN_PPS_CAPTURE m.count).addCnt CNT_PPS_IN 1 else m)

/-- PPS_OUT_RISE at a multiple of 1,250,000,000 when OUT_EN is 1 (R267). -/
def execPpsOutRise (s : State) : Host.Outcome State Fault Refusal :=
  onWhen s (s.m.flag BCN_PPS_CTL 0 && s.m.running && decide (s.m.count.toNat % 1_250_000_000 = 0))
    (fun m => { m with board := { m.board with ppsOut := true } })

/-- PPS_OUT_FALL, 125,000 bt after the rise (R267). -/
def execPpsOutFall (s : State) : Host.Outcome State Fault Refusal :=
  onWhen s (s.m.board.ppsOut && decide (125_000 ≤ s.m.count.toNat % 1_250_000_000))
    (fun m => { m with board := { m.board with ppsOut := false } })

end Sys2Proof.Machine
end

