-- ==== Sys2Proof/Machine/Access.lean ====
section
/-! DEFINITION. How an access to module space ends (R496), and the lock that closes a slot to the host and Gallery (R467, R468). -/

namespace Sys2Proof.Machine

/-- The source identity of a register access that becomes a buoy operation (R290); the model has one Gallery core act. -/
def Requester.source : Requester → Source
  | .host => .host
  | .gallery => .gallery 0
  | .keeper => .keeper

namespace Mod

/-- The end of an access: its reason code is answered; a refused access of the host is recorded in HI_REFUSAL and counted (R496). -/
def finishAccess (m : Mod) (who : Requester) (addr : Nat) (write : Bool) (code : W16) : Mod :=
  let m := (m.answer code).noteRange code (if 0x20_0000 ≤ addr ∧ addr < 0x28_0000 then some ((addr - 0x20_0000) / 0x1_0000) else none)
  if code = 0 ∨ who ≠ .host then m
  else (m.wr HI_REFUSAL (BitVec.ofNat 64 (code.toNat * 2 ^ 48 + (if write then 1 else 0) * 2 ^ 40 + addr % 2 ^ 40))).addCnt CNT_BAR_REFUSED 1

/-- The host and Gallery are closed out of what belongs to a slot whose locks hold (R468). -/
def shut (m : Mod) (who : Requester) (slot : Option Nat) : Bool := decide (who ≠ .keeper) && m.lockedOwner slot

/-- A register write ends: its code, and the module it leaves, which a refusal leaves as it was but for the fields of R521. -/
def commit (_ : Mod) (who : Requester) (addr : Nat) (r : W16 × Mod) : Mod := r.2.finishAccess who addr true r.1

end Mod

end Sys2Proof.Machine
end

