-- ==== Sys2Proof/Machine/Fp.lean ====
section
/-! DEFINITION. Number formats (R115, R164 to R167), exact values and rounding (R168, R169, R173 to R177), IEEE 754 arithmetic (R66, R178, R179), maximum and minimum (R181). -/

namespace Sys2Proof

/-- A value of a number format: NaN, a signed infinity, or (−1)^neg × m × 2^e. -/
inductive Val where
  | nan
  | inf (neg : Bool)
  | fin (neg : Bool) (m : Nat) (e : Int)
  deriving DecidableEq, Repr

/-- A floating format: exponent and mantissa bits, bias, and whether the top exponent codes infinity and NaN (E4M3 and E2M1 differ, R164). -/
structure FloatFmt where
  eb : Nat
  mb : Nat
  bias : Nat
  ieee : Bool
  deriving DecidableEq, Repr

def bf16 : FloatFmt := ⟨8, 7, 127, true⟩
def fp16 : FloatFmt := ⟨5, 10, 15, true⟩
def e4m3 : FloatFmt := ⟨4, 3, 7, false⟩
def e5m2 : FloatFmt := ⟨5, 2, 15, true⟩
def e2m1 : FloatFmt := ⟨2, 1, 1, false⟩
def fp32 : FloatFmt := ⟨8, 23, 127, true⟩
/-- IEEE 754 binary64, the format of VRED RF 1 (R182). -/
def fp64 : FloatFmt := ⟨11, 52, 1023, true⟩

/-- The floating format of a selector code (R115). -/
def floatOf : Nat → Option FloatFmt
  | 0 => some bf16 | 1 => some fp16 | 2 => some e4m3 | 3 => some e5m2 | 4 => some e2m1 | 8 => some fp32 | _ => none

/-- The bits of an element slot of a format code (R57, R164, R166). -/
def fmtBits : Nat → Nat
  | 0 => 16 | 1 => 16 | 2 => 8 | 3 => 8 | 4 => 4 | 5 => 8 | 6 => 4 | 7 => 4 | _ => 32

/-- Integer formats: INT8, INT4, T2 and INT32 (R166). -/
def isInt (c : Nat) : Bool := decide (c = 5) || decide (c = 6) || decide (c = 7) || decide (c = 9)

namespace FloatFmt

/-- The exponent of the smallest subnormal. -/
def emin (f : FloatFmt) : Int := 1 - (f.bias : Int) - f.mb
/-- The largest finite value: mantissa and exponent. -/
def maxM (f : FloatFmt) : Nat := if f.eb = 4 then 14 else 2 ^ (f.mb + 1) - 1
def maxE (f : FloatFmt) : Int := f.emin + (2 ^ f.eb - (if f.ieee then 2 else 1)) - 1

/-- The value of a code (R164). -/
def decode (f : FloatFmt) (w : Nat) : Val :=
  let neg := decide (w / 2 ^ (f.eb + f.mb) % 2 = 1)
  let e := w / 2 ^ f.mb % 2 ^ f.eb
  let m := w % 2 ^ f.mb
  if f.ieee ∧ e = 2 ^ f.eb - 1 then (if m = 0 then .inf neg else .nan)
  else if f = e4m3 ∧ e = 15 ∧ m = 7 then .nan
  else if e = 0 then .fin neg m f.emin
  else .fin neg (2 ^ f.mb + m) (f.emin + (e : Int) - 1)

/-- The NaN that is written (R164). -/
def nanCode (f : FloatFmt) : Nat :=
  if f.ieee then (2 ^ f.eb - 1) * 2 ^ f.mb + 2 ^ (f.mb - 1) else if f.eb = 4 then 0x7F else 0
def infCode (f : FloatFmt) (neg : Bool) : Nat := (2 ^ f.eb - 1) * 2 ^ f.mb + (if neg then 2 ^ (f.eb + f.mb) else 0)

/-- The code of (−1)^neg × q × 2^x, which the format represents. -/
def encode (f : FloatFmt) (neg : Bool) (q : Nat) (x : Int) : Nat :=
  let s := if neg then 2 ^ (f.eb + f.mb) else 0
  let (q, x) := if 2 ^ (f.mb + 1) ≤ q then (q / 2, x + 1) else (q, x)
  if q < 2 ^ f.mb then s + q
  else s + ((x - f.emin).toNat + 1) * 2 ^ f.mb + (q - 2 ^ f.mb)

/-- The grid exponent at m × 2^e: the format's spacing there, exponents unbounded above (R173). -/
def grid (f : FloatFmt) (m : Nat) (e : Int) : Int := max f.emin ((Nat.log2 m : Int) + e - f.mb)

/-- The magnitude q × 2^x is above the largest finite value. -/
def tooBig (f : FloatFmt) (q : Nat) (x : Int) : Bool :=
  if f.maxE ≤ x then decide (f.maxM < q * 2 ^ (x - f.maxE).toNat)
  else decide (f.maxM * 2 ^ (f.maxE - x).toNat < q)

end FloatFmt

/-! ## Rounding a magnitude onto a grid -/

/-- m × 2^e on the grid of spacing 2^x: the quotient toward zero, and the part cut off as a fraction num / den of the spacing. -/
def onGrid (m : Nat) (e x : Int) : Nat × Nat × Nat :=
  if x ≤ e then (m * 2 ^ (e - x).toNat, 0, 1)
  else
    let d := 2 ^ (x - e).toNat
    (m / d, m % d, d)

/-- Round to nearest, ties to even. -/
def rne (q num den : Nat) : Nat := if den < 2 * num ∨ (2 * num = den ∧ q % 2 = 1) then q + 1 else q

/-- Stochastic rounding with the 4-bit random value r (R177). -/
def stochastic (q num den r : Nat) : Nat :=
  let fl := 32 * num / den
  let st := decide (32 * num % den ≠ 0)
  if 2 * r + 1 < fl ∨ (2 * r + 1 = fl ∧ st) then q + 1 else q

/-- Rounds by RND: none is nearest even, some r is stochastic. -/
def roundBy (rnd : Option Nat) (q num den : Nat) : Nat := match rnd with
  | none => rne q num den
  | some r => if num = 0 then q else stochastic q num den r

namespace Val

def neg : Val → Val
  | nan => nan | inf s => inf (!s) | fin s m e => fin (!s) m e
def isNan : Val → Bool
  | nan => true | _ => false
def isFinite : Val → Bool
  | fin .. => true | _ => false
def isZero : Val → Bool
  | fin _ 0 _ => true | _ => false
def isNeg : Val → Bool
  | nan => false | inf s => s | fin s _ _ => s

/-- The exact integer multiple of 2^x that a finite value is (x at most its exponent). -/
def scaled (x : Int) : Val → Int
  | fin s m e => let v : Int := (m * 2 ^ (e - x).toNat : Nat); if s then -v else v
  | _ => 0
/-- The exponent of a finite value. -/
def expo : Val → Int
  | fin _ _ e => e | _ => 0

/-- The exact sum of values with IEEE 754 special cases (R169): a zero sum is −0 only when every term is −0. -/
def sum (l : List Val) : Val :=
  if l.any isNan then nan
  else if l.any (fun v => v = inf true) ∧ l.any (fun v => v = inf false) then nan
  else if l.any (fun v => v = inf true) then inf true
  else if l.any (fun v => v = inf false) then inf false
  else
    let x := l.foldl (fun a v => min a v.expo) (l.headD (fin false 0 0)).expo
    let t : Int := l.foldl (fun a v => a + v.scaled x) 0
    if t = 0 then fin (!l.isEmpty && l.all isNeg) 0 0 else fin (decide (t < 0)) t.natAbs x

/-- The exact product with IEEE 754 special cases. -/
def mul : Val → Val → Val
  | nan, _ => nan
  | _, nan => nan
  | inf s, fin t m _ => if m = 0 then nan else inf (s ^^ t)
  | fin t m _, inf s => if m = 0 then nan else inf (s ^^ t)
  | inf s, inf t => inf (s ^^ t)
  | fin s m e, fin t n f => fin (s ^^ t) (m * n) (e + f)

/-- Rounds to a format as an IEEE 754 arithmetic result: an excess becomes an infinity, a NaN the one written (R66, R169, R178). -/
def toIeee (f : FloatFmt) : Val → Nat
  | nan => f.nanCode
  | inf s => f.infCode s
  | fin s 0 _ => f.encode s 0 0
  | fin s m e =>
    let x := f.grid m e
    let g := onGrid m e x
    let q := rne g.1 g.2.1 g.2.2
    if f.tooBig q x then f.infCode s else f.encode s q x

/-- The order of R181 on values that are not NaN: −∞, negative, −0, +0, positive, +∞. -/
def less : Val → Val → Bool
  | inf s, b => s && decide (b ≠ inf true)
  | a, inf s => !s && decide (a ≠ inf false)
  | fin s m e, fin t n f =>
    let x := min e f
    let a := (fin s m e).scaled x
    let b := (fin t n f).scaled x
    decide (a < b) || (decide (a = b) && decide (m = 0) && s && !t)
  | _, _ => false

end Val

/-- The value of an element code of any format (R164 to R166); code 0b10 of T2 reads as 0. -/
def elemVal (c w : Nat) : Val :=
  match floatOf c with
  | some f => f.decode w
  | none =>
    let i : Int :=
      if c = 5 then sext 8 w
      else if c = 6 then sext 4 w
      else if c = 7 then (if w % 4 = 1 then 1 else if w % 4 = 3 then -1 else 0)
      else sext 32 w
    .fin (decide (i < 0)) i.natAbs 0

/-- The elements of a word of `bits` bits at `w` bits each, from slot 0 (R57). -/
def slotsOf (bits w v : Nat) : List Nat := (upto (bits / w)).map (fun k => v / 2 ^ (w * k) % 2 ^ w)
/-- Packs elements of `w` bits, slot 0 lowest. -/
def packSlots (w : Nat) : List Nat → Nat
  | [] => 0
  | x :: r => x % 2 ^ w + 2 ^ w * packSlots w r

/-! ## FP32 patterns -/

def val32 (w : W32) : Val := fp32.decode w.toNat
def to32 (v : Val) : W32 := BitVec.ofNat 32 (v.toIeee fp32)
def add32 (a b : W32) : W32 := to32 (Val.sum [val32 a, val32 b])
def mul32 (a b : W32) : W32 := to32 (Val.mul (val32 a) (val32 b))
def abs32 (a : W32) : W32 := a &&& 0x7FFF_FFFF
def neg32 (a : W32) : W32 := a ^^^ 0x8000_0000
/-- The NaN that is written in FP32. -/
def nan32 : W32 := 0x7FC0_0000

/-- Maximum (`mx`) or minimum of two codes of one format (R181): a NaN wins, −0 lies below +0, equal values keep the first. -/
def pick (f : FloatFmt) (mx : Bool) (a b : Nat) : Nat :=
  let x := f.decode a
  let y := f.decode b
  if x.isNan || y.isNan then f.nanCode
  else if mx then (if Val.less x y then b else a) else (if Val.less y x then b else a)
def pick32 (mx : Bool) (a b : W32) : W32 := BitVec.ofNat 32 (pick fp32 mx a.toNat b.toNat)

/-- The integer square root by bits, `n` of them. -/
def isqrt : Nat → Nat → Nat → Nat
  | 0, _, r => r
  | n + 1, v, r => let t := r + 2 ^ n; isqrt n v (if t * t ≤ v then t else r)

/-- SQRT, correctly rounded (R179). -/
def sqrt32 (a : W32) : W32 := match val32 a with
  | .nan => nan32
  | .inf s => if s then nan32 else a
  | .fin s m e =>
    if m = 0 then a else if s then nan32
    else
      let (m, e) := if e % 2 = 0 then (m, e) else (2 * m, e - 1)
      let v := m * 2 ^ 60
      let r := isqrt 44 v 0
      to32 (.fin false (2 * r + (if r * r = v then 0 else 1)) (e / 2 - 31))

/-- The quotient of two finite FP32 values, correctly rounded; the divisor is not zero. -/
def div32 (a b : W32) : W32 := match val32 a, val32 b with
  | .fin s m e, .fin t n f =>
    if m = 0 ∨ n = 0 then (if s ^^ t then 0x8000_0000 else 0)
    else
      let v := m * 2 ^ 60
      let q := v / n
      to32 (.fin (s ^^ t) (2 * q + (if v % n = 0 then 0 else 1)) (e - f - 61))
  | _, _ => nan32

/-- Division with the special cases of IEEE 754. -/
def quot32 (a b : W32) : W32 := match val32 a, val32 b with
  | .nan, _ => nan32
  | _, .nan => nan32
  | .inf _, .inf _ => nan32
  | .inf s, y => to32 (.inf (s ^^ y.isNeg))
  | x, .inf t => if x.isNeg ^^ t then 0x8000_0000 else 0
  | .fin s m _, .fin t 0 _ => if m = 0 then nan32 else to32 (.inf (s ^^ t))
  | _, _ => div32 a b

/-- FP64 (R182, R329): the value of a code, and the rounded sum and product of codes. -/
def val64 (w : Nat) : Val := fp64.decode w
def add64 (a b : Nat) : Nat := (Val.sum [val64 a, val64 b]).toIeee fp64
def mul64 (a b : Nat) : Nat := (Val.mul (val64 a) (val64 b)).toIeee fp64
/-- An FP32 code widened to FP64. -/
def to64 (a : W32) : Nat := (val32 a).toIeee fp64

/-! ## Conversion (R173 to R176) -/

/-- A converted element and its events. -/
structure Conv where
  code : Nat
  ovf : Bool := false
  van : Bool := false
  nonfin : Bool := false
  deriving DecidableEq, Repr

/-- The range of an integer format (R166, R174). -/
def intRange : Nat → Int × Int
  | 5 => (-128, 127) | 6 => (-8, 7) | 7 => (-1, 1) | _ => (-2 ^ 31, 2 ^ 31 - 1)
/-- The code of an integer of a format; T2 has −1 as 0b11. -/
def intCode (c : Nat) (i : Int) : Nat :=
  if c = 7 then (if i = 1 then 1 else if i = -1 then 3 else 0)
  else (i % (2 ^ fmtBits c : Nat)).toNat

/-- Converts a value to a floating format (R173, R175). -/
def convFloat (f : FloatFmt) (rnd : Option Nat) : Val → Conv
  | .nan => { code := f.nanCode, nonfin := true }
  | .inf s => { code := if f.ieee then f.infCode s else f.encode s f.maxM f.maxE, nonfin := true }
  | .fin s m e =>
    if m = 0 then { code := f.encode s 0 0 }
    else
      let x := f.grid m e
      let g := onGrid m e x
      let q := roundBy rnd g.1 g.2.1 g.2.2
      if f.tooBig q x then { code := f.encode s f.maxM f.maxE, ovf := true }
      else { code := f.encode s q x, van := decide (q = 0) }

/-- Converts a value to an integer format (R174, R175). -/
def convInt (c : Nat) (rnd : Option Nat) : Val → Conv
  | .nan => { code := 0, nonfin := true }
  | .inf s => { code := intCode c (if s then (intRange c).1 else (intRange c).2), nonfin := true }
  | .fin s m e =>
    let g := onGrid m e 0
    let q : Int := (roundBy rnd g.1 g.2.1 g.2.2 : Nat)
    let i := if s then -q else q
    let (lo, hi) := intRange c
    if i < lo then { code := intCode c lo, ovf := true }
    else if hi < i then { code := intCode c hi, ovf := true }
    else { code := intCode c i, van := decide (i = 0) && decide (m ≠ 0) }

/-- Converts a value to a format code; a conversion to FP32 or INT32 from its own kind counts no event (R186). -/
def convert (c : Nat) (rnd : Option Nat) (v : Val) : Conv := match floatOf c with
  | some f => if f = fp32 then { code := v.toIeee fp32 } else convFloat f rnd v
  | none => convInt c rnd v

/-- Converts a word of BF16 bits to its FP32 pattern. -/
def widen (w : Nat) : W32 := BitVec.ofNat 32 (w % 2 ^ 16 * 2 ^ 16)

end Sys2Proof
end

