-- ==== Sys2Proof/Machine/Jigs.lean ====
section
/-! DEFINITION. The veneer cache (R71 to R75), the jigs (R59 to R70) and the element streams that they deliver and take (R583). -/

namespace Sys2Proof.Machine

/-- A unit's progress: the result with the module, or the code of the trap with the module as it then stands (R104, R125). -/
abbrev Run (α : Type) : Type := Except (W16 × Mod) (α × Mod)

namespace Mod

/-! ## Veneer -/

/-- The tag store entry of a way of the set of HBM line `h` in quarter `q` (R71). -/
def venKey (q h way : Nat) : Nat := q * 8192 + h % 2048 * 4 + way
def venEntry (m : Mod) (t key : Nat) : VLine := Sparse.get (fun _ => {}) (m.tile t).veneer key
def setVen (m : Mod) (t key : Nat) (v : VLine) : Mod :=
  m.modTile t (fun x => { x with veneer := Sparse.put (fun _ => {}) x.veneer key v })
/-- The partition slot whose HBM a tile's veneer serves. -/
def venSlot (m : Mod) (t : Nat) : Nat := (m.slotOfTile t).getD 0

/-- The way that holds line `h`. -/
def venFind (m : Mod) (t q h : Nat) : Option Nat :=
  (upto 4).find? (fun w => (m.venEntry t (venKey q h w)).valid && decide ((m.venEntry t (venKey q h w)).line = h))
/-- The way to replace: an invalid one, else the least recently used (R71). -/
def venVictim (m : Mod) (t q h : Nat) : Nat :=
  match (upto 4).find? (fun w => !(m.venEntry t (venKey q h w)).valid) with
  | some w => w
  | none => (upto 4).foldl (fun a w => if (m.venEntry t (venKey q h w)).used < (m.venEntry t (venKey q h a)).used then w else a) 0
/-- What refuses an access to HBM line `h`: an address outside the partition's HBM (0x0902), a scrub (0x0909), no key (0x0926), or nothing (R314, R316, R320). -/
def venCode (m : Mod) (t h : Nat) : W16 :=
  if !m.hbmRange (m.venSlot t) (h * 1024) 1024 1024 then 0x0902 else m.hbmCode (m.venSlot t) (h * 1024)
/-- A fill or write-back of HBM line `h` that `venCode` stops: the stack raises 0x0926, and where the controller refuses the access the tile raises 0x0927 with the reason code as DETAIL.  That a refused write-back raises 0x0927 too, and that its line is dropped, is the model's choice (DESIGN CHOICE, log entry 92). -/
def venFault (m : Mod) (t h : Nat) (code : W16) : Mod :=
  let p := hbmPlace (m.venSlot t) (h * 1024)
  if code = 0x0926 then m.stackFault p.1 code p.2 else m.raiseTile t 0x0927 (h * 1024) (code.zeroExtend 128)
/-- Writes a line back to HBM when it is dirty (R74). -/
def venWriteBack (m : Mod) (t key : Nat) : Mod :=
  let v := m.venEntry t key
  if v.valid ∧ v.dirty then
    let c := m.venCode t v.line
    let m := m.setVen t key { v with dirty := false }
    if c = 0 then (m.storeHbm (m.venSlot t) (v.line * 1024) (m.ld (scratchAt t (key * 1024)) 1024)).addCnt (CNT_VEN_WB t) 1
    else m.venFault t v.line c
  else m
/-- The victim's way takes HBM line `h`: the old line is written back, and the new one filled from HBM (R74).  A write of the whole line allocates it without a fill (`whole`): the bytes it has still to write show the line in HBM where that can be read, and nothing is raised.  A fill that fails is raised, and the line is then valid under its new tag with the bytes that the way held (DESIGN CHOICE, log entry 92). -/
def venInstall (m : Mod) (t q h : Nat) (whole : Bool) : Nat × Mod :=
  let key := venKey q h (m.venVictim t q h)
  let m := m.venWriteBack t key
  let c := m.venCode t h
  let r := m.readHbm (m.venSlot t) (h * 1024) 1024
  let m := if c = 0 then (if whole then m else r.2).st (scratchAt t (key * 1024)) r.1
    else if whole then m else m.venFault t h c
  (key, m.setVen t key { valid := true, line := h, dirty := false, used := 0 })

/-- Marks a line used, and dirty for a write. -/
def venTouch (m : Mod) (t key : Nat) (write : Bool) : Mod :=
  let n := (m.tile t).veneerUse + 1
  let v := m.venEntry t key
  (m.setVen t key { v with used := n, dirty := v.dirty || write }).modTile t (fun x => { x with veneerUse := n })

/-- The line of the tag store that serves HBM line `h`, after a hit or a miss; `count` when this is the first word of its line access (R74), `whole` when the access writes all 32 positions.  While the line is held it is the copy that a read returns, whatever other units have written to HBM meanwhile: R75 allows that or the new value (DESIGN CHOICE, log entry 93). -/
def venAccess (m : Mod) (t q h : Nat) (write count whole : Bool) : Nat × Mod :=
  match m.venFind t q h with
  | some w =>
    let key := venKey q h w
    (key, (if count then m.addCnt (CNT_VEN_HIT t) 1 else m).venTouch t key write)
  | none =>
    let r := (if count then m.addCnt (CNT_VEN_MISS t) 1 else m).venInstall t q h whole
    (r.1, r.2.venTouch t r.1 write)

/-- The lines of a quarter that the tag store lists. -/
def venKeys (m : Mod) (t : Nat) : List Nat := (m.tile t).veneer.map (·.1)
/-- Write-back of every dirty line and invalidation of every line (R73). -/
def venFlush (m : Mod) (t : Nat) : Mod :=
  let m := forEach m (m.venKeys t) (fun m k => m.venWriteBack t k)
  m.modTile t (fun x => { x with veneer := [] })

/-! ## Words of any dowel -/

/-- Word `a` of a dowel for a reader, through the veneer where its mode says so. -/
def readWord (m : Mod) (t d a : Nat) (count : Bool) : W256 × Mod :=
  if m.dowelMode t d = 3 then
    let r := m.venAccess t (m.dowelQuarter t d) (m.dowelHbmLine t d + a / 32) false count false
    (r.2.ldWord t (r.1 * 1024 + a % 32 * 32), r.2)
  else (m.ldDowel t d a, m)
/-- Writes word `a` of a dowel; `whole` for a word of a write of all 32 positions of its line (R74). -/
def writeWord (m : Mod) (t d a : Nat) (w : W256) (count whole : Bool) : Mod :=
  if m.dowelMode t d = 3 then
    let r := m.venAccess t (m.dowelQuarter t d) (m.dowelHbmLine t d + a / 32) true count whole
    r.2.stWord t (r.1 * 1024 + a % 32 * 32) w
  else m.stDowel t d a w

/-! ## Jig fields (R59, R89) -/

def jigOn (m : Mod) (t j : Nat) : Bool := m.flag (JIG_CTL t j) 0
def jigDowel (m : Mod) (t j : Nat) : Nat := m.fld (JIG_CTL t j) 24 8
def jigRfmt (m : Mod) (t j : Nat) : Nat := m.fld (JIG_CTL t j) 21 3
/-- REDUCE: 0 none, 1 add, 2 max, 3 min. -/
def jigReduce (m : Mod) (t j : Nat) : Nat := m.fld (JIG_CTL t j) 19 2
def jigWrite (m : Mod) (t j : Nat) : Bool := m.flag (JIG_CTL t j) 18
/-- FILL repeated eight times. -/
def jigFill (m : Mod) (t j : Nat) : W256 :=
  BitVec.ofNat 256 (packSlots 32 (List.replicate 8 (m.fld (JIG_FILL t j) 0 32)))
def jigBase (m : Mod) (t j : Nat) : Int := sext 24 (m.fld (JIG_BASE t j) 0 24)
def extent (m : Mod) (t j n : Nat) : Nat := m.fld (DIM_A t j n) 0 16 + 1
def stride (m : Mod) (t j n : Nat) : Int := sext 20 (m.fld (DIM_A t j n) 32 20)
/-- G_n: an axis, or 7 none. -/
def dimAxis (m : Mod) (t j n : Nat) : Nat := m.fld (DIM_B t j n) 32 3
def astep (m : Mod) (t j n : Nat) : Int := sext 16 (m.fld (DIM_B t j n) 0 16)
def axisOrigin (m : Mod) (t j g : Nat) : Int := sext 20 (m.fld (AXIS t j g) 32 20)
def axisBound (m : Mod) (t j g : Nat) : Nat := m.fld (AXIS t j g) 0 20

/-- JIG_STATUS.STATE: 0 IDLE, 1 RUN, 2 DONE, 3 FAULT. -/
def jigState (m : Mod) (t j : Nat) : Nat := m.fld (JIG_STATUS t j) 0 4
def setJigState (m : Mod) (t j v : Nat) : Mod := m.setF (JIG_STATUS t j) 0 4 v
def jigPos (m : Mod) (t j : Nat) : JigPos := Sparse.get (fun _ => {}) (m.tile t).jigs j
def setJigPos (m : Mod) (t j : Nat) (p : JigPos) : Mod :=
  m.modTile t (fun x => { x with jigs := Sparse.put (fun _ => {}) x.jigs j p })
/-- The line accesses of one walk (R60). -/
def jigLines (m : Mod) (t j : Nat) : Nat :=
  m.extent t j 1 * m.extent t j 2 * m.extent t j 3 * m.extent t j 4 * m.extent t j 5

/-! ## Positions -/

/-- idx_0 to idx_5 of position `p` of line access `l` (R60). -/
def jigIdx (m : Mod) (t j l p : Nat) : List Nat :=
  let e := fun n => m.extent t j n
  let l2 := l / e 1
  let l3 := l2 / e 2
  let l4 := l3 / e 3
  [p, l % e 1, l2 % e 2, l3 % e 3, l4 % e 4, l4 / e 4 % e 5]

/-- The dowel-relative word address of an iteration (R59). -/
def jigAddr (m : Mod) (t j : Nat) (idx : List Nat) : Int :=
  m.jigBase t j + ((upto 6).map (fun n => m.stride t j n * (idx.getD n 0 : Nat))).foldl (· + ·) 0

/-- The iteration is in bounds on every axis that a dimension names (R59). -/
def jigInBounds (m : Mod) (t j : Nat) (idx : List Nat) : Bool :=
  (upto 6).all (fun g =>
    let dims := (upto 6).filter (fun n => decide (m.dimAxis t j n = g))
    let x := m.axisOrigin t j g + (dims.map (fun n => m.astep t j n * (idx.getD n 0 : Nat))).foldl (· + ·) 0
    dims.isEmpty || (decide (0 ≤ x) && decide (x < m.axisBound t j g)))

/-- What a position of a line access is: out of bounds (R61, R62), an address outside the dowel (R63), or a word. -/
inductive Place where
  | out
  | bad (a : Int)
  | word (a : Nat)
  deriving DecidableEq, Repr

def jigPlace (m : Mod) (t j l p : Nat) : Place :=
  let idx := m.jigIdx t j l p
  if !m.jigInBounds t j idx then .out
  else
    let a := m.jigAddr t j idx
    if a < 0 ∨ (m.dowelWords t (m.jigDowel t j) : Int) ≤ a then .bad a else .word a.toNat

/-- The places of one line access, positions 0 to EXTENT_0 − 1. -/
def jigPlaces (m : Mod) (t j l : Nat) : List Place := (upto (m.extent t j 0)).map (fun p => m.jigPlace t j l p)

/-! ## Bank conflicts (R46 to R48) -/

/-- Bank half of a word of a dowel: bank × 2 + half. -/
def bankHalf (m : Mod) (t d a : Nat) : Nat :=
  let p := m.dowelPlace t d a
  ((p.1 % 32 + p.2) % 32) * 2 + p.1 % 32 / 16
/-- The cycles a line access takes: the largest number of its distinct words in one bank half. -/
def lineCycles (m : Mod) (t d : Nat) (pl : List Place) : Nat :=
  let ws := (pl.filterMap (fun p => match p with | .word a => some a | _ => none)).eraseDups
  let hs := ws.map (fun a => m.bankHalf t d a)
  hs.foldl (fun n h => max n (hs.filter (· = h)).length) 0
/-- Counts the extra cycles of a line access; a veneer line has none. -/
def countConflict (m : Mod) (t d : Nat) (pl : List Place) (times : Nat) : Mod :=
  let n := m.lineCycles t d pl
  if m.dowelMode t d = 3 ∨ n ≤ 1 then m else m.addCnt (CNT_QCONFLICT t) (times * (n - 1))

/-! ## Reading -/

/-- A jig fault (R63). -/
def jigFault (m : Mod) (t j : Nat) (a : Int) : Mod :=
  (m.setJigState t j 3).raiseTile t 0x0223 (BitVec.ofInt 64 a).toNat

/-- The words of one line access, in position order; `first` says that no word of the access has gone to the quarter yet. -/
def readPlaces (m : Mod) (t j : Nat) (fill : W256) : List Place → Bool → List W256 × Mod
  | [], _ => ([], m)
  | .word a :: r, first =>
    let x := m.readWord t (m.jigDowel t j) a first
    let y := readPlaces x.2 t j fill r false
    (x.1 :: y.1, y.2)
  | _ :: r, first =>
    let y := readPlaces m t j fill r first
    (fill :: y.1, y.2)

/-- The first address outside the dowel of a line access, if any. -/
def firstBad (pl : List Place) : Option Int := pl.findSome? (fun p => match p with | .bad a => some a | _ => none)

/-- After a line access: LINES, and DONE after the last line or FAULT for a bad address (R63, R70). -/
def endLine (m : Mod) (t j l : Nat) (pl : List Place) : Mod :=
  let m := m.setJigPos t j { line := l + 1, pos := 0 }
  match firstBad pl with
  | some a => m.jigFault t j a
  | none => if m.jigLines t j ≤ l + 1 then m.setJigState t j 2 else m

/-- The next line access of a read jig: its EXTENT_0 words (R60, R61, R104). -/
def readLine (m : Mod) (t j : Nat) : Run (List W256) :=
  if m.jigState t j ≠ 1 then .error (0x032C, m)
  else
    let l := (m.jigPos t j).line
    let pl := m.jigPlaces t j l
    let m := (m.setF (JIG_STATUS t j) 32 32 (l + 1)).countConflict t (m.jigDowel t j) pl 1
    let r := m.readPlaces t j (m.jigFill t j) pl true
    .ok (r.1, r.2.endLine t j l pl)

/-- A line as the array takes it: 32 positions, fill beyond EXTENT_0 (R61). -/
def readLine32 (m : Mod) (t j : Nat) : Run (List W256) :=
  let fill := m.jigFill t j
  match m.readLine t j with
  | .ok (ws, m) => .ok ((ws ++ List.replicate 32 fill).take 32, m)
  | .error e => .error e

/-- The words of `n` line accesses, as a stream (R583). -/
def readLines (m : Mod) (t j : Nat) : Nat → Run (List W256)
  | 0 => .ok ([], m)
  | n + 1 => match m.readLine t j with
    | .error e => .error e
    | .ok (ws, m) => match readLines m t j n with
      | .error e => .error e
      | .ok (r, m) => .ok (ws ++ r, m)

/-- At least `need` words of a jig's stream, over as many lines as that takes, at most `fuel` (R583). -/
def readStream (m : Mod) (t j need : Nat) : Nat → Run (List W256)
  | 0 => .ok ([], m)
  | n + 1 =>
    if need = 0 then .ok ([], m)
    else match m.readLine t j with
      | .error e => .error e
      | .ok (ws, m) => match readStream m t j (need - ws.length) n with
        | .error e => .error e
        | .ok (r, m) => .ok (ws ++ r, m)

/-! ## Writing -/

/-- The element format of RFMT (R89). -/
def rfmtCode : Nat → Nat
  | 0 => 8 | 1 => 0 | 2 => 1 | 3 => 9 | _ => 5

/-- Combines two elements of a format by REDUCE (R66, R181). -/
def combineElem (c red a b : Nat) : Nat :=
  match floatOf c with
  | some f =>
    if red = 1 then (Val.sum [f.decode a, f.decode b]).toIeee f else pick f (decide (red = 2)) a b
  | none =>
    let w := fmtBits c
    let x := sext w a
    let y := sext w b
    let (lo, hi) := intRange c
    let z := if red = 1 then x + y else if red = 2 then max x y else min x y
    intCode c (max lo (min hi z))
/-- Combines two words element by element. -/
def combineWord (c red : Nat) (old new : W256) : W256 :=
  let w := fmtBits c
  BitVec.ofNat 256 (packSlots w (List.zipWith (combineElem c red) (slotsOf 256 w old.toNat) (slotsOf 256 w new.toNat)))

/-- A line access writes all 32 positions of its line. -/
def wholeLine (pl : List Place) : Bool := decide (pl.length = 32) && pl.all (fun p => match p with | .word _ => true | _ => false)

/-- Writes one position of a line access of a write jig (R62, R63, R65, R66): `pl` are the places of the access, `p` the position.  A line with REDUCE on a VENEER dowel counts as one hit or miss, that of its read (DESIGN CHOICE, log entry 93). -/
def writePlace (m : Mod) (t j p : Nat) (pl : List Place) (w : W256) : Mod :=
  let d := m.jigDowel t j
  match pl.getD p .out with
  | .out => m.addCnt (CNT_OOB_DROP t) 1
  | .bad _ => m
  | .word a =>
    let lower := pl.take p
    let m := if lower.contains (.word a) then m.addCnt (CNT_BURST_COLL t) 1 else m
    let first := !lower.any (fun x => match x with | .word _ => true | _ => false)
    if m.jigReduce t j = 0 then m.writeWord t d a w first (wholeLine pl)
    else
      let r := m.readWord t d a first
      r.2.writeWord t d a (combineWord (rfmtCode (m.jigRfmt t j)) (m.jigReduce t j) r.1 w) false false

/-- The next word of an output stream: the next position below EXTENT_0 takes it (R583). -/
def putWord (m : Mod) (t j : Nat) (w : W256) : Run Unit :=
  if m.jigState t j ≠ 1 then .error (0x032C, m)
  else
    let c := m.jigPos t j
    let pl := m.jigPlaces t j c.line
    let m := m.setF (JIG_STATUS t j) 32 32 (c.line + 1)
    let m := m.writePlace t j c.pos pl w
    if c.pos + 1 < m.extent t j 0 then .ok ((), m.setJigPos t j { c with pos := c.pos + 1 })
    else .ok ((), (m.countConflict t (m.jigDowel t j) pl (if m.jigReduce t j = 0 then 1 else 2)).endLine t j c.line pl)

/-- The words of an output stream. -/
def putWords (m : Mod) (t j : Nat) : List W256 → Run Unit
  | [] => .ok ((), m)
  | w :: r => match m.putWord t j w with
    | .error e => .error e
    | .ok (_, m) => putWords m t j r

/-! ## Enable and disable (R69, R70) -/

/-- The checks at a jig's enable, in the order of R69. -/
def jigCheck (m : Mod) (t j : Nat) : W16 :=
  let d := m.jigDowel t j
  let mode := m.dowelMode t d
  let wr := m.jigWrite t j
  let red := m.jigReduce t j
  let dims := upto 6
  if !m.dowelValid t d then 0x0202
  else if mode = 2 ∨ (wr = true ∧ (j < 4 ∨ mode = 1)) ∨ (wr = false ∧ j = 4) then 0x0204
  else if wr && decide (red = 0) && dims.any (fun n => decide (m.stride t j n = 0) && decide (1 < m.extent t j n)) then 0x0205
  else if 32 < m.extent t j 0 then 0x0206
  else if red ≠ 0 ∧ wr = false then 0x0204
  else if mode = 3 && (decide (m.stride t j 0 ≠ 1) || decide (m.jigBase t j % 32 ≠ 0) ||
      (dims.drop 1).any (fun n => decide (m.stride t j n % 32 ≠ 0))) then 0x0207
  else if (red ≠ 0 && decide (4 < m.jigRfmt t j)) || dims.any (fun n => decide (m.dimAxis t j n = 6)) then 0x0208
  else 0

/-- A write of 1 to a jig's ENABLE at 0: the checks, then RUN from idx 0. -/
def enableJig (m : Mod) (t j : Nat) : W16 × Mod :=
  let c := m.jigCheck t j
  if c ≠ 0 then (c, m)
  else (0, (((m.setFlag (JIG_CTL t j) 0 true).setF (JIG_STATUS t j) 32 32 0).setJigState t j 1).setJigPos t j {})

/-- A write of 0 to a jig's ENABLE: IDLE (R70). -/
def disableJig (m : Mod) (t j : Nat) : Mod := (m.setFlag (JIG_CTL t j) 0 false).setJigState t j 0

/-! ## Dowels (R54, R55) -/

/-- The checks at a dowel's VALID, in the order of R54. -/
def dowelCheck (m : Mod) (t d : Nat) : W16 :=
  let mode := m.dowelMode t d
  let q := m.dowelQuarter t d
  let rows := m.dowelRows t d
  if 3 < mode then 0x0208
  else if rows = 0 ∨ (mode ≠ 3 ∧ 8192 < m.dowelBase t d + rows) ∨ (mode = 3 ∧ 8192 < rows) then 0x0209
  else if m.dowel2D t d ∧ (m.dowelBase t d % 32 ≠ 0 ∨ rows % (32 * m.dowelBw t d) ≠ 0) then 0x0209
  else if mode ≠ 3 ∧ (m.veneerMode t q ∨ m.veneerPending t q) then 0x020A
  else if mode = 3 ∧ (¬ m.veneerMode t q ∨ ¬ m.veneerPending t q ∨ m.dowel2D t d) then 0x020A
  else 0

/-- A dowel that may not be cleared: an enabled jig or a running mitre copy names it, or it is the PROGRAM dowel of an enabled tile (R55). -/
def dowelInUse (m : Mod) (t d : Nat) : Bool :=
  (upto 6).any (fun j => m.jigOn t j && decide (m.jigDowel t j = d)) ||
  (m.tile t).mitre.any (fun x => decide (bf x.w0 0 8 = d) || decide (bf x.w0 8 8 = d)) ||
  (decide (m.dowelMode t d = 2) && m.tileEnabled t)

end Mod

end Sys2Proof.Machine
end

