-- ==== Sys2Proof/Machine/Tile.lean ====
section
/-! DEFINITION. The tile beside its sequencer: enable (R97, R98), register writes under R90, veneer mode changes (R71 to R73), the mitre copy (R76 to R81), the scrub (R83 to R85), the aperture (R89). -/

namespace Sys2Proof.Machine

/-! The fields of a mitre copy (R116 MITRE). -/

def Mitre.src (x : Mitre) : Nat := bf x.w0 0 8
def Mitre.dst (x : Mitre) : Nat := bf x.w0 8 8
def Mitre.elem (x : Mitre) : Nat := bf x.w0 16 3
def Mitre.sbr (x : Mitre) : Nat := bf x.w1 0 16
def Mitre.sbc (x : Mitre) : Nat := bf x.w1 16 16
def Mitre.nbr (x : Mitre) : Nat := bf x.w2 0 16
def Mitre.nbc (x : Mitre) : Nat := bf x.w2 16 16
def Mitre.dbr (x : Mitre) : Nat := bf x.w3 0 16
def Mitre.dbc (x : Mitre) : Nat := bf x.w3 16 16

namespace Mod

/-! ## Enable (R97 to R99) -/

def textLen (m : Mod) (t : Nat) : Nat := m.fld (SEQ_PROG t) 32 21
def threadMask (m : Mod) (t : Nat) : Nat := m.fld (SEQ_PROG t) 12 4
def progDowel (m : Mod) (t : Nat) : Nat := m.fld (SEQ_PROG t) 0 8
/-- ENTRYn (R132). -/
def entryPc (m : Mod) (t n : Nat) : Nat :=
  m.fld (if n < 2 then SEQ_ENTRY01 t else SEQ_ENTRY23 t) (32 * (n % 2)) 20
def restartPc (m : Mod) (t : Nat) : Nat := m.fld (SEQ_RESTART t) 0 20
def doneValid (m : Mod) (t : Nat) : Bool := m.flag (SEQ_RESTART t) 45
def doneBuoy (m : Mod) (t : Nat) : Nat := m.fld (SEQ_RESTART t) 32 13
def inMask (m : Mod) (t n : Nat) : Bool := m.flag (SEQ_PROG t) (12 + n)

/-- The conditions of R97, in its order. -/
def enableCheck (m : Mod) (t : Nat) : W16 :=
  let d := m.progDowel t
  let len := m.textLen t
  if ¬ m.dowelValid t d ∨ m.dowelMode t d ≠ 2 then 0x0301
  else if m.threadMask t = 0 then 0x0302
  else if (upto 4).any (fun n => m.inMask t n && decide (len ≤ m.entryPc t n)) || decide (len ≤ m.restartPc t) then 0x0303
  else if len = 0 ∨ 128 * m.dowelRows t d < len then 0x0304
  else if m.doneValid t && decide (m.slotOfBuoy (m.doneBuoy t) ≠ m.slotOfTile t) then 0x0305
  else 0

/-- A thread as the enable, a restart or TSTART starts it: g and a kept, stack empty, loops inactive, tag 0 (R98, R116). -/
def freshThread (x : Thread) (pc : Nat) : Thread :=
  { pc := BitVec.ofNat 20 pc, g := x.g, a := x.a, st := .ready }

/-- What every enable does (R98): SEQ_TRAP clear, instruction cache invalid, the sequencer not gated; the set and latch VALID bits clear (R138). -/
def openTile (m : Mod) (t : Nat) : Mod :=
  let m := ((m.wr (SEQ_TRAP t) 0).setFlag (TILE_CTL t) 0 true).ungate t
  (m.clearValid t).modTile t (fun x => { x with icache := [] })

/-- A successful enable (R98): the threads of the mask READY at their entries. -/
def startTile (m : Mod) (t : Nat) : Mod :=
  let m := m.openTile t
  let m := m.modTile t (fun x => { x with doneSent := false })
  forEach m (upto 4) (fun m n => m.modThread t n (fun x =>
    if m.inMask t n then freshThread x (m.entryPc t n) else { freshThread x x.pc.toNat with st := .off }))

/-- Sets TILE_CTL.ENABLE (R97): the reason code, or the running tile; in a locked slot only for an accepted program (R482). -/
def enableTile (m : Mod) (t : Nat) : W16 × Mod :=
  if m.tileEnabled t then (0, m)
  else if m.lockedOwner (m.slotOfTile t) && !(m.tile t).accepted then (0x0F0E, m)
  else
    let c := m.enableCheck t
    if c = 0 then (0, m.startTile t) else (c, m)

/-- The enable of a resumed job (R97, R511): its threads stand as the restored context left them (R131). -/
def resumeTile (m : Mod) (t : Nat) : Mod :=
  if m.tileEnabled t || (m.lockedOwner (m.slotOfTile t) && !(m.tile t).accepted) || decide (m.enableCheck t ≠ 0) then m else m.openTile t

/-- Clears TILE_CTL.ENABLE (R99); a pass that held the quarters lets the exchange port in again. -/
def stopTile (m : Mod) (t : Nat) : Mod := (m.disableTile t).settlePort t

/-! ## Register writes of the tile's units: `new` is the whole word that the write would leave (R90, R520) -/

/-- A write of TILE_CTL. -/
def writeTileCtl (m : Mod) (t : Nat) (new : W64) : W16 × Mod :=
  if bit new 0 then m.enableTile t else (0, m.stopTile t)

/-- A write of word 0 of a dowel entry (R52, R54, R55).  A write that sets VALID writes the other fields first (R520). -/
def writeDowel0 (m : Mod) (t d : Nat) (new : W64) : W16 × Mod :=
  let a := DOWEL0 t d
  let keep := setBit new 63 false
  if m.dowelValid t d then
    if bit new 63 then (if new = m.rd a then (0, m) else (0x0201, m))
    else if m.dowelInUse t d then (0x020B, m)
    else (0, m.setFlag a 63 false)
  else
    let m := m.wr a keep
    if bit new 63 then
      let c := m.dowelCheck t d
      if c = 0 then (0, m.setFlag a 63 true) else (c, m)
    else (0, m)

/-- A write of a register whose fields are all RWL under an enable. -/
def writeLocked (m : Mod) (a : Nat) (enabled : Bool) (code : W16) (new : W64) : W16 × Mod :=
  if new = m.rd a then (0, m) else if enabled then (code, m) else (0, m.wr a new)

/-- A write of word 1 of a dowel entry. -/
def writeDowel1 (m : Mod) (t d : Nat) (new : W64) : W16 × Mod := m.writeLocked (DOWEL1 t d) (m.dowelValid t d) 0x0201 new

/-- A write of JIG_CTL (R69, R70, R90, R520). -/
def writeJigCtl (m : Mod) (t j : Nat) (new : W64) : W16 × Mod :=
  let a := JIG_CTL t j
  if m.jigOn t j then
    if bit new 0 then (if new = m.rd a then (0, m) else (0x0201, m))
    else (0, m.disableJig t j)
  else
    let m := m.wr a (setBit new 0 false)
    if bit new 0 then m.enableJig t j else (0, m)

/-- A write of another register of a jig's block. -/
def writeJigReg (m : Mod) (t j a : Nat) (new : W64) : W16 × Mod := m.writeLocked a (m.jigOn t j) 0x0201 new

/-! ## Veneer mode (R71 to R73) -/

/-- The number of 1 bits among the low four. -/
def ones4 (v : Nat) : Nat := v % 2 + v / 2 % 2 + v / 4 % 2 + v / 8 % 2

/-- A write of VENEER_CTL stages the new value, or is refused (R72). -/
def writeVeneerCtl (m : Mod) (t : Nat) (new : W64) : W16 × Mod :=
  let v := bf new 0 4
  let now := m.fld (VENEER_STATUS t) 0 4
  let diff := v ^^^ now
  if 2 < ones4 v ∨ 1 < ones4 diff ∨
      (upto 256).any (fun d => m.dowelValid t d && decide (diff / 2 ^ m.dowelQuarter t d % 2 = 1)) = true then (0x020C, m)
  else (0, (m.stage (VENEER_CTL t) (BitVec.ofNat 64 v)).setF (VENEER_STATUS t) 4 4 v)

/-- At the mark at which a tile's staged fields take effect: the write-back and invalidation begin where a quarter is or becomes veneer (R73). -/
def markVeneer (m : Mod) (t : Nat) : Mod :=
  let m := m.setF (VENEER_CTL t) 0 4 (m.fld (VENEER_STATUS t) 4 4)
  let m := m.unstage (VENEER_CTL t)
  if m.fld (VENEER_STATUS t) 0 4 = 0 ∧ m.fld (VENEER_STATUS t) 4 4 = 0 then m else m.setFlag (VENEER_STATUS t) 8 true

def flushing (m : Mod) (t : Nat) : Bool := m.flag (VENEER_STATUS t) 8

/-- A quarter that leaves veneer mode has undefined contents: a free value in every byte (R73). -/
def loseQuarter (m : Mod) (t q : Nat) : Mod :=
  let base := q * 2 ^ 23
  { m.st (scratchAt t base) ((upto (2 ^ 23)).map (fun i => Config.leftByte t (base + i) m.free)) with free := m.free + 1 }

/-- The end of the write-back: every line invalid, then the mode switches (R73). -/
def endFlush (m : Mod) (t : Nat) : Mod :=
  let m := m.venFlush t
  let old := m.fld (VENEER_STATUS t) 0 4
  let new := m.fld (VENEER_CTL t) 0 4
  let m := forEach m ((upto 4).filter (fun q => decide (old / 2 ^ q % 2 = 1) && decide (new / 2 ^ q % 2 = 0))) (fun m q => m.loseQuarter t q)
  (m.setF (VENEER_STATUS t) 0 4 new).setFlag (VENEER_STATUS t) 8 false

/-! ## Mitre copy (R76 to R81) -/


/-- The first line of the quarter of block (r, c) of a 2-D dowel. -/
def blockLine (m : Mod) (t d r c : Nat) : Nat := m.dowelBase t d + (r * m.dowelBw t d + c) * 32

/-- The blocks (quarter, first line) of a region. -/
def regionBlocks (m : Mod) (t d r0 c0 nr nc : Nat) : List (Nat × Nat) :=
  (upto nr).flatMap (fun i => (upto nc).map (fun j => (m.dowelQuarter t d, m.blockLine t d (r0 + i) (c0 + j))))

/-- A region lies inside a 2-D dowel. -/
def regionIn (m : Mod) (t d r0 c0 nr nc : Nat) : Bool :=
  decide (c0 + nc ≤ m.dowelBw t d) && decide ((r0 + nr) * m.dowelBw t d * 32 ≤ m.dowelRows t d)

/-- Two blocks share a word. -/
def blocksMeet (a b : Nat × Nat) : Bool := decide (a.1 = b.1) && decide (a.2 < b.2 + 32) && decide (b.2 < a.2 + 32)

/-- The copy is an exact in-place square transpose: the same quarter, first line and block width, and NBR = NBC (R80). -/
def mitreInPlace (m : Mod) (t : Nat) (x : Mitre) : Bool :=
  decide (m.dowelQuarter t x.src = m.dowelQuarter t x.dst) && decide (x.nbr = x.nbc) &&
  decide (m.blockLine t x.src x.sbr x.sbc = m.blockLine t x.dst x.dbr x.dbc) && decide (m.dowelBw t x.src = m.dowelBw t x.dst)
/-- What an in-place transpose leaves in the block buffer, by row and column: the block that it buffers last, the last diagonal block, when blocks are taken by increasing i, then j (R76, R81; DEDUCED, log entry 95). -/
def lastBlock (m : Mod) (t : Nat) (x : Mitre) : List W256 :=
  if x.nbr = 0 then (m.tile t).block
  else
    let w := 32 * m.dowelBw t x.src
    (upto 1024).map (fun i => m.ldDowel t x.src (((x.sbr + x.nbr - 1) * 32 + i / 32) * w + (x.sbc + x.nbc - 1) * 32 + i % 32))

/-- The checks of a mitre copy (R56, R77, R80).  The spec names no code for a dowel that is not VALID or a destination that is not DATA_RW, and no order of the four: 0x0208, 0x020E (a dowel that is not VALID with it), 0x0204 for the destination's mode, then 0x020D (DESIGN CHOICE, log entry 94). -/
def mitreCheck (m : Mod) (t : Nat) (x : Mitre) : W16 :=
  let s := x.src
  let d := x.dst
  if 4 < x.elem then 0x0208
  else if ¬ m.dowelValid t s ∨ ¬ m.dowelValid t d ∨ ¬ m.dowel2D t s ∨ ¬ m.dowel2D t d ∨
      ¬ m.regionIn t s x.sbr x.sbc x.nbr x.nbc ∨ ¬ m.regionIn t d x.dbr x.dbc x.nbc x.nbr then 0x020E
  else if m.dowelMode t d ≠ 0 then 0x0204
  else
    let a := m.regionBlocks t s x.sbr x.sbc x.nbr x.nbc
    let b := m.regionBlocks t d x.dbr x.dbc x.nbc x.nbr
    if !m.mitreInPlace t x && a.any (fun p => b.any (fun q => blocksMeet p q)) then 0x020D else 0

/-- The element rule on the 32 words of a column (R77). -/
def mitreElems (elem : Nat) (s : List W256) : List W256 :=
  let w := fun k => (s.getD k 0).toNat
  let el := fun (bits k e : Nat) => w e / 2 ^ (bits * k) % 2 ^ bits
  let word := fun (bits : Nat) (l : List Nat) => BitVec.ofNat 256 (packSlots bits l)
  match elem with
  | 0 => s
  | 1 => (upto 32).map (fun k => word 8 ((upto 32).map (fun e => el 8 k e)))
  | 2 => (upto 32).map (fun r => word 16 ((upto 16).map (fun e => el 16 (r % 16) (r / 16 * 16 + e))))
  | 3 => (upto 32).map (fun r => word 32 ((upto 8).map (fun e => el 32 (r % 8) (r / 8 * 8 + e))))
  | _ => (upto 32).map (fun k => word 4 ((upto 64).map (fun e => if e < 32 then el 4 (2 * k) e else el 4 (2 * k + 1) (e - 32))))

/-- The copy, as on a separate copy of the source (R76, R81). -/
def mitreCopy (m : Mod) (t : Nat) (x : Mitre) : Mod :=
  let ws := 32 * m.dowelBw t x.src
  let wd := 32 * m.dowelBw t x.dst
  let jobs := (upto x.nbr).flatMap (fun i => (upto x.nbc).flatMap (fun j => (upto 32).map (fun c =>
    (((x.dbr + j) * 32 + c) * wd + (x.dbc + i) * 32,
     mitreElems x.elem ((upto 32).map (fun r => m.ldDowel t x.src (((x.sbr + i) * 32 + r) * ws + (x.sbc + j) * 32 + c)))))))
  let buffer := if m.mitreInPlace t x then m.lastBlock t x else (m.tile t).block
  (jobs.foldl (fun m (p : Nat × List W256) =>
    (forEach m (upto 32) (fun m k => m.stDowel t x.dst (p.1 + k) (p.2.getD k 0)))) m).modTile t (fun y => { y with block := buffer })

/-- Starts a mitre copy; copies run one after another on the DMA engine. -/
def startMitre (m : Mod) (t : Nat) (x : Mitre) : Mod :=
  let idle := (m.tile t).mitre.isEmpty
  let m := m.modTile t (fun y => { y with mitre := y.mitre ++ [x] })
  if idle then m.wr (MITRE_STATUS t) 1 else m

/-- The end of the copy in progress: DONE with its BLOCKS, or RUN from 0 for the next copy (R89). -/
def endMitre (m : Mod) (t : Nat) : Mod := match (m.tile t).mitre with
  | [] => m
  | x :: r =>
    let m := (m.mitreCopy t x).modTile t (fun y => { y with mitre := r })
    let m := match x.ring with
      | some (k, i) => m.setRing k { m.ringOf k with prog := (m.ringOf k).prog.map (fun (e : RingEntry) => if e.index = i then { e with done := true, bytes := x.nbr * x.nbc * 32768 } else e) }
      | none => m
    if r.isEmpty then m.wr (MITRE_STATUS t) (BitVec.ofNat 64 (x.nbr * x.nbc * 2 ^ 32 + 2)) else m.wr (MITRE_STATUS t) 1

/-! ## Scrub (R84, R85) -/

/-- The end of a tile's scrub: zeros, and 0x0224 when a verify pass found a difference; the BROKEN buoys of a die whose tiles are all scrubbed go FREE (R274). -/
def endScrub (m : Mod) (t : Nat) (verified : Bool) : Mod :=
  let m := m.scrubTile t
  let m := m.setFlag (TILE_STATUS t) 4 (!verified)
  let m := if verified then m else m.raiseTile t 0x0224 0
  let d := dieOfTile t
  if (upto 160).any (fun i => m.scrubbing (160 * d + i)) then m else m.freeBroken d

/-! ## Aperture (R89) -/

/-- The tile byte address of an aperture offset, or the refusal.  An offset that both lies beyond line 8,191 and names a veneer quarter is refused with 0x0210: R89 gives no order (DESIGN CHOICE, log entry 94). -/
def apertureAddr (m : Mod) (t off : Nat) : Except W16 Nat :=
  let line := m.fld (SP_WIN_BASE t) 0 13 + off / 1024
  let q := m.fld (SP_WIN_BASE t) 13 2
  if 8191 < line then .error 0x0210
  else if m.veneerMode t q then .error 0x020A
  else .ok (q * 2 ^ 23 + line * 1024 + off % 1024)

end Mod

/-! ## Meanings -/

/-- VENEER_LINE_FILL: a prefetched line arrives (R74, R123); `ok` is false when the fill failed (0x0927).  It waits while the veneer is written back and invalidated (R73). -/
def execVeneerLineFill (t : Nat) (q : Nat) (h : Nat) (ok : Bool) (s : State) : Host.Outcome State Fault Refusal :=
  onTileClock s t (fun m =>
    if (m.tile t).prefetch.contains (q, h) && !m.flushing t then
      let m := m.modTile t (fun x => { x with prefetch := x.prefetch.erase (q, h) })
      if !ok then m.raiseTile t 0x0927 (h * 1024)
      else if !m.veneerMode t q || (m.venFind t q h).isSome then m
      else
        let r := m.venInstall t q h false
        r.2.venTouch t r.1 false
    else m)

/-- MITRE_DONE (R76). -/
def execMitreDone (t : Nat) (s : State) : Host.Outcome State Fault Refusal := onTileClock s t (fun m => m.endMitre t)

end Sys2Proof.Machine
end

