-- ==== Sys2Proof/Machine/BuoyCmds.lean ====
section
/-! DEFINITION. The meanings of the buoy commands (R275 to R286, R291, R292): operations as they reach the home, wait requests, watches, gate subscriptions, owner reset and pre-emption. -/

namespace Sys2Proof.Machine

namespace Mod

/-! ## Operations as they reach the home -/

/-- An add or a set on a LIVE buoy. -/
def buoyApply (m : Mod) (b : Nat) (isSet : Bool) (x src : W32) : Mod := if isSet then m.buoySetOp b x src else m.buoyAddOp b x src

/-- The host, Gallery or the Keeper writes BUOY_OP (R278, R291, R292). -/
def buoyOpWrite (m : Mod) (who : Requester) (b : Nat) (isSet : Bool) (x : W32) : W16 × Mod :=
  if m.shut who (m.slotOfBuoy b) && !(m.buoy b).pub then (0x0F01, m)
  else if !m.buoyLive b then (0x0806, m)
  else (0, m.buoyApply b isSet x (Source.id (Requester.source who)))
def buoyOp (m : Mod) (who : Requester) (b : Nat) (isSet : Bool) (x : W32) : Mod :=
  m.commit who (buoyReg b 0x10) (m.buoyOpWrite who b isSet x)

/-- The signal of a ring's oldest entry reaches its home (R278, R302). -/
def ringSignal (m : Mod) (r b : Nat) (isSet : Bool) (x : W32) : Mod :=
  match (m.ringOf r).prog with
  | [] => m
  | e :: rest =>
    if e.signalled ∧ ¬ e.answered ∧ num e.image 6 2 % 8192 = b ∧ decide (num e.image 6 2 / 8192 % 4 = 1) = isSet ∧ num e.image 0x10 4 = x.toNat then
      let m := m.setRing r { m.ringOf r with prog := { e with answered := true, refusedSig := !m.buoyLive b } :: rest }
      if m.buoyLive b then m.buoyApply b isSet x (Source.id (.ring r)) else m
    else m

/-- The Jicen messages of another module reach the buoys of a partition whose job has a key slot here (R276, R410, R412). -/
def jicenReaches (m : Mod) (b : Nat) : Bool := match m.slotOfBuoy b with
  | some s => (m.keySlotOf s).isSome
  | none => false

/-- An add or a set reaches the home of buoy `b` (R275 to R278). -/
def buoyArrive (m : Mod) (src : Source) (b : Nat) (isSet : Bool) (x : W32) : Mod :=
  match src with
  | .thread t th =>
    match (m.tile t).sent.find? (fun o => decide (o.th = th ∧ o.b = b ∧ o.isSet = isSet ∧ o.x = x) && !o.refused) with
    | none => m
    | some o =>
      if m.buoyLive b then (m.modTile t (fun y => { y with sent := y.sent.erase o })).buoyApply b isSet x (Source.id src)
      else m.modTile t (fun y => { y with sent := y.sent.erase o ++ [{ o with refused := true }] })
  | .done t =>
    if (m.tile t).doneFlight ∧ m.doneBuoy t = b ∧ isSet = false ∧ x = 1 then
      let m := m.modTile t (fun y => { y with doneFlight := false })
      if m.buoyLive b then m.buoyApply b false 1 (Source.id src) else m.raiseTile t 0x0823 b
    else m
  | .ring r => m.ringSignal r b isSet x
  | .host => m.buoyOp .host b isSet x
  | .gallery c => if m.shut .gallery (m.slotOfBuoy b) && !(m.buoy b).pub then m.answer 0x0F01
      else if m.buoyLive b then (m.buoyApply b isSet x (Source.id (.gallery c))).answer 0 else m.answer 0x0806
  | .plane s =>
    if m.slotOfStack s = none ∨ m.slotOfBuoy b ≠ m.slotOfStack s then m.answer 0x0804
    else if m.buoyLive b then (m.buoyApply b isSet x (Source.id src)).answer 0 else m.answer 0x0806
  | .jicen _ =>
    if !m.jicenReaches b then m.answer 0x0804
    else if m.buoyLive b then (m.buoyApply b isSet x (Source.id src)).answer 0 else m.answer 0x0806
  | .keeper => if m.buoyLive b then (m.buoyApply b isSet x (Source.id src)).answer 0 else m.answer 0x0806
  | .none => m.answer 0x0804

/-- The thread waits for the answer to this BCAS or BREAD. -/
def remoteWaits (m : Mod) (t th b : Nat) (cas : Option (W32 × W32)) : Bool :=
  let x := m.thread t th
  match x.st, x.waitOn, x.release with
  | .wait, .remote b' _ c, .none => decide (b' = b ∧ c = cas)
  | _, _, _ => false

/-- A compare-and-set or a read reaches the home; the prior value goes to the issuer (R275, R277).  Tile threads may do both and Jicen messages compare-and-set; the home refuses the other sources with 0x0804 (R276), and the host and Gallery at a buoy of a sealed partition with 0x0F01 (R292). -/
def buoyAsk (m : Mod) (src : Source) (b : Nat) (cas : Option (W32 × W32)) : Mod :=
  let prior := (m.buoy b).value
  let act := fun (m : Mod) => match cas with
    | some (c, x) => m.buoyCasOp b c x (Source.id src)
    | none => m
  match src with
  | .thread t th =>
    if m.remoteWaits t th b cas then
      if m.buoyLive b then (act m).sendRelease (.thread t th) (.reply prior) else m.sendRelease (.thread t th) .refused
    else m
  | .jicen _ =>
    if cas.isNone || !m.jicenReaches b then m.answer 0x0804
    else if m.buoyLive b then (act m).answerValue (prior.zeroExtend 64) else m.answer 0x0806
  | .host => m.answer (if m.shut .host (m.slotOfBuoy b) then 0x0F01 else 0x0804)
  | .gallery _ => m.answer (if m.shut .gallery (m.slotOfBuoy b) then 0x0F01 else 0x0804)
  | _ => m.answer 0x0804

/-! ## Waiting (R279 to R281, R285, R286) -/

/-- The wait that a unit sends to the home of buoy `b`, if it waits there and has neither an entry nor an answer. -/
def waitSent (m : Mod) (w : Waiter) (b : Nat) : Option WaitEntry :=
  let here := ((m.buoy b).waiters ++ savedHere (m.buoy b)).any (fun e => decide (e.who = w))
  match w with
  | .thread t th =>
    let x := m.thread t th
    match x.st, x.waitOn, x.release with
    | .wait, .buoy b' c v k, .none => if b' = b ∧ here = false then some { who := w, cond := c, value := v, mask := k } else none
    | _, _, _ => none
  | .ringHead r =>
    let g := m.ringOf r
    let e := m.ringEntryBytes r (m.ringHead r + g.prog.length)
    if g.waitOn = some b ∧ g.headRelease = .none ∧ here = false then
      some { who := w, cond := BitVec.ofNat 3 (num e 4 2 / 8192), value := BitVec.ofNat 32 (num e 8 4), mask := BitVec.ofNat 32 (num e 12 4) }
    else none

/-- A wait request is judged on arrival: released at once or appended at a LIVE buoy, refused at any other; only BWAIT meets a BROKEN buoy with BROKEN (R278, R280). -/
def waitArrive (m : Mod) (e : WaitEntry) (b : Nat) : Mod :=
  let x := m.buoy b
  match x.st with
  | .live => if condHolds e.cond x.value e.value e.mask then m.sendRelease e.who .met
      else m.setBuoy b { x with waiters := x.waiters ++ [e] }
  | .broken => m.sendRelease e.who (match e.who with
      | .thread _ _ => .broken
      | .ringHead _ => .refused)
  | _ => m.sendRelease e.who .refused

/-! ## Watches and subscriptions (R282 to R284) -/

/-- The targets that a registration may name. -/
def targetOk (t : Byte) : Bool := decide (t.toNat ≤ 8) || (decide (0x20 ≤ t.toNat) && decide (t.toNat ≤ 0x3F))

/-- A registration: its reason code and what it leaves. -/
def registerWatch (m : Mod) (who : Requester) (b : Nat) (w : Watch) : W16 × Mod :=
  let x := m.buoy b
  if m.shut who (m.slotOfBuoy b) && !x.pub then (0x0F01, m)
  else if 4 ≤ w.cond.toNat ∨ targetOk w.target = false then (0x0803, m)
  else if x.st ≠ .live then (0x0806, m)
  else if condHolds w.cond x.value w.value w.mask then (0, m.sendWatch b w 0 x.value)
  else if 4 ≤ x.watches.length then (0x080A, m)
  else (0, m.setBuoy b { x with watches := x.watches ++ [w] })

/-- Watch `n` of a buoy leaves with a status. -/
def endWatch (m : Mod) (b n status : Nat) : Mod :=
  match (m.buoy b).watches[n]? with
  | none => m
  | some w => (m.setBuoy b { m.buoy b with watches := (m.buoy b).watches.eraseIdx n }).sendWatch b w status 0

/-- The place of the watch that a registrant named. -/
def watchAt (m : Mod) (b : Nat) (target : Byte) (cookie : W32) : Option Nat :=
  (upto 4).find? (fun n => match (m.buoy b).watches[n]? with
    | some w => decide (w.target = target ∧ w.cookie = cookie)
    | none => false)

/-- The plane of stack `s` subscribes to gate buoy `b` (R284). -/
def subscribe (m : Mod) (s b : Nat) : Mod :=
  let x := m.buoy b
  let one : W32 := BitVec.ofNat 32 (2 ^ s)
  match x.st with
  | .live => if x.value ≠ 0 then m.sendGates b one 0 x.value else m.setBuoy b { x with subs := x.subs ||| one }
  | _ => m.sendGates b one 1 0

end Mod

/-! ## Meanings -/

/-- BUOY_ADD (R275). -/
def execBuoyAdd (src : Source) (b : Nat) (x : W32) (s : State) : Host.Outcome State Fault Refusal :=
  onBuoy s b (fun m => m.buoyArrive src b false x)
/-- BUOY_SET (R275). -/
def execBuoySet (src : Source) (b : Nat) (x : W32) (s : State) : Host.Outcome State Fault Refusal :=
  onBuoy s b (fun m => m.buoyArrive src b true x)
/-- BUOY_CAS (R275). -/
def execBuoyCas (src : Source) (b : Nat) (cmp x : W32) (s : State) : Host.Outcome State Fault Refusal :=
  onBuoy s b (fun m => m.buoyAsk src b (some (cmp, x)))
/-- BUOY_READ (R275). -/
def execBuoyRead (src : Source) (b : Nat) (s : State) : Host.Outcome State Fault Refusal :=
  onBuoy s b (fun m => m.buoyAsk src b none)
/-- BUOY_WAIT_REQUEST (R280). -/
def execBuoyWaitRequest (w : Waiter) (b : Nat) (s : State) : Host.Outcome State Fault Refusal :=
  onBuoy s b (fun m => match m.waitSent w b with
    | some e => m.waitArrive e b
    | none => m)
/-- WATCH_REGISTRATION (R282). -/
def execWatchRegistration (who : Requester) (b : Nat) (w : Watch) (s : State) : Host.Outcome State Fault Refusal :=
  onBuoy s b (fun m => let r := m.registerWatch who b w; r.2.answer r.1)
/-- WATCH_TIMEOUT: the DEADLINE of watch `n` has passed (R283). -/
def execWatchTimeout (b n : Nat) (s : State) : Host.Outcome State Fault Refusal :=
  onBuoy s b (fun m => match (m.buoy b).watches[n]? with
    | some w => if w.deadline ≠ 0 ∧ w.deadline.toNat ≤ m.count.toNat then m.endWatch b n 2 else m
    | none => m)
/-- WATCH_CANCEL (R283). -/
def execWatchCancel (b : Nat) (target : Byte) (cookie : W32) (s : State) : Host.Outcome State Fault Refusal :=
  onBuoy s b (fun m => match m.watchAt b target cookie with
    | some n => m.endWatch b n 3
    | none => m)
/-- BUOY_OWNER_RESET (R285). -/
def execBuoyOwnerReset (b : Nat) (s : State) : Host.Outcome State Fault Refusal :=
  onBuoy s b (fun m => match (m.buoy b).st with
    | .live => m.breakBuoy b
    | .saved => m.breakBuoy b
    | _ => m)
/-- BUOY_PREEMPT (R286). -/
def execBuoyPreempt (b : Nat) (s : State) : Host.Outcome State Fault Refusal :=
  onBuoy s b (fun m => if m.buoyLive b then m.preemptBuoy b else m)
/-- BUOY_OP_ADD: a write of BUOY_OP with OP 0 (R278, R289). -/
def execBuoyOpAdd (who : Requester) (b : Nat) (x : W32) (s : State) : Host.Outcome State Fault Refusal :=
  onBuoy s b (fun m => m.buoyOp who b false x)
/-- BUOY_OP_SET: a write of BUOY_OP with OP 1 (R278, R289). -/
def execBuoyOpSet (who : Requester) (b : Nat) (x : W32) (s : State) : Host.Outcome State Fault Refusal :=
  onBuoy s b (fun m => m.buoyOp who b true x)

end Sys2Proof.Machine
end

