-- ==== Sys2Proof/Machine/Entries.lean ====
section
/-! DEFINITION. What a ring's entry must be before it starts: the header of R301, the zero fields and code points of every entry format, and the checks of each kind's body (R303, R306, R325, R425, R432).  The fields of planes and Feed flows that these checks read stand here too. -/

namespace Sys2Proof.Machine

/-! ## Planes (R322, R339) -/

namespace Mod

def shardElems (m : Mod) (s e : Nat) : Nat := m.fld (SHARD s e 0) 0 32
def shardNorm (m : Mod) (s e : Nat) : Nat := m.fld (SHARD s e 0) 32 10
def shardRule (m : Mod) (s e : Nat) : Nat := m.fld (SHARD s e 0) 48 3
def shardGated (m : Mod) (s e : Nat) : Bool := m.flag (SHARD s e 0) 61
def shardLocal (m : Mod) (s e : Nat) : Bool := m.flag (SHARD s e 0) 62
def shardValid (m : Mod) (s e : Nat) : Bool := m.flag (SHARD s e 0) 63
def shardExpect (m : Mod) (s e : Nat) : Nat := m.fld (SHARD s e 1) 0 16
def shardGate (m : Mod) (s e : Nat) : Nat := m.fld (SHARD s e 1) 16 13
def shardBound (m : Mod) (s e : Nat) : W32 := BitVec.ofNat 32 (m.fld (SHARD s e 1) 32 32)
def shardStage (m : Mod) (s e : Nat) : Nat := (m.rd (SHARD s e 2)).toNat
def shardSlot (m : Mod) (s e : Nat) (b : Bool) : Nat := (m.rd (SHARD s e (if b then 4 else 3))).toNat
def shardCommit (m : Mod) (s e : Nat) : Nat := (m.rd (SHARD s e 5)).toNat
def shardCount (m : Mod) (s e : Nat) : Nat := m.fld (PSTATE s e) 0 16
/-- A shard's state: 0 IDLE, 1 STAGING, 2 READY, 3 UPDATING, 4 DONE, 5 WITHHELD, 6 SKIPPED. -/
def shardState (m : Mod) (s e : Nat) : Nat := m.fld (PSTATE s e) 16 4
def setShardState (m : Mod) (s e v : Nat) : Mod := m.setF (PSTATE s e) 16 4 v

/-! ## Feed flows (R437) -/

def flowFlag (m : Mod) (e k i : Nat) : Bool := m.flag (flowReg e k 0) i
def flowValid (m : Mod) (e k : Nat) : Bool := m.flowFlag e k 0
def flowEgress (m : Mod) (e k : Nat) : Bool := m.flowFlag e k 1
def flowRecMax (m : Mod) (e k : Nat) : Nat := m.fld (flowReg e k 0) 48 16
def flowKeys (m : Mod) (e k : Nat) : Nat := m.fld (flowReg e k 0) 8 2
def flowWindow (m : Mod) (e k : Nat) : Nat := m.fld (flowReg e k 32) 0 32
def flowRetryMax (m : Mod) (e k : Nat) : Nat := m.fld (flowReg e k 32) 48 8
/-- 0 CLOSED, 1 OPEN, 2 ERROR. -/
def flowState (m : Mod) (e k : Nat) : Nat := m.fld (flowReg e k 56) 0 8
def setFlowState (m : Mod) (e k v : Nat) : Mod := m.setF (flowReg e k 56) 0 8 v
/-- STRIDE (R432). -/
def flowStride (m : Mod) (e k : Nat) : Nat := roundUp (m.flowRecMax e k + 32) 64

end Mod

/-! ## Header (R301) -/

def entryOp (b : List Byte) : Nat := num b 0 1
def entryFlag (b : List Byte) (i : Nat) : Bool := num b 1 1 / 2 ^ i % 2 == 1
def entryTag (b : List Byte) : W16 := BitVec.ofNat 16 (num b 2 2)
def entryWaitBuoy (b : List Byte) : Nat := num b 4 2 % 8192
def entrySigBuoy (b : List Byte) : Nat := num b 6 2 % 8192

/-- The header's code points and zero fields. -/
def headerOk (b : List Byte) : Bool :=
  decide (num b 1 1 < 16) && decide (num b 4 2 / 8192 < 4) && decide (num b 6 2 / 8192 < 2) && zeros b 0x14 4

/-! ## Bodies: code points and zero fields -/

/-- LOAD, STORE, COPY, MITRE, SYNC (R305). -/
def dmaFormOk (b : List Byte) : Bool :=
  match entryOp b with
  | 1 => zeros b 0x30 16 && decide (num b 0x18 8 < 2 ^ 41)
  | 2 => zeros b 0x30 16 && decide (num b 0x20 8 < 2 ^ 41)
  | 3 => zeros b 0x30 16
  | 4 => zeros b 0x28 24
  | 5 => true
  | _ => false

/-- GRAD, DISCARD, REDO, SET_RULE, SET_SHARD (R325). -/
def planeFormOk (b : List Byte) : Bool :=
  match entryOp b with
  | 1 => decide (num b 0x19 1 < 2) && (decide (num b 0x1A 1 = 8) || decide (num b 0x1A 1 = 0)) && zeros b 0x1B 1 && zeros b 0x24 4 && zeros b 0x30 16
  | 2 => zeros b 0x19 39
  | 3 => zeros b 0x19 39
  | 4 => decide (num b 0x18 1 < 8) && zeros b 0x19 3
  | 5 => zeros b 0x19 7 && zeros b 0x28 24
  | _ => false

/-- PUT, GET, BUOY (R425). -/
def jicenFormOk (b : List Byte) : Bool :=
  let common := decide (num b 0x18 2 < 4096) && decide (num b 0x1A 1 < 2) && zeros b 0x30 16
  match entryOp b with
  | 1 => common && zeros b 0x1B 1
  | 2 => common && zeros b 0x1B 1
  | 3 => common && decide (num b 0x1B 1 < 3) && decide (num b 0x1C 4 < 8192) && zeros b 0x20 8
  | _ => false

/-- RECV, SEND (R432). -/
def feedFormOk (b : List Byte) : Bool :=
  (decide (entryOp b = 1) || decide (entryOp b = 2)) && zeros b 0x24 28

/-! ## Command packets (R497, R504) -/

def pkOp (b : List Byte) : Nat := num b 0 2
def pkTag (b : List Byte) : W16 := BitVec.ofNat 16 (num b 4 2)
def pkSlot (b : List Byte) : Nat := num b 6 1
def pkBuf (b : List Byte) : Nat := num b 8 8
def pkLen (b : List Byte) : Nat := num b 0x10 4
/-- `n` bytes at offset `o` of PARAM. -/
def pkPar (b : List Byte) (o n : Nat) : Nat := num b (0x18 + o) n

/-- An opcode of R504: accepted on the module channel, accepted on host command rings, the byte ranges of PARAM that it uses. -/
structure OpInfo where
  mcmd : Bool
  ring : Bool
  par : List (Nat × Nat)

/-- The opcodes of R504. -/
def opInfo (op : Nat) : Option OpInfo :=
  let mr := fun p => some { mcmd := true, ring := true, par := p }
  let mo := fun p => some { mcmd := true, ring := false, par := p }
  match op with
  | 0x01 => mr [] | 0x02 => mr [] | 0x03 => mo [] | 0x04 => mo [] | 0x05 => mo [] | 0x06 => mo []
  | 0x10 => mo [(0, 1)] | 0x11 => mo [] | 0x12 => mo [(0, 1)]
  | 0x20 => mr [] | 0x21 => mr [(0, 4)] | 0x22 => mr [] | 0x23 => mr [(0, 6), (8, 8)] | 0x24 => mr [(0, 1)]
  | 0x25 => mr [] | 0x26 => mr [(0, 2)] | 0x30 => mr [(0, 5)] | 0x31 => mr [(0, 2)] | 0x32 => mr [(0, 2)] | 0x33 => mr [(0, 2)]
  | 0x40 => mr [(0, 2), (4, 6)] | 0x41 => mr [(0, 2)]
  | 0x42 => some { mcmd := false, ring := true, par := [(0, 3), (4, 20)] }
  | 0x43 => mr [(0, 2), (4, 4)]
  | 0x50 => mr [(0, 12)] | 0x51 => mr [(0, 12), (16, 24)] | 0x52 => mr [(0, 4)] | 0x60 => mo [(0, 2)]
  | _ => none

/-- The code points inside the parameters of an opcode. -/
def parOk (b : List Byte) : Bool :=
  let flow := fun o => decide (pkPar b o 2 < 4096)
  let buoy := decide (pkPar b 0 2 < 8192)
  match pkOp b with
  | 0x12 => decide (pkPar b 0 1 = 0) || decide (pkPar b 0 1 = 2)
  | 0x23 => decide (pkPar b 2 2 < 4) && flow 4
  | 0x24 => decide (pkPar b 0 1 < 2)
  | 0x26 => flow 0
  | 0x30 => flow 2 && decide (pkPar b 4 1 < 2)
  | 0x31 => flow 0
  | 0x40 => buoy | 0x41 => buoy | 0x43 => buoy
  | 0x42 => buoy && decide (pkPar b 2 1 < 4)
  | 0x50 => decide (pkPar b 0 8 < 2 ^ 40)
  | 0x51 => decide (pkPar b 0 8 < 2 ^ 40)
  | 0x60 => decide (pkPar b 0 1 < 2)
  | _ => true

/-- A packet's zero fields and code points (R498). -/
def packetOk (b : List Byte) : Bool :=
  decide (num b 2 2 < 4) && (decide (pkSlot b < 8) || decide (pkSlot b = 0xFF)) && decide (num b 7 1 < 4) && zeros b 0x14 4 &&
  (match opInfo (pkOp b) with
   | none => false
   | some x => (upto 40).all (fun i => x.par.any (fun p => decide (p.1 ≤ i) && decide (i < p.1 + p.2)) || zeros b (0x18 + i) 1)) &&
  parOk b

/-! ## What the fields of an entry ask for, by kind -/

/-- COMPLETE: flag 2 of an entry (R301), flag 0 of a packet (R497). -/
def wantsRecord (kind : Nat) (b : List Byte) : Bool := if kind = 0 then num b 2 2 % 2 == 1 else entryFlag b 2
/-- FENCE: flag 3 of an entry, flag 1 of a packet. -/
def wantsFence (kind : Nat) (b : List Byte) : Bool := if kind = 0 then num b 2 2 / 2 % 2 == 1 else entryFlag b 3
/-- SIGNAL, which a packet has not. -/
def wantsSignal (kind : Nat) (b : List Byte) : Bool := decide (kind ≠ 0) && entryFlag b 1
/-- TAG. -/
def recordTag (kind : Nat) (b : List Byte) : W16 := if kind = 0 then pkTag b else entryTag b

/-- The form of an entry of a kind.  What an INTERNAL ring's entry asks for beyond its header is internal to its consumer (R293, R301; log entry 103). -/
def formOk (kind : Nat) (b : List Byte) : Bool :=
  if kind = 0 then packetOk b
  else headerOk b && (match kind with
    | 1 => dmaFormOk b
    | 2 => planeFormOk b
    | 3 => jicenFormOk b
    | 4 => feedFormOk b
    | _ => true)

/-- The entry waits at its own head: WAIT, unless the wait is a remote one (R302, R426). -/
def entryWaits (kind : Nat) (b : List Byte) : Bool := decide (kind ≠ 0) && entryFlag b 0 && !(decide (kind = 3) && decide (num b 0x1A 1 = 1))

/-- The rule block of R323: code points, zero bytes and finite numbers. -/
def ruleOk (b : List Byte) : Bool :=
  decide (num b 0 1 % 16 < 3) && decide (num b 0 1 / 16 < 2) && zeros b 1 3 &&
  (upto 8).all (fun i => decide (num b (4 + 4 * i) 4 / 2 ^ 23 % 256 ≠ 255)) && zeros b 0x24 28

namespace Mod

/-- An entry names a buoy outside its ring's partition (R303). -/
def strayBuoy (m : Mod) (r : Nat) (b : List Byte) : Bool :=
  let own := fun x => decide (m.slotOfBuoy x = m.slotOfRing r)
  (entryWaits (ringKind r) b && !own (entryWaitBuoy b)) || (wantsSignal (ringKind r) b && !own (entrySigBuoy b))

/-- The check of a head: 0x0803, 0x0804 or none (R303). -/
def headCode (m : Mod) (r : Nat) (b : List Byte) : W16 :=
  if !formOk (ringKind r) b then 0x0803 else if m.strayBuoy r b then 0x0804 else 0

/-! ## Tile DMA (R305, R306) -/

def dmaRowWords (b : List Byte) : Nat := num b 0x28 2 + 1
def dmaRows (b : List Byte) : Nat := num b 0x2A 2 + 1
def dmaStride (b : List Byte) : Nat := num b 0x2C 4
/-- The dowel and word of a scratchpad address field. -/
def spDowel (v : Nat) : Nat := v / 2 ^ 24 % 256
def spWord (v : Nat) : Nat := v % 2 ^ 24
/-- The partition addresses of the HBM rows. -/
def dmaHbmRows (b : List Byte) (a : Nat) : List Nat := (upto (dmaRows b)).map (fun i => a + i * dmaStride b)

/-- A LOAD or STORE's HBM side is valid. -/
def dmaHbmOk (m : Mod) (slot : Nat) (b : List Byte) (a : Nat) : Bool :=
  decide (dmaStride b % 32 = 0) && (dmaHbmRows b a).all (fun x => decide (x < 2 ^ 41) && m.hbmRange slot x (32 * dmaRowWords b) 32)

/-- The four words of a MITRE body. -/
def mitreOf (b : List Byte) (ring : Option (Nat × W32)) : Mitre :=
  { w0 := BitVec.ofNat 32 (num b 0x18 4), w1 := BitVec.ofNat 32 (num b 0x1C 4), w2 := BitVec.ofNat 32 (num b 0x20 4), w3 := BitVec.ofNat 32 (num b 0x24 4), ring := ring }

def dmaCode (m : Mod) (t : Nat) (b : List Byte) : W16 :=
  let slot := (m.slotOfTile t).getD 0
  let n := dmaRowWords b * dmaRows b
  let src := num b 0x18 8
  let dst := num b 0x20 8
  match entryOp b with
  | 1 => if m.dmaHbmOk slot b src && m.dowelHolds t (spDowel dst) [0] (spWord dst) n then 0 else 0x0809
  | 2 => if m.dmaHbmOk slot b dst && m.dowelHolds t (spDowel src) [0, 1] (spWord src) n then 0 else 0x0809
  | 3 => if dmaRows b = 1 ∧ m.dowelHolds t (spDowel src) [0, 1] (spWord src) n = true ∧ m.dowelHolds t (spDowel dst) [0] (spWord dst) n = true then 0 else 0x0809
  | 4 => m.mitreCheck t (mitreOf b none)
  | _ => 0

/-! ## Planes (R325, R327) -/

/-- The bytes of a GRAD's source. -/
def gradBytes (b : List Byte) : Nat := num b 0x20 4 * (if num b 0x1A 1 = 8 then 4 else 2)
/-- The tile, dowel and word of a tile source. -/
def gradTile (b : List Byte) : Nat := num b 0x28 8 / 2 ^ 32 % 2048

/-- The source of a GRAD lies inside its dowel or its stack. -/
def gradSourceOk (m : Mod) (s : Nat) (b : List Byte) : Bool :=
  let v := num b 0x28 8
  if num b 0x19 1 = 0 then
    decide (gradTile b < numTiles) && decide (m.slotOfTile (gradTile b) = m.slotOfStack s) &&
    m.dowelHolds (gradTile b) (spDowel v) [0, 1] (spWord v) (ceilDiv (gradBytes b) 32)
  else decide (v + gradBytes b ≤ 0xF_8000_0000)

/-- A GRAD of shard `e` cannot be applied now (0x0903). -/
def gradRefused (m : Mod) (s e : Nat) (b : List Byte) : Bool :=
  !m.shardValid s e || decide (2 ≤ m.shardState s e) || decide (m.shardElems s e < num b 0x1C 4 + num b 0x20 4) ||
  !m.gradSourceOk s b || decide (m.shardExpect s e ≤ m.shardCount s e)

def planeCode (m : Mod) (s : Nat) (b : List Byte) : W16 :=
  let e := num b 0x18 1
  match entryOp b with
  | 1 => if m.gradRefused s e b then 0x0903 else 0
  | 2 => if [1, 2, 5, 6].contains (m.shardState s e) then 0 else 0x0903
  | 3 => if [2, 5].contains (m.shardState s e) then 0 else 0x0903
  | 4 => if ruleOk ((b.drop 0x1C).take 0x24) then 0 else 0x0905
  | _ => if num b 0x20 8 + 64 ≤ 0xF_8000_0000 then 0 else 0x0902

/-! ## Jicen (R425) -/

/-- A module ID names a module of the torus. -/
def inTorus (m : Mod) (id : Nat) : Bool := (upto 3).all (fun x => decide (id / 16 ^ x % 16 < m.dimSize x))

def jicenCode (m : Mod) (r : Nat) (b : List Byte) : W16 :=
  let slot := (m.slotOfRing r).getD 0
  let dst := num b 0x18 2
  let n := num b 0x1C 4
  let loc := num b 0x20 8
  let rem := num b 0x28 8
  let move := decide (32 ≤ n) && decide (n ≤ 2 ^ 24) && decide (n % 32 = 0) && decide (loc < 2 ^ 41) && m.hbmRange slot loc n 32 &&
    decide (rem < 2 ^ 41) && decide (rem % 32 = 0) && decide (rem % 2 ^ 36 + n ≤ 0xF_8000_0000)
  if !m.inTorus dst || decide (dst = m.moduleId) || (m.keySlotOf slot).isNone || (decide (entryOp b ≠ 3) && !move) then 0x0C04 else 0

/-! ## Feed (R432) -/

def feedCode (m : Mod) (r : Nat) (b : List Byte) : W16 :=
  let e := ifaceOfRing r
  let k := flowOfRing r
  let slot := (m.slotOfRing r).getD 0
  let base := num b 0x18 8
  let n := num b 0x20 4
  let ok := if entryOp b = 1 then !m.flowEgress e k && decide (m.flowStride e k ≤ n) && m.hbmRange slot base n 64
    else m.flowEgress e k && decide (1 ≤ n) && decide (n ≤ 2 ^ 30) && m.hbmRange slot base n 32
  if ok && decide (base < 2 ^ 41) then 0 else 0x0D03

/-- The check of an entry's body as it starts. -/
def bodyCode (m : Mod) (r : Nat) (b : List Byte) : W16 :=
  match ringKind r with
  | 1 => m.dmaCode (tileOfRing r) b
  | 2 => m.planeCode (stackOfRing r) b
  | 3 => m.jicenCode r b
  | 4 => m.feedCode r b
  | _ => 0

end Mod

end Sys2Proof.Machine
end

