-- ==== Sys2Proof/Machine/TileRegs.lean ====
section
/-! DEFINITION. The registers of a tile's logical window (R87 to R90, R132, R160, R206, R244): what a read returns, the views of state that no register word holds, and what a write of a whole word does. -/

namespace Sys2Proof.Machine.Mod

/-- The views may be read: ENABLE is 0, or the tile is held for a context save (R161, R207, R514). -/
def viewOpen (m : Mod) (t : Nat) : Bool := !m.tileEnabled t || (m.tile t).heldSave

/-- Two 32-bit values as a register word, the first in [31:0]. -/
def pair32 (lo hi : W32) : W64 := BitVec.ofNat 64 (lo.toNat + 2 ^ 32 * hi.toNat)

/-- A cell of an accumulator set. -/
def accCell (m : Mod) (t k : Nat) : W32 := Sparse.get (fun _ => 0) (m.tile t).accs k
def shadowCell (m : Mod) (t k : Nat) : W32 := Sparse.get (fun _ => 0) (m.tile t).shadow k
/-- Word `w` of row `r` of the A staging latch. -/
def latchWord (m : Mod) (t r w : Nat) : W256 := Sparse.get (fun _ => 0) (m.tile t).latch (32 * r + w)

/-- SEQ_STATUS (R132). -/
def seqStatus (m : Mod) (t : Nat) : W64 :=
  let v := fun th => (m.thread t th).st.code * 2 ^ (4 * th) + (m.thread t th).waitOn.code * 2 ^ (16 + 4 * th)
  BitVec.ofNat 64 (v 0 + v 1 + v 2 + v 3 + (if m.flag (SEQ_STATUS t) 32 then 2 ^ 32 else 0))

/-- Offset `o` of the view of thread `n` (R132). -/
def threadView (m : Mod) (t n o : Nat) : W64 :=
  let x := m.thread t n
  if o = 0 then BitVec.ofNat 64 x.pc.toNat
  else if o = 8 then BitVec.ofNat 64 x.st.code
  else if 0x100 ≤ o ∧ o < 0x200 then BitVec.ofNat 64 (x.gReg ((o - 0x100) / 8)).toNat
  else if 0x200 ≤ o ∧ o < 0x280 then BitVec.ofNat 64 (x.aReg ((o - 0x200) / 8)).toNat
  else if 0x300 ≤ o ∧ o < 0x320 then BitVec.ofNat 64 (x.loop ((o - 0x300) / 8)).count.toNat
  else 0

/-- ARR_STATUS with ARR_BUSY and OUT_BUSY (R160). -/
def arrStatus (m : Mod) (t : Nat) : W64 :=
  setBit (setBit (m.rd (ARR_STATUS t)) 31 ((m.queue t 0).any (fun e => e.started))) 30
    ((m.queue t 1).any (fun e => e.started && decide (e.op = 0x4B)))

/-- HELD: a started instruction uses generator `n` (R206). -/
def genHeld (m : Mod) (t n : Nat) : Bool :=
  (upto 5).any (fun u => (m.queue t u).any (fun e => e.started && decide (e.gen = some n)))

/-- A read of offset `o` of a tile's window: the word, or the reason code of the refusal.  Reserved offsets and write-only registers read zero (R7, R10). -/
def readTile (m : Mod) (t o : Nat) : Except W16 W64 :=
  if o = 0x10 then .ok (setBf (m.rd (TILE_STATUS t)) 0 4 (m.tileState t))
  else if o = 0x1_0020 then .ok (m.seqStatus t)
  else if o = 0x2_0000 then .ok (m.arrStatus t)
  else if 0x3_1000 ≤ o ∧ o < 0x3_1100 ∧ o % 0x40 = 0 then
    .ok (setBit (m.rd (tileReg t o)) 8 (m.genHeld t ((o - 0x3_1000) / 0x40)))
  else if 0x1_1000 ≤ o ∧ o < 0x1_2000 then
    let n := (o - 0x1_1000) / 0x400
    let st := (m.thread t n).st
    if (st = .ready ∨ st = .wait) ∧ ¬ (m.tile t).heldSave then .error 0x0308
    else .ok (m.threadView t n (o % 0x400))
  else if 0x2_4000 ≤ o ∧ o < 0x2_6000 then
    if !m.viewOpen t then .error 0x0402
    else
      let k := o - 0x2_4000
      .ok ((m.latchWord t (k / 1024) (k % 1024 / 32)).extractLsb' (k % 32 * 8) 64)
  else if 0x2_8000 ≤ o ∧ o < 0x2_A000 then
    if !m.viewOpen t then .error 0x0402
    else
      let k := (o - 0x2_8000) / 4
      .ok (pair32 (m.accCell t k) (m.accCell t (k + 1)))
  else if 0x3_5000 ≤ o ∧ o < 0x3_6000 then
    if !m.viewOpen t then .error 0x0502
    else
      let k := (o - 0x3_5000) / 4
      .ok (pair32 (m.shadowCell t k) (m.shadowCell t (k + 1)))
  else match tileSpec t o with
    | none => .ok 0
    | some s => .ok (m.rd (tileReg t o) &&& ~~~s.wo)

/-! ## Writes -/

/-- The bits of a word that a write can change (R7). -/
def RegSpec.writable (s : RegSpec) : W64 := s.rw ||| s.rws ||| s.rwl ||| s.w1c ||| s.wo

/-- The whole word that a write under a lane mask would leave: staged bits count from what is staged already (R8), write-only bits from 0, and no reserved or read-only bit changes (R7, R10). -/
def written (m : Mod) (a : Nat) (s : RegSpec) (mask v : W64) : W64 :=
  let old := merge s.rws (m.rd a) (m.stagedWord a) &&& ~~~(s.wo ||| s.w1c)
  merge (mask &&& RegSpec.writable s) old v

/-- A write of NUM_CTL stages it, or is refused (R207). -/
def writeNumCtl (m : Mod) (t : Nat) (new : W64) : W16 × Mod :=
  let shift := bf new 32 4
  if 1024 < bf new 16 12 ∨ (shift ≠ 15 ∧ 2 ^ shift ≤ bf new 48 16) then (0x0501, m)
  else (0, m.stage (NUM_CTL t) new)

/-- RESUME: the threads that a breakpoint stopped return to the states they held (R126). -/
def resumeDebug (m : Mod) (t : Nat) : Mod :=
  forEach (m.ungate t) (upto 4) (fun m n => m.modThread t n (fun x =>
    if (x.st = .debug ∨ x.st = .stopped) ∧ x.held ≠ .off then { x with st := x.held, held := .off } else x))

/-- A write of the whole word `new` at offset `o` of a tile's window (R90): the reason code, and the module. -/
def writeTile (m : Mod) (t o : Nat) (new : W64) : W16 × Mod :=
  let a := tileReg t o
  if o = 0x08 then m.writeTileCtl t new
  else if o = 0x20 then m.writeVeneerCtl t new
  else if 0x1000 ≤ o ∧ o < 0x2000 then
    let d := (o - 0x1000) / 16
    if o % 16 = 0 then m.writeDowel0 t d new else m.writeDowel1 t d new
  else if 0x2000 ≤ o ∧ o < 0x2600 then
    let j := (o - 0x2000) / 0x100
    if o % 0x100 = 0 then m.writeJigCtl t j new else m.writeJigReg t j a new
  else if o = 0x1_0030 then
    if !m.gateOpen t then (0x0309, m) else (0, if bit new 0 then m.resumeDebug t else m)
  else if o = 0x3_0000 then m.writeNumCtl t new
  else match tileSpec t o with
    | none => (0, m)
    | some s => if s.rwl ≠ 0 then m.writeLocked a (m.tileEnabled t) 0x0201 new else (0, m.wr a new)

/-- A half-register holds a field that the tile's own sequencer can write (R119). -/
def csrWritable (t o : Nat) (mask : W64) : Bool :=
  decide (o ≠ 0x08) && decide (o ≠ 0x18) &&
  (match tileSpec t o with
   | none => false
   | some s => decide (mask &&& RegSpec.writable s ≠ 0))

end Sys2Proof.Machine.Mod
end

