-- ==== Sys2Proof/Machine/RingCmds.lean ====
section
/-! DEFINITION. The ring commands (R293 to R308): enabling and stopping, doorbells, the start, release, completion and record of an entry, and the entries of the tile DMA engines. -/

namespace Sys2Proof.Machine

namespace Mod

/-! ## Enabling (R295, R431) -/

/-- The storage of a ring lies where its LOC allows. -/
def ringStoreOk (m : Mod) (r : Nat) : Bool :=
  let loc := m.ringLoc r
  let base := (m.rd (RING_BASE r)).toNat
  let n := m.ringCap r
  let place := match ringKind r with
    | 0 => decide (loc = 2)
    | 1 => decide (loc = 1)
    | 5 => decide (loc = 0) || decide (loc = 2) || decide (loc = 3)
    | _ => decide (loc = 0)
  place && (match loc with
    | 0 => decide (base < 2 ^ 41) && m.hbmRange (m.fld (RING_CTL r) 45 3) base (64 * n) 64
    | 1 => decide (base % 2 = 0) && m.dowelHolds (tileOfRing r) (spDowel base) [0] (spWord base) (2 * n)
    | 2 => decide (base % 64 = 0)
    | _ => decide (base % 64 = 0) && decide (base < 2 ^ 40))

/-- The completion ring that CQ_VALID names may take the records of this ring: another one, since it must be enabled already. -/
def ringCqOk (m : Mod) (r : Nat) : Bool :=
  match m.cqOf r with
  | none => true
  | some c => decide (c ≠ r) && m.ringEnabled c && m.flag (RING_CTL c) 19 && decide (m.slotOfRing c = m.slotOfRing r) &&
      (decide (ringKind r ≠ 0) || decide (m.ringLoc c = 2))

/-- A ring may be enabled with the descriptor it holds. -/
def ringEnableOk (m : Mod) (r : Nat) : Bool :=
  let z := m.fld (RING_CTL r) 32 5
  decide (2 ≤ z) && decide (z ≤ 16) && m.flag (RING_CTL r) 44 && m.hasPart (m.fld (RING_CTL r) 45 3) &&
  (decide (ringKind r ≠ 1) || decide (m.slotOfTile (tileOfRing r) = m.slotOfRing r)) &&
  (!m.flag (RING_CTL r) 19 || decide (ringKind r = 5)) && (m.ringOf r).prog.isEmpty && m.ringStoreOk r && m.ringCqOk r

/-- A FEED ring's flow may run: VALID, a key epoch loaded, and in a sealed partition a key of its job (R431). -/
def feedEnableOk (m : Mod) (r : Nat) : Bool :=
  let e := ifaceOfRing r
  let k := flowOfRing r
  m.flowValid e k && decide (m.flowKeys e k ≠ 0) && (!m.lockedOwner (m.slotOfRing r) || decide ((m.flow e k).owner = m.slotOfRing r))

/-- A write of RING_CTL: `new` is the whole word that it would leave (R294, R295, R520, R521).  A refused enable writes the other fields and leaves ENABLE 0; a write that clears ENABLE leaves them. -/
def writeRingCtl (m : Mod) (r : Nat) (new : W64) : W16 × Mod :=
  let a := RING_CTL r
  if m.ringEnabled r then
    (if bit new 0 = false then (0, m.stopRing r) else if new = m.rd a then (0, m) else (0x0801, m))
  else if bit new 0 = false then (0, m.wr a new)
  else
    let n := m.wr a new
    let refuse := fun (c : W16) => (c, (m.wr a (setBit new 0 false)).ringCode r c)
    if !n.ringEnableOk r then refuse 0x0802
    else if ringKind r = 4 ∧ ¬ n.feedEnableOk r then refuse 0x0D02
    else
      let n := (n.wr (RING_PTR r) 0).setRingState r 1
      let n := n.setRing r {}
      (0, if ringKind r = 4 then n.setFlowState (ifaceOfRing r) (flowOfRing r) 1 else n)

/-- The slots that a write of RING_CTL concerns: the ring's own and the one that the new word names. -/
def ringShut (m : Mod) (who : Requester) (r : Nat) (new : W64) : Bool :=
  m.shut who (m.slotOfRing r) || (bit new 44 && m.shut who (some (bf new 45 3)))

/-! ## Doorbells (R297, R298, R308) -/

/-- An ignored doorbell. -/
def ignoreDoorbell (m : Mod) (r : Nat) (code : W16) : Mod := (m.countIgnored r).ringCode r code

/-- The producer of a doorbell has the PUSH right. -/
def mayPush (m : Mod) (who : Requester) (r : Nat) : Bool :=
  match who with
  | .host => m.flag (RING_CTL r) 25
  | .gallery => m.flag (RING_CTL r) 24
  | .keeper => false

/-- A ring whose doorbell stays open in a sealed partition (R308). -/
def doorbellOpen (m : Mod) (r : Nat) : Bool := decide (ringKind r = 0) || (m.flag (RING_CTL r) 19 && decide (m.ringLoc r = 2))

/-- A write of RING_DB: the new TAIL of a ring, or the new HEAD of a completion ring; its reason code and what it leaves. -/
def ringDb (m : Mod) (who : Requester) (r : Nat) (v : W32) : W16 × Mod :=
  let fill := m.ringFill r
  let off := fun (p : Nat) => (v.toNat + 2 ^ 32 - p) % 2 ^ 32
  if m.shut who (m.slotOfRing r) && !m.doorbellOpen r then (0x0F01, m)
  else if m.ringState r = 0 ∨ m.ringState r = 6 then (0, m.ignoreDoorbell r 0x0807)
  else if m.flag (RING_CTL r) 19 then
    (0, if off (m.ringHead r) ≤ fill then (m.setRingHead r v.toNat).settleRing r else m.ignoreDoorbell r 0x0807)
  else if !m.mayPush who r then (0, m.ignoreDoorbell r 0x0808)
  else if off (m.ringTail r) ≤ m.ringCap r - fill then
    let m := m.setRingTail r v.toNat
    (0, if m.ringState r = 1 then m.setRingState r 2 else m)
  else (0, m.ignoreDoorbell r 0x0807)
def doorbell (m : Mod) (who : Requester) (r : Nat) (v : W32) : Mod := m.commit who (ringReg r 0x18) (m.ringDb who r v)

/-! ## Entries (R302, R303) -/

/-- The index of the next entry that has not started. -/
def nextIndex (m : Mod) (r : Nat) : Nat := (m.ringHead r + (m.ringOf r).prog.length) % 2 ^ 32

/-- Puts an entry at the end of those in progress; the ring then waits for nothing. -/
def addEntry (m : Mod) (r : Nat) (e : RingEntry) : Mod :=
  (m.setRing r { m.ringOf r with prog := (m.ringOf r).prog ++ [e], waitOn := none, headRelease := .none }).settleRing r

/-- A refusal shows its code in LAST_CODE, and on a TILE_DMA, PLANE, JICEN or FEED ring it raises 0x0827; on the other rings it raises nothing (R303, R310). -/
def refusalCode (m : Mod) (r : Nat) (code : W16) (i : Nat) : Mod :=
  let m := m.ringCode r code
  if ringKind r = 0 ∨ ringKind r = 5 then m else m.raiseRing r 0x0827 i

/-- A refused entry: it performs and signals nothing, completes with its code, and puts the ring in ERROR (R303). -/
def refuseEntry (m : Mod) (r : Nat) (b : List Byte) (code : W16) : Mod :=
  let i := m.nextIndex r
  (m.addEntry r { index := BitVec.ofNat 32 i, image := b, done := true, refused := true, status := code }).refusalCode r code i

/-- A head that fails with an error code of its own (R278, R285, 0x0824). -/
def failHead (m : Mod) (r : Nat) (b : List Byte) (code : W16) : Mod :=
  let i := m.nextIndex r
  ((m.addEntry r { index := BitVec.ofNat 32 i, image := b, done := true, refused := true, status := code }).ringCode r code).raiseRing r code i

/-- Entries of ring `r` that have started and are not done. -/
def working (m : Mod) (r : Nat) : List RingEntry := (m.ringOf r).prog.filter (fun e => !e.done)

/-- The consumer of a ring runs: a tile's DMA engine outside HALTED and scrubs, an enabled plane of a READY stack, a link die, an enabled Feed interface; Gallery, for host commands and the entries of INTERNAL rings, while it serves (a completion ring's consumer is software). -/
def consumerRuns (m : Mod) (r : Nat) : Bool :=
  match ringKind r with
  | 0 => decide (m.fld HI_STATUS 0 4 = 1)
  | 1 => m.tileClocked (tileOfRing r) && !(m.tile (tileOfRing r)).heldSave && !m.scrubbing (tileOfRing r)
  | 2 => m.flag (PLANE_CTL (stackOfRing r)) 0 && decide (m.fld (HBM_STATUS (stackOfRing r)) 0 4 = 3)
  | 3 => true
  | 4 => m.flag (FD_CTL (ifaceOfRing r)) 0
  | _ => decide (m.fld HI_STATUS 0 4 = 1) && !m.flag (RING_CTL r) 19

/-- The consumer has room for another entry in progress: four of a DMA engine, one MITRE at a time (R307); four of a plane, one for each shard (R326). -/
def consumerRoom (m : Mod) (r : Nat) (b : List Byte) : Bool :=
  match ringKind r with
  | 1 =>
    let w := (upto 32).flatMap (fun k => m.working (4096 + 32 * tileOfRing r + k))
    decide (w.length < 4) && !(decide (entryOp b = 4) && (w.any (fun e => decide (entryOp e.image = 4)) || !(m.tile (tileOfRing r)).mitre.isEmpty))
  | 2 =>
    let w := (upto 128).flatMap (fun k => m.working (45056 + 128 * stackOfRing r + k))
    decide (w.length < 4) && !w.any (fun e => decide (num e.image 0x18 1 = num b 0x18 1))
  | _ => true

/-- A FENCE or the consumer holds the entry. -/
def entryHeld (m : Mod) (r : Nat) (b : List Byte) : Bool :=
  (wantsFence (ringKind r) b && (m.ringOf r).prog.any (fun e => !e.done)) || !m.consumerRoom r b

/-- The head of a ring is ready to start: checked, released by its buoy, held by nothing. -/
def headReady (m : Mod) (r : Nat) : Bool :=
  let b := m.ringEntryBytes r (m.nextIndex r)
  m.ringEnabled r && (decide (m.ringState r = 1) || decide (m.ringState r = 2)) && (m.ringOf r).waitOn.isNone &&
  decide ((m.ringOf r).prog.length < m.ringFill r) && decide (m.headCode r b = 0) &&
  (!entryWaits (ringKind r) b || decide ((m.ringOf r).headRelease = .met)) && !m.entryHeld r b

/-- The consumer's turn is ring `r`'s: a DMA engine and a plane start the heads of their ready rings in round robin by ring number (R307, R326). -/
def ringTurn (m : Mod) (r : Nat) : Bool :=
  let first := fun (base n last : Nat) => decide (((upto n).map (fun i => base + (last + 1 + i) % n)).find? m.headReady = some r)
  match ringKind r with
  | 1 => first (4096 + 32 * tileOfRing r) 32 (m.tile (tileOfRing r)).dmaLast
  | 2 => first (45056 + 128 * stackOfRing r) 128 (m.stack (stackOfRing r)).planeLast
  | _ => true
/-- The consumer has started an entry of ring `r`. -/
def servedRing (m : Mod) (r : Nat) : Mod :=
  match ringKind r with
  | 1 => m.modTile (tileOfRing r) (fun x => { x with dmaLast := r % 32 })
  | 2 => m.setStack (stackOfRing r) { m.stack (stackOfRing r) with planeLast := r % 128 }
  | _ => m

/-- The next entry starts, unless a FENCE or the consumer holds it or it is another ring's turn.  An INTERNAL ring's entry has no work that the spec gives: its wait, signal and completion are all (log entry 103). -/
def beginEntry (m : Mod) (r : Nat) (b : List Byte) : Mod :=
  if m.entryHeld r b || !m.ringTurn r then m
  else
    let c := m.bodyCode r b
    if c ≠ 0 then m.refuseEntry r b c
    else (m.servedRing r).addEntry r { index := BitVec.ofNat 32 (m.nextIndex r), image := b, begun := true, done := decide (ringKind r = 5) }

/-- The head is checked; it waits at its buoy, or starts (R302).  A well-formed command packet starts with the command of its opcode. -/
def startEntry (m : Mod) (r : Nat) (fetchOk : Bool) : Mod :=
  let g := m.ringOf r
  let st := m.ringState r
  if m.ringEnabled r = false ∨ (st ≠ 1 ∧ st ≠ 2) ∨ g.waitOn ≠ none ∨ m.ringFill r ≤ g.prog.length ∨ m.consumerRuns r = false then m
  else
    let b := m.ringEntryBytes r (m.nextIndex r)
    let c := m.headCode r b
    if !fetchOk then m.failHead r b 0x0824
    else if c ≠ 0 then m.refuseEntry r b c
    else if ringKind r = 0 then m
    else if entryWaits (ringKind r) b ∧ g.headRelease ≠ .met then
      (m.setRing r { g with waitOn := some (entryWaitBuoy b), headRelease := .none }).settleRing r
    else m.beginEntry r b

/-- The answer of the home reaches the waiting head (R280, R285).  A ring that is SAVED takes it when it runs again, and one in ERROR starts no entry (R303). -/
def releaseHead (m : Mod) (r : Nat) : Mod :=
  let g := m.ringOf r
  let b := m.ringEntryBytes r (m.nextIndex r)
  if g.waitOn = none ∨ m.ringState r = 6 then m
  else match g.headRelease with
    | .met =>
      let m := (m.setRing r { g with waitOn := none }).settleRing r
      if m.consumerRuns r && decide (m.ringState r ≠ 5) then m.beginEntry r b else m
    | .broken => m.failHead r b 0x0822
    | .refused => m.failHead r b 0x0823
    | _ => m

/-! ## Completion (R299, R302, R304) -/

/-- Offers a completion record to the ring's completion ring: true when the entry may end.  A full ring stalls the producer; a ring that is not enabled drops the record; a write that fails raises 0x0826. -/
def offerRecord (m : Mod) (r : Nat) (wanted : Bool) (record : List Byte) (writeOk : Bool) : Bool × Mod :=
  match wanted, m.cqOf r with
  | true, some c => match m.recordFate c with
    | .dropped => (true, m.ringCode r 0x080B)
    | .full => (false, if m.ringState r = 4 then m else (m.countStall r).setRingState r 4)
    | .written => (true, if writeOk then m.pushRecord c record else (m.ringCode r 0x0826).raiseRing r 0x0826 (m.ringHead r))
  | _, _ => (true, m)

/-- The oldest entry ends: HEAD advances, and a refused entry or signal leaves the ring in ERROR. -/
def closeEntry (m : Mod) (r : Nat) (e : RingEntry) : Mod :=
  let m := (m.setRingHead r ((m.ringHead r + 1) % 2 ^ 32)).addCnt (RING_CNT_DONE r) 1
  let m := m.setRing r { m.ringOf r with prog := (m.ringOf r).prog.drop 1 }
  let m := if m.ringState r = 4 then m.setRingState r 2 else m
  if e.refused then m.errRing r
  else if e.refusedSig then ((m.errRing r).ringCode r 0x0823).raiseRing r 0x0823 e.index.toNat
  else m.settleRing r

/-- The record of the oldest entry, and its end. -/
def finishEntry (m : Mod) (r : Nat) (e : RingEntry) (writeOk : Bool) : Mod :=
  let status : W16 := if e.refusedSig then 0x0823 else e.status
  let record := completionRecord r status e.index.toNat (recordTag (ringKind r) e.image) m.count e.bytes e.detail
  let o := m.offerRecord r (wantsRecord (ringKind r) e.image) record writeOk
  if o.1 then o.2.closeEntry r e else o.2

/-- The oldest entry is done: its SIGNAL leaves, or it ends (R302). -/
def completeEntry (m : Mod) (r : Nat) (writeOk : Bool) : Mod :=
  match (m.ringOf r).prog with
  | [] => m
  | e :: rest =>
    if e.done = false ∨ e.signalled = true ∨ m.ringState r = 4 then m
    else if wantsSignal (ringKind r) e.image && !e.refused then m.setRing r { m.ringOf r with prog := { e with signalled := true } :: rest }
    else m.finishEntry r e writeOk

/-- Marks entry `i` of ring `r` as done; LAST_CODE takes a code other than success (R294; log entry 62). -/
def doneEntry (m : Mod) (r : Nat) (i : W32) (status : W16) (bytes : Nat) (detail : List Byte) : Mod :=
  let m := if status = 0 then m else m.ringCode r status
  m.setRing r { m.ringOf r with prog := (m.ringOf r).prog.map (fun e =>
    if e.index = i then { e with done := true, status := status, bytes := bytes, detail := detail } else e) }

/-- An entry that is refused as it does its work: it performs nothing and its ring enters ERROR (R303). -/
def refuseWork (m : Mod) (r : Nat) (x : RingEntry) (code : W16) : Mod :=
  let m := m.setRing r { m.ringOf r with prog := (m.ringOf r).prog.map (fun e =>
    if e.index = x.index then { e with done := true, refused := true, status := code } else e) }
  (m.settleRing r).refusalCode r code x.index.toNat

/-- The oldest entry at work, if it has opcode `op` and the ring's kind is `kind`. -/
def workOf (m : Mod) (r kind op : Nat) : Option RingEntry :=
  match m.working r with
  | [] => none
  | e :: _ => if ringKind r = kind ∧ entryOp e.image = op then some e else none

/-! ## The DMA engine (R305) -/

/-- An entry of a TILE_DMA ring does its work; one whose HBM accesses a scrub refuses is a refused entry (R303, R320; log entry 62). -/
def dmaWork (m : Mod) (r op : Nat) (f : Mod → Nat → List Byte → W16 × Mod) : Mod :=
  match m.workOf r 1 op with
  | none => m
  | some e =>
    let x := f m (tileOfRing r) e.image
    let n := if op = 5 ∨ x.1 ≠ 0 then 0 else 32 * dmaRowWords e.image * dmaRows e.image
    if x.1 = 0x0909 then x.2.refuseWork r e x.1 else x.2.doneEntry r e.index x.1 n []

/-- The DMA jig as the engine configures it for `n` words of a scratchpad address field (R67, R305): lines of 32 words in the dowel's word order, the last one bounded by axis 0; WRITE for the destination.  The other fields are 0, and the walk is over when the entry's work is (log entry 104). -/
def setDmaJig (m : Mod) (t : Nat) (write : Bool) (v n : Nat) : Mod :=
  let axis := if n % 32 = 0 then 7 else 0
  let m := m.wr (JIG_CTL t 5) (BitVec.ofNat 64 (spDowel v * 2 ^ 24 + (if write then 2 ^ 18 else 0)))
  let m := (m.wr (JIG_BASE t 5) (BitVec.ofNat 64 (spWord v))).wr (JIG_STATUS t 5) (BitVec.ofNat 64 (ceilDiv n 32 * 2 ^ 32))
  let dim := fun (m : Mod) (k extent stride axis step : Nat) =>
    (m.wr (DIM_A t 5 k) (BitVec.ofNat 64 (extent - 1 + stride * 2 ^ 32))).wr (DIM_B t 5 k) (BitVec.ofNat 64 (step + axis * 2 ^ 32))
  let m := dim (dim m 0 32 1 axis 1) 1 (ceilDiv n 32) 32 axis 32
  let m := forEach m [2, 3, 4, 5] (fun m k => dim m k 1 0 7 0)
  m.wr (AXIS t 5 0) (BitVec.ofNat 64 (if n % 32 = 0 then 0 else n))
/-- The words that a jig walks, in its order. -/
def jigWalk (m : Mod) (t j : Nat) : List Nat :=
  (upto (m.jigLines t j)).flatMap (fun l => (m.jigPlaces t j l).filterMap (fun p => match p with
    | .word a => some a
    | _ => none))
/-- The DMA engine reads `n` words of a dowel through its jig. -/
def dmaRead (m : Mod) (t v n : Nat) : List Byte × Mod :=
  let m := m.setDmaJig t false v n
  ((m.jigWalk t 5).flatMap (fun a => m.ldDowelWords t (spDowel v) a 1), m)
/-- The DMA engine writes `n` words of a dowel through its jig. -/
def dmaWrite (m : Mod) (t v n : Nat) (b : List Byte) : Mod :=
  let m := m.setDmaJig t true v n
  ((m.jigWalk t 5).foldl (fun (x : Mod × List Byte) a => (x.1.stDowelWords t (spDowel v) a 1 x.2, x.2.drop 32)) (m, b)).1

/-- The first HBM row that cannot be accessed. -/
def dmaBlocked (m : Mod) (slot : Nat) (rows : List Nat) : Option Nat := rows.find? (fun a => decide (m.hbmCode slot a ≠ 0))

/-- LOAD: HBM rows into the dowel's word order. -/
def dmaLoadWork (m : Mod) (t : Nat) (b : List Byte) : W16 × Mod :=
  let slot := (m.slotOfTile t).getD 0
  let dst := num b 0x20 8
  let rows := dmaHbmRows b (num b 0x18 8)
  match m.dmaBlocked slot rows with
  | some a => (m.hbmCode slot a, m.hbmFault slot a)
  | none =>
    let x := rows.foldl (fun (x : List Byte × Mod) a => let y := x.2.readHbm slot a (32 * dmaRowWords b); (x.1 ++ y.1, y.2)) ([], m)
    (0, x.2.dmaWrite t dst (dmaRowWords b * dmaRows b) x.1)

/-- STORE: the dowel's words into HBM rows. -/
def dmaStoreWork (m : Mod) (t : Nat) (b : List Byte) : W16 × Mod :=
  let slot := (m.slotOfTile t).getD 0
  let src := num b 0x18 8
  let n := dmaRowWords b
  let rows := dmaHbmRows b (num b 0x20 8)
  match m.dmaBlocked slot rows with
  | some a => (m.hbmCode slot a, m.hbmFault slot a)
  | none =>
    let x := m.dmaRead t src (n * dmaRows b)
    (0, forEach x.2 (upto (dmaRows b)) (fun m i => m.storeHbm slot (rows.getD i 0) ((x.1.drop (32 * n * i)).take (32 * n))))

/-- COPY: scratchpad to scratchpad of the tile. -/
def dmaCopyWork (m : Mod) (t : Nat) (b : List Byte) : W16 × Mod :=
  let src := num b 0x18 8
  let dst := num b 0x20 8
  let n := dmaRowWords b
  let x := m.dmaRead t src n
  (0, x.2.dmaWrite t dst n x.1)

end Mod

/-- A meaning of ring `r` that its consumer performs: a tile's DMA engine does nothing while the tile's clock is gated (R38, R264, R288). -/
def onConsumer (s : State) (r : Nat) (f : Mod → Mod) : Host.Outcome State Fault Refusal :=
  onWhen s (s.m.mainUp && decide (r < numRings) && (decide (ringKind r ≠ 1) || s.m.tileClocked (tileOfRing r))) f

/-! ## Meanings -/

/-- RING_ENABLE: a write of RING_CTL with ENABLE 1 (R294, R295, R308). -/
def execRingEnable (who : Requester) (r : Nat) (v : W64) (s : State) : Host.Outcome State Fault Refusal :=
  onRing s r (fun m =>
    let sp := ringSpec r 0
    let new : W64 := match sp with
      | some x => m.written (RING_CTL r) x (BitVec.allOnes 64) (v ||| 1)
      | none => v
    m.commit who (RING_CTL r) (if m.ringShut who r new then (0x0F01, m) else m.writeRingCtl r new))
/-- RING_DISABLE: a write of 0 to ENABLE (R296); it is open in a sealed partition (R308). -/
def execRingDisable (who : Requester) (r : Nat) (s : State) : Host.Outcome State Fault Refusal :=
  onRing s r (fun m => m.commit who (RING_CTL r) (m.writeRingCtl r (m.rd (RING_CTL r) &&& ~~~1)))
/-- RING_STOPPED: the entries of a stopping ring have completed (R296). -/
def execRingStopped (r : Nat) (s : State) : Host.Outcome State Fault Refusal :=
  onRing s r (fun m => if (m.ringOf r).stopping ∧ (m.ringOf r).prog = [] then m.stopRingNow r else m)
/-- RING_DOORBELL (R297). -/
def execRingDoorbell (who : Requester) (r : Nat) (tail : W32) (s : State) : Host.Outcome State Fault Refusal :=
  onRing s r (fun m => if m.flag (RING_CTL r) 19 then m else m.doorbell who r tail)
/-- COMPLETION_DOORBELL (R298). -/
def execCompletionDoorbell (who : Requester) (r : Nat) (head : W32) (s : State) : Host.Outcome State Fault Refusal :=
  onRing s r (fun m => if m.flag (RING_CTL r) 19 then m.doorbell who r head else m)
/-- RING_ENTRY_START: the head is checked, waits or starts (R302); `fetchOk` is false when its fetch failed (0x0824). -/
def execRingEntryStart (r : Nat) (fetchOk : Bool) (s : State) : Host.Outcome State Fault Refusal := onConsumer s r (fun m => m.startEntry r fetchOk)
/-- RING_HEAD_RELEASE (R280). -/
def execRingHeadRelease (r : Nat) (s : State) : Host.Outcome State Fault Refusal := onConsumer s r (fun m => m.releaseHead r)
/-- RING_ENTRY_COMPLETE (R302). -/
def execRingEntryComplete (r : Nat) (writeOk : Bool) (s : State) : Host.Outcome State Fault Refusal :=
  onConsumer s r (fun m => m.completeEntry r writeOk)
/-- RING_SIGNAL_ANSWER: the home's answer to the SIGNAL arrives (R302). -/
def execRingSignalAnswer (r : Nat) (writeOk : Bool) (s : State) : Host.Outcome State Fault Refusal :=
  onConsumer s r (fun m => match (m.ringOf r).prog with
    | [] => m
    | e :: _ => if e.signalled ∧ e.answered ∧ m.ringState r ≠ 4 then m.finishEntry r e writeOk else m)
/-- RING_STALL_RELEASE: the full completion ring has room again (R299). -/
def execRingStallRelease (r : Nat) (s : State) : Host.Outcome State Fault Refusal :=
  onConsumer s r (fun m => match (m.ringOf r).prog with
    | [] => m
    | e :: _ => if m.ringState r = 4 then m.finishEntry r e true else m)
/-- DMA_LOAD (R305). -/
def execDmaLoad (r : Nat) (s : State) : Host.Outcome State Fault Refusal := onConsumer s r (fun m => m.dmaWork r 1 Mod.dmaLoadWork)
/-- DMA_STORE (R305). -/
def execDmaStore (r : Nat) (s : State) : Host.Outcome State Fault Refusal := onConsumer s r (fun m => m.dmaWork r 2 Mod.dmaStoreWork)
/-- DMA_COPY (R305). -/
def execDmaCopy (r : Nat) (s : State) : Host.Outcome State Fault Refusal := onConsumer s r (fun m => m.dmaWork r 3 Mod.dmaCopyWork)
/-- DMA_MITRE: the copy starts; MITRE_DONE ends it and the entry (R76, R305). -/
def execDmaMitre (r : Nat) (s : State) : Host.Outcome State Fault Refusal :=
  onConsumer s r (fun m => match m.workOf r 1 4 with
    | none => m
    | some e => if (m.tile (tileOfRing r)).mitre.isEmpty then m.startMitre (tileOfRing r) (Mod.mitreOf e.image (some (r, e.index))) else m)
/-- DMA_SYNC: no transfer (R305). -/
def execDmaSync (r : Nat) (s : State) : Host.Outcome State Fault Refusal := onConsumer s r (fun m => m.dmaWork r 5 (fun m _ _ => (0, m)))

end Sys2Proof.Machine
end

