-- ==== Sys2Proof/Machine/Hbm.lean ====
section
/-! DEFINITION. The HBM stacks (R311 to R320, R332 to R338): the arbiters, accesses with their ECC and merges, refresh, scrubs, pseudo-channel sparing and return. -/

namespace Sys2Proof.Machine

namespace Mod

/-! ## Scrub (R320) -/

/-- A stack scrub starts. -/
def startStackScrub (m : Mod) (s : Nat) : Mod :=
  (m.setHbmState s 2).setStack s { m.stack s with scrubbing := true }

/-- The end of a stack scrub: every partition address reads 0; the shard table, rule blocks and shard states are at their reset values. -/
def endStackScrub (m : Mod) (s : Nat) : Mod :=
  let m := m.clearMem (hbmAt s 0) (hbmAt s (2 ^ 36))
  let m := m.resetRegs (stackReg s 0x1_0000) (stackReg s 0x4_0000)
  (m.setHbmState s 3).setStack s { m.stack s with scrubbing := false, updating := [], zeroing := [] }

/-! ## Arbitration (R332, R333) -/

/-- The class of a requester. -/
def classOf (x : Nat) : Nat := if x = 104 then 0 else x % 4

def arbOf (m : Mod) (s q : Nat) : Arbiter := Sparse.get (fun _ => {}) (m.stack s).arbs q
def setArb (m : Mod) (s q : Nat) (a : Arbiter) : Mod :=
  m.setStack s { m.stack s with arbs := Sparse.put (fun _ => {}) (m.stack s).arbs q a }
def arbPrio (a : Arbiter) (x : Nat) : Nat := Sparse.get classOf a.prio x

/-- The oldest request; the lower number on a tie. -/
def oldest (l : List ArbRequest) : Option ArbRequest :=
  l.foldl (fun b r => match b with
    | none => some r
    | some o => if o.age < r.age ∨ (o.age = r.age ∧ r.x < o.x) then some r else some o) none

/-- The requester of highest prio; round robin from `rr` on a tie. -/
def highest (a : Arbiter) (l : List ArbRequest) : Option ArbRequest :=
  let turn := fun (x : Nat) => (x + 105 - a.rr % 105) % 105
  l.foldl (fun b r => match b with
    | none => some r
    | some o => if arbPrio a o.x < arbPrio a r.x ∨ (arbPrio a o.x = arbPrio a r.x ∧ turn r.x < turn o.x) then some r else some o) none

/-- The requests that an arbiter sees: of requesters 0 to 104, the oldest of each. -/
def presented (l : List ArbRequest) : List ArbRequest :=
  l.foldl (fun p r => if r.x < 105 ∧ !p.any (fun o => decide (o.x = r.x)) then
    p ++ [{ r with age := (l.filter (fun o => decide (o.x = r.x))).foldl (fun n o => max n o.age) 0 }] else p) []

/-- One arbitration among the presenting requesters. -/
def grantOne (m : Mod) (s q : Nat) (l : List ArbRequest) : Mod :=
  let l := presented l
  let a := m.arbOf s q
  let g := a.grants + 1
  let nth := decide (g % (m.fld (ARB_CTL s) 0 7) = 0)
  match if nth then oldest l else highest a l with
  | none => m
  | some w =>
    let prio := l.foldl (fun p r => if r.x = w.x then p else Sparse.put classOf p r.x (min (Sparse.get classOf p r.x + 1) (classOf r.x + 3))) a.prio
    let a := { a with grants := g, prio := Sparse.put classOf prio w.x (classOf w.x), rr := if nth then a.rr else w.x + 1, owner := some w.x }
    let m := m.setArb s q a
    let m := if nth then m.addCnt (CNT_NTH_GRANT s) 1 else m
    if (m.rd (ARB_MAXWAIT s)).toNat < w.age then m.wr (ARB_MAXWAIT s) (BitVec.ofNat 64 w.age) else m

/-! ## Corrected bursts and sparing (R317, R337, R338) -/

/-- Another pseudo-channel of the stack is not ACTIVE. -/
def pcBusy (m : Mod) (s : Nat) : Bool := (upto 32).any (fun p => decide (m.pcState s p ≠ 0))

/-- SPARING begins. -/
def startSparing (m : Mod) (s p : Nat) : Mod := (m.setPcState s p 1).setStack s { m.stack s with copying := some p }

/-- `n` corrected bursts of pseudo-channel `p` at a stack offset: 0x0921, the counts, and sparing when CORR reaches the threshold; 0x0928 where it cannot start. -/
def corrected (m : Mod) (s p n off : Nat) : Mod :=
  if n = 0 then m
  else
    let old := m.fld (PC_STATE s p) 32 32
    let new := min (old + n) (2 ^ 32 - 1)
    let t := m.fld (PC_RETIRE_THRESH s) 0 32
    let m := ((m.setF (PC_STATE s p) 32 32 new).addCnt (CNT_HBM_CORR s) n).raiseStack s 0x0921 off
    if t ≠ 0 ∧ old < t ∧ t ≤ new then (if m.pcBusy s then m.raiseStackAt s 0x0928 p else m.startSparing s p) else m

/-- PC_CMD (R338). -/
def writePcCmd (m : Mod) (s p op : Nat) : W16 × Mod :=
  if op = 1 then (if m.pcBusy s then (0x0906, m) else (0, m.startSparing s p))
  else if op = 2 then (if m.pcState s p = 2 then (0, m.setPcState s p 3) else (0x0906, m))
  else (0x0906, m)

/-- The states that wait for a step boundary mark take effect (R338). -/
def markSparing (m : Mod) (s : Nat) : Mod :=
  match (m.stack s).moved with
  | some (p, v) => (m.setPcState s p v).setStack s { m.stack s with moved := none }
  | none => m

/-- ARB_CTL (R333): NTH from 4 to 64, staged. -/
def writeArbCtl (m : Mod) (s : Nat) (new : W64) : W16 × Mod :=
  if bf new 0 7 < 4 ∨ 64 < bf new 0 7 then (0x0907, m) else (0, m.stage (ARB_CTL s) new)

/-! ## Accesses (R314 to R318, R334, R338) -/

/-- The access unit of a requester (R314): 32 bytes of DMA, Feed, Jicen and planes; single bytes of Gallery and the host, 1,024 bytes of sparing copies (DESIGN CHOICE for those, log entry 105). -/
def accessUnit (x : Nat) : Nat := if x = 104 then 1024 else if 100 ≤ x then 1 else 32

/-- The requester that the arbiters have granted the places of an access to: one and the same. -/
def grantee (m : Mod) (s : Nat) (a : HbmAccess) : Option Nat :=
  match (m.hbmPlaces s a.off a.write.isSome).map (fun p => (m.arbOf s p.1).owner) with
  | [] => none
  | x :: r => if r.all (fun y => decide (y = x)) then x else none

/-- The access performs: merges, the data, and what the codec found.  A line that a copy finds uncorrectable is marked (R338). -/
def performAccess (m : Mod) (s : Nat) (a : HbmAccess) (copy : Bool) : Mod :=
  let p := m.hbmSpot s a.off % 32
  let m := match a.write with
    | some b => (m.storeStack s a.off b).answer 0
    | none => m.answerBytes (m.ld (hbmAt s a.off) a.len)
  let m := m.corrected s p a.corrected a.off
  if a.uncorrectable then
    let m := if copy then m.setStack s { m.stack s with bad := (m.stack s).bad ++ [a.off / 1024] } else m
    (m.addCnt (CNT_HBM_UNCORR s) 1).raiseStack s 0x0922 a.off
  else if a.write.isNone then m.readBad s a.off a.len else m

/-- A granted access completes: refused in a scrub or at an address that is none, an error without a key.  An access that no arbiter has granted does not complete; the debug port needs no grant, and is refused while a sealed partition exists (R334). -/
def accessHbm (m : Mod) (s : Nat) (a : HbmAccess) : Mod :=
  if m.hbmState s = 2 then m.answer 0x0909
  else if a.debug then
    if m.anySealed then m.answer 0x0908
    else if !m.debugOn then m
    else if 0xF_8000_0000 < a.off + a.size then m.answer 0x0902
    else if !m.stackKeyed s then (m.raiseStack s 0x0926 a.off).answer 0x0926
    else m.performAccess s a false
  else match m.grantee s a with
    | none => m
    | some x =>
      if 1024 < a.off % 1024 + a.size then m
      else if 0xF_8000_0000 < a.off + a.size ∨ a.off % accessUnit x ≠ 0 ∨ a.size % accessUnit x ≠ 0 then m.answer 0x0902
      else if !m.stackKeyed s then (m.raiseStack s 0x0926 a.off).answer 0x0926
      else ((m.hbmPlaces s a.off a.write.isSome).foldl (fun m p => m.setArb s p.1 { m.arbOf s p.1 with owner := none }) m).performAccess s a (decide (x = 104))

end Mod

/-! ## Meanings -/

/-- ARBITER_GRANT (R333). -/
def execArbiterGrant (k q : Nat) (reqs : List ArbRequest) (s : State) : Host.Outcome State Fault Refusal :=
  onStack s k (fun m => if q < 32 ∧ m.hbmState k = 3 then m.grantOne k q reqs else m)
/-- HBM_ACCESS_COMPLETE (R317, R318, R336). -/
def execHbmAccessComplete (k : Nat) (a : HbmAccess) (s : State) : Host.Outcome State Fault Refusal := onStack s k (fun m => m.accessHbm k a)
/-- REFRESH: a refresh that takes a granted pseudo-channel is counted (R319). -/
def execRefresh (k q : Nat) (s : State) : Host.Outcome State Fault Refusal :=
  onStack s k (fun m => if (m.arbOf k q).owner.isSome ∧ (m.stack k).selfRefresh = false then m.addCnt (CNT_REFRESH_PREEMPT k) 1 else m)
/-- ARB_CTL_WRITE (R333, R340). -/
def execArbCtlWrite (who : Requester) (k : Nat) (v : W64) (s : State) : Host.Outcome State Fault Refusal :=
  onStack s k (fun m => m.commit who (ARB_CTL k) (m.writeArbCtl k (v &&& 0x7F)))
/-- PC_RETIRE: a write of PC_CMD (R338, R340). -/
def execPcRetire (who : Requester) (k q : Nat) (s : State) : Host.Outcome State Fault Refusal :=
  onStack s k (fun m => m.commit who (stackReg k 0x18) (m.writePcCmd k (q % 32) 1))
/-- PC_RETURN (R338). -/
def execPcReturn (who : Requester) (k q : Nat) (s : State) : Host.Outcome State Fault Refusal :=
  onStack s k (fun m => m.commit who (stackReg k 0x18) (m.writePcCmd k (q % 32) 2))
/-- PC_SPARING_COPY_DONE: RETIRED at the next step boundary mark (R338). -/
def execPcSparingCopyDone (k q : Nat) (s : State) : Host.Outcome State Fault Refusal :=
  onStack s k (fun m => if (m.stack k).copying = some q ∧ m.pcState k q = 1 then
    m.setStack k { m.stack k with copying := none, moved := some (q, 2) } else m)
/-- PC_RETURN_DONE: ACTIVE at the next step boundary mark; a retraining failure raises 0x0925 (R338). -/
def execPcReturnDone (k q : Nat) (ok : Bool) (s : State) : Host.Outcome State Fault Refusal :=
  onStack s k (fun m => if m.pcState k q = 3 then
    (if ok then m.setStack k { m.stack k with moved := some (q, 0) } else m.raiseStackAt k 0x0925 q) else m)

end Sys2Proof.Machine
end

