-- ==== Sys2Proof/Machine/Plane.lean ====
section
/-! DEFINITION. The planes (R321 to R330, R373 to R381): gradient staging, gates, update and zeroing passes, commit records, the plumb check, the staged shard table. -/

namespace Sys2Proof.Machine

/-! ## Rules (R323, R324) -/

/-- A rule block's fields. -/
structure Rule where
  kind : Nat
  bf16 : Bool
  gscale : W32
  lr : W32
  wd : W32
  beta1 : W32
  beta2 : W32
  eps : W32
  c1 : W32
  c2 : W32
  deriving DecidableEq, Repr

/-- An element's state (R372). -/
structure Elem where
  w : W32
  mo : W32
  v : W32
  g : W32
  deriving DecidableEq, Repr

def one32 : W32 := 0x3F80_0000
def sub32 (a b : W32) : W32 := add32 a (neg32 b)

/-- sign(x): +1, −1 or 0; sign(NaN) is NaN (R324). -/
def sign32 (x : W32) : W32 :=
  let v := val32 x
  if v.isNan then nan32 else if v.isZero then 0 else if v.isNeg then 0xBF80_0000 else one32

/-- The update of one element, in FP32, each operation rounded in the order written (R324). -/
def updateElem (r : Rule) (s w mo v : W32) : Elem :=
  let g := mul32 s r.gscale
  let b1 := sub32 one32 r.beta1
  let b2 := sub32 one32 r.beta2
  let x := match r.kind with
    | 0 => let m1 := add32 (mul32 r.beta1 mo) g; (m1, m1, v)
    | 1 =>
      let m1 := add32 (mul32 r.beta1 mo) (mul32 b1 g)
      let v1 := add32 (mul32 r.beta2 v) (mul32 b2 (mul32 g g))
      (quot32 (mul32 m1 r.c1) (add32 (sqrt32 (mul32 v1 r.c2)) r.eps), m1, v1)
    | _ =>
      let u := sign32 (add32 (mul32 r.beta1 mo) (mul32 b1 g))
      (u, add32 (mul32 r.beta2 mo) (mul32 b2 g), v)
  { w := sub32 w (mul32 r.lr (add32 x.1 (mul32 r.wd w))), mo := x.2.1, v := x.2.2, g := g }

/-- The records of `size` bytes that a byte string holds. -/
def recordsOf (size : Nat) (b : List Byte) : List (List Byte) := (upto (b.length / size)).map (fun i => (b.drop (size * i)).take size)

/-- A commit record (R373). -/
structure CommitRecord where
  slot : Nat
  step : Nat
  tensor : Nat
  elems : Nat
  prev : Nat
  deriving DecidableEq, Repr

def commitHead (c : CommitRecord) : List Byte :=
  bytesOf 4 0x4D43_4454 ++ bytesOf 1 c.slot ++ bytesOf 3 0 ++ bytesOf 8 c.step ++ bytesOf 4 c.tensor ++ bytesOf 4 c.elems
def commitBytes (c : CommitRecord) : List Byte :=
  commitHead c ++ bytesOf 4 (crc32 (commitHead c)).toNat ++ bytesOf 4 0 ++ bytesOf 8 c.prev ++ List.replicate 24 0

/-- Reads a record; none when MAGIC, SLOT or CHECK is wrong (R375). -/
def readCommit (b : List Byte) : Option CommitRecord :=
  if num b 0 4 = 0x4D43_4454 ∧ num b 4 1 < 2 ∧ num b 0x18 4 = (crc32 (b.take 0x18)).toNat then
    some { slot := num b 4 1, step := num b 8 8, tensor := num b 0x10 4, elems := num b 0x14 4, prev := num b 0x20 8 }
  else none

namespace Mod

/-! ## Fields -/

/-- The bytes of rule block `r`, with what is staged in the second. -/
def ruleBytes (m : Mod) (s r : Nat) : List Byte := (upto 8).flatMap (fun w => bytesOf 8 (m.rd (RULE s r w)).toNat)
def stagedRule (m : Mod) (s r : Nat) : List Byte := (upto 8).flatMap (fun w => bytesOf 8 (m.stagedWord (RULE s r w)).toNat)
def ruleOf (m : Mod) (s r : Nat) : Rule :=
  let b := m.ruleBytes s r
  let f := fun o => BitVec.ofNat 32 (num b o 4)
  { kind := num b 0 1 % 16, bf16 := decide (num b 0 1 / 16 = 1), gscale := f 4, lr := f 8, wd := f 12, beta1 := f 16, beta2 := f 20, eps := f 24, c1 := f 28, c2 := f 32 }

/-- The step of the stack's partition, STEP_NUM. -/
def stackStep (m : Mod) (s : Nat) : Nat := match m.slotOfStack s with
  | some p => (m.rd (STEP_NUM p)).toNat
  | none => 0

/-- Bytes of a moment. -/
def momentBytes (r : Rule) : Nat := if r.bf16 then 2 else 4
/-- The bytes of a slot of `n` elements (R322). -/
def slotBytes (r : Rule) (n : Nat) : Nat := n * 4 + n * momentBytes r * (if r.kind = 1 then 2 else 1)

/-- The tensor of a shard: the shard entry has no field for it, so it is that of the piece record of the partition's plan that names the shard, if one does (R347, R375; log entry 64). -/
def plannedTensor (m : Mod) (s e : Nat) : Option Nat := match m.slotOfStack s with
  | none => none
  | some p =>
    let l := (m.part p).layout
    ((recordsOf 64 l.pieces).find? (fun b => decide (num b 8 2 = num l.jobTable 6 2) && decide (num b 4 1 = 2) && decide (num b 5 1 % 4 = 3) &&
      decide (4 * p + num b 10 2 = s) && decide (num b 13 1 = e))).map (fun b => num b 0 4)

/-- Reads the record of a shard: none when it is invalid for it (R375). -/
def shardRecord (m : Mod) (s e : Nat) : Option CommitRecord :=
  match readCommit (m.ld (hbmAt s (m.shardCommit s e)) 64) with
  | some c => if c.elems = m.shardElems s e ∧ c.step ≤ m.stackStep s ∧ m.plannedTensor s e ∈ [none, some c.tensor] then some c else none
  | none => none

/-- Writes the record of a shard as one access (R374). -/
def putRecord (m : Mod) (s e : Nat) (c : CommitRecord) : Mod := m.storeStack s (m.shardCommit s e) (commitBytes c)

/-- An entry's work ends, if a ring asked for it; the detail shows the shard (R325). -/
def endPlaneEntry (m : Mod) (s e : Nat) (ring : Option (Nat × W32)) (status : W16) : Mod :=
  match ring with
  | some (r, i) => m.doneEntry r i status 0 (bytesOf 4 (m.shardState s e) ++ bytesOf 4 (m.shardCount s e))
  | none => m

/-! ## Passes -/

/-- The entries of a plane's rings that are in progress. -/
def planeEntries (m : Mod) (s : Nat) : Nat := (((upto 128).map (fun k => (m.working (45056 + 128 * s + k)).length)).sum)
/-- PLANE_STATUS as it reads (R339): ACTIVE while an entry or a pass is in progress; FAULT since an error of the plane, until ENABLE is cleared (log entry 106). -/
def planeStatus (m : Mod) (s : Nat) : W64 :=
  let w := m.rd (PLANE_STATUS s)
  let n := m.planeEntries s
  let w := if bf w 0 4 = 2 ∨ (n = 0 ∧ (m.stack s).updating = [] ∧ (m.stack s).zeroing = []) then w else setBf w 0 4 1
  setBf w 8 3 n

/-- An update pass starts (R328). -/
def startUpdate (m : Mod) (s e : Nat) (ring : Option (Nat × W32)) (again : Bool) : Mod :=
  let m := m.setShardState s e 3
  m.setStack s { m.stack s with updating := (m.stack s).updating ++ [{ shard := e, ring := ring, again := again }] }

/-- A zeroing pass starts. -/
def startZeroing (m : Mod) (s e : Nat) (ring : Option (Nat × W32)) (again toIdle : Bool) : Mod :=
  let m := m.setShardState s e 3
  m.setStack s { m.stack s with zeroing := (m.stack s).zeroing ++ [{ shard := e, ring := ring, again := again, toIdle := toIdle }] }

/-- COUNT has reached EXPECT: READY, and the update at once when no gate holds it (R327). -/
def settleCount (m : Mod) (s e : Nat) : Mod :=
  if m.shardCount s e < m.shardExpect s e then m
  else if m.shardGated s e then m.setShardState s e 2
  else (m.setShardState s e 2).startUpdate s e none false

/-- The FP32 contributions of a GRAD, in element order (R325, R326). -/
def gradElems (m : Mod) (s : Nat) (b : List Byte) : List W32 :=
  let v := num b 0x28 8
  let bytes := if num b 0x19 1 = 0 then m.ldDowelWords (gradTile b) (spDowel v) (spWord v) (ceilDiv (gradBytes b) 32)
    else m.ld (hbmAt s v) (gradBytes b)
  (upto (num b 0x20 4)).map (fun i => if num b 0x1A 1 = 8 then BitVec.ofNat 32 (num bytes (4 * i) 4) else widen (num bytes (2 * i) 2))

/-- staging ← staging + contribution, from byte address `a` (R326). -/
def addStaging (m : Mod) : Nat → List W32 → Mod
  | _, [] => m
  | a, x :: r => addStaging (m.stNat a 4 (add32 (BitVec.ofNat 32 (m.ldNat a 4)) x).toNat) (a + 4) r
/-- The contributions of a GRAD reach the staging at a stack offset, with the merges of the bursts that they cover in part (R318). -/
def stageGrad (m : Mod) (s off : Nat) (l : List W32) : Mod :=
  ((m.addStaging (hbmAt s off) l).healHbm s off (4 * l.length)).addCnt (CNT_RMW s) (partBursts off (4 * l.length))

/-- An entry that a stack's state stops: a scrub refuses it with 0x0909, and without a key it ends with 0x0926, which is raised (R303, R316, R320). -/
def stopPlaneEntry (m : Mod) (s r : Nat) (x : RingEntry) (code : W16) (off : Nat) : Mod :=
  if code = 0x0909 then m.refuseWork r x code else (m.raiseStack s code off).doneEntry r x.index code 0 []

/-- The tile that a GRAD reads is clocked, or it reads its own stack. -/
def gradClocked (m : Mod) (b : List Byte) : Bool := decide (num b 0x19 1 ≠ 0) || m.tileClocked (gradTile b)

/-- A GRAD entry does its work; a line of its source or staging that is marked uncorrectable raises 0x0922 (R338). -/
def gradWork (m : Mod) (r : Nat) : Mod :=
  let s := stackOfRing r
  match m.workOf r 2 1 with
  | none => m
  | some x =>
    let e := num x.image 0x18 1
    if m.gradRefused s e x.image then m.refuseWork r x 0x0903
    else if m.stackCode s ≠ 0 then m.stopPlaneEntry s r x (m.stackCode s) (m.shardStage s e)
    else if !m.gradClocked x.image then m
    else
      let off := m.shardStage s e + 4 * num x.image 0x1C 4
      let m := if num x.image 0x19 1 = 0 then m else m.readBad s (num x.image 0x28 8) (gradBytes x.image)
      let m := (m.readBad s off (4 * num x.image 0x20 4)).stageGrad s off (m.gradElems s x.image)
      let m := m.setF (PSTATE s e) 0 16 (m.shardCount s e + 1)
      let m := (m.setShardState s e 1).addCnt (CNT_GRAD s) 1
      let m := m.settleCount s e
      m.doneEntry r x.index 0 (gradBytes x.image) (bytesOf 4 (m.shardState s e) ++ bytesOf 4 (m.shardCount s e))

/-- What an update pass accumulates: the three FP64 sums, and whether every value was finite (R329, R381). -/
structure PassSums where
  g2 : Nat := 0
  w2 : Nat := 0
  d2 : Nat := 0
  finite : Bool := true
  deriving DecidableEq, Repr

/-- Reads a moment. -/
def ldMoment (m : Mod) (r : Rule) (a i : Nat) : W32 :=
  if r.bf16 then widen (m.ldNat (a + 2 * i) 2) else BitVec.ofNat 32 (m.ldNat (a + 4 * i) 4)
/-- The bits of a moment as they are written. -/
def momentCode (r : Rule) (x : W32) : Nat := if r.bf16 then (val32 x).toIeee Sys2Proof.bf16 else x.toNat

/-- Element `i` of an update pass: reads slot `a`, writes slot `b` (byte addresses), from staging `st`. -/
def passElem (r : Rule) (n st a b : Nat) (x : Mod × PassSums) (i : Nat) : Mod × PassSums :=
  let m := x.1
  let mb := momentBytes r
  let w := BitVec.ofNat 32 (m.ldNat (a + 4 * i) 4)
  let v := if r.kind = 1 then m.ldMoment r (a + 4 * n + mb * n) i else 0
  let y := updateElem r (BitVec.ofNat 32 (m.ldNat (st + 4 * i) 4)) w (m.ldMoment r (a + 4 * n) i) v
  let m := m.stNat (b + 4 * n + mb * i) mb (momentCode r y.mo)
  let m := if r.kind = 1 then m.stNat (b + 4 * n + mb * n + mb * i) mb (momentCode r y.v) else m
  let m := m.stNat (b + 4 * i) 4 y.w.toNat
  let d := add64 (to64 y.w) (to64 (neg32 w))
  (m, { g2 := add64 x.2.g2 (mul64 (to64 y.g) (to64 y.g))
        w2 := add64 x.2.w2 (mul64 (to64 y.w) (to64 y.w))
        d2 := add64 x.2.d2 (mul64 d d)
        finite := x.2.finite && (val32 y.g).isFinite && (val32 y.w).isFinite && (val32 y.mo).isFinite && (val32 y.v).isFinite })

/-- The stack offset of a shard's slot of the norm table (R329). -/
def normAt (m : Mod) (s e : Nat) : Nat := m.fld (PLANE_CTL s) 24 32 * 1024 + 32 * m.shardNorm s e
/-- Adds the sums of a pass to the norm table (R329); a slot beyond the stack is refused with 0x0902 (R314). -/
def addNorms (m : Mod) (s e : Nat) (p : PassSums) : Mod :=
  let o := m.normAt s e
  let sum := fun (i x : Nat) => bytesOf 8 (add64 (m.ldNat (hbmAt s (o + 8 * i)) 8) x)
  if 0xF_8000_0000 < o + 32 then m.setF (PLANE_STATUS s) 48 16 0x0902
  else (m.readBad s o 24).storeStack s o (sum 0 p.g2 ++ sum 1 p.w2 ++ sum 2 p.d2)

/-- The plumb check of a LOCAL shard (R381). -/
def plumbOk (m : Mod) (s e : Nat) (p : PassSums) : Bool :=
  let b := to64 (m.shardBound s e)
  p.finite && !Val.less (val64 (mul64 b b)) (val64 p.g2)

/-- The pass leaves the list of those in progress. -/
def dropUpdate (m : Mod) (s e : Nat) : Mod :=
  m.setStack s { m.stack s with updating := (m.stack s).updating.filter (fun p => decide (p.shard ≠ e)) }

/-- An update pass over shard `e` under the record `c`: the other slot is written, the norms added; then the plumb check, the new record and the zeroing, or WITHHELD (R328, R376). -/
def updatePass (m : Mod) (s e : Nat) (w : PlaneWork) (c : CommitRecord) : Mod :=
  let r := m.ruleOf s (m.shardRule s e)
  let n := m.shardElems s e
  let x := (upto n).foldl (passElem r n (hbmAt s (m.shardStage s e)) (hbmAt s (m.shardSlot s e (decide (c.slot = 1)))) (hbmAt s (m.shardSlot s e (decide (c.slot = 0))))) (m, {})
  let m := ((x.1.healHbm s (m.shardSlot s e (decide (c.slot = 0))) (slotBytes r n)).addNorms s e x.2).dropUpdate s e
  if m.shardLocal s e && !m.plumbOk s e x.2 then
    let m := ((m.setShardState s e 5).addCnt (CNT_PLANE_WITHHELD s) 1).raisePlane s 0x0B25 e
    m.endPlaneEntry s e w.ring 0
  else
    let m := m.putRecord s e { c with slot := 1 - c.slot, step := m.stackStep s, prev := c.step }
    (m.addCnt (CNT_UPDATE s) 1).startZeroing s e w.ring w.again false

/-- The error of a record that no plane can read (R375). -/
def badRecord (m : Mod) (s e : Nat) : Mod := m.raisePlane s 0x0B22 e

/-- What interrupts an update pass, and at which stack offset: a scrub or no key, a staging line or a line of the current slot that is marked uncorrectable, or a burst that the codec could not correct (R316, R320, R338, R379). -/
def passFault (m : Mod) (s e : Nat) (ok : Bool) (c : CommitRecord) : W16 × Nat :=
  let now := m.shardSlot s e (decide (c.slot = 1))
  if m.stackCode s ≠ 0 then (m.stackCode s, m.shardStage s e)
  else if m.hbmBad s (m.shardStage s e) (4 * m.shardElems s e) then (0x0922, m.shardStage s e)
  else if !ok || m.hbmBad s now (slotBytes (m.ruleOf s (m.shardRule s e)) (m.shardElems s e)) then (0x0922, now)
  else (0, 0)

/-- An update pass is interrupted: its shard is READY again.  In UPDATE the error is recorded, and the step block issues one REDO; a second error, or one that made the staging unreadable, is 0x0B26 (R379).  Outside UPDATE the error is raised like any other. -/
def interrupt (m : Mod) (s e : Nat) (w : PlaneWork) (x : W16 × Nat) : Mod :=
  let m := if x.1 = 0x0922 then m.addCnt (CNT_HBM_UNCORR s) 1 else m
  let m := (m.dropUpdate s e).setShardState s e 2
  match m.slotOfStack s with
  | none => m.endPlaneEntry s e w.ring x.1
  | some p =>
    if x.1 = 0x0909 then m.endPlaneEntry s e w.ring x.1
    else if m.stepPhase p ≠ 3 then (m.endPlaneEntry s e w.ring x.1).raiseStack s x.1 x.2
    else
      let m := (m.setF (HBM_STATUS s) 48 16 x.1.toNat).recordError (m.stackErr s x.1 (m.hbmSpot s x.2))
      if w.again || decide (x.2 = m.shardStage s e) then (m.endPlaneEntry s e w.ring 0x0B26).raiseStepBlock p 0x0B26
      else (m.addCnt (CNT_REDO p) 1).startUpdate s e w.ring true

/-- An update pass reaches its end; `ok` is false when a burst that it read was uncorrectable (R376, R379). -/
def endUpdate (m : Mod) (s e : Nat) (ok : Bool) : Mod :=
  match (m.stack s).updating.find? (fun p => decide (p.shard = e)) with
  | none => m
  | some w => match m.shardRecord s e with
    | none => (((m.dropUpdate s e).setShardState s e 2).endPlaneEntry s e w.ring 0x0B22).badRecord s e
    | some c => let x := m.passFault s e ok c
                if x.1 = 0 then m.updatePass s e w c else m.interrupt s e w x

/-- REDO: a record of the current step needs the zeroing alone; otherwise the update runs again (R377). -/
def redoShard (m : Mod) (s e : Nat) (ring : Option (Nat × W32)) (again : Bool) : Mod :=
  match m.shardRecord s e with
  | none => (m.endPlaneEntry s e ring 0x0B22).badRecord s e
  | some c => if c.step = m.stackStep s then m.startZeroing s e ring again false else m.startUpdate s e ring again

/-- The end of a zeroing pass: the staging is zero; DONE, or IDLE with COUNT 0 for a DISCARD (R328, R330).  Without the stack's key it raises 0x0926 and goes on (R316). -/
def endZeroing (m : Mod) (s e : Nat) : Mod :=
  match (m.stack s).zeroing.find? (fun p => decide (p.shard = e)) with
  | none => m
  | some w =>
    if m.stackCode s ≠ 0 then m.stackFault s (m.stackCode s) (m.shardStage s e)
    else
    let st := hbmAt s (m.shardStage s e)
    let m := (m.clearMem st (st + 4 * m.shardElems s e)).healHbm s (m.shardStage s e) (4 * m.shardElems s e)
    let m := m.setStack s { m.stack s with zeroing := (m.stack s).zeroing.filter (fun p => decide (p.shard ≠ e)) }
    let m := if w.toIdle then m.wr (PSTATE s e) 0 else m.setShardState s e 4
    let m := if w.again then (match m.slotOfStack s with
      | some p => m.raise { code := 0x0B23, slot := some p, kind := 2, unit := s, loc := e }
      | none => m) else m
    m.endPlaneEntry s e w.ring 0

/-- The work of DISCARD, REDO, SET_RULE and SET_SHARD. -/
def planeWork (m : Mod) (r op : Nat) (f : Mod → Nat → Nat → RingEntry → Mod) : Mod :=
  match m.workOf r 2 op with
  | none => m
  | some x =>
    let s := stackOfRing r
    let c := m.planeCode s x.image
    let busy := (m.stack s).updating ++ (m.stack s).zeroing
    if busy.any (fun p => decide (p.ring = some (r, x.index))) then m
    else if c ≠ 0 then m.refuseWork r x c else f m s (num x.image 0x18 1) x

/-- Stages the words of a 64-byte block at eight register words. -/
def stageBlock (m : Mod) (addr : Nat → Nat) (b : List Byte) : Mod :=
  forEach m (upto 8) (fun m w => m.stage (addr w) (BitVec.ofNat 64 (num b (8 * w) 8)))

/-! ## Gates (R284, R327) -/

/-- The READY gated shards of a plane that wait for a buoy. -/
def gatedShards (m : Mod) (s b : Nat) : List Nat :=
  (upto 256).filter (fun e => m.shardValid s e && decide (m.shardState s e = 2) && m.shardGated s e && decide (m.shardGate s e = b))

/-- The gate message reaches the plane (R327). -/
def gateArrives (m : Mod) (s b : Nat) (status : Byte) (value : W32) : Mod :=
  let l := m.gatedShards s b
  if l.isEmpty then m
  else if status = 0 ∧ value = 1 then forEach m l (fun m e => m.startUpdate s e none false)
  else if status = 0 ∧ value = 2 then forEach m l (fun m e => m.setShardState s e 6)
  else m.raisePlane s 0x0924 (l.headD 0)

/-! ## The step boundary (R321, R322, R330, R387) -/

/-- The checks of a shard entry that becomes VALID. -/
def shardEntryOk (m : Mod) (s : Nat) (b : List Byte) : Bool :=
  let n := num b 0 4
  let r := m.ruleOf s (num b 6 1)
  let inStack := fun (o len al : Nat) => decide (o % al = 0) && decide (o + len ≤ 0xF_8000_0000)
  decide (n % 256 = 0) && decide (256 ≤ n) && decide (n ≤ 2 ^ 31) && decide (num b 4 2 < 1024) && decide (num b 6 1 < 8) &&
  decide (num b 7 1 % 32 = 0) && decide (1 ≤ num b 8 2) && decide (num b 0xA 2 < 8192) && zeros b 0x30 16 &&
  inStack (num b 0x10 8) (4 * n) 1024 && inStack (num b 0x18 8) (slotBytes r n) 1024 && inStack (num b 0x20 8) (slotBytes r n) 1024 &&
  inStack (num b 0x28 8) 64 64 && ruleOk (m.ruleBytes s (num b 6 1)) && decide (m.slotOfBuoy (num b 0xA 2) = m.slotOfStack s)

def stagedShard (m : Mod) (s e : Nat) : List Byte := (upto 8).flatMap (fun w => bytesOf 8 (m.stagedWord (SHARD s e w)).toNat)
/-- Anything is staged for shard entry `e`. -/
def shardStaged (m : Mod) (s e : Nat) : Bool := (upto 8).any (fun w => m.isStaged (SHARD s e w))

/-- A staged shard entry at the mark (R321, R322): held while its shard is not IDLE; dropped with 0x0904 when a new VALID entry fails a check. -/
def markShard (m : Mod) (s e : Nat) : Mod :=
  if !m.shardStaged s e then m
  else if m.shardState s e ≠ 0 then m.addCnt (CNT_SHARD_DEFER s) 1
  else
    let b := m.stagedShard s e
    let m := forEach m (upto 8) (fun m w => m.unstage (SHARD s e w))
    if 128 ≤ num b 7 1 ∧ m.shardEntryOk s b = false then m.setF (PLANE_STATUS s) 48 16 0x0904
    else forEach m (upto 8) (fun m w => m.wr (SHARD s e w) (BitVec.ofNat 64 (num b (8 * w) 8)))

/-- The staged rule blocks of a plane take effect. -/
def markRules (m : Mod) (s : Nat) : Mod :=
  forEach m (upto 64) (fun m k =>
    let a := RULE s (k / 8) (k % 8)
    if m.isStaged a then (m.wr a (m.stagedWord a)).unstage a else m)

/-- DONE and SKIPPED shards return to IDLE with COUNT 0 (R330). -/
def markStates (m : Mod) (s : Nat) : Mod :=
  forEach m (upto 256) (fun m e => if m.shardState s e = 4 ∨ m.shardState s e = 6 then m.wr (PSTATE s e) 0 else m)

/-- The plane's part of a rollback for one shard: a record of the step reverts; what is not done is discarded (R387). -/
def rollShard (m : Mod) (s e : Nat) : Mod :=
  if !m.shardValid s e then m
  else match m.shardState s e with
    | 4 => match m.shardRecord s e with
      | some c => if c.step = m.stackStep s then m.putRecord s e { c with slot := 1 - c.slot, step := c.prev } else m
      | none => m.badRecord s e
    | 1 => m.startZeroing s e none false true
    | 2 => m.startZeroing s e none false true
    | 5 => m.startZeroing s e none false true
    | 6 => m.startZeroing s e none false true
    | _ => m

end Mod

/-! ## Meanings -/

/-- GRAD (R325, R326). -/
def execGrad (r : Nat) (s : State) : Host.Outcome State Fault Refusal := onRing s r (fun m => m.gradWork r)
/-- DISCARD: the staging is zeroed and the shard returns to IDLE (R325, R328). -/
def execDiscard (r : Nat) (s : State) : Host.Outcome State Fault Refusal :=
  onRing s r (fun m => m.planeWork r 2 (fun m k e x => m.startZeroing k e (some (r, x.index)) false true))
/-- REDO (R377). -/
def execRedo (r : Nat) (s : State) : Host.Outcome State Fault Refusal :=
  onRing s r (fun m => m.planeWork r 3 (fun m k e x => m.redoShard k e (some (r, x.index)) false))
/-- SET_RULE: bytes 0x00 to 0x23 of a rule block, staged; the rest is zero (R323, R325). -/
def execSetRule (r : Nat) (s : State) : Host.Outcome State Fault Refusal :=
  onRing s r (fun m => m.planeWork r 4 (fun m k e x =>
    ((m.stageBlock (RULE k e) ((x.image.drop 0x1C).take 0x24 ++ List.replicate 28 0)).endPlaneEntry k e (some (r, x.index)) 0)))
/-- SET_SHARD: a shard entry from a 64-byte image in the stack, staged (R325). -/
def execSetShard (r : Nat) (s : State) : Host.Outcome State Fault Refusal :=
  onRing s r (fun m => m.planeWork r 5 (fun m k e x =>
    let off := num x.image 0x20 8
    if m.stackCode k ≠ 0 then m.stopPlaneEntry k r x (m.stackCode k) off
    else ((m.readBad k off 64).stageBlock (SHARD k e) (m.ld (hbmAt k off) 64)).endPlaneEntry k e (some (r, x.index)) 0))
/-- GATE_SUBSCRIBE: a plane with a READY gated shard subscribes, unless it already does (R284, R327). -/
def execGateSubscribe (k b : Nat) (s : State) : Host.Outcome State Fault Refusal :=
  onStack s k (fun m => if (m.gatedShards k b).isEmpty || bit (m.buoy b).subs k then m else m.subscribe k b)
/-- GATE_MESSAGE (R327). -/
def execGateMessage (k b : Nat) (status : Byte) (value : W32) (s : State) : Host.Outcome State Fault Refusal :=
  onStack s k (fun m => m.gateArrives k b status value)
/-- PLANE_UPDATE_PASS_END; `ok` is false when a burst that the pass read was uncorrectable (R328, R379). -/
def execPlaneUpdatePassEnd (k e : Nat) (ok : Bool) (s : State) : Host.Outcome State Fault Refusal := onStack s k (fun m => m.endUpdate k e ok)
/-- PLANE_ZEROING_DONE (R328). -/
def execPlaneZeroingDone (k e : Nat) (s : State) : Host.Outcome State Fault Refusal := onStack s k (fun m => m.endZeroing k e)

end Sys2Proof.Machine
end

