-- ==== Sys2Proof/Machine/HostBase.lean ====
section
/-! DEFINITION. How Gallery takes and completes command packets (R497 to R503): the module command channel, host command rings, the checks common to every opcode, completion records. -/

namespace Sys2Proof.Machine

/-- What performing a command gives: it completes with a code, the bytes moved and its DETAIL, or it stays in progress. -/
inductive CmdResult where
  | done (code : W16) (bytes : Nat) (detail : List Byte) (m : Mod)
  | wait (m : Mod)

/-- A refusal: the code, nothing else. -/
def CmdResult.refuse (m : Mod) (code : W16) : CmdResult := .done code 0 [] m
/-- A completion without a reply. -/
def CmdResult.ok (m : Mod) : CmdResult := .done 0 0 [] m

namespace Mod

/-- Gallery serves the channel and the rings: HI_STATUS.STATE (R522). -/
def hostServed (m : Mod) : Bool := decide (m.fld HI_STATUS 0 4 = 1)
/-- HI_MCMD_STATUS: 0 IDLE, 1 BUSY, 2 DONE. -/
def mcmdState (m : Mod) : Nat := m.fld HI_MCMD_STATUS 0 2

/-- Bytes of `n` register words from an address on. -/
def regBytes (m : Mod) (a : Nat → Nat) (n : Nat) : List Byte := (upto n).flatMap (fun w => bytesOf 8 (m.rd (a w)).toNat)
/-- Writes bytes into register words. -/
def putRegs (m : Mod) (a : Nat → Nat) (n : Nat) (b : List Byte) : Mod :=
  forEach m (upto n) (fun m w => m.wr (a w) (BitVec.ofNat 64 (num b (8 * w) 8)))

/-! ## Taking a packet -/

/-- The packet at the head of a HOST_CMD ring that has not started and that no FENCE holds (rings hold while the PCIe link is down, R527). -/
def hostHead (m : Mod) (r : Nat) : Option (List Byte) :=
  let st := m.ringState r
  if m.linkUp = true ∧ r < 4096 ∧ m.ringEnabled r = true ∧ (st = 1 ∨ st = 2) ∧ (m.ringOf r).prog.length < m.ringFill r then
    (let b := m.ringEntryBytes r (m.nextIndex r)
     if wantsFence 0 b ∧ (m.ringOf r).prog ≠ [] then none else some b)
  else none

/-- Commands that run alongside others of their slot (R501). -/
def alongside (op : Nat) : Bool := [0x01, 0x02, 0x50, 0x52, 0x42, 0x43].contains op

/-- A command for the packet's slot is in progress that this one must wait for; a JOB_STOP may come while the JOB_START that it stops is in progress (R501, R512). -/
def slotBusy (m : Mod) (b : List Byte) : Bool :=
  !alongside (pkOp b) && decide (pkSlot b < 8) &&
  m.cmds.any (fun c => !alongside (pkOp c.packet) && decide (pkSlot c.packet = pkSlot b) &&
    !(decide (pkOp b = 0x24) && decide (pkOp c.packet = 0x23)))

/-- The head of a HOST_CMD ring can start: a well-formed packet that no command of its slot holds (R501). -/
def hostReady (m : Mod) (r : Nat) : Bool := match m.hostHead r with
  | some b => packetOk b && !m.slotBusy b
  | none => false
/-- The ring whose head Gallery starts next: of the rings whose heads can start, the first after the one it served last, by ring number (R500; log entry 97). -/
def hostTurn (m : Mod) : Option Nat :=
  let l := m.ringKeys.filter (fun r => m.hostReady r)
  match l.find? (fun r => decide (m.hostLast < r)) with
  | some r => some r
  | none => l.head?
/-- The packet that a channel offers next: the module channel's while BUSY and not yet taken, or the head of the HOST_CMD ring whose turn it is (R499, R500). -/
def offered (m : Mod) (ch : Channel) : Option (List Byte) :=
  match ch with
  | .mcmd => if m.mcmdState = 1 ∧ (m.cmds.any (fun c => decide (c.ch = .mcmd))) = false then some (m.regBytes HI_MCMD_REQ 8) else none
  | .ring r => if m.hostTurn = some r then m.hostHead r else none

/-- The bytes that an opcode's BUF must hold at least; 0 for one that needs no BUF (R504). -/
def bufNeed (b : List Byte) : Nat :=
  match pkOp b with
  | 0x20 => 64
  | 0x25 => 64
  | 0x21 => 128
  | 0x50 => if 4 < pkPar b 8 4 then 8 * pkPar b 8 4 else 0
  | 0x51 => if 3 < pkPar b 8 4 then 8 * pkPar b 8 4 else 0
  | 0x52 => 24 * pkPar b 0 4
  | _ => 0

/-- A parameter lies outside its range (R504). -/
def parRange (b : List Byte) : Bool :=
  match pkOp b with
  | 0x21 => decide (1 ≤ pkPar b 2 2) && decide (pkPar b 2 2 ≤ 1280)
  | 0x50 => decide (pkPar b 0 8 % 8 = 0) && decide (1 ≤ pkPar b 8 4) && decide (pkPar b 8 4 ≤ 4096)
  | 0x51 => decide (pkPar b 0 8 % 8 = 0) && decide (1 ≤ pkPar b 8 4) && decide (pkPar b 8 4 ≤ 4096)
  | 0x52 => decide (1 ≤ pkPar b 0 4) && decide (pkPar b 0 4 ≤ 1024)
  | _ => true

/-- The module's state permits the opcode (R503). -/
def stateAllows (m : Mod) (op : Nat) : Bool :=
  match m.modState with
  | 5 => decide (op = 0x02)
  | 1 => [0x01, 0x02, 0x06, 0x50, 0x51, 0x52].contains op
  | 4 => !([0x23, 0x25, 0x60].contains op)
  | _ => true

/-- The checks common to every opcode, in this order (log entry 28): channel, module state, slot, ranges, BUF. -/
def commonCode (m : Mod) (ch : Channel) (b : List Byte) : W16 :=
  let op := pkOp b
  let slot := pkSlot b
  let onM := decide (ch = .mcmd)
  let allowed := match ch, opInfo op with
    | .mcmd, some x => x.mcmd
    | .ring r, some x => x.ring && decide (m.slotOfRing r = some slot)
    | _, none => false
  let needSlot := decide (0x11 ≤ op) && decide (op ≤ 0x52)
  let free := [0x50, 0x51, 0x52].contains op && onM && decide (slot = 0xFF)
  if !allowed then 0x0E02
  else if !m.stateAllows op then 0x0106
  else if needSlot && !free && !m.hasPart slot then 0x0104
  else if !parRange b then 0x0E01
  else if 0 < bufNeed b ∧ (pkBuf b = 0 ∨ pkBuf b % 64 ≠ 0 ∨ pkLen b < bufNeed b) then 0x0E03
  else 0

/-! ## Completion (R498, R499) -/

/-- Ends the done entries at the head of a HOST_CMD ring, oldest first. -/
def drainHost (m : Mod) (r : Nat) : Nat → Mod
  | 0 => m
  | n + 1 => match (m.ringOf r).prog with
    | [] => m
    | e :: _ => if e.done = true ∧ m.ringState r ≠ 4 then drainHost (m.finishEntry r e true) r n else m

/-- The last code of a command on a slot, and the host interface's. -/
def noteCmd (m : Mod) (slot : Nat) (code : W16) : Mod :=
  let m := m.addCnt (if code = 0 then CNT_CMD_DONE else CNT_CMD_REFUSED) 1
  if code = 0 then m
  else
    let m := m.noteRange code (if slot < 8 then some slot else none)
    if slot < 8 then m.setF (PART_STATUS slot) 48 16 code.toNat else m

/-- A command completes: its record goes to HI_MCMD_RSP and the channel is DONE, or its ring entry is done. -/
def completeCmd (m : Mod) (c : HostCmd) (code : W16) (bytes : Nat) (detail : List Byte) : Mod :=
  let m := { m with cmds := m.cmds.erase c }
  let m := m.noteCmd (pkSlot c.packet) code
  match c.ch with
  | .mcmd =>
    let m := m.putRegs HI_MCMD_RSP 8 (completionRecord 0xFFFF code 0 (pkTag c.packet) m.count bytes detail)
    let m := m.wr HI_MCMD_STATUS 2
    if m.flag HI_MCMD_CTL 16 then m.sendOut (.msix (m.fld HI_MCMD_CTL 0 11)) else m
  | .ring r => (m.doneEntry r c.index code bytes detail).drainHost r (m.ringOf r).prog.length

/-- The result of a command that has been taken. -/
def endCmd (c : HostCmd) (x : CmdResult) : Mod :=
  match x with
  | .done code bytes detail m => m.completeCmd c code bytes detail
  | .wait m => m

/-- Gallery takes the packet that a channel offers, when its opcode is `op`, and performs it. -/
def serve (m : Mod) (ch : Channel) (op : Nat) (f : Mod → HostCmd → CmdResult) : Mod :=
  match m.offered ch with
  | none => m
  | some b =>
    if m.hostServed = false ∨ packetOk b = false ∨ pkOp b ≠ op ∨ m.slotBusy b = true then m
    else
      let c : HostCmd := { ch := ch, packet := b, index := match ch with | .ring r => BitVec.ofNat 32 (m.nextIndex r) | .mcmd => 0 }
      let m := match ch with
        | .ring r => { m.addEntry r { index := c.index, image := b, begun := true } with hostLast := r }
        | .mcmd => m
      let m := { m with cmds := m.cmds ++ [c] }
      let code := m.commonCode ch b
      endCmd c (if code = 0 then f m c else .refuse m code)

/-- The command in progress of an opcode on a slot. -/
def cmdOf (m : Mod) (slot op : Nat) : Option HostCmd := m.cmds.find? (fun c => decide (pkSlot c.packet = slot) && decide (pkOp c.packet = op))
/-- Completes the command in progress of an opcode on a slot, if there is one. -/
def finishCmd (m : Mod) (slot op : Nat) (code : W16) (bytes : Nat) (detail : List Byte) : Mod :=
  match m.cmdOf slot op with
  | some c => m.completeCmd c code bytes detail
  | none => m

/-! ## The module command channel (R499) -/

/-- HI_MCMD_DB: GO, then ACK.  GO with an ill-formed packet completes at once with 0x0803 (R498). -/
def writeMcmdDb (m : Mod) (go ack : Bool) : W16 × Mod :=
  if (go && decide (m.mcmdState ≠ 0)) || (ack && !go && decide (m.mcmdState ≠ 2)) then (0x0E04, m)
  else if go then
    let m := m.wr HI_MCMD_STATUS 1
    let b := m.regBytes HI_MCMD_REQ 8
    (0, if m.hostServed && !packetOk b then m.completeCmd { ch := .mcmd, packet := b } 0x0803 0 [] else m)
  else (0, if ack then m.wr HI_MCMD_STATUS 0 else m)

/-- A write of a word of HI_MCMD_REQ: only while the channel is IDLE. -/
def writeMcmdReq (m : Mod) (a : Nat) (new : W64) : W16 × Mod := if m.mcmdState = 0 then (0, m.wr a new) else (0x0E04, m)

end Mod

/-- HI_MCMD_GO: a write of GO to HI_MCMD_DB (R499). -/
def execHiMcmdGo (who : Requester) (s : State) : Host.Outcome State Fault Refusal :=
  onWhen s (decide (s.m.modState ≠ 0)) (fun m => m.commit who (hostReg 0x10) (m.writeMcmdDb true false))
/-- HI_MCMD_ACK: a write of ACK to HI_MCMD_DB (R499). -/
def execHiMcmdAck (who : Requester) (s : State) : Host.Outcome State Fault Refusal :=
  onWhen s (decide (s.m.modState ≠ 0)) (fun m => m.commit who (hostReg 0x10) (m.writeMcmdDb false true))

end Sys2Proof.Machine
end

