-- ==== Sys2Proof/Machine/Flags.lean ====
section
/-! DEFINITION. Conditions and arithmetic results of the scalar instructions (R116).  The sequencer has no flag register: a comparison is made by the branch or the instruction that uses it. -/

namespace Sys2Proof.Machine

/-- COND of BR: 0 always, 1 equal, 2 not equal, 3 less and 4 greater or equal (signed), 5 less and 6 greater or equal (unsigned). -/
def branchTaken (cond : Nat) (a b : W32) : Bool :=
  match cond with
  | 0 => true
  | 1 => decide (a = b)
  | 2 => decide (a ≠ b)
  | 3 => a.slt b
  | 4 => !a.slt b
  | 5 => a.ult b
  | 6 => !a.ult b
  | _ => false

/-- MULHS: the signed high 32 bits of the product. -/
def mulHighS (a b : W32) : W32 := BitVec.ofInt 32 (a.toInt * b.toInt / 2 ^ 32)
/-- MULHU: the unsigned high 32 bits of the product. -/
def mulHighU (a b : W32) : W32 := BitVec.ofNat 32 (a.toNat * b.toNat / 2 ^ 32)
/-- A shift takes operand 2 [4:0]. -/
def shiftBy (b : W32) : Nat := bf b 0 5
def shl32 (a b : W32) : W32 := a <<< shiftBy b
def shr32 (a b : W32) : W32 := a >>> shiftBy b
def sra32 (a b : W32) : W32 := a.sshiftRight (shiftBy b)
/-- MIN and MAX compare as signed integers. -/
def min32 (a b : W32) : W32 := if b.slt a then b else a
def max32 (a b : W32) : W32 := if a.slt b then b else a
def bool32 (x : Bool) : W32 := if x then 1 else 0

end Sys2Proof.Machine
end

