-- ==== Sys2Proof/Machine/Seq.lean ====
section
/-! DEFINITION. The sequencer (R95 to R126): issue, traps, waiting and waking, the loop return, and the meanings of the control, scalar, register-access and jig setup instructions.  The word of an instruction is an operand of its command (log entry 22). -/

namespace Sys2Proof.Machine

/-- What an issued instruction does to its thread: it completes in sequential flow, with its result at the next issue (`go`) or later (`late`, R101); it jumps; it waits and is issued again when released (QUEUE, RING); it waits and completes when released; it traps with a code and a REASON; or it has left the thread in a state of its own. -/
inductive Eff where
  | go (m : Mod)
  | late (m : Mod)
  | jump (m : Mod) (pc : W20)
  | hold (m : Mod) (w : WaitRec)
  | wait (m : Mod) (w : WaitRec)
  | trap (m : Mod) (code reason : W16)
  | stop (m : Mod)

namespace Mod

/-! ## Traps (R125) -/

/-- SEQ_TRAP (R132); the trap of a failed lamp routine, handled as 0x1025 (R548), shows the code of its TRAP instruction. -/
def trapWord (code reason : W16) (th : Nat) (pc : W20) : W64 :=
  BitVec.ofNat 64 ((if code = 0x1025 then 0x032A else code.toNat) * 2 ^ 48 + reason.toNat * 2 ^ 32 + th % 4 * 2 ^ 30 + 2 ^ 29 + pc.toNat)

/-- A thread traps at `pc`: TRAPPED, the other READY and WAIT threads STOPPED with their waits withdrawn, SEQ_TRAP, and the error. -/
def trapThread (m : Mod) (t th : Nat) (pc : W20) (code reason : W16) : Mod :=
  let m := (m.settleThread t th .trapped).modThread t th (fun x => { x with pc := pc })
  let m := m.stopThreads t
  let w := trapWord code reason th pc
  (m.wr (SEQ_TRAP t) w).raiseTile t code th (some (BitVec.ofNat 128 w.toNat))

/-- Instructions that trap in one cycle (R125): their threads are TRAPPED, the others STOPPED, the trap of the lowest thread is recorded, and the errors are raised by code (R540). -/
def trapAll (m : Mod) (t : Nat) (l : List (Nat × W20 × W16)) : Mod :=
  let low := l.foldl (fun (b : Option (Nat × W20 × W16)) x => match b with
    | some y => if x.1 < y.1 then some x else b
    | none => some x) none
  match low with
  | none => m
  | some (th, pc, code) =>
    let m := l.foldl (fun m (x : Nat × W20 × W16) => (m.settleThread t x.1 .trapped).modThread t x.1 (fun y => { y with pc := x.2.1 })) m
    let w := trapWord code 0 th pc
    let m := (m.stopThreads t).wr (SEQ_TRAP t) w
    m.raiseTileAll t (l.map (fun (x : Nat × W20 × W16) => m.tileErr t x.2.2 x.1 (some (BitVec.ofNat 128 (trapWord x.2.2 0 x.1 x.2.1).toNat))))

/-- A thread traps for a BSIG that a home refused: it stays at the instruction that it holds, and SEQ_TRAP.PC is that of the BSIG (R278). -/
def trapForSignal (m : Mod) (t th : Nat) (pc : W20) : Mod :=
  let here := (m.thread t th).pc
  (m.trapThread t th pc 0x0823 0).modThread t th (fun x => { x with pc := here })

/-! ## Sequential flow and loops (R111) -/

/-- The active counter whose body ends at `pc`. -/
def loopAt (x : Thread) (pc : W20) : Option Nat := (upto 4).find? (fun n => (x.loop n).active && decide ((x.loop n).last = pc))

/-- The thread after it completes the instruction at its PC in sequential flow. -/
def retire (x : Thread) : Thread :=
  match loopAt x x.pc with
  | none => { x with pc := x.pc + 1 }
  | some n =>
    let l := x.loop n
    if 1 < l.count.toNat then { x.setLoop n { l with count := l.count - 1 } with pc := l.first }
    else { x.setLoop n { l with count := 0, active := false } with pc := x.pc + 1 }

/-- A thread enters WAIT. -/
def enterWait (m : Mod) (t th : Nat) (w : WaitRec) : Mod :=
  m.modThread t th (fun x => { x with st := .wait, waitOn := w, release := .none })

/-! ## Instruction cache (R105): 64 lines, 16 sets of 4, most recently used first -/

def icLine (pc : W20) : Nat := pc.toNat / 128
def icHas (m : Mod) (t : Nat) (l : Nat) : Bool := (m.tile t).icache.contains l
/-- A use of a line. -/
def icTouch (m : Mod) (t l : Nat) : Mod := m.modTile t (fun x => { x with icache := l :: x.icache.erase l })
/-- A line arrives: the least recently used of a full set leaves. -/
def icInstall (m : Mod) (t l : Nat) : Mod :=
  m.modTile t (fun x =>
    let c := x.icache.erase l
    let same := c.filter (fun k => decide (k % 16 = l % 16))
    let c := if 4 ≤ same.length then c.erase (same.getD 3 0) else c
    { x with icache := l :: c })

/-! ## Issue (R101) -/

/-- A tile runs: enabled, its clock not gated (R38, R264), not held for a save (R514). -/
def tileRuns (m : Mod) (t : Nat) : Bool :=
  m.mainUp && decide (t < numTiles) && m.tileEnabled t && !(m.tile t).heldSave && m.tileClocked t

/-- The registers that results of the thread's unit instructions are still bound for (R101). -/
def boundRegs (m : Mod) (t th : Nat) : List Nat :=
  ((upto 5).flatMap (fun u => m.queue t u)).flatMap (fun e =>
    if e.th ≠ th then []
    else if e.op = 0x51 then (if vredRf e.f = 0 then [fD e.f] else [fD e.f, fD e.f + 1])
    else if e.op = 0x63 then [fD e.f] else [])

/-- A READY thread that the round robin may pass over: its next instruction may still wait for a result, a target or its release, in cycles that the model does not count (R101, R109; log entry 97). -/
def mayPass (m : Mod) (t th : Nat) : Bool := (m.thread t th).late || !(m.boundRegs t th).isEmpty
/-- The round robin has come to thread `th`: every READY thread between the one that issued last and it may be passed over (R101). -/
def hasTurn (m : Mod) (t th : Nat) : Bool :=
  (upto ((th + 7 - (m.tile t).lastIssue) % 4)).all (fun k =>
    let n := ((m.tile t).lastIssue + 1 + k) % 4
    decide ((m.thread t n).st ≠ .ready) || m.mayPass t n)

/-- A thread may issue an instruction that names the registers `regs`. -/
def canIssue (m : Mod) (t th : Nat) (regs : List Nat) : Bool :=
  m.tileRuns t && decide (th < 4) && decide ((m.thread t th).st = .ready) && m.hasTurn t th &&
  !regs.any (fun r => (m.boundRegs t th).contains r)

/-- Thread `th` has issued: CNT_ISSUE, and the round robin goes on from it (R101, R132). -/
def issued (m : Mod) (t th : Nat) (late : Bool) : Mod :=
  ((m.addCnt (CNT_ISSUE t) 1).modTile t (fun x => { x with lastIssue := th })).modThread t th (fun x => { x with late := late })

/-- What the effect of an instruction leaves: the sequential flow, the jump, the wait or the trap of thread `th` at `pc`. -/
def finish (t th : Nat) (pc : W20) : Eff → Mod
  | .go m => (m.issued t th false).modThread t th retire
  | .late m => (m.issued t th true).modThread t th retire
  | .jump m pc => (m.issued t th true).modThread t th (fun x => { x with pc := pc })
  | .hold m w => m.enterWait t th w
  | .wait m w => (m.issued t th false).enterWait t th w
  | .trap m code reason => m.trapThread t th pc code reason
  | .stop m => m.issued t th false

/-- Issues an instruction: the fetch (R105, R106), the checks of R114, the effect, the sequential flow; CNT_ISSUE counts what issues. -/
def issue (m : Mod) (t th : Nat) (legal : Bool) (body : Thread → Mod → Eff) : Mod :=
  let x := m.thread t th
  let pc := x.pc
  if m.textLen t ≤ pc.toNat then m.trapThread t th pc 0x0322 0
  else if !m.icHas t (icLine pc) then (m.addCnt (CNT_IC_MISS t) 1).enterWait t th .fetch
  else
    let m := m.icTouch t (icLine pc)
    if !legal then m.trapThread t th pc 0x0321 0
    else finish t th pc (body x m)

/-! ## What a waiting thread waits for (R107) -/

/-- A ring of the tile's DMA engine or its mitre copy is at work (FENCE bit 5). -/
def dmaBusy (m : Mod) (t : Nat) : Bool :=
  !(m.tile t).mitre.isEmpty || (upto 32).any (fun k => !(m.ringOf (4096 + 32 * t + k)).prog.isEmpty)

/-- The unit of bit `b` of a FENCE mask is idle; a unit stays busy until its table updates are written (R189). -/
def fenceIdle (m : Mod) (t b : Nat) : Bool :=
  let upd := fun u => (m.tile t).tableQ.any (fun x => decide (x.unit = u))
  match b with
  | 0 => (m.queue t 0).isEmpty
  | 1 => (m.queue t 1).isEmpty && !upd 1
  | 2 => (m.queue t 2).isEmpty
  | 3 => (m.queue t 3).isEmpty && !upd 3
  | 4 => (m.queue t 4).isEmpty && !(m.queue t 2).any (fun e => decide (e.op = 0x63))
  | 5 => !m.dmaBusy t
  | 6 => (m.tile t).prefetch.isEmpty
  | _ => true

def fenceDone (m : Mod) (t : Nat) (mask : Byte) : Bool := (upto 8).all (fun b => !bit mask b || m.fenceIdle t b)
def jigsDone (m : Mod) (t : Nat) (l : List Nat) : Bool := l.all (fun j => decide (m.jigState t j ≠ 1))
/-- The first mark at or after a count has come. -/
def markPassed (m : Mod) (c : W64) : Bool := m.running && decide (c.toNat ≤ m.count.toNat / m.markPeriod * m.markPeriod)
/-- A ring that RPUSH names has room, or takes no push any more. -/
def ringRoom (m : Mod) (r : Nat) : Bool := decide (m.ringFill r ≠ m.ringCap r) || decide (m.ringState r = 0) || decide (m.ringState r = 6)

/-- The waiting thread completes its instruction and becomes READY. -/
def wakeDone (m : Mod) (t th : Nat) (f : Thread → Thread) : Mod :=
  (m.modThread t th (fun x => { retire (f x) with st := .ready, waitOn := .none, release := .none, late := true })).ungate t
/-- The waiting thread becomes READY and issues its instruction again. -/
def wakeAgain (m : Mod) (t th : Nat) : Mod :=
  (m.modThread t th (fun x => { x with st := .ready, waitOn := .none, release := .none, late := true })).ungate t

/-- THREAD_WAKE: a thread whose condition has come is released (R107, R109, R121, R278); that of a scalar access is its performance. -/
def wake (m : Mod) (t th : Nat) : Mod :=
  let x := m.thread t th
  match x.waitOn with
  | .none => m
  | .buoy .. => match x.release with
    | .met => m.wakeDone t th id
    | .broken => m.trapThread t th x.pc 0x0328 0
    | .refused => m.trapThread t th x.pc 0x0823 0
    | _ => m
  | .mark c => if m.markPassed c then m.wakeDone t th id else m
  | .ring r => if m.ringRoom r then m.wakeAgain t th else m
  | .fence k => if m.fenceDone t k then m.wakeDone t th id else m
  | .jig k => if m.jigsDone t ((upto 6).filter (fun j => bit k j)) then m.wakeDone t th id else m
  | .exchange e => if (m.tile t).xDone.contains e then m.wakeDone t th id else m
  | .queue u => if (m.queue t (unitNo u)).length < 4 then m.wakeAgain t th else m
  | .memory a d v => match d with
    | some d => m.wakeDone t th (fun x => x.setG d (BitVec.ofNat 32 (m.ldNat (scratchAt t a) 4)))
    | none => (m.stNat (scratchAt t a) 4 v.toNat).wakeDone t th id
  | .fetch => m
  | .remote _ d _ => match x.release with
    | .reply v => m.wakeDone t th (fun x => x.setG d v)
    | .refused => m.trapThread t th x.pc 0x0823 0
    | _ => m

/-! ## Loops (R111) -/

/-- LOOP and LOOPI: starts counter `lc` with a count over a body that ends at PC + OFF. -/
def startLoop (t th lc : Nat) (count : W32) (off : Int) (x : Thread) (m : Mod) : Eff :=
  let last : W20 := x.pc + BitVec.ofInt 20 off
  if (x.loop lc).active ∨ off < 1 ∨ (upto 4).any (fun n => decide (n ≠ lc) && (x.loop n).active && decide ((x.loop n).last = last)) = true then
    .trap m 0x0324 0
  else if count = 0 then .jump m (last + 1)
  else .go (m.modThread t th (fun x => x.setLoop lc { count := count, first := x.pc + 1, last := last, active := true }))

/-! ## Scalar memory (R118) -/

/-- The byte of the scratchpad at which a scalar access lands, if the dowel has one of the modes and holds it. -/
def scalarAt (m : Mod) (t d : Nat) (a : Int) (modes : List Nat) : Option Nat :=
  if a % 4 ≠ 0 ∨ a < 0 ∨ (32 * m.dowelWords t d : Nat) < a + 4 ∨ ¬ m.dowelValid t d ∨ ¬ modes.contains (m.dowelMode t d) then none
  else some (m.dowelAddr t d (a.toNat / 32) + a.toNat % 32)

/-! ## Rights over buoys and rings (R120, R300) -/

/-- A buoy homed in the tile's partition. -/
def ownBuoy (m : Mod) (t b : Nat) : Bool := (m.slotOfTile t).isSome && decide (m.slotOfBuoy b = m.slotOfTile t)
/-- A ring that the tile may push to. -/
def ownRing (m : Mod) (t r : Nat) : Bool :=
  (m.slotOfTile t).isSome && decide (m.slotOfRing r = m.slotOfTile t) && m.flag (RING_CTL r) 23 &&
  decide (m.ringState r ≠ 0) && decide (m.ringState r ≠ 6) && !(decide (ringKind r = 1) && decide (tileOfRing r ≠ t))

end Mod

/-! ## Lifts -/

/-- The meaning of an instruction of thread `th` of tile `t`: what it names, whether it is legal, and its effect when it issues. -/
def onIssue (s : State) (t th : Nat) (regs : List Nat) (legal : Bool) (body : Thread → Mod → Eff) :
    Host.Outcome State Fault Refusal :=
  onWhen s (s.m.canIssue t th regs) (fun m => m.issue t th legal body)

/-- A scalar instruction that writes one g register. -/
def onG (s : State) (t th : Nat) (regs : List Nat) (legal : Bool) (d : Nat) (v : Thread → Mod → W32) : Host.Outcome State Fault Refusal :=
  onIssue s t th (d :: regs) legal (fun x m => .go (m.modThread t th (fun y => y.setG d (v x m))))

/-- An instruction of 0x10 to 0x1E: g[D] ← g[S1] op operand 2. -/
def onAlu (s : State) (t th : Nat) (f : BitVec 56) (op : W32 → W32 → W32) : Host.Outcome State Fault Refusal :=
  onG s t th (aluRegs f) (only mAlu f) (fD f) (fun x _ => op (x.gReg (fS1 f)) (operand2 x.gReg f))

/-- A multiplication: its result comes 3 cycles after issue (R101). -/
def onMul (s : State) (t th : Nat) (f : BitVec 56) (op : W32 → W32 → W32) : Host.Outcome State Fault Refusal :=
  onIssue s t th (fD f :: aluRegs f) (only mAlu f) (fun x m =>
    .late (m.modThread t th (fun y => y.setG (fD f) (op (x.gReg (fS1 f)) (operand2 x.gReg f)))))

/-! ## Control -/

/-- ILLEGAL_INSTRUCTION (R114). -/
def execIllegalInstruction (t th : Nat) (_w : W64) (s : State) : Host.Outcome State Fault Refusal :=
  onIssue s t th [] false (fun _ m => .go m)
/-- NOP. -/
def execNop (t th : Nat) (f : BitVec 56) (s : State) : Host.Outcome State Fault Refusal :=
  onIssue s t th [] (only 0 f) (fun _ m => .go m)
/-- BR.  The target PC + OFF is a 20-bit index, modulo 2^20, as those of CALL, LOOP and TSTART: the spec states none for a sum outside that range (DESIGN CHOICE, log entry 98). -/
def execBr (t th : Nat) (f : BitVec 56) (s : State) : Host.Outcome State Fault Refusal :=
  onIssue s t th [bf f 51 5, bf f 46 5] (only (fm 51 5 ||| fm 46 5 ||| fm 43 3 ||| mOff) f && decide (bf f 43 3 ≠ 7)) (fun x m =>
    if branchTaken (bf f 43 3) (x.gReg (bf f 51 5)) (x.gReg (bf f 46 5)) then .jump m (x.pc + BitVec.ofInt 20 (fOff f)) else .go m)
/-- JR. -/
def execJr (t th : Nat) (f : BitVec 56) (s : State) : Host.Outcome State Fault Refusal :=
  onIssue s t th [bf f 51 5] (only (fm 51 5) f) (fun x m => .jump m ((x.gReg (bf f 51 5)).truncate 20))
/-- CALL (R112). -/
def execCall (t th : Nat) (f : BitVec 56) (s : State) : Host.Outcome State Fault Refusal :=
  onIssue s t th [] (only mOff f) (fun x m =>
    if 16 ≤ x.stack.length then .trap m 0x0323 0
    else .jump (m.modThread t th (fun y => { y with stack := (y.pc + 1) :: y.stack })) (x.pc + BitVec.ofInt 20 (fOff f)))
/-- RET (R112). -/
def execRet (t th : Nat) (f : BitVec 56) (s : State) : Host.Outcome State Fault Refusal :=
  onIssue s t th [] (only 0 f) (fun x m => match x.stack with
    | [] => .trap m 0x0323 0
    | p :: r => .jump (m.modThread t th (fun y => { y with stack := r })) p)
/-- LOOP (R111). -/
def execLoop (t th : Nat) (f : BitVec 56) (s : State) : Host.Outcome State Fault Refusal :=
  onIssue s t th [bf f 51 5] (only (fm 51 5 ||| fm 40 3 ||| mOff) f && decide (bf f 40 3 < 4)) (fun x m =>
    Mod.startLoop t th (bf f 40 3) (x.gReg (bf f 51 5)) (fOff f) x m)
/-- LOOPI (R111). -/
def execLoopi (t th : Nat) (f : BitVec 56) (s : State) : Host.Outcome State Fault Refusal :=
  onIssue s t th [] (only (fm 40 3 ||| fm 24 16 ||| mOff) f && decide (bf f 40 3 < 4)) (fun x m =>
    Mod.startLoop t th (bf f 40 3) (BitVec.ofNat 32 (bf f 24 16)) (fOff f) x m)
/-- TSTART. -/
def execTstart (t th : Nat) (f : BitVec 56) (s : State) : Host.Outcome State Fault Refusal :=
  onIssue s t th [] (only (fm 54 2 ||| mOff) f) (fun x m =>
    let n := bf f 54 2
    let y := m.thread t n
    if y.st = .off ∨ y.st = .ended then .go (m.setThread t n (Mod.freshThread y (x.pc + BitVec.ofInt 20 (fOff f)).toNat))
    else .trap m 0x032B 0)
/-- END. -/
def execEndThread (t th : Nat) (f : BitVec 56) (s : State) : Host.Outcome State Fault Refusal :=
  onIssue s t th [] (only 0 f) (fun _ m => .stop (m.modThread t th (fun x => { x with st := .ended })))
/-- FENCE. -/
def execFence (t th : Nat) (f : BitVec 56) (s : State) : Host.Outcome State Fault Refusal :=
  onIssue s t th [] (only (fm 48 8) f) (fun _ m =>
    let k : Byte := BitVec.ofNat 8 (bf f 48 8)
    if m.fenceDone t k then .go m else .wait m (.fence k))
/-- LEND (R111). -/
def execLend (t th : Nat) (f : BitVec 56) (s : State) : Host.Outcome State Fault Refusal :=
  onIssue s t th [] (only (fm 40 3) f && decide (bf f 40 3 < 4)) (fun x m =>
    let n := bf f 40 3
    if (x.loop n).active then .go (m.modThread t th (fun y => y.setLoop n { y.loop n with active := false }))
    else .trap m 0x0324 0)

/-! ## Scalar arithmetic (R116) -/

/-- ADD. -/
def execAdd (t th : Nat) (f : BitVec 56) (s : State) : Host.Outcome State Fault Refusal := onAlu s t th f (· + ·)
/-- SUB. -/
def execSub (t th : Nat) (f : BitVec 56) (s : State) : Host.Outcome State Fault Refusal := onAlu s t th f (· - ·)
/-- MUL. -/
def execMul (t th : Nat) (f : BitVec 56) (s : State) : Host.Outcome State Fault Refusal := onMul s t th f (· * ·)
/-- MULHS. -/
def execMulhs (t th : Nat) (f : BitVec 56) (s : State) : Host.Outcome State Fault Refusal := onMul s t th f mulHighS
/-- MULHU. -/
def execMulhu (t th : Nat) (f : BitVec 56) (s : State) : Host.Outcome State Fault Refusal := onMul s t th f mulHighU
/-- AND. -/
def execAndI (t th : Nat) (f : BitVec 56) (s : State) : Host.Outcome State Fault Refusal := onAlu s t th f (· &&& ·)
/-- OR. -/
def execOrI (t th : Nat) (f : BitVec 56) (s : State) : Host.Outcome State Fault Refusal := onAlu s t th f (· ||| ·)
/-- XOR. -/
def execXorI (t th : Nat) (f : BitVec 56) (s : State) : Host.Outcome State Fault Refusal := onAlu s t th f (· ^^^ ·)
/-- SHL. -/
def execShl (t th : Nat) (f : BitVec 56) (s : State) : Host.Outcome State Fault Refusal := onAlu s t th f shl32
/-- SHR. -/
def execShr (t th : Nat) (f : BitVec 56) (s : State) : Host.Outcome State Fault Refusal := onAlu s t th f shr32
/-- SRA. -/
def execSra (t th : Nat) (f : BitVec 56) (s : State) : Host.Outcome State Fault Refusal := onAlu s t th f sra32
/-- MIN. -/
def execMinI (t th : Nat) (f : BitVec 56) (s : State) : Host.Outcome State Fault Refusal := onAlu s t th f min32
/-- MAX. -/
def execMaxI (t th : Nat) (f : BitVec 56) (s : State) : Host.Outcome State Fault Refusal := onAlu s t th f max32
/-- SLT. -/
def execSlt (t th : Nat) (f : BitVec 56) (s : State) : Host.Outcome State Fault Refusal := onAlu s t th f (fun a b => bool32 (a.slt b))
/-- SLTU. -/
def execSltu (t th : Nat) (f : BitVec 56) (s : State) : Host.Outcome State Fault Refusal := onAlu s t th f (fun a b => bool32 (a.ult b))
/-- MOVI. -/
def execMovi (t th : Nat) (f : BitVec 56) (s : State) : Host.Outcome State Fault Refusal :=
  onG s t th [] (only (mD ||| mImm) f) (fD f) (fun _ _ => fImm f)

/-! ## Address registers; fields that name one use the low bits, and the unused high bits are zero (R113) -/

/-- AADD. -/
def execAadd (t th : Nat) (f : BitVec 56) (s : State) : Host.Outcome State Fault Refusal :=
  onIssue s t th (if fI f then [] else [fS2 f]) (only mAlu f && decide (fD f < 16) && decide (fS1 f < 16)) (fun x m =>
    .go (m.modThread t th (fun y => y.setA (fD f) (x.aReg (fS1 f) + (operand2 x.gReg f).signExtend 40))))
/-- AMOV. -/
def execAmov (t th : Nat) (f : BitVec 56) (s : State) : Host.Outcome State Fault Refusal :=
  onIssue s t th [fS1 f, fS2 f] (only (mD ||| mS1 ||| mS2) f && decide (fD f < 16)) (fun x m =>
    .go (m.modThread t th (fun y => y.setA (fD f) (BitVec.ofNat 40 (bf (x.gReg (fS2 f)) 0 8 * 2 ^ 32 + (x.gReg (fS1 f)).toNat)))))
/-- AGET. -/
def execAget (t th : Nat) (f : BitVec 56) (s : State) : Host.Outcome State Fault Refusal :=
  onG s t th [] (only (mD ||| mS1) f && decide (fS1 f < 16)) (fD f) (fun x _ => (x.aReg (fS1 f)).truncate 32)
/-- LCGET. -/
def execLcget (t th : Nat) (f : BitVec 56) (s : State) : Host.Outcome State Fault Refusal :=
  onG s t th [] (only (mD ||| mS1) f && decide (fS1 f < 4)) (fD f) (fun x _ => (x.loop (fS1 f)).count)

/-! ## Scalar memory, registers, the count -/

/-- LDW: the thread waits with reason MEMORY until the access is performed (R107, R118). -/
def execLdw (t th : Nat) (f : BitVec 56) (s : State) : Host.Outcome State Fault Refusal :=
  onIssue s t th [fD f] (only (mD ||| mS1 ||| mImm) f && decide (fS1 f < 16)) (fun x m =>
    match m.scalarAt t (ldstDowel f) (ldstAddr x.aReg f) [0, 1] with
    | none => .trap m 0x0327 0
    | some k => .wait m (.memory k (some (fD f)) 0))
/-- STW: the thread waits with reason MEMORY until the access is performed (R107, R118). -/
def execStw (t th : Nat) (f : BitVec 56) (s : State) : Host.Outcome State Fault Refusal :=
  onIssue s t th [fS2 f] (only (mS1 ||| mS2 ||| mImm) f && decide (fS1 f < 16)) (fun x m =>
    match m.scalarAt t (ldstDowel f) (ldstAddr x.aReg f) [0] with
    | none => .trap m 0x0327 0
    | some k => .wait m (.memory k none (x.gReg (fS2 f))))
/-- CSRR (R119). -/
def execCsrr (t th : Nat) (f : BitVec 56) (s : State) : Host.Outcome State Fault Refusal :=
  onIssue s t th [fD f] (only (mD ||| mImm) f) (fun _ m =>
    if 0x5_0000 ≤ csrOff f then .trap m 0x032F 0x0309
    else match m.readTile t (csrOff f) with
      | .error c => .trap m 0x032F c
      | .ok v => .late (m.modThread t th (fun y => y.setG (fD f) (v.extractLsb' (if csrHigh f then 32 else 0) 32))))
/-- CSRW (R117, R119): a write that is refused writes nothing. -/
def execCsrw (t th : Nat) (f : BitVec 56) (s : State) : Host.Outcome State Fault Refusal :=
  onIssue s t th [fS2 f] (only (mS2 ||| mImm) f) (fun x m =>
    let o := csrOff f
    let sh := if csrHigh f then 32 else 0
    let mask := fieldMask 64 sh 32
    if 0x5_0000 ≤ o ∨ Mod.csrWritable t o mask = false then .trap m 0x032F 0x0309
    else match tileSpec t o with
      | none => .trap m 0x032F 0x0309
      | some sp =>
        let r := m.writeTile t o (m.written (tileReg t o) sp mask (BitVec.ofNat 64 ((x.gReg (fS2 f)).toNat * 2 ^ sh)))
        if r.1 = 0 then .go r.2 else .trap m 0x032F r.1)
/-- BCNT. -/
def execBcnt (t th : Nat) (f : BitVec 56) (s : State) : Host.Outcome State Fault Refusal :=
  onIssue s t th [fD f, fD f + 1] (only mD f && decide (fD f % 2 = 0)) (fun _ m =>
    .late (m.modThread t th (fun y => (y.setG (fD f) (m.count.truncate 32)).setG (fD f + 1) (m.count.extractLsb' 32 32))))

/-! ## Jig setup (R117) -/

/-- A setup instruction: a write of a register of jig `fJig f`, or the trap. -/
def jigSetup (s : State) (t th : Nat) (regs : List Nat) (f : BitVec 56) (legal : Bool) (w : Thread → Mod → W16 × Mod) :
    Host.Outcome State Fault Refusal :=
  onIssue s t th regs (legal && decide (fJig f < 6)) (fun x m =>
    let r := w x m
    if r.1 = 0 then .go r.2 else .trap m 0x032F r.1)

/-- JCTL: the fields of JIG_CTL other than ENABLE. -/
def execJctl (t th : Nat) (f : BitVec 56) (s : State) : Host.Outcome State Fault Refusal :=
  jigSetup s t th [] f (only (fm 53 3 ||| fm 45 8 ||| fm 42 3 ||| fm 40 2 ||| fm 39 1) f && decide (bf f 42 3 < 5)) (fun _ m =>
    let j := fJig f
    let en := bf (m.rd (JIG_CTL t j)) 0 1
    m.writeJigCtl t j (BitVec.ofNat 64 (bf f 45 8 * 2 ^ 24 + bf f 42 3 * 2 ^ 21 + bf f 40 2 * 2 ^ 19 + bf f 39 1 * 2 ^ 18 + en)))
/-- JFILL. -/
def execJfill (t th : Nat) (f : BitVec 56) (s : State) : Host.Outcome State Fault Refusal :=
  jigSetup s t th [] f (only (fm 53 3 ||| mImm) f) (fun _ m => m.writeJigReg t (fJig f) (JIG_FILL t (fJig f)) (BitVec.ofNat 64 (fImm f).toNat))
/-- JBASE.  The sum is tested before the jig's enable: 0x0326 goes before 0x032F, an order that the spec does not give (DESIGN CHOICE, log entry 98). -/
def execJbase (t th : Nat) (f : BitVec 56) (s : State) : Host.Outcome State Fault Refusal :=
  onIssue s t th [] (only (fm 53 3 ||| fm 49 4 ||| mOff) f && decide (fJig f < 6)) (fun x m =>
    let b : Int := (x.aReg (bf f 49 4)).toInt + fOff f
    if b < -(2 ^ 23) ∨ 2 ^ 23 ≤ b then .trap m 0x0326 0
    else
      let r := m.writeJigReg t (fJig f) (JIG_BASE t (fJig f)) (BitVec.ofNat 64 (b % 2 ^ 24).toNat)
      if r.1 = 0 then .go r.2 else .trap m 0x032F r.1)
/-- JDIM. -/
def execJdim (t th : Nat) (f : BitVec 56) (s : State) : Host.Outcome State Fault Refusal :=
  jigSetup s t th [] f (only (fm 53 3 ||| fm 50 3 ||| fm 30 20 ||| fm 0 16) f && decide (bf f 50 3 < 6)) (fun _ m =>
    m.writeJigReg t (fJig f) (DIM_A t (fJig f) (bf f 50 3)) (BitVec.ofNat 64 (bf f 30 20 * 2 ^ 32 + bf f 0 16)))
/-- JDAX. -/
def execJdax (t th : Nat) (f : BitVec 56) (s : State) : Host.Outcome State Fault Refusal :=
  jigSetup s t th [] f (only (fm 53 3 ||| fm 50 3 ||| fm 32 3 ||| fm 0 16) f && decide (bf f 50 3 < 6) && decide (bf f 32 3 ≠ 6)) (fun _ m =>
    m.writeJigReg t (fJig f) (DIM_B t (fJig f) (bf f 50 3)) (BitVec.ofNat 64 (bf f 32 3 * 2 ^ 32 + bf f 0 16)))
/-- JAXIS. -/
def execJaxis (t th : Nat) (f : BitVec 56) (s : State) : Host.Outcome State Fault Refusal :=
  jigSetup s t th [] f (only (fm 53 3 ||| fm 50 3 ||| fm 28 20 ||| fm 0 20) f && decide (bf f 50 3 < 6)) (fun _ m =>
    m.writeJigReg t (fJig f) (AXIS t (fJig f) (bf f 50 3)) (BitVec.ofNat 64 (bf f 28 20 * 2 ^ 32 + bf f 0 20)))
/-- JEN: in ascending order, up to the first refusal (R117). -/
def execJen (t th : Nat) (f : BitVec 56) (s : State) : Host.Outcome State Fault Refusal :=
  onIssue s t th [] (only (fm 50 6) f) (fun _ m =>
    let r := (jigMask f).foldl (fun (r : W16 × Mod) j =>
      if r.1 ≠ 0 then r else if r.2.jigOn t j then r else r.2.enableJig t j) (0, m)
    if r.1 = 0 then .go r.2 else .trap r.2 0x032F r.1)
/-- JDIS. -/
def execJdis (t th : Nat) (f : BitVec 56) (s : State) : Host.Outcome State Fault Refusal :=
  onIssue s t th [] (only (fm 50 6) f) (fun _ m => .go (forEach m (jigMask f) (fun m j => m.disableJig t j)))
/-- JWAIT. -/
def execJwait (t th : Nat) (f : BitVec 56) (s : State) : Host.Outcome State Fault Refusal :=
  onIssue s t th [] (only (fm 50 6) f) (fun _ m =>
    if m.jigsDone t (jigMask f) then .go m else .wait m (.jig (BitVec.ofNat 6 (bf f 50 6))))
/-- MITRE (R76, R80, R117). -/
def execMitre (t th : Nat) (f : BitVec 56) (s : State) : Host.Outcome State Fault Refusal :=
  onIssue s t th (run4 (bf f 51 5)) (only (fm 51 5) f && decide (bf f 51 5 ≤ 28)) (fun x m =>
    let n := bf f 51 5
    let c : Mitre := { w0 := x.gReg n, w1 := x.gReg (n + 1), w2 := x.gReg (n + 2), w3 := x.gReg (n + 3), ring := none }
    let r := m.mitreCheck t c
    if r = 0 then .go (m.startMitre t c) else .trap m 0x032F r)

/-! ## Marks, prefetch, the tag, TRAP, BRK -/

/-- MWAIT (R107, R122). -/
def execMwait (t th : Nat) (f : BitVec 56) (s : State) : Host.Outcome State Fault Refusal :=
  onIssue s t th [bf f 46 5, bf f 46 5 + 1] (only (fm 46 5) f && decide (bf f 46 5 % 2 = 0)) (fun x m =>
    let c : W64 := Mod.pair32 (x.gReg (bf f 46 5)) (x.gReg (bf f 46 5 + 1))
    if m.markPassed c then .go m else .wait m (.mark c))
/-- PREF (R123). -/
def execPref (t th : Nat) (f : BitVec 56) (s : State) : Host.Outcome State Fault Refusal :=
  onIssue s t th [] (only (fm 48 8 ||| fm 44 4 ||| fm 24 8 ||| mOff) f) (fun x m =>
    let d := bf f 48 8
    let a : Int := (x.aReg (bf f 44 4)).toInt + fOff f
    let n := bf f 24 8 + 1
    if ¬ m.dowelValid t d ∨ m.dowelMode t d ≠ 3 ∨ a < 0 ∨ m.dowelRows t d < a.toNat / 32 + n then .go (m.addCnt (CNT_PREF_DROP t) 1)
    else
      let q := m.dowelQuarter t d
      let lines := (upto n).map (fun k => m.dowelHbmLine t d + a.toNat / 32 + k)
      let want := lines.filter (fun h => (m.venFind t q h).isNone && !(m.tile t).prefetch.contains (q, h))
      .go (m.modTile t (fun y => { y with prefetch := y.prefetch ++ want.map (fun h => (q, h)) })))
/-- STAG (R124). -/
def execStag (t th : Nat) (f : BitVec 56) (s : State) : Host.Outcome State Fault Refusal :=
  onIssue s t th [] (only (fm 46 10 ||| fm 44 2) f) (fun _ m =>
    .go (m.modThread t th (fun y => { y with layer := BitVec.ofNat 10 (bf f 46 10), role := BitVec.ofNat 2 (bf f 44 2) })))
/-- TRAP: CODE goes to REASON (R132); the CODE of a failed lamp routine is the error that is raised (R548). -/
def execTrapI (t th : Nat) (f : BitVec 56) (s : State) : Host.Outcome State Fault Refusal :=
  onIssue s t th [] (only (fm 0 16) f) (fun _ m =>
    let c : W16 := BitVec.ofNat 16 (bf f 0 16)
    .trap m (if c = 0x1025 then 0x1025 else 0x032A) c)
/-- BRK (R126): DEBUG with the other running threads STOPPED, or NOP while debug is disabled. -/
def execBrk (t th : Nat) (f : BitVec 56) (s : State) : Host.Outcome State Fault Refusal :=
  onIssue s t th [] (only 0 f) (fun _ m =>
    if m.gateOpen t then
      .stop (forEach m (upto 4) (fun m n => m.modThread t n (fun x =>
        if n = th then { Mod.retire x with st := .debug, held := .ready }
        else if x.st = .ready ∨ x.st = .wait then { x with st := .stopped, held := x.st } else x)))
    else .go m)

/-! ## Buoys and rings (R120, R276) -/

/-- BSIG: the operation is sent, and the thread goes on. -/
def execBsig (t th : Nat) (f : BitVec 56) (s : State) : Host.Outcome State Fault Refusal :=
  onIssue s t th (if bit f 40 then [] else [bf f 35 5])
    (only (fm 54 2 ||| fm 41 13 ||| fm 40 1 ||| fm 35 5 ||| mImm) f && decide (bf f 54 2 < 2)) (fun x m =>
    if !m.ownBuoy t (bf f 41 13) then .trap m 0x0329 0
    else .go (m.modTile t (fun y => { y with sent := y.sent ++
      [{ th := th, pc := x.pc, b := bf f 41 13, isSet := decide (bf f 54 2 = 1), x := if bit f 40 then fImm f else x.gReg (bf f 35 5), refused := false }] })))
/-- BCAS: the thread waits for the prior value. -/
def execBcas (t th : Nat) (f : BitVec 56) (s : State) : Host.Outcome State Fault Refusal :=
  onIssue s t th [fD f, fS1 f, fS2 f] (only (mD ||| mS1 ||| mS2 ||| fm 28 13) f) (fun x m =>
    if m.ownBuoy t (bf f 28 13) then .wait m (.remote (bf f 28 13) (fD f) (some (x.gReg (fS1 f), x.gReg (fS2 f)))) else .trap m 0x0329 0)
/-- BWAIT. -/
def execBwait (t th : Nat) (f : BitVec 56) (s : State) : Host.Outcome State Fault Refusal :=
  onIssue s t th (if bf f 53 3 = 3 then [bf f 35 5] else []) (only (fm 53 3 ||| fm 40 13 ||| fm 35 5 ||| mImm) f && decide (bf f 53 3 < 4)) (fun x m =>
    if m.ownBuoy t (bf f 40 13) then .wait m (.buoy (bf f 40 13) (BitVec.ofNat 3 (bf f 53 3)) (fImm f) (x.gReg (bf f 35 5))) else .trap m 0x0329 0)
/-- BREAD. -/
def execBread (t th : Nat) (f : BitVec 56) (s : State) : Host.Outcome State Fault Refusal :=
  onIssue s t th [fD f] (only (mD ||| fm 38 13) f) (fun _ m =>
    if m.ownBuoy t (bf f 38 13) then .wait m (.remote (bf f 38 13) (fD f) none) else .trap m 0x0329 0)
/-- RPUSH: the entry is written and TAIL advances, or the thread waits for room (R120, R300).  The ring's rights (0x0329) are tested before the source (0x0327), and the source before the thread waits: an order that R120 does not give (DESIGN CHOICE, log entry 98). -/
def execRpush (t th : Nat) (f : BitVec 56) (s : State) : Host.Outcome State Fault Refusal :=
  onIssue s t th [] (only (fm 40 16 ||| fm 32 8 ||| mOff) f && decide (bf f 0 24 % 2 = 0)) (fun _ m =>
    let r := bf f 40 16
    let d := bf f 32 8
    if !m.ownRing t r then .trap m 0x0329 0
    else if !m.dowelHolds t d [0, 1] (bf f 0 24) 2 then .trap m 0x0327 0
    else if m.ringFill r = m.ringCap r then .hold m (.ring r)
    else
      let m := m.setRingEntryBytes r (m.ringTail r) (m.ldDowelWords t d (bf f 0 24) 2)
      let m := m.setRingTail r ((m.ringTail r + 1) % 2 ^ 32)
      .go (if m.ringState r = 1 then m.setRingState r 2 else m))

/-! ## Events of the sequencer -/

/-- IC_LINE_FILL: the line arrives and the waiting thread may issue (R105). -/
def execIcLineFill (t th : Nat) (s : State) : Host.Outcome State Fault Refusal :=
  onWhen s (s.m.tileRuns t && decide (th < 4)) (fun m =>
    if (m.thread t th).st = .wait ∧ (m.thread t th).waitOn = .fetch then
      (m.icInstall t (Mod.icLine (m.thread t th).pc)).wakeAgain t th
    else m)
/-- THREAD_WAKE (R109, R110). -/
def execThreadWake (t th : Nat) (s : State) : Host.Outcome State Fault Refusal :=
  onWhen s (s.m.tileRuns t && decide (th < 4)) (fun m => if (m.thread t th).st = .wait then m.wake t th else m)
/-- SEQ_CLOCK_GATE: no thread READY, every queue empty and no unit executing (R108). -/
def execSeqClockGate (t : Nat) (s : State) : Host.Outcome State Fault Refusal :=
  onTile s t (fun m =>
    if (upto 4).all (fun n => decide ((m.thread t n).st ≠ .ready)) && m.allQueuesEmpty t then m.setFlag (SEQ_STATUS t) 32 true else m)
/-- TILE_DONE_SIGNAL: every thread of the mask ENDED and the queues empty; the add of 1 to DONE_BUOY leaves the tile (R100), once for each enable or restart, also when a thread that TSTART starts later ends again (DESIGN CHOICE, log entry 98). -/
def execTileDoneSignal (t : Nat) (s : State) : Host.Outcome State Fault Refusal :=
  onWhen s (s.m.tileRuns t) (fun m =>
    if m.doneValid t && !(m.tile t).doneSent && (upto 4).all (fun n => !m.inMask t n || decide ((m.thread t n).st = .ended)) &&
        m.allQueuesEmpty t then
      m.modTile t (fun x => { x with doneSent := true, doneFlight := true })
    else m)
/-- BUOY_REFUSAL_ARRIVAL: the refusal of a BSIG reaches the tile (R278). -/
def execBuoyRefusalArrival (t : Nat) (s : State) : Host.Outcome State Fault Refusal :=
  onTileClock s t (fun m => match (m.tile t).sent.find? (fun o => o.refused) with
    | none => m
    | some o =>
      let m := m.modTile t (fun x => { x with sent := x.sent.erase o })
      let st := (m.thread t o.th).st
      if m.tileEnabled t ∧ o.live = true ∧ st ≠ .trapped ∧ st ≠ .off then m.trapForSignal t o.th o.pc else m.raiseTile t 0x0823 o.th)

end Sys2Proof.Machine
end

