-- ==== Sys2Proof/Machine/Tally.lean ====
section
/-! DEFINITION. The tally of replicas (R543 to R545): the tally block, and the comparison at vote 1. -/

namespace Sys2Proof.Machine.Mod

/-- STEER_BASE's partition address, and the number of log entries (R394, R399). -/
def steerBase (m : Mod) (s : Nat) : Nat := m.fld (STEER_BASE s) 0 41
def logEntries (m : Mod) (s : Nat) : Nat := 2 ^ m.fld (STEER_BASE s) 48 4
/-- The partition address of the tally block (R544). -/
def tallyBase (m : Mod) (s : Nat) : Nat := m.steerBase s + 2048 * (1 + m.logEntries s)
/-- S and R of the job table, and this module's replica (R343, R344). -/
def jobStages (m : Mod) (s : Nat) : Nat := max 1 (num (m.part s).layout.jobTable 0 2)
def jobReplicas (m : Mod) (s : Nat) : Nat := max 1 (num (m.part s).layout.jobTable 2 2)
def myReplica (m : Mod) (s : Nat) : Nat := num (m.part s).layout.jobTable 6 2 / m.jobStages s
def tallyBuoy (m : Mod) (s : Nat) : Nat := num (m.ldHbm s (m.tallyBase s + 4) 2) 0 2 % 8192
/-- The REP digest of replica `r`. -/
def replicaDigest (m : Mod) (s r : Nat) : List Byte := m.ldHbm s (m.tallyBase s + 0x60 + 32 * r) 16

/-- The status word after a comparison in step `t`. -/
def tallyWord (t first : Nat) (mismatch none_ : Bool) (code : Nat) : W64 :=
  BitVec.ofNat 64 (t % 2 ^ 32 + first % 4096 * 2 ^ 32 + (if mismatch then 2 ^ 44 else 0) + (if none_ then 2 ^ 45 else 0) + code * 2 ^ 48)

/-- An error of the comparison. -/
def raiseTally (m : Mod) (s : Nat) (code : W16) : Mod := m.raise { code := code, slot := some s, kind := 0x0B, unit := s }

/-- At vote 1 of a step whose number INTERVAL divides, the step block compares the replica digests (R544, R545). -/
def tally (m : Mod) (s : Nat) : Mod :=
  let t := (m.rd (STEP_NUM s)).toNat
  let interval := num (m.ldHbm s (m.tallyBase s) 4) 0 4
  if interval = 0 ∨ t % interval ≠ 0 then m
  else if (m.buoy (m.tallyBuoy s)).value = 0 then (m.setF (TALLY_STATUS s) 48 16 0x1024).raiseTally s 0x1024
  else
    let n := m.jobReplicas s
    let d := (upto n).map (fun r => m.replicaDigest s r)
    match d.find? (fun x => decide (n < 2 * (d.filter (fun y => decide (y = x))).length)) with
    | none => ((m.wr (TALLY_STATUS s) (tallyWord t 0 true true 0x1023)).addCnt (CNT_TALLY_MISMATCH s) 1).raiseTally s 0x1023
    | some x =>
      match (upto n).find? (fun r => decide (d.getD r [] ≠ x)) with
      | none => (m.wr (TALLY_STATUS s) (tallyWord t 0 false false (m.fld (TALLY_STATUS s) 48 16))).addCnt (CNT_TALLY s) 1
      | some f =>
        let c := if d.getD (m.myReplica s) [] = x then 0x1021 else 0x1022
        ((m.wr (TALLY_STATUS s) (tallyWord t f true false c)).addCnt (CNT_TALLY_MISMATCH s) 1).raiseTally s (BitVec.ofNat 16 c)

end Sys2Proof.Machine.Mod
end

