-- ==== Sys2Proof/Machine/Approx.lean ====
section
/-! DEFINITION. The functions that the spec bounds (R152, R179, R180, R201, R204): each exact value in fixed point, and the FP32 values within its bound, of which a free value picks one (log entries 3 and 99). -/

namespace Sys2Proof

/-! ## Fixed point: an integer n stands for n × 2^−256 -/

abbrev Fix := Int

namespace Fix

def frac : Nat := 256
def one : Fix := 2 ^ frac
def mul (a b : Fix) : Fix := a * b / one
def div (a b : Fix) : Fix := a * one / b
/-- The rational p / q. -/
def ratio (p q : Int) : Fix := p * one / q
/-- m × 2^e with the sign; the exponents of FP32 are above −256. -/
def ofVal : Val → Fix
  | .fin s m e => (Val.fin s m e).scaled (-256)
  | _ => 0
def abs (a : Fix) : Fix := (a.natAbs : Int)
/-- `a` held to −b … b. -/
def clamp (b a : Fix) : Fix := max (-b) (min b a)

/-- The series Σ y^(2i + 1) / (2i + 1) of the inverse hyperbolic tangent, `n` terms from term `i`. -/
def atanhFrom (y2 : Fix) : Nat → Nat → Fix → Fix
  | 0, _, _ => 0
  | n + 1, i, p => p / (2 * i + 1 : Nat) + atanhFrom y2 n (i + 1) (mul p y2)
/-- 2 atanh y, |y| ≤ 1/3, to 2^−250. -/
def twoAtanh (y : Fix) : Fix := 2 * atanhFrom (mul y y) 90 0 y
/-- ln 2 = 2 atanh(1/3). -/
def ln2 : Fix := twoAtanh (ratio 1 3)
/-- ln x for x > 0: x = 2^k × y with 1 ≤ y < 2. -/
def ln (x : Fix) : Fix :=
  let k : Int := (Nat.log2 x.toNat : Int) - frac
  let y : Fix := if 0 ≤ k then x / 2 ^ k.toNat else x * 2 ^ (-k).toNat
  k * ln2 + twoAtanh (div (y - one) (y + one))

/-- e^r for |r| < 1, by `n` steps of Horner's rule. -/
def expSeries (r : Fix) : Nat → Fix → Fix
  | 0, a => a
  | n + 1, a => expSeries r n (one + mul r a / (n + 1 : Nat))
/-- e^x. -/
def exp (x : Fix) : Fix :=
  let k := x / ln2
  let s := expSeries (x - k * ln2) 60 one
  if 0 ≤ k then s * 2 ^ k.toNat else s / 2 ^ (-k).toNat
/-- The square root of x ≥ 0. -/
def sqrt (x : Fix) : Fix := (isqrt 340 (x * one).toNat 0 : Nat)

/-- π by Machin's formula: the series of the inverse tangent of 1 / q, `n` terms. -/
def atanInv (q : Int) : Nat → Nat → Fix → Fix
  | 0, _, _ => 0
  | n + 1, i, p => p / (2 * i + 1 : Nat) - atanInv q n (i + 1) (p / (q * q))
def pi : Fix := 16 * atanInv 5 120 0 (ratio 1 5) - 4 * atanInv 239 120 0 (ratio 1 239)
/-- 1 − a2/(c(c+1)) (1 − a2/((c+2)(c+3)) (…)), for the series of cosine (c = 1) and sine (c = 2). -/
def circSeries (a2 : Fix) : Nat → Nat → Fix
  | 0, _ => one
  | n + 1, c => one - mul a2 (circSeries a2 n (c + 2)) / (c * (c + 1) : Nat)
def cos (a : Fix) : Fix := circSeries (mul a a) 60 1
def sin (a : Fix) : Fix := mul a (circSeries (mul a a) 60 2)

/-- tanh x; beyond |x| = 200 it is ±1 to 2^−256. -/
def tanh (x : Fix) : Fix :=
  let t := exp (2 * clamp (200 * one) x)
  div (t - one) (t + one)
/-- 1 / (1 + e^(−x)), written so that a small value keeps its digits. -/
def sigmoid (x : Fix) : Fix :=
  let t := exp (-abs (clamp (400 * one) x))
  if 0 ≤ x then div one (one + t) else div t (one + t)
/-- GELU in the form of R152. -/
def gelu (v : Fix) : Fix :=
  let w := clamp (100 * one) v
  let u := mul (ratio 79788456 100000000) (w + mul (ratio 44715 1000000) (mul w (mul w w)))
  mul v (one + tanh u) / 2
/-- SiLU of R152. -/
def silu (v : Fix) : Fix := mul v (sigmoid v)

end Fix

/-! ## FP32 values within a bound -/

/-- The spacing of FP32 at a value. -/
def ulpAt (x : Fix) : Fix := 2 ^ (fp32.grid x.natAbs (-256) + 256).toNat

/-- The number of the FP32 magnitude that x ≥ 0 is rounded to, down or (`up`) up: its pattern, an infinity beyond the range. -/
def magAt (up : Bool) (x : Nat) : Nat :=
  let g := fp32.grid x (-256)
  let r := onGrid x (-256) g
  let q := if up && decide (r.2.1 ≠ 0) then r.1 + 1 else r.1
  if fp32.tooBig q g then fp32.infCode false else fp32.encode false q g
/-- FP32 patterns in rising order of value: +0 is 0, −0 is −1, and so on to the infinities. -/
def keyAt (up : Bool) (x : Fix) : Int :=
  if 0 ≤ x then magAt up x.toNat else -1 - (magAt (!up) (-x).toNat : Int)
def ofKey (k : Int) : W32 := if 0 ≤ k then BitVec.ofInt 32 k else neg32 (BitVec.ofInt 32 (-1 - k))

/-- The FP32 value that the free value picks among those within `tol` of x, zeros of both signs included. -/
def pickWithin (x tol : Fix) (free : W32) : W32 :=
  let lo := keyAt true (x - tol)
  let lo := if lo = 0 then -1 else lo
  let hi := keyAt false (x + tol)
  let hi := if hi = -1 then 0 else hi
  ofKey (lo + (free.toNat : Int) % (hi - lo + 1))

/-- EXP, LOG, TANH, SIGMOID within 2 ulp and RECIP, RSQRT within 1 ulp of the exact value at a finite operand (R179), by function code. -/
def boundedFn (fn : Nat) (a : W32) : W32 :=
  let x := Fix.ofVal (val32 a)
  let y : Fix := match fn with
    | 7 => Fix.exp (Fix.clamp (200 * Fix.one) x)
    | 8 => Fix.ln x
    | 9 => Fix.div Fix.one x
    | 10 => (isqrt 340 (2 ^ 768 / x.toNat) 0 : Nat)
    | 12 => Fix.tanh x
    | _ => Fix.sigmoid x
  pickWithin y ((if fn = 9 ∨ fn = 10 then 1 else 2) * ulpAt y) (Config.vfunc fn a)

/-- GELU (code 3) and SiLU of a finite value, within 4 ulp or 2^−140 (R180). -/
def boundedAct (act : Nat) (v : W32) : W32 :=
  let x := Fix.ofVal (val32 v)
  let y := if act = 3 then Fix.gelu x else Fix.silu x
  pickWithin y (max (4 * ulpAt y) (2 ^ 116)) (Config.act act v)

/-- The even or odd element of a normal pair from its two random words, within 2^−21 × max(1, |z|) (R201). -/
def boundedNormal (odd : Bool) (b0 b1 : W32) : W32 :=
  let u1 := Fix.ratio ((b0.toNat / 2 ^ 8 : Nat) + 1) (2 ^ 24)
  let t := 2 * Fix.mul Fix.pi (Fix.ratio (b1.toNat / 2 ^ 8 : Nat) (2 ^ 24))
  let z := Fix.mul (Fix.sqrt (-2 * Fix.ln u1)) (if odd then Fix.sin t else Fix.cos t)
  pickWithin z (max Fix.one (Fix.abs z) / 2 ^ 21) (Config.normal odd b0 b1)

/-- The key of a SAMPLE candidate (R204): none is that of a score of +∞, above every other.  `bits` are its 16 random bits. -/
def sampleKey (s t : W32) (bits : Nat) : Option Fix := match val32 s with
  | .fin .. =>
    let q := Fix.div (Fix.ofVal (val32 s)) (Fix.ofVal (val32 t))
    let tol := (Fix.abs q + 12 * Fix.one) / 2 ^ 20
    let x := q - Fix.ln (-Fix.ln (Fix.ratio (2 * bits + 1) (2 ^ 17)))
    some (x + Fix.clamp tol (Config.sampleKey s t bits))
  | _ => none

/-- A key lies above another. -/
def keyAbove : Option Fix → Option Fix → Bool
  | some a, some b => decide (b < a)
  | none, some _ => true
  | _, none => false

end Sys2Proof
end

