-- ==== Sys2Proof/Machine/Array.lean ====
section
/-! DEFINITION. The random generators (R195 to R198), the matrix array (R135 to R144, R149), and the output stage (R151 to R157) with shadow sampling (R191 to R193). -/

namespace Sys2Proof.Machine

/-! ## Generators -/

/-- F(KEY, c): the AES-128 encryption of the counter value (R195). -/
def genBlock (key ctr : W128) : W128 := BitVec.ofNat 128 (natOf (aes128 (bytesOf 16 key.toNat) (bytesOf 16 ctr.toNat)))

namespace Mod

def genKey (m : Mod) (t n : Nat) : W128 := BitVec.ofNat 128 ((m.rd (genReg t n 8)).toNat + 2 ^ 64 * (m.rd (genReg t n 0x10)).toNat)
def genCtr (m : Mod) (t n : Nat) : W128 := BitVec.ofNat 128 ((m.rd (genReg t n 0x18)).toNat + 2 ^ 64 * (m.rd (genReg t n 0x20)).toNat)
/-- MODE 1: stream-keyed. -/
def genStream (m : Mod) (t n : Nat) : Bool := m.flag (GEN_CTL t n) 0
def setGenKey (m : Mod) (t n : Nat) (k : W128) : Mod :=
  (m.wr (genReg t n 8) (k.extractLsb' 0 64)).wr (genReg t n 0x10) (k.extractLsb' 64 64)
def setGenCtr (m : Mod) (t n : Nat) (c : W128) : Mod :=
  (m.wr (genReg t n 0x18) (c.extractLsb' 0 64)).wr (genReg t n 0x20) (c.extractLsb' 64 64)

/-- The `w` bits of an element (R197, R198): coordinate (ROW0 + row, COL0 + col) with P = 128 / w elements per block, or element `j` of the stream. -/
def genBits (m : Mod) (t n w row col j : Nat) : Nat :=
  let p := 128 / w
  if m.genStream t n then bf (genBlock (m.genKey t n) (m.genCtr t n + BitVec.ofNat 128 (j / p))) (w * (j % p)) w
  else
    let r := ((m.genCtr t n).toNat / 2 ^ 64 + row) % 2 ^ 64
    let c := ((m.genCtr t n).toNat + col) % 2 ^ 64
    bf (genBlock (m.genKey t n) (BitVec.ofNat 128 (r * 2 ^ 64 + c / p))) (w * (c % p)) w

/-- The end of an instruction that took `count` elements of `w` bits: in stream-keyed mode CTR advances by the blocks begun (R197). -/
def genAdvance (m : Mod) (t n w count : Nat) : Mod :=
  if m.genStream t n then m.setGenCtr t n (m.genCtr t n + BitVec.ofNat 128 (ceilDiv count (128 / w))) else m

/-! ## The array -/

/-- M of a shape (R139). -/
def shapeM : Nat → Nat
  | 0 => 32 | 1 => 16 | 2 => 8 | 3 => 4 | _ => 1
def shapeN (sh : Nat) : Nat := 1024 / shapeM sh
/-- The jigs of the B lines of a K-line, in order (R140): jigs A0, A1, B0, B1 are 0 to 3. -/
def shapeB : Nat → List Nat
  | 0 => [2] | 1 => [2, 3] | 2 => [0, 1, 2, 3] | 3 => (upto 8).map (· % 4) | _ => (upto 32).map (· % 4)

/-- The values of the elements of a word in an operand format. -/
def wordVals (c : Nat) (w : W256) : List Val := (slotsOf 256 (fmtBits c) w.toNat).map (elemVal c)

/-- The integer of an integer element. -/
def valInt : Val → Int
  | .fin s m e => let v : Int := (m * 2 ^ e.toNat : Nat); if s then -v else v
  | _ => 0

/-- The gated products of a unit in a K-line: one element is zero and the other is finite (R149). -/
def gatedCount (a b : List Val) : Nat :=
  ((a.zip b).filter (fun p => (p.1.isZero && p.2.isFinite) || (p.2.isZero && p.1.isFinite))).length

/-- c + the sum of the products, in FP32 with one rounding (R168, R169). -/
def accFloat (c : W32) (a b : List Val) : W32 := to32 (Val.sum (val32 c :: List.zipWith Val.mul a b))
/-- c + the sum of the products as INT32, saturating or wrapping; the Bool says that it saturated (R136, R138). -/
def accInt (wrap : Bool) (c : W32) (a b : List Val) : W32 × Bool :=
  let v := c.toInt + (List.zipWith (fun x y => valInt x * valInt y) a b).foldl (· + ·) 0
  if wrap then (BitVec.ofInt 32 v, false)
  else if v < -2 ^ 31 then (BitVec.ofInt 32 (-2 ^ 31), true)
  else if 2 ^ 31 - 1 < v then (BitVec.ofInt 32 (2 ^ 31 - 1), true)
  else (BitVec.ofInt 32 v, false)

/-- The VALID, KIND and SHAPE bits of a set in ARR_STATUS (R160). -/
def setValid (m : Mod) (t s : Nat) : Bool := m.flag (ARR_STATUS t) (8 * s + 7)
def setIsInt (m : Mod) (t s : Nat) : Bool := m.flag (ARR_STATUS t) (8 * s + 6)
def setShape (m : Mod) (t s : Nat) : Nat := m.fld (ARR_STATUS t) (8 * s) 3
def latchValid (m : Mod) (t : Nat) : Bool := m.flag (ARR_STATUS t) 23

/-- The 1,024 cells of a set, in order of row and column. -/
def setCells (m : Mod) (t s : Nat) : List W32 := (upto 1024).map (fun k => m.accCell t (1024 * s + k))
/-- Writes the 1,024 cells of a set. -/
def putCells (m : Mod) (t s : Nat) (l : List W32) : Mod :=
  m.modTile t (fun x =>
    let mine := ((upto 1024).zip l).filterMap (fun p => if p.2 = 0 then none else some (1024 * s + p.1, p.2))
    let low := x.accs.filter (fun p => decide (p.1 < 1024))
    let high := x.accs.filter (fun p => decide (1024 ≤ p.1))
    { x with accs := if s = 0 then mine ++ high else low ++ mine })

/-- Reads one line from each jig of a list, 32 positions each. -/
def readEach (m : Mod) (t : Nat) : List Nat → Run (List (List W256))
  | [] => .ok ([], m)
  | j :: r => match m.readLine32 t j with
    | .error e => .error e
    | .ok (l, m) => match readEach m t r with
      | .error e => .error e
      | .ok (ls, m) => .ok (l :: ls, m)

/-- One K-line enters (R135, R140, R141): the A rows are a line of A0 or latch K-line `k`; every cell takes its products. -/
def enterLine (m : Mod) (t : Nat) (f : BitVec 56) (k : Nat) (cells : List W32) : Run (List W32) :=
  let sh := mmaShape f
  let mm := shapeM sh
  let src := if sh ≤ 1 then m.readEach t [0]
    else .ok ([(upto mm).map (fun r => m.latchWord t r k)], m)
  match src with
  | .error e => .error e
  | .ok (aLines, m) => match m.readEach t (shapeB sh) with
    | .error e => .error e
    | .ok (bLines, m) =>
      let a := ((aLines.getD 0 []).take mm).map (wordVals (mmaFA f))
      let b := bLines.map (fun l => l.map (wordVals (mmaFB f)))
      let unit := fun (q : Nat) => (a.getD (q / 32 % mm) [], (b.getD (q / 32 / mm) []).getD (q % 32) [])
      let units := (upto 1024).map unit
      let res : List (W32 × Bool) := List.zipWith (fun (c : W32) (u : List Val × List Val) =>
        if mmaInt f then accInt (mmaOvf f) c u.1 u.2 else (accFloat c u.1 u.2, false)) cells units
      let m := m.addCnt (CNT_ENTRY t) 1
      let m := m.addCnt (CNT_PROD t) (1024 * lanesOf (mmaFA f))
      let m := m.addCnt (CNT_PROD_GATED t) ((units.map (fun u => gatedCount u.1 u.2)).foldl (· + ·) 0)
      let m := m.addCnt (CNT_ACC_SAT t) (res.filter (fun r => r.2)).length
      .ok (res.map (·.1), m)

/-- K-lines `k` to K_M1: the cells stay in the array; a trap leaves them as they then stand. -/
def passLines (m : Mod) (t : Nat) (f : BitVec 56) (k : Nat) (cells : List W32) : Nat → Run Unit
  | 0 => .ok ((), m.putCells t (mmaAcc f) cells)
  | n + 1 => match m.enterLine t f k cells with
    | .error (c, m) => .error (c, m.putCells t (mmaAcc f) cells)
    | .ok (cells, m) => passLines m t f (k + 1) cells n

/-- MMA: one pass (R136, R137, R143). -/
def runMma (m : Mod) (t : Nat) (f : BitVec 56) : Run Unit :=
  let s := mmaAcc f
  let n := fLines f
  let sh := mmaShape f
  let kind := mmaInt f
  if !mmaClr f && (!m.setValid t s || decide (m.setShape t s ≠ sh) || decide (m.setIsInt t s ≠ kind)) then .error (0x0423, m)
  else if decide (2 ≤ sh) && (!m.latchValid t || decide (m.fld (ARR_STATUS t) 16 4 ≠ mmaFA f) ||
      decide (m.fld (ARR_STATUS t) 32 12 / lanesOf (mmaFA f) < n)) then .error (0x0425, m)
  else
    let cells := if mmaClr f then List.replicate 1024 0 else m.setCells t s
    let m := if mmaClr f then
        m.setF (ARR_STATUS t) (8 * s) 8 (0x80 + (if kind then 0x40 else 0) + sh) else m
    m.passLines t f 0 cells n

/-- MLATCH: eight lines, positions 0 to n − 1 of line r are latch row r (R142). -/
def runMlatch (m : Mod) (t : Nat) (f : BitVec 56) : Run Unit :=
  let n := latchKc f / lanesOf (mmaFA f)
  match m.readEach t ((upto 8).map (· % 4)) with
  | .error e => .error e
  | .ok (lines, m) =>
    let rows := (upto 8).flatMap (fun r => (upto n).map (fun k => (32 * r + k, (lines.getD r []).getD k 0)))
    let m := m.modTile t (fun x => { x with latch := rows.foldl (fun l p => Sparse.put (fun _ => 0) l p.1 p.2) x.latch })
    let m := (m.setF (ARR_STATUS t) 32 12 (latchKc f)).setF (ARR_STATUS t) 16 4 (mmaFA f)
    .ok ((), (m.setFlag (ARR_STATUS t) 23 true).addCnt (CNT_LATCH t) 1)

/-! ## Output stage configuration (R153, R160) -/

/-- OCFG. -/
def runOcfg (m : Mod) (t : Nat) (f : BitVec 56) : Mod :=
  m.wr (OUT_CFG t) (BitVec.ofNat 64 (ocfgAct f * 2 ^ 10 + ocfgFmt f * 2 ^ 6 + bf f 48 1 * 32 + bf f 46 2 * 8 + bf f 45 1 * 4 + bf f 44 1 * 2 + bf f 43 1))
/-- OVEC. -/
def runOvec (m : Mod) (t : Nat) (f : BitVec 56) : Mod :=
  m.wr (OUT_VEC t (bf f 54 2)) (BitVec.ofNat 64 (bf f 46 8 * 2 ^ 24 + bf f 0 24))
/-- OCLAMP: LO from g[S1], HI from g[S2]. -/
def runOclamp (m : Mod) (t : Nat) (lo hi : W32) : Mod := m.wr (OUT_CLAMP t) (pair32 lo hi)

/-! ## The drain -/

def outAct (m : Mod) (t : Nat) : Nat := m.fld (OUT_CFG t) 10 3
def outFmt (m : Mod) (t : Nat) : Nat := m.fld (OUT_CFG t) 6 4
def outRnd (m : Mod) (t : Nat) : Bool := m.flag (OUT_CFG t) 5
def outGen (m : Mod) (t : Nat) : Nat := m.fld (OUT_CFG t) 3 2
/-- Vector `w` is enabled: 0 row scales, 1 column scales, 2 bias. -/
def outVecOn (m : Mod) (t w : Nat) : Bool := m.flag (OUT_CFG t) (2 - w)

/-- Element `e` of an FP32 vector of OVEC source `w` (R154). -/
def outVecElem (m : Mod) (t w e : Nat) : W32 :=
  let d := m.fld (OUT_VEC t w) 24 8
  (m.ldDowel t d (m.fld (OUT_VEC t w) 0 24 + e / 8)).extractLsb' (e % 8 * 32) 32
/-- A vector of `n` values that is enabled lies inside its VALID dowel. -/
def outVecOk (m : Mod) (t w n : Nat) : Bool :=
  let d := m.fld (OUT_VEC t w) 24 8
  !m.outVecOn t w || (m.dowelValid t d && decide (m.fld (OUT_VEC t w) 0 24 + ceilDiv n 8 ≤ m.dowelWords t d))

/-- The activation of step 5 (R152, R180). -/
def activate (m : Mod) (t : Nat) (v : W32) : W32 :=
  let lo := (m.rd (OUT_CLAMP t)).extractLsb' 0 32
  let hi := (m.rd (OUT_CLAMP t)).extractLsb' 32 32
  let act := m.outAct t
  match act with
  | 0 => v
  | 1 => if (val32 v).isNan then v else if Val.less (.fin false 0 0) (val32 v) then v else 0
  | 2 => if (val32 v).isNan then v else pick32 false (pick32 true v lo) hi
  | _ => match val32 v with
    | .nan => nan32
    | .inf s => if s then 0x8000_0000 else v
    | _ => boundedAct act v

/-- The integer path of R151: steps 1 to 5 are skipped. -/
def intPath (m : Mod) (t s : Nat) : Bool :=
  m.setIsInt t s && !m.outVecOn t 0 && !m.outVecOn t 1 && !m.outVecOn t 2 && decide (m.outAct t = 0) && isInt (m.outFmt t)

/-- A cell as FP32 (step 1 of R151). -/
def cellFloat (isI : Bool) (c : W32) : W32 := if isI then to32 (.fin (decide (c.toInt < 0)) c.toInt.natAbs 0) else c

/-- Steps 1 to 5 for output (mrow, n) as the value that is converted. -/
def drainValue (m : Mod) (t s mrow n : Nat) (c : W32) : Val :=
  if m.intPath t s then .fin (decide (c.toInt < 0)) c.toInt.natAbs 0
  else
    let v := cellFloat (m.setIsInt t s) c
    let v := if m.outVecOn t 0 then mul32 v (m.outVecElem t 0 mrow) else v
    let v := if m.outVecOn t 1 then mul32 v (m.outVecElem t 1 n) else v
    let v := if m.outVecOn t 2 then add32 v (m.outVecElem t 2 n) else v
    val32 (m.activate t v)

/-- The conversions of a drain, row by row (R155, R156): outputs of row `r` in ascending column. -/
def drainRow (m : Mod) (t s r : Nat) : List Conv :=
  let sh := m.setShape t s
  let nn := shapeN sh
  (upto nn).map (fun n =>
    let c := m.accCell t (1024 * s + (r + shapeM sh * (n / 32)) * 32 + n % 32)
    let rnd := if m.outRnd t then some (m.genBits t (m.outGen t) 4 r n (r * nn + n)) else none
    convert (m.outFmt t) rnd (m.drainValue t s r n c))

/-- Packs elements into words, the last one filled with zeros (R57, R155). -/
def packWords (w : Nat) (l : List Nat) : List W256 :=
  (upto (ceilDiv (l.length * w) 256)).map (fun k => BitVec.ofNat 256 (packSlots w ((l.drop (k * (256 / w))).take (256 / w))))

/-- The counts of R186 over a list of conversions. -/
def convCounts (unit : Nat) (e : QEntry) (l : List Conv) : TableUpd :=
  { unit := unit, layer := e.layer.toNat, role := e.role.toNat, total := l.length
    ovf := (l.filter (fun c => c.ovf)).length, van := (l.filter (fun c => c.van)).length, nonfin := (l.filter (fun c => c.nonfin)).length }

/-! ## Shadow sampling (R191 to R193) -/

def shadowHeld (m : Mod) (t : Nat) : Bool := m.flag (NUM_STATUS t) 1
/-- The 1,024 cells after step 1. -/
def shadowCells (m : Mod) (t s : Nat) : List W32 := (m.setCells t s).map (cellFloat (m.setIsInt t s))
/-- Drain `d` is sampled (R191). -/
def sampled (m : Mod) (t : Nat) : Bool :=
  let sh := m.fld (NUM_CTL t) 32 4
  decide (sh ≠ 15) && decide (m.fld (NUM_STATUS t) 32 32 % 2 ^ sh = m.fld (NUM_CTL t) 48 16)

/-- A drain that is not a reference drain: it takes its number, and a sampled one captures or is skipped (R191). -/
def shadowDrain (m : Mod) (t s : Nat) (e : QEntry) : Mod :=
  let hit := m.sampled t
  let d := m.fld (NUM_STATUS t) 32 32
  let m1 := m.setF (NUM_STATUS t) 32 32 ((d + 1) % 2 ^ 32)
  if !hit then m1
  else if m.shadowHeld t then m1.addCnt (CNT_SHADOW_SKIP t) 1
  else
    let cells := m.shadowCells t s
    let m1 := m1.modTile t (fun x => { x with
      shadow := ((upto 1024).zip cells).filter (fun p => decide (p.2 ≠ 0)), shadowShape := m.setShape t s })
    let m1 := ((m1.setF (NUM_STATUS t) 12 10 e.layer.toNat).setF (NUM_STATUS t) 10 2 e.role.toNat).setFlag (NUM_STATUS t) 1 true
    m1.addCnt (CNT_SHADOW_CAP t) 1

/-- Σ |x| in FP32, in ascending order. -/
def sumAbs (l : List W32) : W32 := l.foldl (fun a x => add32 a (abs32 x)) 0

/-- A reference drain: the comparison with the captured cells, or an orphan (R192, R193). -/
def shadowCompare (m : Mod) (t s : Nat) : List TableUpd × Mod :=
  if !m.shadowHeld t || decide ((m.tile t).shadowShape ≠ m.setShape t s) then ([], m.addCnt (CNT_SHADOW_ORPHAN t) 1)
  else
    let c := (upto 1024).map (fun k => m.shadowCell t k)
    let r := m.shadowCells t s
    let tag : TableUpd := { unit := 1, layer := m.fld (NUM_STATUS t) 12 10, role := m.fld (NUM_STATUS t) 10 2 }
    let m := (m.setFlag (NUM_STATUS t) 1 false).addCnt (CNT_SHADOW_CMP t) 1
    if (c ++ r).any (fun x => !(val32 x).isFinite) then ([{ tag with shadowNonfin := 1 }], m)
    else
      let num := sumAbs (List.zipWith (fun a b => add32 a (neg32 b)) c r)
      let den := pick32 true (sumAbs r) 0x0080_0000
      let dev := quot32 num den
      ([{ tag with shadowN := 1, dev := some dev }], m.wr (SHADOW_LAST t) (BitVec.ofNat 64 dev.toNat))

/-- ODRAIN (R151 to R157): the set goes through the output stage to the output jig; what it answers is what the unit counts when it completes. -/
def runDrain (m : Mod) (t : Nat) (e : QEntry) : Run (List TableUpd) :=
  let s := bf e.f 44 1
  let sh := m.setShape t s
  let mm := shapeM sh
  let nn := shapeN sh
  if !m.setValid t s then .error (0x0424, m)
  else if !m.outVecOk t 0 mm || !m.outVecOk t 1 nn || !m.outVecOk t 2 nn then .error (0x0422, m)
  else
    let rows := (upto mm).map (fun r => m.drainRow t s r)
    let words := rows.flatMap (fun l => packWords (fmtBits (m.outFmt t)) (l.map (·.code)))
    let counts := convCounts 1 e rows.flatten
    let (upds, m) := if e.reference then m.shadowCompare t s else ([], m.shadowDrain t s e)
    match m.putWords t 4 words with
    | .error (c, m) => .error (c, m)
    | .ok (_, m) =>
      let m := if m.outRnd t then m.genAdvance t (m.outGen t) 4 1024 else m
      .ok (counts :: upds, m)

end Mod

end Sys2Proof.Machine
end

