-- ==== Sys2Proof/Machine/Vector.lean ====
section
/-! DEFINITION. The vector unit (R158, R178 to R182), the quantiser (R183 to R185), random numbers (R201) and SAMPLE (R204), over the element streams of R583. -/

namespace Sys2Proof.Machine

/-! ## Vector functions on FP32 patterns (R178, R179) -/

/-- The functions of one or two FP32 operands, but CVT and the functions that act on bits. -/
def vecFn (fn : Nat) (a b : W32) : W32 :=
  let v := val32 a
  let s := v.isNeg
  let free := boundedFn fn a
  if v.isNan ∧ 7 ≤ fn then nan32
  else match fn with
  | 0 => add32 a b
  | 1 => add32 a (neg32 b)
  | 2 => mul32 a b
  | 3 => pick32 true a b
  | 4 => pick32 false a b
  | 7 => (match v with | .inf _ => (if s then 0 else a) | _ => free)
  | 8 => if v.isZero then 0xFF80_0000 else if s then nan32 else (match v with | .inf _ => a | _ => free)
  | 9 => if v.isZero then (if s then 0xFF80_0000 else 0x7F80_0000) else (match v with | .inf _ => (if s then 0x8000_0000 else 0) | _ => free)
  | 10 => if v.isZero then (if s then 0xFF80_0000 else 0x7F80_0000) else if s then nan32 else (match v with | .inf _ => 0 | _ => free)
  | 11 => sqrt32 a
  | 12 => (match v with | .inf _ => (if s then 0xBF80_0000 else 0x3F80_0000) | _ => free)
  | 13 => (match v with | .inf _ => (if s then 0 else 0x3F80_0000) | _ => free)
  | _ => a

/-- VFUNC on one element code of width 32 (VF 0) or 16 (VF 1), giving the code of its result and its width in bits. -/
def vecElem (fn : Nat) (bf16In : Bool) (a b : Nat) : Nat :=
  let w := if bf16In then 16 else 32
  let top := 2 ^ (w - 1)
  match fn with
  | 5 => a % top
  | 6 => if a < top then a + top else a - top
  | 14 => a
  | 15 => if bf16In then (widen a).toNat else (convFloat bf16 none (val32 (BitVec.ofNat 32 a))).code
  | _ =>
    if bf16In then (val32 (vecFn fn (widen a) (widen b))).toIeee bf16
    else (vecFn fn (BitVec.ofNat 32 a) (BitVec.ofNat 32 b)).toNat

/-- The element codes of a stream of words. -/
def streamElems (w : Nat) (l : List W256) : List Nat := l.flatMap (fun x => slotsOf 256 w x.toNat)

/-- A maximum (`mx`) or minimum with the index of the winner: the lowest among equals, NaN winners included (R158, R181). -/
def pickIdx (mx : Bool) (a b : W32 × W32) : W32 × W32 :=
  let x := val32 a.1
  let y := val32 b.1
  if x.isNan && y.isNan then (nan32, if a.2.toNat ≤ b.2.toNat then a.2 else b.2)
  else if x.isNan then (nan32, a.2)
  else if y.isNan then (nan32, b.2)
  else if a.1 = b.1 then (a.1, if a.2.toNat ≤ b.2.toNat then a.2 else b.2)
  else if (if mx then Val.less x y else Val.less y x) then b else a

/-- The lane sums of VRED: element e goes to lane e mod 64, in stream order. -/
def laneSums {α : Type} (zero : α) (add : α → α → α) (l : List α) : List α :=
  (upto 64).map (fun i => ((upto (ceilDiv (l.length - i) 64)).map (fun k => l.getD (i + 64 * k) zero)).foldl add zero)
/-- The tree of R182: lane 2i with lane 2i + 1, level by level. -/
def pairUp {α : Type} (add : α → α → α) : List α → List α
  | a :: b :: r => add a b :: pairUp add r
  | l => l
def treeSum {α : Type} (zero : α) (add : α → α → α) (l : List α) : α :=
  let up := fun x => pairUp add x
  (up (up (up (up (up (up (laneSums zero add l))))))).headD zero

/-- An FP64 sum, RNE. -/
def addW64 (a b : W64) : W64 := BitVec.ofNat 64 ((Val.sum [fp64.decode a.toNat, fp64.decode b.toNat]).toIeee fp64)
/-- The square of an FP32 element, exact in FP64. -/
def sq64 (a : W32) : W64 := BitVec.ofNat 64 ((Val.mul (val32 a) (val32 a)).toIeee fp64)

namespace Mod

/-- VOP (R178, R583). -/
def runVop (m : Mod) (t : Nat) (f : BitVec 56) : Run Unit :=
  let fn := vopFn f
  let h := bit f 46
  let w := if h then 16 else 32
  match m.readLines t (bf f 49 2) (fLines f) with
  | .error e => .error e
  | .ok (a, m) =>
    let second := if fn < 5 then m.readStream t (bf f 47 2) a.length a.length else .ok ([], m)
    match second with
    | .error e => .error e
    | .ok (b, m) =>
      let x := streamElems w a
      let y := streamElems w (b.take a.length)
      let z := if fn < 5 then List.zipWith (vecElem fn h) x y else x.map (fun v => vecElem fn h v 0)
      let wo := if fn = 15 then 48 - w else w
      m.putWords t 4 (packWords wo z)

/-- The lines of a reduction, each with its number. -/
def readNumbered (m : Mod) (t j l : Nat) : Nat → Run (List (Nat × List W256))
  | 0 => .ok ([], m)
  | n + 1 => match m.readLine t j with
    | .error e => .error e
    | .ok (ws, m) => match readNumbered m t j (l + 1) n with
      | .error e => .error e
      | .ok (r, m) => .ok ((l, ws) :: r, m)

/-- VRED (R158, R182): the g registers that it delivers. -/
def runVred (m : Mod) (t : Nat) (f : BitVec 56) : Run (List (Nat × W32)) :=
  let d := fD f
  match m.readNumbered t (bf f 49 2) 0 (fLines f) with
  | .error e => .error e
  | .ok (ls, m) =>
    let elems := ls.flatMap (fun l => (streamElems 32 l.2).map (BitVec.ofNat 32))
    match vredRf f with
    | 0 => .ok ([(d, treeSum 0 add32 elems)], m)
    | 1 =>
      let s := treeSum 0 addW64 (elems.map sq64)
      .ok ([(d, s.truncate 32), (d + 1, s.extractLsb' 32 32)], m)
    | rf =>
      let idx := ls.flatMap (fun l => ((upto l.2.length).zip l.2).flatMap (fun p =>
        ((upto 8).zip (slotsOf 256 32 p.2.toNat)).map (fun e => ((BitVec.ofNat 32 e.2 : W32), (BitVec.ofNat 32 (256 * l.1 + 8 * p.1 + e.1) : W32)))))
      match idx with
      | [] => .ok ([], m)
      | p :: r =>
        let p := if (val32 p.1).isNan then (nan32, p.2) else p
        let q := r.foldl (pickIdx (decide (rf = 2))) p
        .ok ([(d, q.1), (d + 1, q.2)], m)

end Mod

/-! ## Quantise -/

/-- A butterfly stage of the rotation over the pairs (i, i + 2^s) (R183). -/
def butterfly (x : List W32) (s : Nat) : List W32 :=
  (upto 32).map (fun i =>
    let p := 2 ^ s
    if i / p % 2 = 0 then add32 (x.getD i 0) (x.getD (i + p) 0) else add32 (x.getD (i - p) 0) (neg32 (x.getD i 0)))
/-- The Walsh–Hadamard rotation of a block of 32 elements, in five stages. -/
def rotate32 (x : List W32) : List W32 := (upto 5).foldl butterfly x

/-- The blocks of 32 elements of a list. -/
def blocks32 : Nat → List W32 → List (List W32)
  | 0, _ => []
  | n + 1, l => if l.isEmpty then [] else l.take 32 :: blocks32 n (l.drop 32)

/-- Rotates the blocks of a QUANT.  A last block of fewer than 32 elements has no stated rotation: its elements are free values of the block (log entry 3). -/
def rotateBlocks (l : List (List W32)) : List W32 :=
  l.flatMap (fun b => if b.length = 32 then rotate32 b else (upto b.length).map (Config.shortRotation b))

/-- A conversion of a QUANT (R183 to R185): with a scale of zero every finite input that is not zero counts as vanished. -/
def quantOne (fo : Nat) (rnd : Option Nat) (scale x : W32) : Conv :=
  let c := convert fo rnd (val32 (mul32 x scale))
  if (val32 scale).isZero && (val32 x).isFinite && !(val32 x).isZero && decide (floatOf fo ≠ some fp32) then { c with van := true } else c

namespace Mod

/-- QUANT (R183 to R186): its counts. -/
def runQuant (m : Mod) (t : Nat) (e : QEntry) : Run TableUpd :=
  let f := e.f
  let scale := e.args.getD 0 0
  if !(val32 scale).isFinite then .error (0x0523, m)
  else match m.readLines t (bf f 46 2) (fLines f) with
  | .error e => .error e
  | .ok (ws, m) =>
    let x : List W32 := if bit f 45 then (streamElems 16 ws).map widen else (streamElems 32 ws).map (BitVec.ofNat 32)
    let x := if bit f 51 then rotateBlocks (blocks32 x.length x) else x
    let g := bf f 48 2
    let out := ((upto x.length).zip x).map (fun p =>
      quantOne (quantFo f) (if bit f 50 then some (m.genBits t g 4 0 p.1 p.1) else none) scale p.2)
    match m.putWords t 4 (packWords (fmtBits (quantFo f)) (out.map (·.code))) with
    | .error e => .error e
    | .ok (_, m) => .ok (convCounts 3 e out, if bit f 50 then m.genAdvance t g 4 x.length else m)

/-! ## Random numbers and SAMPLE -/

/-- Element `j` of a RAND (R201). -/
def randElem (m : Mod) (t g dist j : Nat) : W32 :=
  let b := fun k => (BitVec.ofNat 32 (m.genBits t g 32 0 k k) : W32)
  match dist with
  | 0 => b j
  | 1 => to32 (.fin false (bf (b j) 8 24) (-24))
  | _ =>
    let c := if m.genStream t g then j else (m.genCtr t g).toNat + j
    if c % 2 = 0 then boundedNormal false (b j) (b (j + 1))
    else
      let prev : W32 := if m.genStream t g then b (j - 1) else
        let c64 := ((m.genCtr t g).toNat + j + 2 ^ 64 - 1) % 2 ^ 64
        BitVec.ofNat 32 (bf (genBlock (m.genKey t g) (BitVec.ofNat 128 ((m.genCtr t g).toNat / 2 ^ 64 * 2 ^ 64 + c64 / 4))) (32 * (c64 % 4)) 32)
      boundedNormal true prev (b j)

/-- RAND: eight elements for each position of the output jig below EXTENT_0 (R201, R583). -/
def runRand (m : Mod) (t : Nat) (f : BitVec 56) : Run Unit :=
  let g := bf f 54 2
  let n := fLines f * m.extent t 4 0 * 8
  let out := (upto n).map (fun j => (m.randElem t g (bf f 52 2) j).toNat)
  match m.putWords t 4 (packWords 32 out) with
  | .error e => .error e
  | .ok (_, m) => .ok ((), m.genAdvance t g 32 n)

/-- The index of the largest score: the lowest among equals, in the order of R181 (log entry 99). -/
def bestOf (l : List (Nat × W32)) : Option Nat :=
  match l with
  | [] => none
  | p :: r => some (r.foldl (fun (a : Nat × W32) b => if Val.less (val32 a.2) (val32 b.2) then b else a) p).1

/-- The index of the largest key: the lowest among equals (R204). -/
def bestKey (l : List (Nat × Option Fix)) : Option Nat :=
  match l with
  | [] => none
  | p :: r => some (r.foldl (fun (a : Nat × Option Fix) b => if keyAbove b.2 a.2 then b else a) p).1

/-- One score goes into the list of the k largest, kept in falling order; equal scores keep the lower index first. -/
def topInsert (x : Nat × W32) : List (Nat × W32) → List (Nat × W32)
  | [] => [x]
  | y :: r => if Val.less (val32 y.2) (val32 x.2) then x :: y :: r else y :: topInsert x r
def topOf (k : Nat) (l : List (Nat × W32)) : List (Nat × W32) :=
  let best := (l.foldl (fun a x => (topInsert x a).take k) [])
  l.filter (fun x => best.contains x)

/-- SAMPLE (R204): the index drawn. -/
def runSample (m : Mod) (t : Nat) (e : QEntry) : Run (List (Nat × W32)) :=
  let f := e.f
  let temp := e.args.getD 0 0
  let n := (e.args.getD 1 0).toNat
  let tv := val32 temp
  let g := bf f 44 2
  let w := if bit f 41 then 16 else 32
  if !tv.isFinite || (tv.isNeg && !tv.isZero) || decide (n = 0) || decide (65536 < n) then .error (0x0521, m)
  else match m.readStream t (bf f 42 2) (ceilDiv (n * w) 256) n with
  | .error e => .error e
  | .ok (ws, m) =>
    let sc : List W32 := ((streamElems w ws).take n).map (fun x => if bit f 41 then widen x else BitVec.ofNat 32 x)
    let cand := ((upto n).zip sc).filter (fun p => !(val32 p.2).isNan && decide (val32 p.2 ≠ .inf true))
    let cand := if 0 < sampleTopk f then topOf (sampleTopk f) cand else cand
    let best := if tv.isZero then bestOf cand else
      bestKey (cand.map (fun p => (p.1, sampleKey p.2 temp (m.genBits t g 16 0 p.1 p.1))))
    let m := if tv.isZero then m else m.genAdvance t g 16 n
    match best with
    | none => .ok ([(fD f, 0xFFFF_FFFF)], m.addCnt (CNT_SAMPLE_NONE t) 1)
    | some i => .ok ([(fD f, BitVec.ofNat 32 i)], m)

end Mod

end Sys2Proof.Machine
end

