-- ==== Sys2Proof/Machine/Exchange.lean ====
section
/-! DEFINITION. Compiled exchange (R210 to R248): records, the exchange list and XARM, votes and launch, the phase and its kerf, the words that leave and reach the ports, and the nodes. -/

namespace Sys2Proof.Machine

namespace Mod

/-! ## Records (R213 to R215) -/

def recDuration (m : Mod) (s n : Nat) : Nat := m.fld (XCH_RECORD s n 0) 44 20
def recKerf (m : Mod) (s n : Nat) : Nat := m.fld (XCH_RECORD s n 0) 32 12
def recLead (m : Mod) (s n : Nat) : Nat := m.fld (XCH_RECORD s n 0) 20 12
def recOffset (m : Mod) (s n : Nat) : Nat := m.fld (XCH_RECORD s n 0) 4 16
def recLast (m : Mod) (s n : Nat) : Bool := m.flag (XCH_RECORD s n 0) 3
def recCross (m : Mod) (s n : Nat) : Bool := m.flag (XCH_RECORD s n 0) 2
/-- MODE: 0 timed, 1 barrier, 2 hybrid. -/
def recMode (m : Mod) (s n : Nat) : Nat := m.fld (XCH_RECORD s n 0) 0 2
def recValid (m : Mod) (s n : Nat) : Bool := decide (n < 1024) && m.flag (XCH_RECORD s n 1) 63
def recSlipMax (m : Mod) (s n : Nat) : Nat := m.fld (XCH_RECORD s n 1) 16 8
def recGroup (m : Mod) (s n : Nat) : Nat := m.fld (XCH_RECORD s n 1) 0 16

/-- The checks of a record's word 0 at load (R214, R266). -/
def recordOk (w0 : W64) : Bool :=
  decide (bf w0 0 2 ≠ 3) && decide (bf w0 44 20 ≠ 0) && decide (48 ≤ bf w0 20 12) &&
  decide ((if bit w0 2 then 24 else 18) ≤ bf w0 32 12)

/-- A write of a word of the record table (R214): refused while a job runs, and checked when it leaves a VALID record changed or newly VALID. -/
def writeXchRecord (m : Mod) (s n : Nat) (high : Bool) (new : W64) : W16 × Mod :=
  let a := XCH_RECORD s n (if high then 1 else 0)
  if new = m.rd a then (0, m)
  else if m.jobRuns s then (0x0602, m)
  else
    let checked := if high then bit new 63 && !m.recValid s n else m.recValid s n
    let w0 := if high then m.rd (XCH_RECORD s n 0) else new
    if checked && !recordOk w0 then (0x0601, m) else (0, m.wr a new)

/-- The records of a step: a VALID run from record 0 ending in the first record with LAST; `n` bounds the search (R215). -/
def runEnd (m : Mod) (s k : Nat) : Nat → Option Nat
  | 0 => none
  | n + 1 => if !m.recValid s k then none else if m.recLast s k then some k else runEnd m s (k + 1) n
def recordRunOk (m : Mod) (s : Nat) : Bool := (m.runEnd s 0 1024).isSome

/-! ## The state of a partition's exchange (R245) -/

/-- XCH_STATUS.STATE: 0 IDLE (no record is to launch before the next step), 1 COMPUTE, 2 EXCHANGE, 3 KERF. -/
def xchState (m : Mod) (s : Nat) : Nat := m.fld (XCH_STATUS s) 0 4
def xchRecord (m : Mod) (s : Nat) : Nat := m.fld (XCH_STATUS s) 32 10
def setXch (m : Mod) (s st n : Nat) : Mod := m.wr (XCH_STATUS s) (BitVec.ofNat 64 (n % 1024 * 2 ^ 32 + st))
/-- The next record to launch. -/
def nextRecord (m : Mod) (s : Nat) : Nat :=
  let n := m.xchRecord s
  if m.xchState s = 2 ∨ m.xchState s = 3 then (if m.recLast s n then 0 else n + 1) else n
/-- A record of this step is still to launch. -/
def recordPending (m : Mod) (s : Nat) : Bool :=
  decide (m.xchState s = 1) || (decide (2 ≤ m.xchState s) && !m.recLast s (m.xchRecord s))
/-- The nominal launch mark of the next record (R215). -/
def nominalMark (m : Mod) (s : Nat) : Nat :=
  let n := m.nextRecord s
  (if n = 0 then (m.part s).stepMark.toNat else (m.rd (XCH_LAUNCH s)).toNat) + m.recOffset s n * m.markPeriod
/-- bt after the launch of the current phase. -/
def phaseBt (m : Mod) (s : Nat) : Nat := (m.count - m.rd (XCH_LAUNCH s)).toNat

/-! ## Destinations (R17, R19, R225, R227) -/

/-- The half that faces half `h` across the far-edge port of column `c`. -/
def farHalf (h c : Nat) : Option Nat :=
  let d := h / 2
  if c < 4 then
    (if h % 2 = 1 then (if d % 4 = 3 then none else some (2 * (d + 1))) else (if d % 4 = 0 then none else some (2 * (d - 1) + 1)))
  else if c < 6 then some (if d < 4 then h + 8 else h - 8)
  else none
/-- The halves that link die `j` attaches to (R19). -/
def portHalves : Nat → List Nat
  | 0 => [0, 8] | 1 => [7, 15] | 2 => [3, 4] | 3 => [11, 12] | 4 => [2, 10] | 5 => [5, 13] | _ => []

/-- A destination is of a form that is not reserved, its other bits zero. -/
def destForm (dest : Nat) : Bool :=
  let k := dest / 2 ^ 14
  if k = 0 then decide (dest / 2 ^ 11 % 8 = 0)
  else if k = 1 then decide (dest / 64 % 256 = 0) && decide (dest / 8 % 2 = 0)
  else if k = 2 then decide (dest / 8 % 2 ^ 11 = 0) && decide (dest % 8 < 6)
  else false
/-- A destination is not reserved and lies in the partition. -/
def destOk (m : Mod) (s h dest : Nat) : Bool :=
  let k := dest / 2 ^ 14
  destForm dest &&
  (if k = 0 then decide (dest % 2 ^ 11 < 160 * (m.diesOf s).length)
   else if k = 1 then
    (if dest / 32 % 2 = 1 ∧ dest / 16 % 2 = 1 then
      (match farHalf h (dest % 8) with | some g => decide (m.slotOfDie (g / 2) = some s) | none => false)
     else true)
   else (portHalves (dest % 8)).contains h)

/-! ## Nodes (R236 to R240): a table of entries of four words -/

/-- A compiled word at the input of a port or node: stream, lane, bt after launch, content (R219, R227). -/
structure WordArrival where
  stream : W16
  lane : Nat
  bt : Nat
  word : W256

/-- An entry of a node table as its four words. -/
structure NodeEntry where
  w0 : W64
  w1 : W64
  w2 : W64
  w3 : W64

end Mod

namespace Mod.NodeEntry

def valid (x : Mod.NodeEntry) : Bool := bit x.w0 63
def op (x : Mod.NodeEntry) : Nat := bf x.w0 60 3
def record (x : Mod.NodeEntry) : Nat := bf x.w0 50 10
def out (x : Mod.NodeEntry) : Nat := bf x.w0 32 16
def inA (x : Mod.NodeEntry) : Nat := bf x.w0 16 16
def inB (x : Mod.NodeEntry) : Nat := bf x.w0 0 16
def start (x : Mod.NodeEntry) : Nat := bf x.w1 44 20
def words (x : Mod.NodeEntry) : Nat := bf x.w1 24 20 + 1
def lane (x : Mod.NodeEntry) : Nat := bf x.w1 20 4
def lanes (x : Mod.NodeEntry) : Nat := bf x.w1 16 4 + 1
def dest (x : Mod.NodeEntry) : Nat := bf x.w1 0 16
def offB (x : Mod.NodeEntry) : W32 := x.w2.extractLsb' 32 32
def offA (x : Mod.NodeEntry) : W32 := x.w2.extractLsb' 0 32
/-- The last bt of the window (R240). -/
def last (x : Mod.NodeEntry) : Nat := x.start + x.words / x.lanes + bf x.w3 48 16 - 1
/-- The most lanes an entry may have in a node of the given width. -/
def width (x : Mod.NodeEntry) (w : Nat) : Nat := if x.op = 3 then 2 else w
/-- Does the entry name a stream as an input? -/
def names (x : Mod.NodeEntry) (st : Nat) : Bool := decide (x.inA = st) || (decide (x.op ≠ 0) && decide (x.inB = st))
/-- Two entries of one record use one output lane in overlapping windows. -/
def clash (x y : Mod.NodeEntry) : Bool :=
  decide (x.record = y.record) && decide (x.lane < y.lane + y.lanes) && decide (y.lane < x.lane + x.lanes) &&
  decide (x.start ≤ y.last) && decide (y.start ≤ x.last)

end Mod.NodeEntry

/-- A word of a stream whose segment ends at this port or node. -/
def FabricWord.isFor (w : FabricWord) (g : NodeId) (a : W16) : Bool := decide (w.goal = g) && decide (w.stream = a)

/-- The result of a node on two words (R236, R237). -/
def nodeCombine (x : Mod.NodeEntry) (a b : W256) : W256 :=
  let two := fun (w : Nat) (f : Nat → Nat → Nat) => (BitVec.ofNat 256 (packSlots w (List.zipWith f (slotsOf 256 w a.toNat) (slotsOf 256 w b.toNat))) : W256)
  let sum := fun (f : FloatFmt) (p q : Nat) => (Val.sum [f.decode p, f.decode q]).toIeee f
  let idx := fun (mx : Bool) (p q : Nat) =>
    let r := pickIdx mx (BitVec.ofNat 32 p, BitVec.ofNat 32 (p / 2 ^ 32) + x.offA) (BitVec.ofNat 32 q, BitVec.ofNat 32 (q / 2 ^ 32) + x.offB)
    r.1.toNat + 2 ^ 32 * r.2.toNat
  match x.op with
  | 0 => a
  | 1 => two 32 (sum fp32)
  | 2 => two 16 (sum bf16)
  | 3 => two 64 (sum fp64)
  | 4 => two 64 (idx true)
  | 5 => two 64 (idx false)
  | 6 => a ||| b
  | _ => a ^^^ b

namespace Mod

/-- Entry `n` of the node table (`edge` false) or edge table of a tile. -/
def tileNode (m : Mod) (t : Nat) (edge : Bool) (n : Nat) : NodeEntry :=
  let r := fun w => m.rd (if edge then XEDGE t n w else XNODE t n w)
  { w0 := r 0, w1 := r 1, w2 := r 2, w3 := r 3 }
/-- The VALID entries of a tile's table, with their numbers. -/
def tileNodes (m : Mod) (t : Nat) (edge : Bool) : List (Nat × NodeEntry) :=
  ((upto 128).map (fun n => (n, m.tileNode t edge n))).filter (fun p => p.2.valid)
def linkNode (m : Mod) (j n : Nat) : NodeEntry :=
  { w0 := m.rd (JC_NODES j n 0), w1 := m.rd (JC_NODES j n 1), w2 := m.rd (JC_NODES j n 2), w3 := m.rd (JC_NODES j n 3) }
def linkNodes (m : Mod) (j : Nat) : List (Nat × NodeEntry) :=
  ((upto 256).map (fun n => (n, m.linkNode j n))).filter (fun p => p.2.valid)

/-- An entry of a tile's table for a record names a stream as an input. -/
def nodeNames (m : Mod) (t : Nat) (edge : Bool) (n st : Nat) : Bool := (m.tileNodes t edge).any (fun p => decide (p.2.record = n) && p.2.names st)

/-! ## Segments (R22, R225 to R228): counts at routers in bt, two a hop -/

/-- The output lanes from column `c` to column `c2` along row `r` of half `h`, leaving at count `at_`. -/
def rowRun (h r c c2 lane at_ : Nat) : List LaneClaim :=
  (upto (max c c2 - min c c2)).map (fun i => { router := h * 88 + r * 8 + (if c < c2 then c + i else c - i), out := if c < c2 then 0 else 1, lane := lane, at_ := at_ + 2 * i })
/-- The output lanes from row `r` to row `r2` along column `c`. -/
def colRun (h c r r2 lane at_ : Nat) : List LaneClaim :=
  (upto (max r r2 - min r r2)).map (fun i => { router := h * 88 + (if r < r2 then r + i else r - i) * 8 + c, out := if r < r2 then 2 else 3, lane := lane, at_ := at_ + 2 * i })
/-- A run along the row and then along the column, and when it ends. -/
def meshRun (h r c r2 c2 lane at_ : Nat) : List LaneClaim × Nat :=
  let x := rowRun h r c c2 lane at_
  let y := colRun h c2 r r2 lane (at_ + 2 * x.length)
  (x ++ y, at_ + 2 * (x.length + y.length))
/-- The group in which a word reaches the Dovetail port of column `c2` (R226); a word of the port's own router joins group 0 (log entry 89). -/
def dovetailGroup (r c c2 : Nat) : Nat := if 0 < r ∨ c = c2 then 0 else if c < c2 then 1 else 2

/-- A run to the Dovetail port of column `c2` and, if `cross`, over it. -/
def dovetailRun (h r c c2 lane at_ : Nat) (cross : Bool) : List LaneClaim × Nat :=
  let x := meshRun h r c 0 c2 lane at_
  if cross then (x.1 ++ [{ router := h * 88 + c2, out := 4, lane := 16 * dovetailGroup r c c2 + lane, at_ := x.2 }], x.2 + 4) else x
/-- A run to the far-edge port of column `c2` and, if it crosses, over it in `cross` bt. -/
def farRun (h r c c2 lane at_ cross : Nat) : List LaneClaim × Nat :=
  let x := meshRun h r c 10 c2 lane at_
  if 0 < cross then (x.1 ++ [{ router := h * 88 + 80 + c2, out := 5, lane := lane, at_ := x.2 }], x.2 + cross) else x

/-- A segment from a router of half `h` at count `at_` to DEST (R227): the lanes it takes, and where and when it ends.  A word for a tile goes on to its receive port in 2 bt, but not when its node takes it.  None where no segment leads (log entry 89). -/
def route (m : Mod) (s n h r c lane at_ dest st : Nat) : List LaneClaim × Option (NodeId × Nat) :=
  let col := dest % 8
  match dest / 2 ^ 14 with
  | 0 =>
    let t := 160 * s + dest % 2 ^ 11
    let g := halfOfTile t
    let r2 := m.physTile t % 88 / 8
    if m.slotOfTile t ≠ some s ∨ g / 2 ≠ h / 2 then ([], none)
    else
      let x := if g = h then meshRun h r c r2 (t % 8) lane at_
        else
          let x := dovetailRun h r c (t % 8) lane at_ true
          let y := meshRun g 0 (t % 8) r2 (t % 8) lane x.2
          (x.1 ++ y.1, y.2)
      if m.nodeNames t false n st then (x.1, some (.tile t, x.2))
      else (x.1 ++ [{ router := m.physTile t, out := 6, lane := lane, at_ := x.2 }], some (.tile t, x.2 + 2))
  | 1 =>
    let facing := decide (dest / 32 % 2 = 1)
    if dest / 16 % 2 = 0 then
      let x := dovetailRun h r c col lane at_ facing
      (x.1, some (.edge (80 * (if facing then 2 * (h / 2) + (1 - h % 2) else h) + col), x.2))
    else if facing then
      match farHalf h col with
      | some g =>
        if m.slotOfDie (g / 2) = some s then
          let x := farRun h r c col lane at_ 12
          (x.1, some (.edge (80 * g + 72 + col), x.2))
        else ([], none)
      | none => ([], none)
    else
      let x := farRun h r c col lane at_ 0
      (x.1, some (.edge (80 * h + 72 + col), x.2))
  | _ =>
    if (portHalves (dest % 8)).contains h && m.flag (JC_CTL (dest % 8)) 1 && decide (m.fld (JC_CTL (dest % 8)) 2 3 = s) then
      let x := farRun h r c (if c = 7 then 7 else 6) lane at_ 8
      (x.1, some (.link (dest % 8), x.2))
    else ([], none)

/-- The far-edge node of a column of an attached half that takes an output of link die `j`: of the first half of R19 whose edge table names the stream, or else of the first in the partition (log entry 89). -/
def linkEdge (m : Mod) (s j col st : Nat) : Nat :=
  let l := ((portHalves j).filter (fun h => decide (m.slotOfDie (h / 2) = some s))).map (fun h => 80 * h + 72 + col)
  ((l.find? (fun t => m.nodeNames t true (m.xchRecord s) st)).or l.head?).getD 0

/-! ## XARM (R220) -/

/-- Two sends use one port lane in one bt. -/
def sendsClash (m : Mod) (t x y : Nat) : Bool :=
  (upto 16).any (fun l =>
    let on := fun d => decide (m.dLane t d ≤ l) && decide (l < m.dLane t d + m.dLanes t d) && decide (l - m.dLane t d < m.dWords t d)
    let ends := fun d => m.dStart t d + ceilDiv (m.dWords t d - (l - m.dLane t d)) (m.dLanes t d) - 1
    on x && on y && decide (m.dStart t x ≤ ends y) && decide (m.dStart t y ≤ ends x))

/-- Every pair of distinct members of a list, in order. -/
def pairs {α : Type} : List α → List (α × α)
  | [] => []
  | a :: r => r.map (fun b => (a, b)) ++ pairs r

def descOk (m : Mod) (s t dur : Nat) (recv : Bool) (d : Nat) : Bool :=
  m.dowelHolds t (m.dDowel t d) (if recv then [0] else [0, 1]) (m.dBase t d) (m.dWords t d) &&
  decide (m.dLanes t d ≤ 8) && decide (m.dLane t d + m.dLanes t d ≤ 16) && decide (m.dLast t d < dur) &&
  decide (m.dRecv t d = recv) && (recv || m.destOk s (halfOfTile t) (m.dDest t d))

/-- The node entries of one table that name record `n` are valid: lanes within the node, the window within the record, a destination that is not reserved, no lane used twice (R10, R240; log entry 46). -/
def nodesOk (l : List (Nat × NodeEntry)) (n w dur : Nat) : Bool :=
  let mine := (l.map (·.2)).filter (fun x => decide (x.record = n))
  mine.all (fun x => decide (x.lanes ≤ x.width w) && destForm x.dest && decide (x.last < dur)) &&
  !(pairs mine).any (fun p => p.1.clash p.2)

/-- The checks of XARM, in the order of R220. -/
def armCheck (m : Mod) (t e : Nat) : W16 :=
  let s := (m.slotOfTile t).getD 0
  let n := m.xlRecord t e
  let sends := m.xlSends t e
  let recvs := m.xlRecvs t e
  let row := t % 80 / 8
  if !m.xlValid t e || !m.recValid s n || decide (32 < sends.length) || decide (32 < recvs.length) ||
      (sends ++ recvs).any (fun d => decide (2047 < d)) then 0x0603
  else if !sends.all (m.descOk s t (m.recDuration s n) false) || !recvs.all (m.descOk s t (m.recDuration s n) true) ||
      (pairs sends).any (fun p => m.sendsClash t p.1 p.2) then 0x0604
  else if !nodesOk (m.tileNodes t false) n 8 (m.recDuration s n) || !nodesOk (m.tileNodes t true) n 16 (m.recDuration s n) ||
      (decide (row ≠ 0) && decide (row ≠ 9) && !(m.tileNodes t true).isEmpty) ||
      (m.tileNodes t false ++ m.tileNodes t true).any (fun p => decide (p.2.record = n) && recvs.any (fun d => p.2.names (m.dStream t d))) then 0x0605
  else if (m.tile t).xEntry.isSome ∨ n ≠ m.nextRecord s then 0x0606
  else 0

/-- The tile is armed for an entry. -/
def arm (m : Mod) (t e : Nat) : Mod :=
  (((m.modTile t (fun x => { clearPort x with xEntry := some e, xDone := x.xDone.erase e })).setF (XP_STATUS t) 32 10 e).setXp t 1).fillSend t

/-! ## The vote (R229, R230, R232, R233) -/

/-- The tile has a VALID entry naming record `n`. -/
def namesRecord (m : Mod) (t n : Nat) : Bool := (upto 1024).any (fun e => m.xlValid t e && decide (m.xlRecord t e = n))
/-- The tile is armed for record `n`; an entry whose kerf is over is not. -/
def armedFor (m : Mod) (t n : Nat) : Bool := match (m.tile t).xEntry with
  | some e => decide (m.xlRecord t e = n) && (m.tile t).xOver.isNone
  | none => false
/-- No thread of the tile can still issue. -/
def noIssue (m : Mod) (t : Nat) : Bool :=
  (upto 4).all (fun n => match (m.thread t n).st with
    | .off => true | .ended => true | .trapped => true | .stopped => true | _ => false)
/-- The tile cannot arm an entry naming record `n` (R230): its enable is clear, or it is unarmed and no thread can issue. -/
def cannotArm (m : Mod) (t n : Nat) : Bool :=
  m.namesRecord t n && (!m.tileEnabled t || (!m.armedFor t n && m.noIssue t))
/-- The tile votes ready (R229). -/
def votesReady (m : Mod) (t n : Nat) : Bool := (m.armedFor t n || !m.namesRecord t n) && !m.cannotArm t n

/-- A tile that votes not ready counts once for the record. -/
def countLate (m : Mod) (s t n : Nat) : Mod :=
  if (m.part s).afterHalt ∨ (m.tile t).xLateRec = some n then m
  else (m.addCnt (CNT_XLATE t) 1).modTile t (fun x => { x with xLateRec := some n })

/-- A CROSS record has a node entry on a port that is not ACTIVE (R428), or the Beacon's holdover forbids it (R259). -/
def crossBlocked (m : Mod) (s n : Nat) : Bool :=
  m.crossLost || (upto 6).any (fun j => !m.portActive j && m.flag (JC_CTL j) 1 && decide (m.fld (JC_CTL j) 2 3 = s) &&
    (m.linkNodes j).any (fun p => decide (p.2.record = n)))

/-- LAUNCH_VOTE at the deadline of a mark: the count plus ARM_LEAD_BT is a mark, at or after the nominal one, that has no vote yet. -/
def voteDue (m : Mod) (s : Nat) : Bool :=
  let n := m.nextRecord s
  let k := m.count.toNat + m.recLead s n
  m.jobRuns s && m.running && !m.halted && m.recordPending s && decide (k % m.markPeriod = 0) && decide (m.nominalMark s ≤ k) &&
  !(m.voteOf s 1 (BitVec.ofNat 32 k)).sent

def launchVote (m : Mod) (s : Nat) : Mod :=
  let n := m.nextRecord s
  let k : W32 := BitVec.ofNat 32 (m.count.toNat + m.recLead s n)
  let late := (m.tilesOf s).filter (fun t => !m.votesReady t n)
  let stuck := late.filter (fun t => m.cannotArm t n)
  let m := forEach m (late.filter (fun t => !m.cannotArm t n)) (fun m t => m.countLate s t n)
  let cross := m.recCross s n
  let ready := late.isEmpty && !(cross && m.crossBlocked s n)
  let m := if cross && decide (1 < m.jobModules s) then m.startVote s 1 (m.recGroup s n) k (if ready then 1 else 0)
    else m.setVoteOf s 1 k { sent := true, count := 1, flags := if ready then 1 else 0, at_ := m.pausedCount }
  if !stuck.isEmpty && !m.stepFatal s then m.raise { code := 0x062B, slot := some s, kind := 0x0B, unit := s } else m

/-! ## Launch (R231 to R233, R241) -/

/-- The phase of record `n` starts at this mark; vote 1 is taken, and the tally compared, at the launch of VOTE1_RECORD (R383, R545). -/
def beginPhase (m : Mod) (s n : Nat) : Mod :=
  let m := (m.setXch s 2 n).wr (XCH_LAUNCH s) m.count
  let m := m.modPart s (fun p => { p with afterHalt := false, slips := 0, launches := [], laneFaults := [], claims := p.claims.filter (fun c => decide (m.count.toNat ≤ c.at_)) })
  let m := forEach m (upto 6) (fun m j =>
    if m.flag (JC_CTL j) 1 && decide (m.fld (JC_CTL j) 2 3 = s) then
      m.setPort j { m.port j with nodeQ := [], nodeCount := [], xFaults := [] } else m)
  let m := forEach m (m.tilesOf s) (fun m t =>
    let m := m.modTile t (fun x => { x with nodeQ := [], nodeCount := [], xFaults := [], xLateRec := none })
    if m.armedFor t n then m.setXp t 2 else m)
  if n = m.vote1Record s ∧ (m.part s).vote1.sent = false then (m.takeVote1 s).tally s else m

/-- A vote at this mark that fails: what MODE says, unless the step has failed or the module has resumed from a halt. -/
def failVote (m : Mod) (s n : Nat) : Mod :=
  if m.stepFatal s ∨ (m.part s).afterHalt then m
  else match m.recMode s n with
    | 0 => m.raise { code := 0x0625, slot := some s, kind := 0x0B, unit := s }
    | 1 => m.addCnt (CNT_BARRIER_MARKS s) 1
    | _ =>
      if 0 < m.recSlipMax s n ∧ m.recSlipMax s n ≤ (m.part s).slips then m.raise { code := 0x0626, slot := some s, kind := 0x0B, unit := s }
      else (m.addCnt (CNT_SLIP s) 1).modPart s (fun p => { p with slips := p.slips + 1 })

/-- PHASE_LAUNCH at a mark that has a vote. -/
def launchPhase (m : Mod) (s : Nat) : Mod :=
  let n := m.nextRecord s
  let v := m.voteOf s 1 (m.count.truncate 32)
  if !(m.jobRuns s && m.atMark && !m.halted && m.recordPending s && v.sent) then m
  else
    let m := m.setVoteOf s 1 (m.count.truncate 32) {}
    let need := if m.recCross s n && decide (1 < m.jobModules s) then m.groupMembers s (m.recGroup s n) else 1
    if v.count ≠ need then
      (if m.stepFatal s then m else m.raise { code := 0x062A, slot := some s, kind := 0x0B, unit := s })
    else if bit v.flags 0 && decide (m.xchState s = 1) && !m.stepFatal s && !m.fatalStopped then m.beginPhase s n
    else m.failVote s n

/-- PHASE_END: DURATION_BT after the launch (R210). -/
def endPhase (m : Mod) (s : Nat) : Mod :=
  let n := m.xchRecord s
  if m.xchState s = 2 ∧ m.recDuration s n ≤ m.phaseBt s then
    forEach (m.setXch s 3 n) (m.tilesOf s) (fun m t => if m.armedFor t n && decide (m.fld (XP_STATUS t) 0 4 = 2) then m.setXp t 3 else m)
  else m

/-- KERF_END: the kerf of R235 has elapsed, and the entries whose received words are written are released (R223). -/
def endKerf (m : Mod) (s : Nat) : Mod :=
  let n := m.xchRecord s
  let kerf := m.recDuration s n + m.recKerf s n + m.fld (XCH_CTL s) 0 12
  let shut := (m.rd (XCH_LAUNCH s)).toNat + kerf
  if m.xchState s = 3 ∧ kerf ≤ m.phaseBt s then
    let m := if m.recLast s n then m.setXch s 0 0 else m.setXch s 1 (n + 1)
    forEach m (m.tilesOf s) (fun m t => if m.armedFor t n then (m.drainRecv t).overKerf t shut else m)
  else m

/-! ## Words at the ports (R221, R222, R239) -/

/-- An offending word at unit `unit` of a tile (0 port, 1 node, 2 edge node): counted always, raised once for each unit and stream in a phase.  A port shows the scratchpad byte address of the word, a node its router's place, carrier and lane (R239, R541). -/
def tileFault (m : Mod) (t unit : Nat) (code : W16) (stream loc : Nat) : Mod :=
  let m := m.addCnt (CNT_XFAULT t) 1
  let key := (code.toNat, unit * 65536 + stream)
  if (m.tile t).xFaults.contains key then m
  else
    let m := (m.modTile t (fun x => { x with xFaults := key :: x.xFaults })).setXp t 4
    if unit = 0 then m.raiseTile t code loc
    else (m.setF (TILE_STATUS t) 48 16 code.toNat).raise { code := code, slot := m.slotOfTile t, kind := 5, unit := halfOfTile t, loc := m.physTile t % 88 + loc }

/-- The tile's phase runs. -/
def tileInPhase (m : Mod) (t : Nat) : Bool := match m.slotOfTile t with
  | some s => decide (m.xchState s = 2)
  | none => false

/-- A word joins those on their way, in order of count and lane. -/
def sendOff (m : Mod) (s : Nat) (w : FabricWord) : Mod :=
  let after := fun (x : FabricWord) => decide (x.due < w.due) || (decide (x.due = w.due) && decide (x.lane ≤ w.lane))
  m.modPart s (fun p => { p with words := p.words.takeWhile after ++ w :: p.words.dropWhile after })

/-- The router at a physical tile position refuses a lane that another word has: 0x0623, counted at the logical tile there, if any (R226, R239). -/
def claimFault (m : Mod) (s : Nat) (c : LaneClaim) (stream : Nat) : Mod :=
  let m := match m.logicalOf c.router with | some t => m.addCnt (CNT_XFAULT t) 1 | none => m
  if (m.part s).laneFaults.contains (c.router, stream) then m
  else (m.modPart s (fun p => { p with laneFaults := (c.router, stream) :: p.laneFaults })).raise
    { code := 0x0623, slot := some s, kind := 5, unit := c.router / 88, loc := c.router % 88 + 256 * (if c.out = 4 then 1 else if c.out = 5 then (if c.router % 8 < 6 then 2 else 3) else 0) + 65536 * c.lane }

/-- A word takes its lanes hop by hop; the later claimant of a lane goes no further (R226). -/
def claimLanes (m : Mod) (s stream : Nat) : List LaneClaim → Bool × Mod
  | [] => (true, m)
  | c :: r =>
    if (m.part s).claims.contains c then (false, m.claimFault s c stream)
    else claimLanes (m.modPart s (fun p => { p with claims := c :: p.claims })) s stream r

/-- A word starts a segment: its lanes are claimed and it is on its way.  A destination to which no segment leads loses it (log entry 89). -/
def startWord (m : Mod) (s : Nat) (r : List LaneClaim × Option (NodeId × Nat)) (stream : W16) (lane : Nat) (w : W256) : Mod :=
  let x := m.claimLanes s stream.toNat r.1
  match x.1, r.2 with
  | true, some (g, due) => x.2.sendOff s { goal := g, stream := stream, lane := lane, due := due, word := w }
  | _, _ => x.2

/-- XCH_SEND_WORD: word `n` of send descriptor `d` leaves its port at its bt, or is missing there (R221, R222). -/
def sendWord (m : Mod) (t d n : Nat) : Mod := match (m.tile t).xEntry, m.slotOfTile t with
  | some e, some s =>
    let bt := m.dStart t d + n / m.dLanes t d
    if !(m.tileInPhase t && m.armedFor t (m.xchRecord s) && (m.xlSends t e).contains d && decide (n < m.dWords t d) &&
        decide (streamWords (m.tile t).xSend d = n) && decide (bt ≤ m.phaseBt s)) then m
    else
      let m := m.fillSend t
      let hit := (m.tile t).xBuf.find? (fun x => decide (x.desc = d) && decide (x.num = n))
      let m := m.modTile t (fun x => { x with xSend := bumpStream x.xSend d, xBuf := x.xBuf.filter (fun y => !(decide (y.desc = d) && decide (y.num = n))) })
      match decide (bt = m.phaseBt s), hit with
      | true, some w =>
        let lane := m.dLane t d + n % m.dLanes t d
        let r := m.route s (m.xchRecord s) (halfOfTile t) (m.physTile t % 88 / 8) (t % 8) lane (m.count.toNat + 2) (m.dDest t d) (m.dStream t d)
        (m.addCnt (CNT_XSENT t) 1).startWord s r (BitVec.ofNat 16 (m.dStream t d)) lane w.word
      | _, _ => m.tileFault t 0 0x0621 (m.dStream t d) (m.dowelAddr t (m.dDowel t d) (m.dBase t d + n))
  | _, _ => m

/-- The first word on its way that satisfies a test, if it can have come: a word is at most the skew of 2 bt early, and not later than it (R228, R257). -/
def takeWord (m : Mod) (s : Nat) (f : FabricWord → Bool) : Option (WordArrival × Mod) :=
  match (m.part s).words.find? f with
  | none => none
  | some w =>
    if m.count.toNat + 2 < w.due then none
    else some ({ stream := w.stream, lane := w.lane, bt := min m.count.toNat (w.due + 2) - (m.rd (XCH_LAUNCH s)).toNat, word := w.word },
      m.modPart s (fun p => { p with words := p.words.erase w }))

/-- A word at the receive port of a tile (R219, R221, R222, R239). -/
def recvWord (m : Mod) (t : Nat) (a : WordArrival) : Mod :=
  let rs := match (m.tile t).xEntry with
    | some e => if m.tileInPhase t && m.armedFor t (m.xchRecord ((m.slotOfTile t).getD 0)) then m.xlRecvs t e else []
    | none => []
  match rs.find? (fun d => decide (m.dStream t d = a.stream.toNat)) with
  | none => m.tileFault t 0 0x0624 a.stream.toNat 0
  | some d =>
    let i := streamWords (m.tile t).xRecv d
    if a.bt < m.dStart t d ∨ m.dLast t d < a.bt ∨ m.dWords t d ≤ i then m.tileFault t 0 0x0624 a.stream.toNat 0
    else
      let m := (m.modTile t (fun x => { x with xRecv := bumpStream x.xRecv d })).drainRecv t
      if portDepth ≤ (m.tile t).xIn.length then m.tileFault t 0 0x0622 a.stream.toNat (m.dowelAddr t (m.dDowel t d) (m.dBase t d + i))
      else ((m.addCnt (CNT_XRECV t) 1).modTile t (fun x => { x with xIn := x.xIn ++ [{ desc := d, num := i, word := a.word }] })).drainRecv t

/-! ## Words at a node (R236, R237, R239) -/

/-- What a node does with an arriving word: an offence with its code, nothing yet, or an output word. -/
inductive NodeResult where
  | offence (code : W16)
  | held
  | output (x : NodeEntry) (i bt : Nat) (w : W256)

/-- A word at a node: its entry among `l` for record `n`, its number within its stream, and the operand of its partner among `q`. -/
def nodeWord (l : List (Nat × NodeEntry)) (n : Nat) (q : List NodeOperand) (cnt : List (Nat × Nat)) (a : WordArrival) :
    NodeResult × List NodeOperand × List (Nat × Nat) :=
  match l.find? (fun p => decide (p.2.record = n) && p.2.names a.stream.toNat) with
  | none => (.offence 0x0624, q, cnt)
  | some (k, x) =>
    let isB := !decide (x.inA = a.stream.toNat)
    let key := 2 * k + (if isB then 1 else 0)
    let i := Sparse.get (fun _ => 0) cnt key
    if a.bt < x.start ∨ x.last < a.bt ∨ x.words ≤ i then (.offence 0x0624, q, cnt)
    else
      let cnt := Sparse.put (fun _ => 0) cnt key (i + 1)
      if x.op = 0 then (.output x i (a.bt + 3) a.word, q, cnt)
      else match q.find? (fun o => decide (o.entry = k) && decide (o.idx = i) && decide (o.isB ≠ isB)) with
        | none => (.held, q ++ [{ entry := k, idx := i, isB := isB, bt := a.bt, word := a.word }], cnt)
        | some o =>
          let q := q.erase o
          if o.bt + 16 < a.bt ∨ a.bt + 16 < o.bt then (.offence 0x0629, q, cnt)
          else (.output x i (max a.bt o.bt + 3) (if isB then nodeCombine x o.word a.word else nodeCombine x a.word o.word), q, cnt)

/-- The part of LOCATION that a node of a tile adds to its router's place: the carrier of an edge node, and the lane (R541). -/
def nodeLoc (t lane : Nat) (edge : Bool) : Nat :=
  65536 * lane + 256 * (if !edge then 0 else if t % 80 < 8 then 1 else if t % 8 < 6 then 2 else 3)

/-- A word at the node or edge node of a tile (R239). -/
def tileNodeWord (m : Mod) (s t : Nat) (edge : Bool) (a : WordArrival) : Mod :=
  let unit := if edge then 2 else 1
  if m.xchState s ≠ 2 then m.tileFault t unit 0x0624 a.stream.toNat (nodeLoc t a.lane edge)
  else
    let tl := m.tile t
    let q := (tl.nodeQ.filter (fun p => decide (p.1 = edge))).map (·.2)
    let base := if edge then 1024 else 0
    let cnt := (tl.nodeCount.filter (fun p => decide (p.1 / 1024 * 1024 = base))).map (fun p => (p.1 - base, p.2))
    let r := nodeWord (m.tileNodes t edge) (m.xchRecord s) q cnt a
    let m := m.setTile t { tl with
      nodeQ := tl.nodeQ.filter (fun p => decide (p.1 ≠ edge)) ++ r.2.1.map (fun o => (edge, o))
      nodeCount := tl.nodeCount.filter (fun p => decide (p.1 / 1024 * 1024 ≠ base)) ++ r.2.2.map (fun p => (p.1 + base, p.2)) }
    match r.1 with
    | .offence c => m.tileFault t unit c a.stream.toNat (nodeLoc t a.lane edge)
    | .held => m
    | .output x i bt w =>
      let lane := (x.lane + i % x.lanes) % 16
      let row := if !edge then m.physTile t % 88 / 8 else if t % 80 < 8 then 0 else 10
      (m.addCnt (CNT_XCOMB t) 1).startWord s
        (m.route s (m.xchRecord s) (halfOfTile t) row (t % 8) lane ((m.rd (XCH_LAUNCH s)).toNat + bt) x.dest x.out) (BitVec.ofNat 16 x.out) lane w

/-- An offending word at the node of a link die (R239, R436). -/
def linkFault (m : Mod) (s j : Nat) (code : W16) (a : WordArrival) : Mod :=
  let m := m.addCnt (JC_CNT j 11) 1
  let key := (code.toNat, a.stream.toNat)
  if (m.port j).xFaults.contains key then m
  else (m.setPort j { m.port j with xFaults := key :: (m.port j).xFaults }).raise (m.portErr j code (some s) a.lane)

/-- A word at the node of a link die (R419): an output for the port joins the words of its compiled slots, another goes to the far-edge node of an attached half. -/
def linkNodeWord (m : Mod) (j : Nat) (a : WordArrival) : Mod :=
  let s := m.fld (JC_CTL j) 2 3
  if !m.flag (JC_CTL j) 1 then m
  else if m.xchState s ≠ 2 then m.linkFault s j 0x0624 a
  else
    let p := m.port j
    let r := nodeWord (m.linkNodes j) (m.xchRecord s) p.nodeQ p.nodeCount a
    let m := m.setPort j { p with nodeQ := r.2.1, nodeCount := r.2.2 }
    match r.1 with
    | .offence c => m.linkFault s j c a
    | .held => m
    | .output x i bt w =>
      let lane := x.lane + i % x.lanes
      if x.dest / 2 ^ 14 = 2 then
        m.setPort j { m.port j with compiledOut := (m.port j).compiledOut ++ [{ b := bt, lane := lane, stream := BitVec.ofNat 16 x.out, word := w }] }
      else m.startWord s ([], some (.edge (m.linkEdge s j (x.dest % 8) x.out), (m.rd (XCH_LAUNCH s)).toNat + bt + 8)) (BitVec.ofNat 16 x.out) lane w

/-- A word for the tile goes to its node when a node entry of the record names its stream (R227). -/
def toNode (m : Mod) (s t : Nat) (w : FabricWord) : Bool := m.nodeNames t false (m.xchRecord s) w.stream.toNat

/-- XCH_RECV_WORD: the next word of a stream for the receive port of a tile comes. -/
def portArrival (m : Mod) (t : Nat) (a : W16) : Mod := match m.slotOfTile t with
  | none => m
  | some s => match m.takeWord s (fun w => w.isFor (.tile t) a && !m.toNode s t w) with
    | some (x, m) => m.recvWord t x
    | none => m

/-- NODE_WORD_COMBINE: the next word of a stream for a node comes. -/
def nodeArrival (m : Mod) (g : NodeId) (a : W16) : Mod := match g with
  | .tile t => (match m.slotOfTile t with
    | none => m
    | some s => match m.takeWord s (fun w => w.isFor (.tile t) a && m.toNode s t w) with
      | some (x, m) => m.tileNodeWord s t false x
      | none => m)
  | .edge t => (match m.slotOfTile t with
    | none => m
    | some s => match m.takeWord s (fun w => w.isFor (.edge t) a) with
      | some (x, m) => m.tileNodeWord s t true x
      | none => m)
  | .link j => (match m.takeWord (m.fld (JC_CTL j) 2 3) (fun w => w.isFor (.link j) a) with
    | some (x, m) => m.linkNodeWord j x
    | none => m)

end Mod

/-! ## Meanings -/

/-- XARM (R220, R122). -/
def execXarm (t th : Nat) (f : BitVec 56) (s : State) : Host.Outcome State Fault Refusal :=
  onIssue s t th [] (only (fm 40 16) f && decide (bf f 40 16 < 1024)) (fun _ m =>
    let c := m.armCheck t (bf f 40 16)
    if c = 0 then .go (m.arm t (bf f 40 16)) else .trap m 0x032F c)
/-- XWAIT (R223). -/
def execXwait (t th : Nat) (f : BitVec 56) (s : State) : Host.Outcome State Fault Refusal :=
  onIssue s t th [] (only (fm 40 16) f && decide (bf f 40 16 < 1024)) (fun _ m =>
    if (m.tile t).xDone.contains (bf f 40 16) then .go m else .wait m (.exchange (bf f 40 16)))
/-- LAUNCH_VOTE (R229). -/
def execLaunchVote (slot : Nat) (s : State) : Host.Outcome State Fault Refusal :=
  onSlot s slot (fun m => if m.voteDue slot then m.launchVote slot else m)
/-- PHASE_LAUNCH (R231, R232). -/
def execPhaseLaunch (slot : Nat) (s : State) : Host.Outcome State Fault Refusal := onSlot s slot (fun m => m.launchPhase slot)
/-- PHASE_END (R210). -/
def execPhaseEnd (slot : Nat) (s : State) : Host.Outcome State Fault Refusal := onSlot s slot (fun m => m.endPhase slot)
/-- KERF_END (R223, R235). -/
def execKerfEnd (slot : Nat) (s : State) : Host.Outcome State Fault Refusal := onSlot s slot (fun m => m.endKerf slot)
/-- XCH_SEND_WORD (R221). -/
def execXchSendWord (t desc n : Nat) (s : State) : Host.Outcome State Fault Refusal := onTile s t (fun m => m.sendWord t desc n)
/-- XCH_RECV_WORD (R221). -/
def execXchRecvWord (t : Nat) (a : W16) (s : State) : Host.Outcome State Fault Refusal := onTile s t (fun m => m.portArrival t a)
/-- NODE_WORD_COMBINE (R236, R240, R419). -/
def execNodeWordCombine (node : NodeId) (a : W16) (s : State) : Host.Outcome State Fault Refusal :=
  match node with
  | .tile t => onTile s t (fun m => m.nodeArrival (.tile t) a)
  | .edge t => onTile s t (fun m => m.nodeArrival (.edge t) a)
  | .link j => onPort s j (fun m => m.nodeArrival (.link j) a)

end Sys2Proof.Machine
end

