-- ==== Sys2Proof/Machine/StepBlock.lean ====
section
/-! DEFINITION. The step block (R383 to R401): settling, the two decisions, rollback, timeouts, the steering log and its view. -/

namespace Sys2Proof.Machine

namespace Mod

/-! ## Settling and decisions (R383 to R385) -/

/-- The VALID shards of the partition's planes, as stack and entry. -/
def validShards (m : Mod) (s : Nat) : List (Nat × Nat) :=
  (m.stacksOf s).flatMap (fun k => ((upto 256).filter (fun e => m.shardValid k e)).map (fun e => (k, e)))

/-- SETTLE_EXPECT and STEER_MODE (R399). -/
def settleExpect (m : Mod) (s : Nat) : Nat := m.fld (STEP_CFG1 s) 0 16
def steerFollow (m : Mod) (s : Nat) : Bool := m.flag (STEP_CFG1 s) 16

/-- The partition has settled. -/
def settled (m : Mod) (s : Nat) : Bool :=
  (m.validShards s).all (fun p => [4, 5, 6].contains (m.shardState p.1 p.2)) &&
  decide (m.settleExpect s ≤ (m.buoy (m.settleBuoy s)).value.toNat % 2 ^ 16)

/-- A buoy that the step block sets: LAST_SRC 0 (R385). -/
def setStepBuoy (m : Mod) (b v : Nat) : Mod := m.buoySetBy b (BitVec.ofNat 32 v) 0

/-- Decision 1: gates, and UPDATE or ROLLBACK. -/
def decide1 (m : Mod) (s : Nat) : Mod :=
  if m.jobRuns s && decide (m.stepPhase s = 2) && m.voteComplete s 2 then
    let f := (m.part s).vote1.flags
    let fatal := bit f 1
    let m := m.setStepBuoy (m.repGateBuoy s) (if fatal || bit f 0 then 2 else 1)
    let m := m.setStepBuoy (m.locGateBuoy s) (if fatal then 2 else 1)
    (m.modPart s (fun p => { p with decision1At := m.pausedCount })).setStepPhase s (if fatal then 6 else 3)
  else m

/-! ## Steering (R392 to R397) -/

/-- The partition address of log entry `i`. -/
def logAt (m : Mod) (s i : Nat) : Nat := m.steerBase s + 2048 * (1 + i % m.logEntries s)
def logEntry (m : Mod) (s i : Nat) : List Byte := m.ldHbm s (m.logAt s i) 2048

/-- The layers of an entry against LAYER_POLICY and the entry in effect. -/
def layersOk (policy now before : List Byte) : Bool :=
  (upto 1024).all (fun l =>
    let p := num policy l 1
    let x := num now (0x100 + l) 1
    decide (x < 8) && decide (p % 4 ≤ x % 4) && decide (x % 4 ≤ p / 4 % 4) &&
    (decide (p / 32 % 2 = 1) || decide (x % 4 = num before (0x100 + l) 1 % 4)))

/-- The conditions of R395 on entry bytes. -/
def steerEntryOk (m : Mod) (s : Nat) (b : List Byte) : Bool :=
  let kerf := num b 0x12 2
  decide (num b 0x10 1 < 8) && zeros b 0x11 1 && (decide (kerf < 4096) || decide (kerf = 0xFFFF)) && zeros b 0x18 8 &&
  zeros b 0x50 176 && zeros b 0x500 768 &&
  (upto 16).all (fun i => let f := num b (0x20 + i) 1
    decide (f = 0) || (decide (50 ≤ f) && decide (f ≤ 140) && decide (m.slotOfDie (i / 2) = some s))) &&
  layersOk (m.ldHbm s (m.steerBase s + 0x100) 1024) b (m.logEntry s (m.rd (STEER_INDEX s)).toNat) &&
  decide (num b 0 8 = (m.rd (STEP_NUM s)).toNat + 1)

/-- The hardware part: KERF_MARGIN_BT and FREQ go into the staged copies, and the idle PLLs start toward the new frequencies (R262, R395). -/
def stageSteer (m : Mod) (s : Nat) (b : List Byte) : Mod :=
  let kerf := num b 0x12 2
  let m := if kerf = 0xFFFF then m else m.stage (XCH_CTL s) (setBf (m.stagedWord (XCH_CTL s)) 0 12 kerf)
  forEach m (upto 16) (fun m i =>
    let f := num b (0x20 + i) 1
    if f = 0 then m else (m.stage (HALF_CLK i) (setBf (m.stagedWord (HALF_CLK i)) 0 8 f)).retarget i)

/-- An entry is taken: the hardware part at once, the numeric part as `ok` says. -/
def takeSteer (m : Mod) (s i : Nat) (b : List Byte) (ok : Bool) : Mod :=
  (m.stageSteer s b).modPart s (fun p => { p with steerOk := ok, steerNew := some i })

/-- STEER_ENTRY_CHECK: the entry that STEER_PEND_BUOY names is read (R395). -/
def checkSteer (m : Mod) (s : Nat) : Mod :=
  if m.jobRuns s && !m.steerFollow s && m.buoyLive (m.steerPendBuoy s) then
    let now := (m.rd (STEER_INDEX s)).toNat
    let i := now + ((m.buoy (m.steerPendBuoy s)).value - BitVec.ofNat 32 now).toNat
    let b := m.logEntry s i
    if m.steerEntryOk s b then m.takeSteer s i b true else m.raiseStepBlock s 0x0B24
  else m

/-- Follow mode at vote 2: the log's applied entry for the next step (R397). -/
def followSteer (m : Mod) (s : Nat) : Mod :=
  if !m.steerFollow s then m
  else match (upto (m.logEntries s)).find? (fun k =>
      let b := m.logEntry s k
      decide (num b 0 8 = (m.rd (STEP_NUM s)).toNat + 1) && decide (num b 0x10 1 / 2 % 2 = 1)) with
    | none => m
    | some k =>
      let b := m.logEntry s k
      m.takeSteer s (num b 8 8) b (decide (num b 0x10 1 / 4 % 2 = 1))

/-- The steering entry at the step boundary mark of a step that was not rolled back (R396): the numeric part when every module's STEER_OK was 1. -/
def applySteer (m : Mod) (s : Nat) : Mod :=
  let all := bit (m.part s).vote2.flags 2
  let m := if all then m else m.addCnt (CNT_STEER_LATE s) 1
  match (m.part s).steerNew with
  | none => m
  | some i =>
    let b := m.logEntry s i
    let m := m.wr (STEER_INDEX s) (BitVec.ofNat 64 i)
    let f := num b 0x10 1 % 2 + (if (m.part s).lampAsk && num b 0x10 1 % 2 == 0 then 1 else 0) + 2 + (if all then 4 else 0)
    let m := m.stHbm s (m.logAt s i + 0x10) (bytesOf 1 f)
    let m := m.modPart s (fun p => { p with steerNew := none, steerOk := false, lampAsk := false, lampRun := p.lampAsk })
    if all then
      let m := forEach m (m.stacksOf s) (fun m k => forEach m (upto 8) (fun m r =>
        let g := num b (0x30 + 4 * r) 4
        if g = 0 then m else m.setF (RULE k r 0) 32 32 g))
      m.setStepBuoy (m.steerBuoy s) (i % 2 ^ 32)
    else m

/-- STEER_PUSH: the staged entry goes to the next log slot, and STEER_PEND_BUOY is set (R398). -/
def pushSteer (m : Mod) (s : Nat) : Mod :=
  let i := (m.rd (STEER_INDEX s)).toNat + 1
  let m := m.stHbm s (m.logAt s i) ((upto 256).flatMap (fun w => bytesOf 8 (m.rd (STEER_STAGE s w)).toNat))
  m.setStepBuoy (m.steerPendBuoy s) (i % 2 ^ 32)

/-! ## The view (R398) -/

/-- ⌊log2 x⌋ as a signed byte: −128 for zero, 127 for non-finite values. -/
def bucketOf (v : Val) : Nat :=
  match v with
  | .fin _ m e => if m = 0 then 0x80 else (max (-127) (min 126 ((Nat.log2 m : Int) + e)) % 256).toNat
  | _ => 127
/-- The bucket of a quotient. -/
def bucketQuot (a b : Val) : Nat :=
  match a, b with
  | .fin _ m e, .fin _ n f =>
    if m = 0 ∨ n = 0 then 0x80
    else
      let k : Int := (Nat.log2 m : Int) - Nat.log2 n
      let k := if 0 ≤ k then (if n * 2 ^ k.toNat ≤ m then k else k - 1) else (if n ≤ m * 2 ^ (-k).toNat then k else k - 1)
      (max (-127) (min 126 (k + e - f)) % 256).toNat
  | _, _ => 127
/-- The bucket of a square root. -/
def bucketRoot (v : Val) : Nat :=
  match v with
  | .fin _ m e => if m = 0 then 0x80 else (max (-127) (min 126 (((Nat.log2 m : Int) + e) / 2)) % 256).toNat
  | _ => 127

/-- The 16 bytes of a layer: overflow, vanish and deviation of roles 0 to 3, the three norms, NONFIN. -/
def layerView (m : Mod) (s nums norms l : Nat) : List Byte :=
  let f := fun (r k : Nat) => val64 (num (m.ldHbm s (nums + 256 * l + 64 * r + 8 * k) 8) 0 8)
  let g := fun (k : Nat) => val64 (num (m.ldHbm s (norms + 32 * l + 8 * k) 8) 0 8)
  let by4 := fun (h : Nat → Nat) => (upto 4).flatMap (fun r => bytesOf 1 (h r))
  by4 (fun r => bucketOf (f r 1)) ++ by4 (fun r => bucketOf (f r 2)) ++
  by4 (fun r => bucketQuot (f r 5) (f r 4)) ++
  (upto 3).flatMap (fun k => bytesOf 1 (bucketRoot (g k))) ++
  bytesOf 1 (if (upto 4).any (fun r => !(f r 3).isZero) then 1 else 0)

/-- FINAL: STEER_VIEW from the summaries, and STEER_VIEW_G (R398). -/
def fillView (m : Mod) (s : Nat) : Mod :=
  let base := m.steerBase s
  let p := m.ldHbm s base 0x50
  let nums := num p 0x38 8
  let norms := num p 0x40 8
  let loss := val32 (BitVec.ofNat 32 (num (m.ldHbm s (num p 0x48 8) 4) 0 4))
  let old := fun (l : List (Nat × Nat)) t => Sparse.get (fun _ => 0) l t
  let grow := (m.tilesOf s).foldl (fun g t => max g ((m.rd (CNT_XDRAIN_LATE t)).toNat - old (m.part s).xdrain0 t)) 0
  let late := (m.tilesOf s).foldl (fun (h : W16) t =>
    if old (m.part s).xlate0 t < (m.rd (CNT_XLATE t)).toNat then setBit h (halfOfTile t) true else h) 0
  let m := m.wr (STEER_VIEW_G s) (BitVec.ofNat 64 (bucketOf loss + min grow 4095 * 2 ^ 16 + late.toNat * 2 ^ 32))
  forEach m (upto 1024) (fun m l =>
    let b := m.layerView s nums norms l
    (m.wr (STEER_VIEW s (2 * l)) (BitVec.ofNat 64 (num b 0 8))).wr (STEER_VIEW s (2 * l + 1)) (BitVec.ofNat 64 (num b 8 8)))

/-! ## Settle, decision 2, rollback, timeouts -/

/-- STEP_SETTLE: the partition settles and vote 2 is taken (R383, R399). -/
def settleStep (m : Mod) (s : Nat) : Mod :=
  if m.jobRuns s && decide (m.stepPhase s = 3) && m.settled s then
    let held := ((m.validShards s).filter (fun p => decide (m.shardState p.1 p.2 = 5))).length + (m.buoy (m.settleBuoy s)).value.toNat / 2 ^ 16
    let m := (m.setF (STEP_RESULT s) 16 16 (min held 0xFFFF)).addCnt (CNT_WITHHELD s) held
    ((m.setStepPhase s 4).followSteer s).takeVote2 s
  else m

/-- Decision 2: FINAL with its DISCARDs and view, or ROLLBACK (R385). -/
def decide2 (m : Mod) (s : Nat) : Mod :=
  if m.jobRuns s && decide (m.stepPhase s = 4) && m.voteComplete s 3 then
    if bit (m.part s).vote2.flags 1 then (m.setStepBuoy (m.finalBuoy s) 2).setStepPhase s 6
    else
      let m := (m.setStepBuoy (m.finalBuoy s) 1).setStepPhase s 5
      let m := (m.validShards s).foldl (fun m p => if m.shardState p.1 p.2 = 6 then m.startZeroing p.1 p.2 none false true else m) m
      m.fillView s
  else m

/-- Nothing of the partition's planes is at work: every PLANE ring is idle and no pass runs. -/
def planesIdle (m : Mod) (s : Nat) : Bool :=
  (m.stacksOf s).all (fun k =>
    (m.stack k).updating.isEmpty && (m.stack k).zeroing.isEmpty &&
    (upto 128).all (fun i => let r := 45056 + 128 * k + i
      (m.ringOf r).prog.isEmpty && decide (m.ringState r ≠ 2) && decide (m.ringState r ≠ 3) && decide (m.ringState r ≠ 4)))

/-- STEP_ROLLBACK (R387). -/
def rollback (m : Mod) (s : Nat) : Mod :=
  if m.jobRuns s && decide (m.stepPhase s = 6) && !(m.part s).rollbackDone && m.planesIdle s then
    let m := (m.validShards s).foldl (fun m p => m.rollShard p.1 p.2) m
    m.modPart s (fun p => { p with rollbackDone := true })
  else m

/-- VOTE_TIMEOUT_BT after an instant has passed, outside HALTED (R384). -/
def timedOut (m : Mod) (s : Nat) (since : W64) : Bool :=
  !m.halted && decide (since.toNat + m.fld (STEP_TIMING s) 0 32 ≤ m.count.toNat)

/-- VOTE_TIMEOUT: a vote is missing (R384). -/
def voteMissing (m : Mod) (s : Nat) : Mod :=
  let p := m.part s
  if m.jobRuns s && ((decide (m.stepPhase s = 2) && p.vote1.sent && !m.voteComplete s 2 && m.timedOut s p.vote1.at_) ||
      (decide (m.stepPhase s = 4) && p.vote2.sent && !m.voteComplete s 3 && m.timedOut s p.vote2.at_)) then
    m.raiseStepBlock s 0x0B21
  else m

/-- SETTLE_TIMEOUT: 0x0B28, and vote 2 with FATAL (R384). -/
def settleMissing (m : Mod) (s : Nat) : Mod :=
  if m.jobRuns s && decide (m.stepPhase s = 3) && !m.settled s && m.timedOut s (m.part s).decision1At then
    let m := (m.raiseStepBlock s 0x0B28).setFlag (STEP_STATUS s) 8 true
    ((m.setStepPhase s 4).followSteer s).takeVote2 s
  else m

end Mod

/-! ## Meanings -/

/-- STEP_DECISION1 (R385). -/
def execStepDecision1 (p : Nat) (s : State) : Host.Outcome State Fault Refusal := onSlot s p (fun m => m.decide1 p)
/-- STEP_SETTLE (R383). -/
def execStepSettle (p : Nat) (s : State) : Host.Outcome State Fault Refusal := onSlot s p (fun m => m.settleStep p)
/-- STEP_DECISION2 (R385). -/
def execStepDecision2 (p : Nat) (s : State) : Host.Outcome State Fault Refusal := onSlot s p (fun m => m.decide2 p)
/-- STEP_ROLLBACK (R387). -/
def execStepRollback (p : Nat) (s : State) : Host.Outcome State Fault Refusal := onSlot s p (fun m => m.rollback p)
/-- VOTE_TIMEOUT (R384). -/
def execVoteTimeout (p : Nat) (s : State) : Host.Outcome State Fault Refusal := onSlot s p (fun m => m.voteMissing p)
/-- SETTLE_TIMEOUT (R384). -/
def execSettleTimeout (p : Nat) (s : State) : Host.Outcome State Fault Refusal := onSlot s p (fun m => m.settleMissing p)
/-- STEER_ENTRY_CHECK (R395). -/
def execSteerEntryCheck (p : Nat) (s : State) : Host.Outcome State Fault Refusal := onSlot s p (fun m => m.checkSteer p)
/-- STEER_PUSH: closed under sealed steering (R398, R401). -/
def execSteerPush (who : Requester) (p : Nat) (s : State) : Host.Outcome State Fault Refusal :=
  onSlot s p (fun m => m.commit who (STEER_PUSH p)
    (if decide (who ≠ .keeper) && m.sealedSteering p then (0x0F01, m) else (0, if m.jobRuns p then m.pushSteer p else m)))

end Sys2Proof.Machine
end

