-- ==== Sys2Proof/Machine/Lampist.lean ====
section
/-! DEFINITION. The Lampist (R391 to R393, R398): from the figures of a step it decides the entry that opens the step after the next.  It runs in Gallery for a job that is not sealed, at the step boundary mark, and leaves its entry in STEER_STAGE (log entry 110). -/

namespace Sys2Proof.Machine

/-! ## Figures against thresholds -/

/-- A quotient as numerator and denominator, which is not zero. -/
abbrev Figure := Val × Val
/-- A quotient lies above a bound. -/
def Figure.above (x : Figure) (h : W32) : Bool := let y := (val32 h).mul x.2; !x.1.isNan && !y.isNan && y.less x.1
/-- A quotient lies below a bound. -/
def Figure.below (x : Figure) (h : W32) : Bool := let y := (val32 h).mul x.2; !x.1.isNan && !y.isNan && x.1.less y

/-- The figures of a layer in one role: overflow share, vanish share, deviation, and whether non-finite values were counted. -/
structure RoleFigures where
  ovf : Figure
  van : Figure
  dev : Figure
  nonfin : Bool

/-- The steering parameters that the decisions read (R392). -/
def parFp (b : List Byte) (o : Nat) : W32 := BitVec.ofNat 32 (num b o 4)

/-- The decision on one layer (R393): its new byte and quiet count, from its policy, its byte in the entry before, its quiet count, and its figures in roles 0 to 2. -/
def lampLayer (par : List Byte) (policy old quiet : Nat) (f : List RoleFigures) : Nat × Nat :=
  let turn := f.any (fun x => x.ovf.above (parFp par 0) || x.dev.above (parFp par 0x10))
  let up := turn || f.any (fun x => x.van.above (parFp par 8)) || (f.take 2).any (·.nonfin)
  let calm := f.all (fun x => x.ovf.below (parFp par 4) && x.van.below (parFp par 0xC) && x.dev.below (parFp par 0x14))
  let rung := old % 4
  let rot := old / 4 % 2
  if policy / 32 % 2 = 0 then (old, quiet)
  else if up then
    if rung < 2 ∧ policy / 16 % 2 = 1 ∧ rot = 0 ∧ turn = true then (rung + 4, 0) else (min (policy / 4 % 4) (rung + 1) + 4 * rot, 0)
  else if calm then
    if num par 0x20 4 ≤ quiet + 1 then (max (policy % 4) (rung - 1) + 4 * rot, 0) else (old, quiet + 1)
  else (old, quiet)

/-- The loss scale and the count of steps without a non-finite value in role 2 (R393). -/
def lampScale (par : List Byte) (old : W32) (grow : Nat) (nonfin : Bool) : W32 × Nat :=
  if nonfin then (pick32 true (parFp par 0x28) (mul32 old 0x3F00_0000), 0)
  else if num par 0x24 4 ≤ grow + 1 then (pick32 false (parFp par 0x2C) (mul32 old 0x4000_0000), 0)
  else (old, grow + 1)

/-- KERF_MARGIN_BT, 0xFFFF for no change, and the count of steps without a late drain (R393). -/
def lampKerf (par : List Byte) (margin growth quiet : Nat) : Nat × Nat :=
  if 0 < growth then (min 4095 (margin + roundUp growth (num par 0x30 2)), 0)
  else if num par 0x32 2 ≤ quiet + 1 then (margin - num par 0x30 2, 0)
  else (0xFFFF, quiet + 1)

/-- The FREQ byte of a half of the partition, from the headroom in per mille (R393, R566): 50 MHz up to FCAP for a half that was late, 50 MHz down to 500 MHz, or no change. -/
def lampFreq (headroom : Int) (late : Bool) (freq cap : Nat) : Nat :=
  if 50 ≤ headroom ∧ late = true then min cap (freq + 5)
  else if headroom < 10 then max 50 (freq - 5)
  else 0

/-- The loss lies above LOSS_SPIKE times the mean of the losses before it (R393). -/
def lossSpike (par : List Byte) (loss : W32) (before : List W32) : Bool :=
  !before.isEmpty && Figure.above ((val32 loss).mul (.fin false before.length 0), Val.sum (before.map val32)) (parFp par 0x1C)

namespace Mod

/-- The job is open to the Lampist in Gallery: not sealed, and the step block decides (R391, R397). -/
def lampistRuns (m : Mod) (s : Nat) : Bool := !m.locked s && !m.steerFollow s

/-- A share of R393: a sum over TOTAL; the spec states none for a TOTAL of 0, where it is a free value. -/
def shareOf (n total : Val) (l r k : Nat) : Figure := if total.isZero then (val32 (Config.emptyShare l r k), .fin false 1 0) else (n, total)

/-- The figures of a layer in a role, from the numeric summary (R390, R393). -/
def roleFigures (m : Mod) (s l r : Nat) : RoleFigures :=
  let nums := num (m.ldHbm s (m.steerBase s + 0x38) 8) 0 8
  let f := fun k => val64 (num (m.ldHbm s (nums + 256 * l + 64 * r + 8 * k) 8) 0 8)
  { ovf := shareOf (f 1) (f 0) l r 0, van := shareOf (f 2) (f 0) l r 1
    dev := if (f 4).isZero then (.fin false 0 0, .fin false 1 0) else (f 5, f 4), nonfin := !(f 3).isZero }

/-- The loss of the step (R390). -/
def stepLoss (m : Mod) (s : Nat) : W32 := BitVec.ofNat 32 (num (m.ldHbm s (num (m.ldHbm s (m.steerBase s + 0x48) 8) 0 8) 4) 0 4)

/-- The tally of step `t` found a mismatch (R545). -/
def tallyMismatch (m : Mod) (s t : Nat) : Bool := decide (m.fld (TALLY_STATUS s) 0 32 = t % 2 ^ 32) && m.flag (TALLY_STATUS s) 44

/-- LAMP_TEST is set (R393). -/
def lampTrigger (m : Mod) (s t : Nat) (par : List Byte) (figures : List (List RoleFigures)) : Bool :=
  decide (num par 0x34 1 % 2 = 1) &&
  (m.tallyMismatch s t || figures.any (fun l => l.any (fun x => x.dev.above (parFp par 0x18))) ||
   lossSpike par (m.stepLoss s) (m.part s).lampist.losses)

/-- The decisions after step `t` (R393): the entry for step t + 2 in the layout of R394, and what the Lampist remembers. -/
def lampDecide (m : Mod) (s t : Nat) (committed : Bool) : List Byte × Lampist :=
  let par := m.ldHbm s (m.steerBase s) 0x500
  let before := m.logEntry s (m.rd (STEER_INDEX s)).toNat
  let own := (m.part s).lampist
  let figures := (upto 1024).map (fun l => (upto 3).map (fun r => m.roleFigures s l r))
  let layers := (upto 1024).map (fun l => lampLayer par (num par (0x100 + l) 1) (num before (0x100 + l) 1 % 8) (Sparse.get (fun _ => 0) own.quiet l) (figures.getD l []))
  let scale := lampScale par (BitVec.ofNat 32 (num before 0x14 4)) own.grow (figures.any (fun f => (f.drop 2).any (·.nonfin)))
  let kerf := lampKerf par (bf (m.stagedWord (XCH_CTL s)) 0 12) (m.fld (STEER_VIEW_G s) 16 12) own.kerfQuiet
  let headroom := ((m.rd PWR_HEADROOM).truncate 16).toInt
  let freqs := (upto 16).map (fun i => if m.slotOfDie (i / 2) = some s then
    lampFreq headroom (m.flag (STEER_VIEW_G s) (32 + i)) (bf (m.stagedWord (HALF_CLK i)) 0 8) (bf (m.stagedWord (HALF_CLK i)) 16 8) else 0)
  let entry := bytesOf 8 (t + 2) ++ bytesOf 8 ((m.rd (STEER_INDEX s)).toNat + 1) ++ bytesOf 1 (if m.lampTrigger s t par figures then 1 else 0) ++ bytesOf 1 0 ++
    bytesOf 2 kerf.1 ++ bytesOf 4 scale.1.toNat ++ bytesOf 8 0 ++ freqs.flatMap (bytesOf 1) ++ bytesOf 208 0 ++ layers.flatMap (fun x => bytesOf 1 x.1) ++ bytesOf 768 0
  (entry, { quiet := layers.zipIdx.filterMap (fun x => if x.1.2 = 0 then none else some (x.2, x.1.2)), grow := scale.2, kerfQuiet := kerf.2
            losses := if committed then (m.stepLoss s :: own.losses).take 64 else own.losses })

/-- At the mark that ends step `t`, the Lampist in Gallery leaves its entry in STEER_STAGE; STEER_PUSH sends it to the log (R398). -/
def lampist (m : Mod) (s t : Nat) (committed : Bool) : Mod :=
  if !m.lampistRuns s then m
  else
    let d := m.lampDecide s t committed
    (m.modPart s (fun p => { p with lampist := d.2 })).putRegWords (STEER_STAGE s 0) d.1 256

end Mod

end Sys2Proof.Machine
end

