-- ==== Sys2Proof/Machine/Units.lean ====
section
/-! DEFINITION. The unit queues of a tile (R102 to R104, R200): what an issued unit instruction puts into its queue, when the head starts, what it delivers when it completes; the numeric table (R186 to R190); the meanings of the unit instructions.  An instruction does its whole work when its unit starts it (log entry 27). -/

namespace Sys2Proof.Machine

namespace Mod

/-! ## Starting -/

/-- The jigs that a queued instruction takes lines from or writes lines to. -/
def jigsUsed (e : QEntry) : List Nat :=
  match e.op.toNat with
  | 0x40 => if mmaShape e.f = 0 then [0, 2] else if mmaShape e.f = 1 then [0, 2, 3] else [0, 1, 2, 3]
  | 0x41 => [0, 1, 2, 3]
  | 0x4B => [4]
  | 0x50 => [bf e.f 49 2, bf e.f 47 2, 4]
  | 0x51 => [bf e.f 49 2]
  | 0x58 => [bf e.f 46 2, 4]
  | 0x62 => [4]
  | 0x63 => [bf e.f 42 2]
  | _ => []

/-- An earlier instruction still has the generator (R200). -/
def genTaken (m : Mod) (t : Nat) (e : QEntry) : Bool :=
  e.gen.isSome && (upto 5).any (fun u => (m.queue t u).any (fun x => decide (x.gen = e.gen) && decide (x.seq < e.seq)))

/-- The head of a queue can start: its generator is free, R103 holds between the array and the drains, and no jig of it waits for the veneer (R73). -/
def startable (m : Mod) (t : Nat) (e : QEntry) : Bool :=
  !m.genTaken t e &&
  !(decide (e.op = 0x40) && (m.queue t 1).any (fun x => decide (x.op = 0x4B) && !x.started && decide (x.seq < e.seq) && decide (bf x.f 44 1 = bf e.f 44 1))) &&
  !(decide (e.op = 0x4B) && (m.queue t 0).any (fun x => decide (x.op = 0x40) && decide (x.seq < e.seq) && decide (bf x.f 44 1 = bf e.f 44 1))) &&
  !(m.flushing t && (jigsUsed e).any (fun j => decide (m.dowelMode t (m.jigDowel t j) = 3)))

/-- A run that delivers no register and counts nothing. -/
def plain (r : Run Unit) : Run (List (Nat × W32) × List TableUpd) :=
  match r with
  | .ok (_, m) => .ok (([], []), m)
  | .error e => .error e
/-- A run that delivers registers. -/
def delivers (r : Run (List (Nat × W32))) : Run (List (Nat × W32) × List TableUpd) :=
  match r with
  | .ok (l, m) => .ok ((l, []), m)
  | .error e => .error e

/-- The work of a queued instruction. -/
def runEntry (m : Mod) (t : Nat) (e : QEntry) : Run (List (Nat × W32) × List TableUpd) :=
  match e.op.toNat with
  | 0x40 => plain (m.runMma t e.f)
  | 0x41 => plain (m.runMlatch t e.f)
  | 0x48 => .ok (([], []), m.runOcfg t e.f)
  | 0x49 => .ok (([], []), m.runOvec t e.f)
  | 0x4A => .ok (([], []), m.runOclamp t (e.args.getD 0 0) (e.args.getD 1 0))
  | 0x4B => (match m.runDrain t e with | .ok (l, m) => .ok (([], l), m) | .error x => .error x)
  | 0x50 => plain (m.runVop t e.f)
  | 0x51 => delivers (m.runVred t e.f)
  | 0x58 => (match m.runQuant t e with | .ok (c, m) => .ok (([], [c]), m) | .error x => .error x)
  | 0x60 => .ok (([], []), (m.setGenKey t (bf e.f 54 2) (word128 (fun n => e.args.getD n 0) 0)).setFlag (GEN_CTL t (bf e.f 54 2)) 0 (bit e.f 53))
  | 0x61 => .ok (([], []), m.setGenCtr t (bf e.f 54 2) (word128 (fun n => e.args.getD n 0) 0))
  | 0x62 => plain (m.runRand t e.f)
  | 0x63 => delivers (m.runSample t e)
  | _ => .ok (([], []), m)

/-- An instruction that traps has no effect (R125): the module as it was, but for the jigs that reached an address outside their dowel in its walk `n`, which are in FAULT with 0x0223 raised (R63; log entry 26). -/
def undone (m n : Mod) (t : Nat) : Mod :=
  forEach m (upto 6) (fun m j =>
    if n.jigState t j = 3 ∧ m.jigState t j ≠ 3 then
      m.jigFault t j ((firstBad (n.jigPlaces t j ((n.jigPos t j).line - 1))).getD 0)
    else m)

/-- Starts the head of a unit's queue; a head that traps leaves the queue, and the next one is tried.  `l` are the traps so far: thread, PC, code (R104, R125). -/
def startUnit (m : Mod) (l : List (Nat × W20 × W16)) (t u : Nat) : Nat → Mod × List (Nat × W20 × W16)
  | 0 => (m, l)
  | n + 1 => match m.queue t u with
    | [] => (m, l)
    | e :: r =>
      if e.started || !m.startable t e then (m, l)
      else match m.runEntry t e with
        | .ok ((res, cnt), m) => (m.setQueue t u ({ e with started := true, results := res, counts := cnt } :: r), l)
        | .error (c, k) => startUnit ((m.undone k t).setQueue t u r) (l ++ [(e.th, e.pc, c)]) t u n

/-- Starts what can start, the output stage first: a started drain frees its set for the array.  The traps of the instructions that start together fall in one cycle. -/
def startUnits (m : Mod) (t : Nat) : Mod :=
  let r := [1, 0, 2, 3, 4].foldl (fun (x : Mod × List (Nat × W20 × W16)) u => x.1.startUnit x.2 t u 4) (m, [])
  r.1.trapAll t r.2

/-! ## The numeric table (R187 to R190) -/

def tableActive (m : Mod) (t : Nat) : Bool := m.flag (NUM_STATUS t) 0
def tableDowel (m : Mod) (t : Nat) : Nat := m.fld (NUM_CTL t) 8 8
def tableLayers (m : Mod) (t : Nat) : Nat := m.fld (NUM_CTL t) 16 12
/-- The table is unusable: inactive, TABLE_FAULT, 0x0522. -/
def tableFault (m : Mod) (t : Nat) : Mod :=
  ((m.setFlag (NUM_STATUS t) 0 false).setFlag (NUM_STATUS t) 2 true).raiseTile t 0x0522 0

/-- The counts of a completed instruction: the tile's counters, and the table entry of the tag or CNT_TAG_OUT (R187). -/
def countConv (m : Mod) (t : Nat) (x : TableUpd) : Mod :=
  let m := (((m.addCnt (CNT_CONV t) x.total).addCnt (CNT_OVF t) x.ovf).addCnt (CNT_VAN t) x.van).addCnt (CNT_NONFIN t) x.nonfin
  if m.tableActive t && decide (x.layer < m.tableLayers t) then m.modTile t (fun y => { y with tableQ := y.tableQ ++ [x] })
  else m.addCnt (CNT_TAG_OUT t) 1

/-- A saturating INT32 add to slot `k` of a word. -/
def addSlot (w : W256) (k n : Nat) : W256 :=
  let v := (w.extractLsb' (32 * k) 32 : W32).toInt + n
  setBf w (32 * k) 32 (BitVec.ofInt 32 (min v (2 ^ 31 - 1))).toNat
/-- An FP32 add to slot `k` of a word. -/
def addSlotF (w : W256) (k : Nat) (x : W32) : W256 := setBf w (32 * k) 32 (add32 (w.extractLsb' (32 * k) 32) x).toNat

/-- The read, add and write of the two words of an entry (R188, R189). -/
def tableAdd (m : Mod) (t : Nat) (x : TableUpd) : Mod :=
  let d := m.tableDowel t
  let a := 2 * (4 * x.layer + x.role)
  let w0 := m.ldDowel t d a
  let w0 := addSlot (addSlot (addSlot (addSlot (addSlot (addSlot w0 0 x.total) 1 x.ovf) 2 x.van) 3 x.nonfin) 4 x.shadowN) 5 x.shadowNonfin
  let w1 := m.ldDowel t d (a + 1)
  let w1 := match x.dev with
    | some v => addSlotF (addSlotF w1 0 v) 1 (mul32 v v)
    | none => w1
  (m.stDowel t d a w0).stDowel t d (a + 1) w1

/-- The table that NUM_CTL names is usable (R190). -/
def tableUsable (m : Mod) (t : Nat) : Bool :=
  m.dowelValid t (m.tableDowel t) && decide (m.dowelMode t (m.tableDowel t) = 0) &&
  decide (256 * m.tableLayers t ≤ 32 * m.dowelWords t (m.tableDowel t))

/-- At the mark at which NUM_CTL takes effect, and at each step boundary mark: the table becomes active, inactive, or faulty (R190). -/
def markTable (m : Mod) (t : Nat) : Mod :=
  if !m.flag (NUM_CTL t) 0 then m.setFlag (NUM_STATUS t) 0 false
  else if m.tableUsable t then (m.setFlag (NUM_STATUS t) 0 true).setFlag (NUM_STATUS t) 2 false
  else m.tableFault t

/-- At each step boundary mark drains number from 0 and a held capture is discarded (R191, R194). -/
def markShadow (m : Mod) (t : Nat) : Mod :=
  let m := if m.shadowHeld t then (m.setFlag (NUM_STATUS t) 1 false).addCnt (CNT_SHADOW_SKIP t) 1 else m
  m.setF (NUM_STATUS t) 32 32 0

/-! ## Completion -/

/-- The head of a unit's queue completes: its registers and counts are delivered, a drain counts in CNT_DRAIN (R160), the entry and its generator are free, what can start starts, and the exchange port is granted again where a pass held it. -/
def finishUnit (m : Mod) (t u : Nat) : Mod :=
  match m.queue t u with
  | [] => m
  | e :: r =>
    if !e.started then m
    else
      let m := m.setQueue t u r
      let m := e.results.foldl (fun m p => m.modThread t e.th (fun x => x.setG p.1 p.2)) m
      let m := if e.op = 0x4B then m.addCnt (CNT_DRAIN t) 1 else m
      ((e.counts.foldl (fun m c => m.countConv t c) m).startUnits t).settlePort t

/-! ## Issue into a queue -/

/-- The generator of a drain at its execution: that of the last OCFG before it in the queue, or of the configuration in effect, when RND is 1 (R153, R200). -/
def drainGen (m : Mod) (t : Nat) : Option Nat :=
  match ((m.queue t 1).filter (fun e => decide (e.op = 0x48) && !e.started)).getLast? with
  | some e => if bit e.f 48 then some (bf e.f 46 2) else none
  | none => if m.outRnd t then some (m.outGen t) else none

/-- A unit instruction issues: it waits for a free entry (R102), or joins the queue with its operands and tag. -/
def push (m : Mod) (t th u op : Nat) (f : BitVec 56) (args : List W32) (gen : Option Nat) (x : Thread) (unit : TileUnit) : Eff :=
  if 4 ≤ (m.queue t u).length then .hold m (.queue unit)
  else
    let n := (m.tile t).issueSeq
    let ref := decide (op = 0x4B) && m.flag (tileReg t 0x3_0010) 0
    let e : QEntry := { op := BitVec.ofNat 8 op, f := f, th := th, pc := x.pc, layer := x.layer, role := x.role, args := args, seq := n, reference := ref, gen := gen }
    let m := if ref then m.setFlag (tileReg t 0x3_0010) 0 false else m
    .go ((m.modTile t (fun y => { y with issueSeq := n + 1 })).setQueue t u (m.queue t u ++ [e]))

end Mod

/-! ## Meanings -/

/-- A unit instruction: checks at issue, the queue, and the start of what can start. -/
def onUnit (s : State) (t th : Nat) (regs : List Nat) (legal : Bool) (body : Thread → Mod → Eff) : Host.Outcome State Fault Refusal :=
  onWhen s (s.m.canIssue t th regs) (fun m => (m.issue t th legal body).startUnits t)

/-- MMA (R136, R137). -/
def execMma (t th : Nat) (f : BitVec 56) (s : State) : Host.Outcome State Fault Refusal :=
  onUnit s t th [] (mmaOk f) (fun x m => m.push t th 0 0x40 f [] none x .array)
/-- MLATCH (R142). -/
def execMlatch (t th : Nat) (f : BitVec 56) (s : State) : Host.Outcome State Fault Refusal :=
  onUnit s t th [] (mlatchOk f) (fun x m => m.push t th 0 0x41 f [] none x .array)
/-- OCFG (R153). -/
def execOcfg (t th : Nat) (f : BitVec 56) (s : State) : Host.Outcome State Fault Refusal :=
  onUnit s t th [] (ocfgOk f) (fun x m => m.push t th 1 0x48 f [] none x .output)
/-- OVEC (R153). -/
def execOvec (t th : Nat) (f : BitVec 56) (s : State) : Host.Outcome State Fault Refusal :=
  onUnit s t th [] (only (fm 54 2 ||| fm 46 8 ||| mOff) f && decide (bf f 54 2 < 3)) (fun x m =>
    let d := bf f 46 8
    if ¬ m.dowelValid t d ∨ m.dowelMode t d = 2 ∨ m.dowelMode t d = 3 then .trap m 0x032F 0x0403
    else m.push t th 1 0x49 f [] none x .output)
/-- OCLAMP (R153). -/
def execOclamp (t th : Nat) (f : BitVec 56) (s : State) : Host.Outcome State Fault Refusal :=
  onUnit s t th [fS1 f, fS2 f] (only (mS1 ||| mS2) f) (fun x m =>
    let lo := x.gReg (fS1 f)
    let hi := x.gReg (fS2 f)
    if (val32 lo).isNan ∨ (val32 hi).isNan ∨ (Val.less (val32 hi) (val32 lo) ∧ ¬ ((val32 lo).isZero ∧ (val32 hi).isZero)) then .trap m 0x032F 0x0401
    else m.push t th 1 0x4A f [lo, hi] none x .output)
/-- ODRAIN (R151 to R156, R192). -/
def execOdrain (t th : Nat) (f : BitVec 56) (s : State) : Host.Outcome State Fault Refusal :=
  onUnit s t th [] (only (fm 44 1) f) (fun x m => m.push t th 1 0x4B f [] (m.drainGen t) x .output)
/-- VOP (R178). -/
def execVop (t th : Nat) (f : BitVec 56) (s : State) : Host.Outcome State Fault Refusal :=
  onUnit s t th [] (vopOk f) (fun x m => m.push t th 2 0x50 f [] none x .vector)
/-- VRED (R158, R182). -/
def execVred (t th : Nat) (f : BitVec 56) (s : State) : Host.Outcome State Fault Refusal :=
  onUnit s t th (if vredRf f = 0 then [fD f] else [fD f, fD f + 1]) (vredOk f) (fun x m => m.push t th 2 0x51 f [] none x .vector)
/-- QUANT (R183). -/
def execQuant (t th : Nat) (f : BitVec 56) (s : State) : Host.Outcome State Fault Refusal :=
  onUnit s t th [bf f 40 5] (quantOk f) (fun x m =>
    m.push t th 3 0x58 f [x.gReg (bf f 40 5)] (if bit f 50 then some (bf f 48 2) else none) x .quantiser)
/-- RKEY (R196). -/
def execRkey (t th : Nat) (f : BitVec 56) (s : State) : Host.Outcome State Fault Refusal :=
  onUnit s t th (run4 (fS1 f)) (only (fm 54 2 ||| fm 53 1 ||| mS1) f && decide (fS1 f ≤ 28)) (fun x m =>
    m.push t th 4 0x60 f ((run4 (fS1 f)).map x.gReg) (some (bf f 54 2)) x .random)
/-- RCTR (R196). -/
def execRctr (t th : Nat) (f : BitVec 56) (s : State) : Host.Outcome State Fault Refusal :=
  onUnit s t th (run4 (fS1 f)) (only (fm 54 2 ||| mS1) f && decide (fS1 f ≤ 28)) (fun x m =>
    m.push t th 4 0x61 f ((run4 (fS1 f)).map x.gReg) (some (bf f 54 2)) x .random)
/-- RAND (R201). -/
def execRand (t th : Nat) (f : BitVec 56) (s : State) : Host.Outcome State Fault Refusal :=
  onUnit s t th [] (randOk f) (fun x m => m.push t th 4 0x62 f [] (some (bf f 54 2)) x .random)
/-- SAMPLE (R204). -/
def execSample (t th : Nat) (f : BitVec 56) (s : State) : Host.Outcome State Fault Refusal :=
  onUnit s t th [fD f, fS1 f, fS1 f + 1] (sampleOk f) (fun x m =>
    m.push t th 2 0x63 f [x.gReg (fS1 f), x.gReg (fS1 f + 1)] (some (bf f 44 2)) x .vector)

/-- UNIT_INSTRUCTION_DONE (R102, R200). -/
def execUnitInstructionDone (t : Nat) (u : TileUnit) (s : State) : Host.Outcome State Fault Refusal :=
  onWhen s (s.m.tileRuns t) (fun m => m.finishUnit t (Mod.unitNo u))
/-- NUM_TABLE_UPDATE: the oldest counts reach the table, or find it unusable (R189, R190). -/
def execNumTableUpdate (t : Nat) (s : State) : Host.Outcome State Fault Refusal :=
  onTileClock s t (fun m => match (m.tile t).tableQ with
    | [] => m
    | x :: r =>
      let m := m.modTile t (fun y => { y with tableQ := r })
      if !m.tableActive t then m else if m.tableUsable t then m.tableAdd t x else m.tableFault t)
/-- VENEER_FLUSH_DONE (R73): the waiting accesses proceed. -/
def execVeneerFlushDone (t : Nat) (s : State) : Host.Outcome State Fault Refusal :=
  onTileClock s t (fun m => if m.flushing t then (m.endFlush t).startUnits t else m)

end Sys2Proof.Machine
end

