-- ==== Sys2Proof/Machine/Marks.lean ====
section
/-! DEFINITION. Marks and step boundary marks (R250, R388, R389, R511, R512, R514, R519, R533): the count reaches a mark, staged fields take effect, a step ends and the next opens, a job starts or stops. -/

namespace Sys2Proof.Machine

namespace Mod

/-! ## Staged fields (R7, R519) -/

/-- The slot whose partition owns a staged field. -/
def stagedSlot (m : Mod) (a : Nat) : Option Nat :=
  if a < 0x20_0000 then m.slotOfDie ((a - 0x10_0100) / 16)
  else if a < 0x28_0000 then some ((a - 0x20_0000) / 0x1_0000)
  else if a < 0x1000_0000 then none
  else if a < 0x1_0000_0000 then m.slotOfTile ((a - 0x1000_0000) / 0x10_0000)
  else m.slotOfStack ((a - 0x2_0000_0000) / 0x100_0000)

/-- What is staged for one plain field takes effect. -/
def applyStaged (m : Mod) (a : Nat) : Mod := if m.isStaged a then (m.wr a (m.stagedWord a)).unstage a else m

/-- The staged fields of a stack take effect: ARB_CTL, rules, shard entries, pseudo-channel states (R321, R333, R338). -/
def markStack (m : Mod) (s : Nat) : Mod :=
  let m := (m.applyStaged (ARB_CTL s)).markRules s
  (forEach m (upto 256) (fun m e => m.markShard s e)).markSparing s

/-- The staged fields of a tile take effect: NUM_CTL and VENEER_CTL (R73, R190). -/
def markTile (m : Mod) (t : Nat) : Mod := ((m.applyStaged (NUM_CTL t)).markTable t).markVeneer t

/-- Units with something staged among those that a test accepts, by number. -/
def stagedUnits (m : Mod) (lo hi size : Nat) (own : Nat → Bool) : List Nat :=
  ((m.staged.filter (fun p => decide (lo ≤ p.1) && decide (p.1 < hi))).map (fun p => (p.1 - lo) / size)).eraseDups.filter own

/-- A mark: what no running job owns takes effect (R519). -/
def markIdle (m : Mod) : Mod :=
  let idle := fun (o : Option Nat) => match o with
    | some s => !m.jobRuns s
    | none => true
  let m := (m.applyStaged ERR_DL_STEP).applyStaged ERR_DL_PART
  let halves := (upto 16).filter (fun i => idle (m.slotOfDie (i / 2)) && (m.isStaged (HALF_CLK i) || (m.half i).target.isSome))
  let tiles := m.stagedUnits 0x1000_0000 0x6000_0000 0x10_0000 (fun t => idle (m.slotOfTile t))
  let hbmStacks := (upto 32).filter (fun k => idle (m.slotOfStack k) &&
    ((m.stack k).moved.isSome || !(m.stagedUnits (stackReg k 0) (stackReg (k + 1) 0) 0x100_0000 (fun _ => true)).isEmpty))
  let slots := (upto 8).filter (fun s => idle (some s))
  let m := forEach m slots (fun m s => m.applyStaged (XCH_CTL s))
  let m := forEach m halves (fun m i => m.markHalf i)
  let m := forEach m tiles (fun m t => m.markTile t)
  forEach m hbmStacks (fun m k => m.markStack k)

/-- MARK: the count reaches the next multiple of the mark period (R250). -/
def reachMark (m : Mod) : Mod := (m.advance (m.nextMark - m.count.toNat)).markIdle

/-- What a partition's step boundary mark applies (R389, action 2). -/
def markPartition (m : Mod) (s : Nat) : Mod :=
  let m := forEach m (m.tilesOf s) (fun m t => m.markTile t)
  let m := forEach m ((m.diesOf s).flatMap (fun d => [2 * d, 2 * d + 1])) (fun m i => m.markHalf i)
  let m := forEach m (m.stacksOf s) (fun m k => m.markStack k)
  m.applyStaged (XCH_CTL s)

/-! ## Partition status (R523, R559) -/

/-- PART_STATUS.STATE: 0 FREE, 1 IDLE, 2 RUN, 3 STOPPING, 4 FAULT. -/
def partState (m : Mod) (s : Nat) : Nat := m.fld (PART_STATUS s) 0 4
def setPartState (m : Mod) (s v : Nat) : Mod := m.setF (PART_STATUS s) 0 4 v
/-- PART_STATUS.POWER: 0 M0 while a job runs, 1 M1, 2 M2. -/
def setPower (m : Mod) (s v : Nat) : Mod := m.setF (PART_STATUS s) 4 4 v

/-! ## Steps and jobs -/

/-- The counters whose growth over a step STEER_VIEW_G shows (R398), as they stand at the step's opening. -/
def snapshot (m : Mod) (s : Nat) : Mod :=
  let of := fun (f : Nat → Nat) => (m.tilesOf s).filterMap (fun t => if m.rd (f t) = 0 then none else some (t, (m.rd (f t)).toNat))
  m.modPart s (fun p => { p with xlate0 := of CNT_XLATE, xdrain0 := of CNT_XDRAIN_LATE })

/-- A step opens at this mark. -/
def openStep (m : Mod) (s : Nat) : Mod :=
  let next := (m.part s).stepFatalNext
  let m := (m.setStepPhase s 1).setFlag (STEP_STATUS s) 8 false
  let m := m.modPart s (fun p => { p with
    vote1 := {}, vote2 := {}, launches := [], votes := p.votes.filter (fun v => decide (v.kind = 1) && decide ((v.refr - m.count.truncate 32).toNat < 2 ^ 31)), stepMark := m.count, rollbackDone := false
    stepFatalNext := false, slips := 0 })
  let m := forEach m (m.tilesOf s) (fun m t => m.modTile t (fun x => { x with xLateRec := none }))
  let m := (m.setXch s 1 0).snapshot s
  if next then m.stepFatalActions s else m

/-- The tiles of a slot that have a program, ascending. -/
def programmed (m : Mod) (s : Nat) : List Nat := (m.tilesOf s).filter (fun t => decide (m.textLen t ≠ 0))

/-- The job of a slot ends: no step, no exchange and no word on its way, the partition idle (R512). -/
def endJob (m : Mod) (s : Nat) : Mod :=
  let m := (m.setStepPhase s 0).setXch s 0 0
  (((m.modPart s (fun p => { p with job := none, cutPhase := false, words := [], claims := [] })).setPartState s 1).setPower s 1).followJobs

/-- DETAIL of JOB_START and of a JOB_STOP. -/
def startDetail (m : Mod) (s : Nat) : List Byte := bytesOf 8 (m.rd (STEP_NUM s)).toNat ++ bytesOf 8 m.count.toNat
def stopDetail (m : Mod) (s outcome : Nat) : List Byte := bytesOf 8 (m.rd (STEP_NUM s)).toNat ++ bytesOf 1 outcome

/-- A stop takes effect before the job's first step (R512). -/
def stopUnstarted (m : Mod) (s : Nat) : Mod :=
  let m := (m.finishCmd s 0x23 0x010D 0 (m.startDetail s)).finishCmd s 0x24 0 0 (m.stopDetail s 0)
  m.endJob s

/-- What every step boundary mark does for shards and shadow sampling (R191, R194, R330). -/
def markCounts (m : Mod) (s : Nat) : Mod :=
  forEach (forEach m (m.stacksOf s) (fun m k => m.markStates k)) (m.tilesOf s) (fun m u => m.markShadow u)

/-- The job's first step boundary mark: the tiles that have a program are enabled (with the threads of the restored context, if the job resumes one), the first step opens, JOB_START completes, the module moves to RUN (R37, R511). -/
def firstMark (m : Mod) (s : Nat) : Mod :=
  match (m.part s).job with
  | none => m
  | some j =>
    let m := (m.markPartition s).markCounts s
    if j.stopMode0.isSome then m.stopUnstarted s
    else
      let m := forEach m (m.programmed s) (fun m t => if j.resume then m.resumeTile t else (m.enableTile t).2)
      let m := m.modPart s (fun p => { p with job := some { j with started := true }, steerOk := false, steerNew := none })
      let m := ((m.openStep s).setPartState s 2).setPower s 0
      (m.finishCmd s 0x23 0 0 (m.startDetail s)).followJobs

/-- The dies of a mask end their lamp test; LAMP_TEST completes when no die is left under test (R549). -/
def lampDone (m : Mod) (mask : Nat) : Mod :=
  let left := (BitVec.ofNat 8 (m.fld LAMP_STATUS 0 8) &&& ~~~(BitVec.ofNat 8 mask)).toNat
  let m := m.setF LAMP_STATUS 0 8 left
  if left ≠ 0 then m
  else match m.cmds.find? (fun c => decide (pkOp c.packet = 0x60)) with
    | none => m
    | some c =>
      let dies := (upto 8).filter (fun d => pkPar c.packet 1 1 / 2 ^ d % 2 = 1)
      let ok := (dies.filter (fun d => m.flag (LAMP_RESULT d) 24)).map (2 ^ ·)
      let bad := (dies.filter (fun d => !m.flag (LAMP_RESULT d) 24)).map (2 ^ ·)
      let sum := fun (lo : Nat) => (dies.map (fun d => m.fld (LAMP_RESULT d) lo 8)).sum
      let code : W16 := if bad.isEmpty then 0 else if pkPar c.packet 0 1 = 0 then 0x1027 else 0x1025
      let m := m.setF LAMP_STATUS 8 4 0
      let m := if code = 0 then m else m.setF LAMP_STATUS 48 16 code.toNat
      m.completeCmd c code 0 (bytesOf 1 ok.sum ++ bytesOf 1 bad.sum ++ bytesOf 2 (sum 0) ++ bytesOf 2 (sum 8) ++ bytesOf 2 (sum 16) ++
        bytesOf 8 (m.count - m.lampStart).toNat)

/-- The result word of a die after a lamp test (R551). -/
def lampWord (m : Mod) (failed returned spares : Nat) (ok : Bool) : W64 :=
  BitVec.ofNat 64 (min failed 255 + min returned 255 * 2 ^ 8 + min spares 255 * 2 ^ 16 + (if ok then 2 ^ 24 else 0) + m.count.toNat % 2 ^ 32 * 2 ^ 32)

/-- A step that ran the on-demand routine has ended (R548, R549). -/
def lampStep (m : Mod) (s : Nat) : Mod :=
  if !(m.part s).lampRun then m
  else
    let dies := m.diesOf s
    let m := m.modPart s (fun p => { p with lampRun := false })
    let m := forEach m dies (fun m d => if bit (BitVec.ofNat 8 (m.fld LAMP_STATUS 0 8)) d then m.wr (LAMP_RESULT d) (m.lampWord 0 0 0 true) else m)
    m.lampDone ((dies.map (2 ^ ·)).sum)

/-! ## Restart after a rollback (R533) -/

/-- A TILE_DMA ring stops and re-enters IDLE, empty. -/
def restartRing (m : Mod) (r : Nat) : Mod :=
  let on := m.ringEnabled r
  let m := (m.stopRing r).stopRingNow r
  let m := m.setRing r {}
  if on then ((m.setFlag (RING_CTL r) 0 true).setRingState r 1).wr (RING_PTR r) 0 else m

/-- A tile is restarted: thread 0 at RESTART, the others OFF; jigs, sets, latch and port as R533 says. -/
def restartTile (m : Mod) (t : Nat) : Mod :=
  let m := m.startTile t
  let m := forEach m (upto 4) (fun m n => m.modThread t n (fun x =>
    if n = 0 then freshThread x (m.restartPc t) else { freshThread x x.pc.toNat with st := .off }))
  let m := forEach m (upto 6) (fun m j => m.disableJig t j)
  (m.modTile t (fun x => { clearPort x with xDone := [] })).setXp t 0

def restartPart (m : Mod) (s : Nat) : Mod :=
  let m := forEach m (m.tilesOf s) (fun m t => if m.tileEnabled t then m.restartTile t else m)
  forEach m ((m.ringsOf s).filter (fun r => decide (ringKind r = 1) && decide (m.ringState r ≠ 6))) (fun m r => m.restartRing r)

/-! ## The boundary (R388, R389) -/

/-- Every DISCARD and reversion of the step block has completed. -/
def zeroingDone (m : Mod) (s : Nat) : Bool := (m.stacksOf s).all (fun k => (m.stack k).zeroing.isEmpty)

/-- The step of a slot may end at this mark: FINAL after the kerf of the record with LAST, or ROLLBACK done with no phase in progress. -/
def stepEnds (m : Mod) (s : Nat) : Bool :=
  m.zeroingDone s &&
  ((decide (m.stepPhase s = 5) && decide (m.xchState s = 0)) ||
   (decide (m.stepPhase s = 6) && (m.part s).rollbackDone && decide (m.xchState s < 2)))

/-- A save of a running job takes effect (R514): the tiles are held, the tile DMA rings stop, the job has ended. -/
def holdPart (m : Mod) (s : Nat) : Mod :=
  let m := forEach m (m.tilesOf s) (fun m t => m.modTile t (fun x => { x with heldSave := m.tileEnabled t }))
  let m := forEach m ((m.ringsOf s).filter (fun r => decide (ringKind r = 1))) (fun m r => m.stopRing r)
  (m.modPart s (fun p => { p with saving := true })).endJob s

/-- A MODE 0 stop takes effect (R512). -/
def stopAtMark (m : Mod) (s outcome : Nat) : Mod :=
  let m := forEach m (m.tilesOf s) (fun m t => m.stopTile t)
  (m.finishCmd s 0x24 0 0 (m.stopDetail s outcome)).endJob s

/-- The end of a running step at this mark, action by action (R389). -/
def endStep (m : Mod) (s : Nat) (j : Job) : Mod :=
  let back := decide (m.stepPhase s = 6)
  let t := (m.rd (STEP_NUM s)).toNat
  let skipped := bit (m.part s).vote1.flags 0
  let outcome := if back then 3 else if skipped then 2 else 1
  let m := if back then m.addCnt (CNT_ROLLBACK s) 1
    else (m.wr (STEP_NUM s) (BitVec.ofNat 64 (t + 1))).addCnt (if skipped then CNT_STEP_SKIPPED s else CNT_STEP_COMMITTED s) 1
  let m := (m.setF (STEP_STATUS s) 4 4 outcome).modPart s (fun p => { p with rollbacks := if back then p.rollbacks + 1 else 0 })
  let m := m.markPartition s
  let m := if back then m else (m.applySteer s).lampist s t (!skipped)
  let interval := num (m.ldHbm s (m.tallyBase s) 4) 0 4
  let zero := [m.flagBuoy s, m.repGateBuoy s, m.locGateBuoy s, m.settleBuoy s, m.finalBuoy s] ++
    (if interval ≠ 0 ∧ t % interval = 0 then [m.tallyBuoy s] else [])
  let m := forEach m zero (fun m b => m.setStepBuoy b 0)
  let m := m.markCounts s
  let m := (m.adjustLimits s).writeHeadroom s
  let m := if back then (if m.handling s = 1 then m.endHandling s else m) else m.lampStep s
  if j.save.isSome then m.holdPart s
  else if j.stopMode0.isSome then m.stopAtMark s outcome
  else (if back then m.restartPart s else m).openStep s

/-- STEP_BOUNDARY_MARK of a slot. -/
def boundary (m : Mod) (s : Nat) : Mod :=
  match (m.part s).job with
  | none => m
  | some j =>
    if !m.atMark || m.halted || decide (2 ≤ m.handling s) || m.fatalStopped then m
    else if !j.started then m.firstMark s
    else if m.stepEnds s then m.endStep s j
    else m

end Mod

/-! ## Meanings -/

/-- MARK (R250). -/
def execMark (s : State) : Host.Outcome State Fault Refusal := onWhen s s.m.running (fun m => m.reachMark)
/-- STEP_BOUNDARY_MARK (R388, R389). -/
def execStepBoundaryMark (slot : Nat) (s : State) : Host.Outcome State Fault Refusal := onSlot s slot (fun m => m.boundary slot)

end Sys2Proof.Machine
end

