-- ==== Sys2Proof/Machine/Jicen.lean ====
section
/-! DEFINITION. The Jicen ports (R404 to R428): port states, training and admission, lanes, slots, credit and replay, routing, the messages of bulk transfer and remote buoys, vote and time words. -/

namespace Sys2Proof.Machine

namespace Mod

/-! ## Ports and their registers (R405, R408, R427, R428, R436) -/

def laneStatus (m : Mod) (j l : Nat) : Nat := m.fld (JC_LANE j l) 0 3
def setLane (m : Mod) (j l st pos : Nat) : Mod := (m.setF (JC_LANE j l) 0 3 st).setF (JC_LANE j l) 8 6 pos
def lanesWith (m : Mod) (j st : Nat) : List Nat := (upto 40).filter (fun l => decide (m.laneStatus j l = st))
/-- JC_STATUS shows the spares that remain. -/
def showSpares (m : Mod) (j : Nat) : Mod := m.setF (JC_STATUS j) 8 4 (m.lanesWith j 1).length

/-- The lane map that the first training of a port sets: lanes 0 to 31 active in place, 32 to 39 spare (R406; log entry 20). A port whose map is set already, at most 32 lanes of it ACTIVE, keeps it. -/
def firstMap (m : Mod) (j : Nat) : Mod :=
  if (m.lanesWith j 0).length ≤ 32 then m
  else (upto 40).foldl (fun m l => if l < 32 then m.setLane j l 0 l else m.setLane j l 1 0) m

/-- The partition slot of a job tag in the key table of the link dies, with the key slot (R412). -/
def keySlotFor (m : Mod) (job : W16) : Option Nat :=
  (upto 16).find? (fun i => m.flag (JC_KEYSLOT i) 19 && m.flag (JC_KEYSLOT i) 20 && decide (m.fld (JC_KEYSLOT i) 0 16 = job.toNat))
def slotOfJob (m : Mod) (job : W16) : Option Nat := (m.keySlotFor job).map (fun i => m.fld (JC_KEYSLOT i) 16 3)

/-- The ring entry that a transfer token names is done with a status, unless it is done already. -/
def doneToken (m : Mod) (r : Nat) (token : W16) (f : RingEntry → RingEntry) : Mod :=
  m.setRing r { m.ringOf r with prog := (m.ringOf r).prog.map (fun e => if e.token = token ∧ e.done = false then f e else e) }

/-- The frames that a port has sent and that are not acknowledged are discarded: their entries complete with 0x0C26 (R408). -/
def dropFrames (m : Mod) (j : Nat) : Mod :=
  let l := (m.port j).replay
  let slots := (l.map (fun x => match x.ring with | some r => m.slotOfRing r | none => m.slotOfJob x.frame.job)).eraseDups
  let m := m.setPort j { m.port j with replay := [] }
  let m := l.foldl (fun m x => match x.ring with
    | some r => m.doneToken r x.frame.token (fun e => { e with done := true, status := 0x0C26 })
    | none => m) m
  slots.foldl (fun m s => m.raisePortIn j 0x0C26 s) m

/-! ## Routing (R414) -/

/-- The port of the next hop toward a module, and whether the hop crosses the dateline of its dimension. -/
def routeTo (m : Mod) (dst : Nat) : Option (Nat × Bool) :=
  match (upto 3).find? (fun x => decide (dst / 16 ^ x % 16 ≠ m.coord x)) with
  | none => none
  | some x =>
    let d := m.dimSize x
    let plus := (dst / 16 ^ x % 16 + d - m.coord x) % d
    let p := 2 * x + 1
    let n := 2 * x
    let want := if 2 * plus ≤ d then p else n
    let other := if want = p then n else p
    let go := fun (j : Nat) => (j, decide ((if j % 2 = 1 then d - 1 else 0) = m.coord x))
    if m.portActive want then some (go want) else if m.portActive other then some (go other) else none

/-- Puts a frame on its next hop: VC 0 in a new dimension, VC 1 once over the dateline.  False when neither way is open. -/
def forward (m : Mod) (x : SentFrame) : Bool × Mod :=
  match m.routeTo x.frame.dst.toNat with
  | none => (false, m)
  | some (j, cross) =>
    let same := match x.inPort with | some i => decide (i / 2 = j / 2) | none => false
    let f := { x.frame with vc := cross || (same && x.inVc) }
    (true, m.setPort j { m.port j with outq := (m.port j).outq ++ [{ x with frame := f }] })

/-- An ACK block (R413): the last good sequence, NAK, one credit of a class returned. -/
def sendAck (m : Mod) (j : Nat) (nak : Bool) (credit : Option Nat) : Mod :=
  let last := (m.port j).rxSeq - 1
  m.sendCtrl j 6 (bytesOf 2 last.toNat ++ bytesOf 1 (if nak then 1 else 0) ++ bytesOf 1 0 ++
    (upto 4).flatMap (fun c => bytesOf 2 (if credit = some c then 1 else 0)))
/-- The class index of a frame's credit: REQ0, REQ1, RSP0, RSP1. -/
def classCredit (rsp vc : Bool) : Nat := (if rsp then 2 else 0) + (if vc then 1 else 0)
def creditOf (f : Frame) : Nat := classCredit f.rsp f.vc

/-- A frame that neither way is open to: its entry completes with 0x0C08; the buffer of one in transit is free again. -/
def strand (m : Mod) (x : SentFrame) : Mod :=
  let m := match x.ring with
    | some r => m.doneToken r x.frame.token (fun e => { e with done := true, status := 0x0C08 })
    | none => m
  match x.inPort with
  | some i => m.sendAck i false (some (classCredit x.frame.rsp x.inVc))
  | none => m
/-- Forwards a frame, or strands it. -/
def routeFrame (m : Mod) (x : SentFrame) : Mod := let y := m.forward x; if y.1 then y.2 else m.strand x

/-- The entry of a frame has completed already. -/
def frameDone (m : Mod) (x : SentFrame) : Bool := match x.ring with
  | some r => (m.ringOf r).prog.all (fun e => decide (e.token ≠ x.frame.token) || e.done)
  | none => false
/-- The frames that wait at a port that is not ACTIVE any more go the other way (R414); those of a completed entry are not sent. -/
def rerouteFrames (m : Mod) (j : Nat) : Mod :=
  let l := (m.port j).outq
  (l.filter (fun x => !m.frameDone x)).foldl (fun m x => m.routeFrame x) (m.setPort j { m.port j with outq := [] })

/-- A port takes a state; leaving ACTIVE drops its frames and sends those that wait another way. -/
def movePort (m : Mod) (j st : Nat) : Mod :=
  let was := m.portActive j
  let m := m.setPortState j st
  let m := m.setPort j { m.port j with admitted := false, badId := false, swap := none, txSwap := none, dup := none }
  if was && decide (st ≠ 4) then (m.dropFrames j).rerouteFrames j else m

/-- A port may leave DOWN: the configuration record enables it (R456), its dimension has more than one module (R404), no module-fatal handling holds it (R536). -/
def portAllowed (m : Mod) (j : Nat) : Bool := m.jicenEn j && decide (1 < m.dimSize (j / 2)) && !m.fatalStopped

/-- A write of JC_CTL: `new` is the whole word (R408, R436, R520). -/
def writeJcCtl (m : Mod) (j : Nat) (new : W64) : W16 × Mod :=
  let a := JC_CTL j
  if m.flag a 0 then
    if bit new 0 then (if new = m.rd a then (0, m) else (0x0C01, m))
    else (0, (m.setFlag a 0 false).movePort j 0)
  else
    let m := m.wr a new
    (0, if bit new 0 && m.portAllowed j then m.movePort j 1 else m)

/-- The count of the `n`-th mark from now. -/
def markAhead (m : Mod) (n : Nat) : W64 := BitVec.ofNat 64 ((m.count.toNat / m.markPeriod + n) * m.markPeriod)

/-- A swap of receive lane `l` onto the lowest idle spare begins: the spare duplicates, LANE_SWAP announces the fourth mark (R427). -/
def beginSwap (m : Mod) (j l : Nat) : Mod :=
  match m.lanesWith j 1 with
  | [] => m
  | sp :: _ =>
    let k := m.markAhead 4
    let m := (m.setLane j sp 2 (m.fld (JC_LANE j l) 8 6)).showSpares j
    let m := m.setPort j { m.port j with swap := some (l, sp, k) }
    m.sendCtrl j 4 (bytesOf 1 l ++ bytesOf 1 sp ++ bytesOf 8 k.toNat)

/-- A write of JC_CMD: RETRAIN in ALIGNING or FAILED, SWAP of an ACTIVE lane on a trained port with an idle spare (R405, R408, R427). -/
def writeJcCmd (m : Mod) (j : Nat) (v : W64) : W16 × Mod :=
  let retrain := bit v 0
  let lane := bf v 8 6
  let swapOk := m.portTrained j && decide (lane < 40) && decide (m.laneStatus j lane = 0) && !(m.lanesWith j 1).isEmpty && (m.port j).swap.isNone
  if (retrain && !(decide (m.portState j = 2) || decide (m.portState j = 5))) || (bit v 1 && !swapOk) then (0x0C03, m)
  else
    let m := if bit v 1 then m.beginSwap j lane else m
    (0, if retrain then m.movePort j 1 else m)

/-- JC_TOPO: refused while any port is enabled, or with a coordinate outside its dimension; JC_MODULE_ID follows (R404, R436). -/
def writeTopo (m : Mod) (new : W64) : W16 × Mod :=
  if new = m.rd JC_TOPO then (0, m)
  else if (upto 6).any (fun j => m.flag (JC_CTL j) 0) then (0x0C01, m)
  else if (upto 3).any (fun x => decide (bf new (12 + 4 * x) 4 < bf new (4 * x) 4)) then (0x0C02, m)
  else (0, (m.wr JC_TOPO new).wr JC_MODULE_ID (BitVec.ofNat 64 (bf new 0 12)))

/-- A group's MEMBERS and VOTE_LAT_BT (R424): reach × (HOP_MAX_BT + 96) over the dimensions, plus 24. -/
def refreshGroup (m : Mod) (s g : Nat) : Mod :=
  let reach := fun x => if m.groupSize s g x = m.dimSize x then m.dimSize x / 2 else m.groupSize s g x - 1
  let lat := (reach 0 + reach 1 + reach 2) * (m.fld JC_HOP_MAX 0 12 + 96) + 24
  let members := m.groupSize s g 0 * m.groupSize s g 1 * m.groupSize s g 2
  if m.groupValid s g then m.wr (VGROUP s g 1) (BitVec.ofNat 64 (lat % 65536 + members % 65536 * 65536)) else m.wr (VGROUP s g 1) 0

/-- A write of a VGROUP word 0 (R436). -/
def writeGroup (m : Mod) (s g : Nat) (new : W64) : W16 × Mod :=
  if new = m.rd (VGROUP s g 0) then (0, m)
  else if m.jobRuns s then (0x0C01, m)
  else (0, (m.wr (VGROUP s g 0) new).refreshGroup s g)

/-! ## Identity and admission (R405, R428) -/

/-- The module ID that faces port `j` (R404). -/
def facingId (m : Mod) (j : Nat) : Nat :=
  let x := j / 2
  let d := m.dimSize x
  let c := if j % 2 = 1 then (m.coord x + 1) % d else (m.coord x + d - 1) % d
  (upto 3).foldl (fun a y => a + (if y = x then c else m.coord y) * 16 ^ y) 0
/-- The port that faces port `j`. -/
def facingPort (j : Nat) : Nat := if j % 2 = 0 then j + 1 else j - 1

/-- This side sends PORT_ADMIT: the lower module ID, or the lower port number. -/
def sendsAdmit (m : Mod) (j : Nat) : Bool :=
  decide (m.moduleId < m.facingId j) || (decide (m.moduleId = m.facingId j) && decide (j < facingPort j))

/-- Announces an admission mark. -/
def announce (m : Mod) (j : Nat) (k : W64) : Mod :=
  let m := m.wr (JC_ADMIT j) k
  (m.setPort j { m.port j with admitted := true }).sendCtrl j 5 (bytesOf 8 k.toNat)

/-- The identity of the far side, and the measured delay. -/
def meetNeighbour (m : Mod) (j : Nat) (n : Neighbour) : Mod :=
  if m.portState j ≠ 2 ∨ (m.port j).badId = true then m
  else
    let d := ceilDiv n.delay64.toNat 64
    let m := (m.wr (BCN_PORT_DELAY j) (n.delay64.zeroExtend 64)).wr (JC_LAT j) (BitVec.ofNat 64 ((104 + d) % 65536))
    let m := (m.setF (JC_STATUS j) 16 12 n.id.toNat).setF (JC_STATUS j) 28 3 n.port.toNat
    if n.id.toNat = m.facingId j ∧ n.port.toNat = facingPort j ∧ n.dims.toNat = m.fld JC_TOPO 12 12 ∧ n.delay64.toNat ≤ 64 * m.fld JC_HOP_MAX 0 12 then
      let m := m.setPortState j 3
      if m.sendsAdmit j then m.announce j (m.markAhead 64) else m
    else (m.setPort j { m.port j with badId := true }).raisePort j 0x0C25 0

/-- PORT_ADMIT arrives: the side that did not send it answers with the same count. -/
def takeAdmit (m : Mod) (j : Nat) (k : W64) : Mod :=
  if m.portState j ≠ 3 then m
  else if m.sendsAdmit j then m
  else m.announce j k

/-- The admission mark: ACTIVE, with fresh sequences and the credit of R415. -/
def admitPort (m : Mod) (j : Nat) : Mod :=
  if m.portState j = 3 ∧ (m.port j).admitted = true ∧ m.atMark = true ∧ m.rd (JC_ADMIT j) ≤ m.count then
    (m.setPortState j 4).setPort j { m.port j with txSeq := 0, rxSeq := 0, replay := [], credits := [(0, 96), (1, 96), (2, 192), (3, 192)] }
  else m

/-! ## Lanes (R427) -/

/-- A direction with fewer than 32 usable lanes fails the port. -/
def checkLanes (m : Mod) (j : Nat) : Mod :=
  if m.portTrained j && decide ((m.lanesWith j 3).length > 8) then (m.movePort j 5).raisePort j 0x0C22 0 else m

/-- A window's count of a lane, or its loss of signal. -/
def laneFault (m : Mod) (j l : Nat) (symbols : W32) (lost : Bool) : Mod :=
  if 40 ≤ l ∨ m.portTrained j = false then m
  else
    let m := (m.setF (JC_LANE j l) 32 32 symbols.toNat).addCnt (JC_CNT j 5) symbols.toNat
    if lost = false ∧ symbols.toNat ≤ m.fld (JC_LANE_THRESH j) 0 32 then m
    else if m.laneStatus j l = 0 ∧ (m.lanesWith j 1).isEmpty = false ∧ (m.port j).swap = none then m.beginSwap j l
    else if lost then ((m.setF (JC_LANE j l) 0 3 3).showSpares j).checkLanes j
    else m

/-- LANE_SWAP arrives: this side's transmitter switches at the announced mark. -/
def takeSwap (m : Mod) (j l sp : Nat) (k : W64) : Mod :=
  if m.portTrained j && decide (l < 40) && decide (sp < 40) then m.setPort j { m.port j with txSwap := some (l, sp, k) } else m

/-- The switch at the slot boundary of the effective mark. -/
def switchLane (m : Mod) (j l : Nat) : Mod :=
  let m := match (m.port j).txSwap with
    | some (x, sp, k) => if x = l ∧ k ≤ m.count then
        m.setPort j { m.port j with txSwap := none, txMap := (l, sp) :: (m.port j).txMap.filter (fun p => decide (p.1 ≠ l)) } else m
    | none => m
  match (m.port j).swap with
  | some (x, sp, k) => if x = l ∧ k ≤ m.count then
      let m := (m.setF (JC_LANE j sp) 0 3 0).setF (JC_LANE j l) 0 3 2
      let m := m.setPort j { m.port j with swap := none, dup := some (l, m.markAhead 1) }
      (m.addCnt (JC_CNT j 9) 1).raisePort j 0x0C21 l
    else m
  | none => m

/-- One mark later the old lane is FAILED. -/
def endDuplication (m : Mod) (j l : Nat) : Mod :=
  match (m.port j).dup with
  | some (x, k) => if x = l ∧ k ≤ m.count then
      (((m.setF (JC_LANE j l) 0 3 3).setPort j { m.port j with dup := none }).showSpares j).checkLanes j
    else m
  | none => m

/-! ## Frames of this module (R409 to R412, R425) -/

/-- The next nonce counter of a key slot (R410). -/
def nextCtr (m : Mod) (i : Nat) : W64 × Mod :=
  let c := Sparse.get (fun _ => (0 : W64)) m.keyCtrs i
  (c, { m with keyCtrs := Sparse.put (fun _ => 0) m.keyCtrs i (c + 1) })

/-- A message to another module under a job. -/
structure Msg where
  rsp : Bool
  dst : Nat
  job : W16
  msg : Nat
  flags : Nat
  token : W16
  status : W16 := 0
  addr : Nat
  arg : Nat
  wait : Nat := 0
  data : List Byte := []

/-- Sends a message; false when its destination is unreachable. -/
def sendMsg (m : Mod) (x : Msg) (ring : Option Nat) : Bool × Mod :=
  let c := m.nextCtr ((m.keySlotFor x.job).getD 0)
  let f : Frame := { rsp := x.rsp, vc := false, seq := 0, dst := BitVec.ofNat 12 x.dst, src := BitVec.ofNat 12 m.moduleId, job := x.job, ctr := c.1
                     crcOk := true, tagOk := true, msg := BitVec.ofNat 8 x.msg, flags := BitVec.ofNat 8 x.flags, token := x.token, status := x.status
                     addr := BitVec.ofNat 64 x.addr, arg := BitVec.ofNat 64 x.arg, wait := BitVec.ofNat 64 x.wait, data := x.data }
  c.2.forward { frame := f, ring := ring }

def creditLeft (m : Mod) (j c : Nat) : Nat := Sparse.get (fun _ => 0) (m.port j).credits c
def addCredit (m : Mod) (j c n : Nat) : Mod :=
  m.setPort j { m.port j with credits := Sparse.put (fun _ => 0) (m.port j).credits c (m.creditLeft j c + n) }

/-! ## Slots (R407, R413, R417, R418) -/

/-- The TIME block of this slot. -/
def timeBlock (m : Mod) : List Byte :=
  crcBlock 1 (bytesOf 8 (m.count.toNat / 4 * 4) ++ bytesOf 1 (m.fld BCN_STATUS 8 5) ++ bytesOf 1 (m.fld BCN_STATUS 0 4) ++
    bytesOf 2 (if m.bcnSource = 0 then m.moduleId else m.master.toNat))

/-- The first pending control block in the order of the table. -/
def nextCtrl (l : List (List Byte)) : Option (List Byte) :=
  [7, 4, 5, 6, 1, 2, 3].findSome? (fun t => l.find? (fun b => decide (num b 0 1 = t)))

/-- Sends one control block. -/
def slotCtrl (m : Mod) (j : Nat) : Mod :=
  let m := if m.count.toNat / 4 % 64 = 0 then m.queueCtrl j [1] else m
  match nextCtrl (m.port j).ctrl with
  | none => m.sendOut (.ctrl j (List.replicate 32 0))
  | some b =>
    let m := m.setPort j { m.port j with ctrl := (m.port j).ctrl.erase b }
    m.sendOut (.ctrl j (if num b 0 1 = 1 then m.timeBlock else b))

/-- The next credited frame: what is in transit or answers first, then the rings round robin by number. -/
def pickFrame (m : Mod) (j : Nat) : Option SentFrame :=
  let p := m.port j
  let ok := p.outq.filter (fun x => decide (0 < m.creditLeft j (creditOf x.frame)))
  let heads := ok.filter (fun x => match p.outq.find? (fun y => decide (y.ring = x.ring)) with | some y => decide (y = x) | none => false)
  match ok.find? (fun x => x.ring.isNone) with
  | some x => some x
  | none => (heads.find? (fun x => decide (p.rr < x.ring.getD 0))).or heads.head?

/-- The rings whose next frame has no credit: CNT_CREDIT_STALL counts each of the 4 bt of a slot for each (R417). -/
def stalledRings (m : Mod) (j : Nat) : List Nat :=
  ((m.port j).outq.filterMap (fun x => x.ring)).eraseDups.filter (fun r => match (m.port j).outq.find? (fun x => decide (x.ring = some r)) with
    | some x => decide (m.creditLeft j (creditOf x.frame) = 0)
    | none => false)

/-- Sends one credited frame: its sequence, the replay buffer of 256, one credit.  The wait for its acknowledgement starts where none ran. -/
def slotFrame (m : Mod) (j : Nat) : Mod :=
  let p := m.port j
  if p.outq.isEmpty ∨ 256 ≤ p.replay.length then m
  else match m.pickFrame j with
    | none => m
    | some x =>
      let y := { x with seq := p.txSeq, frame := { x.frame with seq := p.txSeq } }
      let m := m.setPort j { p with outq := p.outq.erase x, replay := p.replay ++ [y], txSeq := p.txSeq + 1, rr := x.ring.getD p.rr
                                    ackAt := if p.replay.isEmpty then m.count else p.ackAt }
      let c := creditOf x.frame
      let m := m.setPort j { m.port j with credits := Sparse.put (fun _ => 0) (m.port j).credits c (m.creditLeft j c - 1) }
      let m := (m.sendOut (.frame j y.frame)).addCnt (JC_CNT j 0) 1
      match x.inPort with
      | some i => m.sendAck i false (some c)
      | none => m

/-- The compiled words that the port sends in this slot, with their bt within it; none of a record launched before its admission mark (R428). -/
def slotWords (m : Mod) (j : Nat) : List PortWord :=
  let launch := (m.rd (XCH_LAUNCH (m.fld (JC_CTL j) 2 3))).toNat
  if launch < (m.rd (JC_ADMIT j)).toNat then []
  else ((m.port j).compiledOut.filter (fun w => decide ((launch + w.b) / 4 = m.count.toNat / 4))).map (fun w => { w with b := (launch + w.b) % 4 })

/-- The compiled words of a slot leave in one frame under the key of their partition; without a loaded key nothing leaves, as no frame of a job goes in clear (R410, R418). -/
def slotCompiled (m : Mod) (j : Nat) (w : List PortWord) : Mod :=
  let s := m.fld (JC_CTL j) 2 3
  let launch := (m.rd (XCH_LAUNCH s)).toNat
  let m := m.setPort j { m.port j with compiledOut := (m.port j).compiledOut.filter (fun x => decide (m.count.toNat / 4 < (launch + x.b) / 4)) }
  match m.keySlotOf s with
  | none => m
  | some i =>
    let c := m.nextCtr i
    ((c.2.sendOut (.compiled j (BitVec.ofNat 12 (m.count.toNat / 4)) (BitVec.ofNat 16 (m.jobTagOf s)) c.1 w)).addCnt (JC_CNT j 2) 1).addCnt (JC_CNT j 0) 1

/-- A slot of a port. -/
def slot (m : Mod) (j : Nat) : Mod :=
  if (m.running && decide (1 ≤ m.portState j) && decide (m.portState j ≤ 4) && decide ((m.port j).slotSent ≠ m.count.toNat / 4 + 1)) = false then m
  else
    let m := m.setPort j { m.port j with slotSent := m.count.toNat / 4 + 1 }
    let m := m.slotCtrl j
    if !m.portActive j then m
    else
      let m := m.addCnt (JC_CNT j 8) (4 * (m.stalledRings j).length)
      let w := m.slotWords j
      if w.isEmpty then m.slotFrame j else m.slotCompiled j w

/-- A COMPILED frame arrives (R242, R418): its words enter the link die's node, or it is lost. -/
def takeCompiled (m : Mod) (j : Nat) (a : CompiledArrival) : Mod :=
  if !m.portActive j || !m.flag (JC_CTL j) 1 then m
  else
    let m := m.addCnt (JC_CNT j 1) 1
    if !a.ok then (if a.fecBad then m.addCnt (JC_CNT j 6) 1 else m).raisePortIn j 0x0627 (some (m.fld (JC_CTL j) 2 3))
    else a.words.foldl (fun m w => m.linkNodeWord j { stream := w.stream, lane := w.lane, bt := a.bt + w.b, word := w.word }) m

/-! ## Replay (R416) -/

/-- Frames from a place in the replay buffer on are sent again, byte for byte; the eighth resend of one retrains the port. -/
def resend (m : Mod) (j : Nat) : Mod :=
  let p := m.port j
  let l := p.replay.map (fun x => { x with resent := x.resent + 1 })
  let m := (m.setPort j { p with replay := l, ackAt := m.count }).addCnt (JC_CNT j 3) l.length
  let m := l.foldl (fun m x => m.sendOut (.frame j x.frame)) m
  if l.any (fun x => decide (8 ≤ x.resent)) then (m.movePort j 1).raisePort j 0x0C23 0 else m

/-- The sender has had no acknowledgement for 2 × (d + 104) + 64 bt; JC_LAT is 104 + ⌈d⌉ (R420). -/
def ackOverdue (m : Mod) (j : Nat) : Bool := decide (2 * m.fld (JC_LAT j) 0 16 + 64 ≤ (m.count - (m.port j).ackAt).toNat)

/-- An ACK block: frames up to ACK_SEQ leave the replay buffer, credit returns, NAK asks for the rest again. -/
def takeAck (m : Mod) (j : Nat) (a : AckBlock) : Mod :=
  if !m.portActive j then m
  else
    let m := m.setPort j { m.port j with replay := (m.port j).replay.filter (fun x => decide (2048 ≤ (a.ackSeq - x.seq).toNat)), ackAt := m.count }
    let m := (((m.addCredit j 0 a.req0).addCredit j 1 a.req1).addCredit j 2 a.rsp0).addCredit j 3 a.rsp1
    if a.nak && !(m.port j).replay.isEmpty then m.resend j else m

/-- A REQ or RSP frame at a port: only the next sequence with a good CRC is taken; another is answered with NAK, and one beyond FEC is counted. -/
def takeFrame (m : Mod) (j : Nat) (x : Frame) (f : Mod → Mod) : Mod :=
  if !m.portActive j then m
  else if !x.crcOk || decide (x.seq ≠ (m.port j).rxSeq) then ((if x.fecBad then m.addCnt (JC_CNT j 6) 1 else m).addCnt (JC_CNT j 4) 1).sendAck j true none
  else
    let m := m.setPort j { m.port j with rxSeq := (m.port j).rxSeq + 1 }
    f (m.addCnt (JC_CNT j 1) 1)

/-! ## Requests at their destination (R412, R425, R426) -/

/-- Answers a request. -/
def reply_ (m : Mod) (x : Frame) (msg : Nat) (status : W16) (arg : Nat) (data : List Byte) (last : Bool) (addr : Nat) : Mod :=
  (m.sendMsg { rsp := true, dst := x.src.toNat, job := x.job, msg := msg, flags := (if last then 1 else 0) + x.flags.toNat / 4 % 4 * 4, token := x.token
               status := status, addr := addr, arg := arg, data := data } none).2

/-- What answers a request: PUT_ACK, GET_DATA or BUOY_RSP. -/
def answerOf (x : Frame) : Nat := x.msg.toNat + 1
def refuseMsg (m : Mod) (x : Frame) (status : W16) : Mod := m.reply_ x (answerOf x) status 0 [] true 0

/-- GET_DATA frames of up to 79 words. -/
def sendData (m : Mod) (x : Frame) (addr : Nat) : Nat → List Byte → Mod
  | 0, _ => m
  | n + 1, b => sendData (m.reply_ x 4 0 0 (b.take 2528) (decide (n = 0)) addr) x (addr + 2528) n (b.drop 2528)

/-- The buoy operation of a BUOY message: 0 add, 1 set, 2 compare-and-set, in ADDR [14:13] (log entry 29). -/
def msgBop (x : Frame) : Nat := bf x.addr 13 2
def msgBuoy (x : Frame) : Nat := bf x.addr 0 13

/-- A request is performed in partition `s`; the reserved operation of a BUOY message is refused with 0x0C04 (R10; log entry 29). -/
def performMsg (m : Mod) (s : Nat) (x : Frame) : Mod :=
  let a := bf x.addr 0 41
  let closed := fun (m : Mod) => (m.hbmFault s a).refuseMsg x (m.hbmCode s a)
  if x.msg = 1 then
    if m.hbmRange s a x.data.length 32 = false then m.refuseMsg x 0x0902
    else if m.hbmCode s a ≠ 0 then closed m
    else (m.storeHbm s a x.data).reply_ x 2 0 x.data.length [] true 0
  else if x.msg = 3 then
    let n := bf x.arg 0 32
    if m.hbmRange s a n 32 = false then m.refuseMsg x 0x0902
    else if m.hbmCode s a ≠ 0 then closed m
    else let y := m.readHbm s a n
         y.2.sendData x a (ceilDiv n 2528) y.1
  else
    let b := msgBuoy x
    let prior := (m.buoy b).value
    let src := Source.id (.jicen x.src.toNat)
    if msgBop x = 3 then m.refuseMsg x 0x0C04
    else if m.slotOfBuoy b ≠ some s then m.refuseMsg x 0x0804
    else if !m.buoyLive b then m.refuseMsg x 0x0806
    else
      let v := BitVec.ofNat 32 (bf x.arg 0 32)
      let m := if msgBop x = 0 then m.buoyAddOp b v src else if msgBop x = 1 then m.buoySetOp b v src else m.buoyCasOp b (BitVec.ofNat 32 (bf x.arg 32 32)) v src
      m.reply_ x 6 0 prior.toNat [] true 0

/-- The condition of a remote wait: the mask travels in ARG for GET, and is all ones for the others. -/
def waitMet (m : Mod) (x : Frame) : Bool :=
  let b := bf x.wait 0 13
  m.buoyLive b && condHolds (BitVec.ofNat 3 (bf x.wait 13 3)) (m.buoy b).value (BitVec.ofNat 32 (bf x.wait 16 32))
    (if x.msg = 3 then BitVec.ofNat 32 (bf x.arg 32 32) else BitVec.allOnes 32)

/-- A request at its destination: held while its remote wait lasts, 256 at most; a reserved condition is refused with 0x0C04 (R10; log entry 29). -/
def request (m : Mod) (j s : Nat) (x : Frame) : Mod :=
  if bit x.flags 1 then
    if 4 ≤ bf x.wait 13 3 then m.refuseMsg x 0x0C04
    else if m.slotOfBuoy (bf x.wait 0 13) ≠ some s then m.refuseMsg x 0x0804
    else if 256 ≤ (m.port j).held.length then m.refuseMsg x 0x0C07
    else m.setPort j { m.port j with held := (m.port j).held ++ [{ frame := x, since := m.count }] }
  else m.performMsg s x

/-- A frame for this module: its job's key slot, its tag, then its message. -/
def endFrame (m : Mod) (j : Nat) (x : Frame) (msg : Nat) (f : Mod → Nat → Mod) : Mod :=
  if x.dst.toNat ≠ m.moduleId ∨ x.msg.toNat ≠ msg ∨ x.rsp ≠ decide (msg % 2 = 0) then m
  else m.takeFrame j x (fun m =>
    let m := m.sendAck j false (some (creditOf x))
    match m.slotOfJob x.job with
    | none =>
      let m := m.addCnt (JC_CNT j 7) 1
      if x.rsp then m else m.refuseMsg x 0x0C09
    | some s =>
      if !x.tagOk then (m.addCnt (JC_CNT j 7) 1).raisePortIn j 0x0C24 (some s)
      else f m s)

/-! ## Responses at their origin (R425) -/

/-- The ring and entry that a token names. -/
def tokenEntry (m : Mod) (token : W16) : Option (Nat × RingEntry) :=
  (m.rings.filter (fun p => decide (ringKind p.1 = 3))).findSome? (fun p =>
    (p.2.prog.find? (fun e => decide (e.token = token) && !e.done)).map (fun e => (p.1, e)))

/-- Frames of a PUT of `n` bytes. -/
def putFrames (b : List Byte) : Nat := ceilDiv (num b 0x1C 4) 2528

/-- PUT_ACK: the entry completes with its last acknowledgement; a remote status stays. -/
def takePutAck (m : Mod) (x : Frame) : Mod :=
  match m.tokenEntry x.token with
  | none => m
  | some (r, _) => m.doneToken r x.token (fun e =>
      let e := { e with acks := e.acks + 1, bytes := e.bytes + bf x.arg 0 32, status := if e.status = 0 then x.status else e.status }
      { e with done := decide (putFrames e.image ≤ e.acks) })

/-- GET_DATA: the words are written locally in order; the entry completes with the last. -/
def takeGetData (m : Mod) (x : Frame) : Mod :=
  match m.tokenEntry x.token with
  | none => m
  | some (r, e) =>
    let s := (m.slotOfRing r).getD 0
    if x.status ≠ 0 then m.doneToken r x.token (fun e => { e with done := true, status := x.status })
    else
      let a := num e.image 0x20 8 + e.bytes
      let c := m.hbmCode s a
      let m := if c = 0 then m.storeHbm s a x.data else m.hbmFault s a
      m.doneToken r x.token (fun e => { e with bytes := e.bytes + x.data.length, status := (if e.status = 0 then c else e.status), done := decide (num e.image 0x1C 4 ≤ e.bytes + x.data.length) })

/-- BUOY_RSP: DETAIL holds the prior value and the remote status. -/
def takeBuoyRsp (m : Mod) (x : Frame) : Mod :=
  match m.tokenEntry x.token with
  | none => m
  | some (r, _) => m.doneToken r x.token (fun e =>
      { e with done := true, status := x.status, detail := bytesOf 4 (bf x.arg 0 32) ++ bytesOf 2 x.status.toNat })

/-! ## Entries (R425, R426) -/

/-- The WAIT field of a message from the entry's header. -/
def entryWaitField (b : List Byte) : Nat := num b 4 2 + num b 8 4 * 2 ^ 16

/-- A JICEN entry of an opcode that has not sent yet; it takes a transfer token. -/
def jicenStart (m : Mod) (r op : Nat) (f : Mod → RingEntry → Nat → W16 × Mod) : Mod :=
  match (m.working r).find? (fun e => decide (e.token = 0)) with
  | none => m
  | some e =>
    if ringKind r ≠ 3 ∨ entryOp e.image ≠ op then m
    else
      let s := (m.slotOfRing r).getD 0
      let tok := if m.nextToken = 0 then 1 else m.nextToken
      let m := { m with nextToken := tok + 1 }
      let e := { e with token := tok }
      let m := m.setRing r { m.ringOf r with prog := (m.ringOf r).prog.map (fun y => if y.index = e.index then e else y) }
      let x := f m e s
      if x.1 = 0 then x.2 else x.2.doneToken r tok (fun y => { y with done := true, status := x.1 })

/-- A message of an entry. -/
def entryMsg (m : Mod) (r : Nat) (e : RingEntry) (s msg addr arg : Nat) (data : List Byte) (last : Bool) : Bool × Mod :=
  let rw := num e.image 0x1A 1 % 2
  m.sendMsg { rsp := false, dst := num e.image 0x18 2, job := BitVec.ofNat 16 (m.jobTagOf s), msg := msg
              flags := (if last then 1 else 0) + 2 * rw + 4 * m.ringClass r, token := e.token, addr := addr, arg := arg
              wait := if rw = 1 then entryWaitField e.image else 0, data := data } (some r)

/-- The frames of a PUT, 2,528 bytes each. -/
def sendPut (m : Mod) (r : Nat) (e : RingEntry) (s addr : Nat) : Nat → List Byte → W16 × Mod
  | 0, _ => (0, m)
  | n + 1, b =>
    let x := m.entryMsg r e s 1 addr 0 (b.take 2528) (decide (n = 0))
    if x.1 then sendPut x.2 r e s (addr + 2528) n (b.drop 2528) else (0x0C08, m)

/-! ## Vote words (R384, R422, R423) -/

/-- Does a word that has travelled `h` hops in a direction go on? -/
def voteGoes (m : Mod) (s g x h : Nat) (plus : Bool) : Bool :=
  let n := m.groupSize s g x
  let d := m.dimSize x
  if n = d then
    let lim := if m.portActive (2 * x + 1) && m.portActive (2 * x) then (if plus then d / 2 else ceilDiv d 2 - 1) else n - 1
    decide (h < lim)
  else if plus then decide (m.linePos s g x + 1 < n) else decide (0 < m.linePos s g x)

/-- A VOTE block arrives: kept, forwarded, combined. -/
def takeVote (m : Mod) (j : Nat) (v : VoteBlock) : Mod :=
  match m.slotOfJob v.job with
  | none => m
  | some s =>
    if !v.tagOk then m.raisePortIn j 0x0C28 (some s)
    else
      let k := v.kind.toNat
      let ph := v.phase.toNat
      if k = 0 ∨ 3 < k ∨ ph ≠ j / 2 ∨ m.jobRuns s = false then m
      else if 2 ≤ k ∧ v.refr ≠ (m.rd (STEP_NUM s)).truncate 32 then m.raiseStepBlock s 0x0B27
      else
        let w : VoteWord := { kind := k, phase := ph, group := v.group.toNat, origin := v.origin.toNat, refr := v.refr, count := v.count.toNat, flags := v.flags }
        let plus := decide (j % 2 = 0)
        let m := if m.voteGoes s w.group ph v.hops.toNat plus then m.queueVote s (facingPort j) w (v.hops.toNat + 1) else m
        if (m.votesHeld s w).any (fun y => decide (y.origin = w.origin)) then m
        else
          let m := m.modPart s (fun p => { p with votes := p.votes ++ [w] })
          match (m.votesHeld s w).find? (fun y => decide (y.origin = m.moduleId)) with
          | some own => m.advanceVote s own 5
          | none => m

/-! ## Time and calibration (R252 to R256, R413) -/

/-- A TIME block (R252 to R258): from the source port a follower takes depth and residual, and in ALIGNING loads the count once the port's delay is calibrated; 16 bad ones in a row are HOLDOVER; in HOLDOVER a valid one on ALT_PORT makes that port the source. -/
def takeTime (m : Mod) (j : Nat) (w : TimeWord) : Mod :=
  let follows := decide (m.bcnSource ≠ 0) && decide (2 ≤ m.bcnState)
  if !w.ok then
    let m := m.addCnt (JC_CNT j 10) 1
    if !follows || decide (m.srcActive ≠ j) then m
    else if m.bcnState = 3 ∧ 15 ≤ m.badTimes then m.enterHoldover
    else { m with badTimes := m.badTimes + 1 }
  else if !follows then m
  else
    let m := if m.bcnState = 4 ∧ j = m.altPort then m.setF BCN_STATUS 4 3 j else m
    if m.srcActive ≠ j then m
    else
      let m : Mod := { m.setF BCN_STATUS 8 5 (min (w.depth.toNat + 1) 31) with master := w.master, badTimes := 0 }
      if m.bcnState = 2 then
        (if m.calDone.contains j then (m.setF BCN_STATUS 32 16 w.resid.toNat).loadCount (w.count + BitVec.ofNat 64 (m.fld (BCN_PORT_DELAY j) 0 32 / 64)) else m)
      else
        let m := m.measure w.resid
        if m.bcnState = 4 ∧ residNear w.resid then m.enterLocked else m

/-- CAL_REQ is answered with the local instants, whose fractions of a bt are free. -/
def takeCalReq (m : Mod) (j : Nat) (tag : Byte) : Mod :=
  let a := m.draw 6
  let b := a.2.draw 32
  b.2.sendCtrl j 3 ([tag] ++ bytesOf 8 ((b.2.count.toNat * 64 + a.1.toNat) % 2 ^ 62) ++ bytesOf 4 b.1.toNat)

/-- CAL_RSP ends a measurement of the one-way delay. -/
def takeCalRsp (m : Mod) (j : Nat) (c : CalRsp) : Mod :=
  let d := (c.t4 - c.t1 - c.t3mt2) / 2
  { (m.wr (BCN_PORT_DELAY j) (BitVec.ofNat 64 (d % 2 ^ 32))).wr (JC_LAT j) (BitVec.ofNat 64 ((104 + ceilDiv d 64) % 65536)) with calDone := j :: m.calDone.erase j }

end Mod

/-! ## Meanings -/

/-- The whole word that a write of JC_CTL with value `v` leaves. -/
def jcCtlWord (v : W64) : W64 := v &&& 0x1F

/-- JICEN_PORT_ENABLE: a write of JC_CTL with ENABLE 1 (R408, R436). -/
def execJicenPortEnable (who : Requester) (j : Nat) (v : W64) (s : State) : Host.Outcome State Fault Refusal :=
  onPort s j (fun m => m.commit who (JC_CTL j) (m.writeJcCtl j (jcCtlWord v ||| 1)))
/-- JICEN_PORT_DISABLE: a write that clears ENABLE (R408). -/
def execJicenPortDisable (who : Requester) (j : Nat) (s : State) : Host.Outcome State Fault Refusal :=
  onPort s j (fun m => m.commit who (JC_CTL j) (m.writeJcCtl j (m.rd (JC_CTL j) &&& ~~~1)))
/-- JICEN_TRAINING_DONE (R408). -/
def execJicenTrainingDone (j : Nat) (s : State) : Host.Outcome State Fault Refusal :=
  onPort s j (fun m => if m.portState j = 1 then ((m.movePort j 2).firstMap j).showSpares j else m)
/-- JICEN_TRAINING_TIMEOUT: FAILED, 0x0C22 (R408). -/
def execJicenTrainingTimeout (j : Nat) (s : State) : Host.Outcome State Fault Refusal :=
  onPort s j (fun m => if m.portState j = 1 then (m.movePort j 5).raisePort j 0x0C22 0 else m)
/-- NEIGHBOUR_IDENTITY (R405). -/
def execNeighbourIdentity (j : Nat) (n : Neighbour) (s : State) : Host.Outcome State Fault Refusal := onPort s j (fun m => m.meetNeighbour j n)
/-- PORT_ADMIT arrives (R428). -/
def execPortAdmit (j : Nat) (markCount : W64) (s : State) : Host.Outcome State Fault Refusal := onPort s j (fun m => m.takeAdmit j markCount)
/-- PORT_ADMISSION_MARK (R428). -/
def execPortAdmissionMark (j : Nat) (s : State) : Host.Outcome State Fault Refusal := onPort s j (fun m => m.admitPort j)
/-- JC_CMD_RETRAIN (R408). -/
def execJcCmdRetrain (who : Requester) (j : Nat) (s : State) : Host.Outcome State Fault Refusal :=
  onPort s j (fun m => m.commit who (portReg j 0x20) (m.writeJcCmd j 1))
/-- JC_CMD_SWAP (R427). -/
def execJcCmdSwap (who : Requester) (j lane : Nat) (s : State) : Host.Outcome State Fault Refusal :=
  onPort s j (fun m => m.commit who (portReg j 0x20) (m.writeJcCmd j (BitVec.ofNat 64 (2 + lane % 64 * 256))))
/-- JICEN_SLOT (R407). -/
def execJicenSlot (j : Nat) (s : State) : Host.Outcome State Fault Refusal := onPort s j (fun m => m.slot j)
/-- COMPILED_FRAME (R418, R242). -/
def execCompiledFrame (j : Nat) (a : CompiledArrival) (s : State) : Host.Outcome State Fault Refusal := onPort s j (fun m => m.takeCompiled j a)
/-- PUT (R412). -/
def execPut (j : Nat) (x : Frame) (s : State) : Host.Outcome State Fault Refusal := onPort s j (fun m => m.endFrame j x 1 (fun m p => m.request j p x))
/-- PUT_ACK (R425). -/
def execPutAck (j : Nat) (x : Frame) (s : State) : Host.Outcome State Fault Refusal := onPort s j (fun m => m.endFrame j x 2 (fun m _ => m.takePutAck x))
/-- GET (R412). -/
def execGet (j : Nat) (x : Frame) (s : State) : Host.Outcome State Fault Refusal := onPort s j (fun m => m.endFrame j x 3 (fun m p => m.request j p x))
/-- GET_DATA (R425). -/
def execGetData (j : Nat) (x : Frame) (s : State) : Host.Outcome State Fault Refusal := onPort s j (fun m => m.endFrame j x 4 (fun m _ => m.takeGetData x))
/-- BUOY_MESSAGE (R412). -/
def execBuoyMessage (j : Nat) (x : Frame) (s : State) : Host.Outcome State Fault Refusal :=
  onPort s j (fun m => m.endFrame j x 5 (fun m p => m.request j p x))
/-- BUOY_RSP (R425). -/
def execBuoyRsp (j : Nat) (x : Frame) (s : State) : Host.Outcome State Fault Refusal := onPort s j (fun m => m.endFrame j x 6 (fun m _ => m.takeBuoyRsp x))
/-- VOTE (R423). -/
def execVote (j : Nat) (v : VoteBlock) (s : State) : Host.Outcome State Fault Refusal :=
  onPort s j (fun m => if m.portTrained j then m.takeVote j v else m)
/-- LANE_SWAP arrives (R427). -/
def execLaneSwap (j lane spare : Nat) (markCount : W64) (s : State) : Host.Outcome State Fault Refusal :=
  onPort s j (fun m => m.takeSwap j lane spare markCount)
/-- LANE_SWITCH (R427). -/
def execLaneSwitch (j lane : Nat) (s : State) : Host.Outcome State Fault Refusal := onPort s j (fun m => m.switchLane j lane)
/-- LANE_DUPLICATION_END (R427). -/
def execLaneDuplicationEnd (j lane : Nat) (s : State) : Host.Outcome State Fault Refusal := onPort s j (fun m => m.endDuplication j lane)
/-- LANE_FAULT (R427). -/
def execLaneFault (j lane : Nat) (symbols : W32) (lost : Bool) (s : State) : Host.Outcome State Fault Refusal :=
  onPort s j (fun m => m.laneFault j lane symbols lost)
/-- ACK_BLOCK (R416). -/
def execAckBlock (j : Nat) (a : AckBlock) (s : State) : Host.Outcome State Fault Refusal := onPort s j (fun m => m.takeAck j a)
/-- TIME (R413, R254). -/
def execTime (j : Nat) (w : TimeWord) (s : State) : Host.Outcome State Fault Refusal :=
  onPort s j (fun m => if m.portTrained j then m.takeTime j w else m)
/-- CAL_REQ (R254). -/
def execCalReq (j : Nat) (tag : Byte) (s : State) : Host.Outcome State Fault Refusal :=
  onPort s j (fun m => if m.portTrained j then m.takeCalReq j tag else m)
/-- CAL_RSP (R254). -/
def execCalRsp (j : Nat) (c : CalRsp) (s : State) : Host.Outcome State Fault Refusal :=
  onPort s j (fun m => if m.portTrained j then m.takeCalRsp j c else m)
/-- RESERVED_CONTROL_BLOCK: a reserved type or a bad CRC is dropped and counted (R413). -/
def execReservedControlBlock (j : Nat) (ty : Byte) (crcOk : Bool) (s : State) : Host.Outcome State Fault Refusal :=
  onPort s j (fun m => if 8 ≤ ty.toNat ∨ crcOk = false then m.addCnt (JC_CNT j 10) 1 else m)
/-- REPLAY_TIMEOUT: no acknowledgement for 2 × (d + 104) + 64 bt (R416). -/
def execReplayTimeout (j : Nat) (s : State) : Host.Outcome State Fault Refusal :=
  onPort s j (fun m => if m.portActive j && !(m.port j).replay.isEmpty && m.ackOverdue j then m.resend j else m)
/-- JICEN_ENTRY_PUT (R425). -/
def execJicenEntryPut (r : Nat) (s : State) : Host.Outcome State Fault Refusal :=
  onRing s r (fun m => m.jicenStart r 1 (fun m e p =>
    let a := num e.image 0x20 8
    let c := m.hbmCode p a
    let b := m.readHbm p a (num e.image 0x1C 4)
    if c = 0 then b.2.sendPut r e p (num e.image 0x28 8) (Mod.putFrames e.image) b.1 else (c, m.hbmFault p a)))
/-- JICEN_ENTRY_GET (R425). -/
def execJicenEntryGet (r : Nat) (s : State) : Host.Outcome State Fault Refusal :=
  onRing s r (fun m => m.jicenStart r 2 (fun m e p =>
    let x := m.entryMsg r e p 3 (num e.image 0x28 8) (num e.image 0x1C 4 + num e.image 0x0C 4 * 2 ^ 32) [] true
    (if x.1 then 0 else 0x0C08, x.2)))
/-- JICEN_ENTRY_BUOY (R425). -/
def execJicenEntryBuoy (r : Nat) (s : State) : Host.Outcome State Fault Refusal :=
  onRing s r (fun m => m.jicenStart r 3 (fun m e p =>
    let x := m.entryMsg r e p 5 (num e.image 0x1C 4 + num e.image 0x1B 1 * 2 ^ 13) (num e.image 0x28 8) [] true
    (if x.1 then 0 else 0x0C08, x.2)))
/-- RWAIT_POLL: a held request reads its buoy (R426). -/
def execRwaitPoll (j n : Nat) (s : State) : Host.Outcome State Fault Refusal :=
  onPort s j (fun m => match (m.port j).held[n]? with
    | none => m
    | some h => if m.waitMet h.frame then
        let m := m.setPort j { m.port j with held := (m.port j).held.eraseIdx n }
        match m.slotOfJob h.frame.job with
        | some p => m.performMsg p h.frame
        | none => m
      else m)
/-- RWAIT_TIMEOUT: a request held after JC_RWAIT_TIMEOUT bt is answered with 0x0C27 (R426). -/
def execRwaitTimeout (j n : Nat) (s : State) : Host.Outcome State Fault Refusal :=
  onPort s j (fun m => match (m.port j).held[n]? with
    | none => m
    | some h => if (m.rd JC_RWAIT_TIMEOUT).toNat ≤ (m.count - h.since).toNat then
        let m := m.setPort j { m.port j with held := (m.port j).held.eraseIdx n }
        (m.refuseMsg h.frame 0x0C27).raisePortIn j 0x0C27 (m.slotOfJob h.frame.job)
      else m)
/-- TRANSIT_FRAME: a frame for another module is forwarded; where neither way is open its request or response is lost (R414; log entry 68). -/
def execTransitFrame (j : Nat) (x : Frame) (s : State) : Host.Outcome State Fault Refusal :=
  onPort s j (fun m => if x.dst.toNat = m.moduleId then m
    else m.takeFrame j x (fun m => m.routeFrame { frame := x, inPort := some j, inVc := x.vc }))

end Sys2Proof.Machine
end

