-- ==== Sys2Proof/Machine/FeedPort.lean ====
section
/-! DEFINITION. The Feed interfaces (R429 to R435, R437): their registers, ingress records into reservoir slots, acknowledgements, egress records, pauses and links. -/

namespace Sys2Proof.Machine

namespace Mod

/-- The ring of flow `k` of interface `e` (R431). -/
def ringOfFlow (e k : Nat) : Nat := 55296 + 2048 * e + k
def feedOn (m : Mod) (e : Nat) : Bool := m.flag (FD_CTL e) 0
def feedLink (m : Mod) (e : Nat) : Bool := m.flag (FD_STATUS e) 0

/-! ## Registers (R437) -/

/-- A Feed register whose RWL fields an enable locks, with the ranges of their values. -/
def writeFeedLocked (m : Mod) (a : Nat) (enabled ok : Bool) (new : W64) : W16 × Mod :=
  if new = m.rd a then (0, m) else if enabled then (0x0D01, m) else if ok then (0, m.wr a new) else (0x0D04, m)

/-- A write of FD_CTL. -/
def writeFdCtl (m : Mod) (e : Nat) (new : W64) : W16 × Mod :=
  let a := FD_CTL e
  if m.feedOn e then
    if bit new 0 then (if new = m.rd a then (0, m) else (0x0D01, m)) else (0, m.setFlag a 0 false)
  else if bf new 16 16 = 0 then (0x0D04, m)
  else (0, m.wr a new)

/-- A write of a word of a Feed window: registers by offset, flow entries by word. -/
def writeFeed (m : Mod) (e o : Nat) (new : W64) : W16 × Mod :=
  let a := feedReg e o
  if o = 0 then m.writeFdCtl e new
  else if o = 0x30 then m.writeFeedLocked a (m.feedOn e) (decide (bf new 16 16 < bf new 0 16) && decide (bf new 0 16 ≤ 4096)) new
  else if o = 0x38 then m.writeFeedLocked a (m.feedOn e) (decide (1 ≤ bf new 0 16) && decide (bf new 0 16 ≤ 1000)) new
  else if o < 0x100 then m.writeFeedLocked a (m.feedOn e) true new
  else if o < 0x1_0000 then (0, m.wr a new)
  else
    let k := (o - 0x1_0000) / 64
    let rec_ := bf new 48 16
    let ok := decide (o % 64 ≠ 0) || decide (rec_ = m.flowRecMax e k) || (decide (64 ≤ rec_) && decide (rec_ ≤ 8192))
    m.writeFeedLocked a (m.ringEnabled (ringOfFlow e k)) ok new

/-! ## Entries of a flow's ring -/

/-- An entry has been posted by FEED_RECV or FEED_SEND: its token is 1. -/
def postedOf (m : Mod) (e k : Nat) : List RingEntry := (m.ringOf (ringOfFlow e k)).prog.filter (fun x => !x.done && decide (x.token = 1))
/-- The slots of a RECV entry (R433). -/
def slotsOfEntry (m : Mod) (e k : Nat) (x : RingEntry) : Nat := num x.image 0x20 4 / m.flowStride e k
def postedSlots (m : Mod) (e k : Nat) : Nat := ((m.postedOf e k).map (fun x => m.slotsOfEntry e k x)).sum
/-- WINDOW_END (R433). -/
def windowEnd (m : Mod) (e k : Nat) : Nat := (m.flow e k).cum.toNat + (m.postedSlots e k - (m.flow e k).used)
/-- The partition address of slot `n` of the posted sequence. -/
def slotAddr (m : Mod) (e k : Nat) : List RingEntry → Nat → Option Nat
  | [], _ => none
  | x :: r, n =>
    let c := m.slotsOfEntry e k x
    if n < c then some (num x.image 0x18 8 + n * m.flowStride e k) else slotAddr m e k r (n - c)

/-- DETAIL of a Feed entry (R432). -/
def feedDetail (first count : Nat) : List Byte := bytesOf 8 first ++ bytesOf 4 count

/-! ## Acknowledgements (R430, R434) -/

/-- SACK: bit i for an accepted record CUM + 1 + i. -/
def sackOf (f : Flow) : Nat := ((upto 64).map (fun i => if f.above.contains (f.cum.toNat + 1 + i) then 2 ^ i else 0)).sum

/-- The header of a datagram (R430). -/
def feedHeader (ty k : Nat) (epoch : Byte) (seq len : Nat) : List Byte :=
  bytesOf 2 0x4446 ++ [1] ++ bytesOf 1 ty ++ bytesOf 2 k ++ [epoch, 0] ++ bytesOf 8 seq ++ bytesOf 2 len ++ bytesOf 14 0
/-- The nonce of a datagram: SEQ ‖ FLOW ‖ TYPE ‖ EPOCH, SEQ in its high bits (R430). -/
def feedNonce (ty k : Nat) (epoch : Byte) (seq : Nat) : List Byte := [epoch] ++ bytesOf 1 ty ++ bytesOf 2 k ++ bytesOf 8 seq
/-- The key epoch that a flow sends under: the one loaded last (log entry 72). -/
def sendEpoch (m : Mod) (e k : Nat) : Nat × Byte := (m.flow e k).epochs.getLast?.getD (0, 0)

/-- Sends an ACK: its header and body in clear, and the tag over both (R430). -/
def sendFeedAck (m : Mod) (e k : Nat) : Mod :=
  let f := m.flow e k
  let p := m.sendEpoch e k
  let w := BitVec.ofNat 64 (m.windowEnd e k)
  let b := feedHeader 2 k p.2 f.ackCtr.toNat 0 ++ bytesOf 8 f.cum.toNat ++ bytesOf 8 w.toNat ++ bytesOf 8 (sackOf f)
  let m := m.setFlow e k { f with ackCtr := f.ackCtr + 1, ackEnd := w }
  (m.wr (flowReg e k 48) w).sendOut (.feedAck e k (b ++ bytesOf 16 (Config.gcmTag (m.keyAt (.feed e k p.1)) (feedNonce 2 k p.2 f.ackCtr.toNat) b).toNat))

/-- WINDOW_END is shown, and an ACK leaves when it has advanced by 64 records or an eighth of the posted slots. -/
def showWindow (m : Mod) (e k : Nat) : Mod :=
  let w := m.windowEnd e k
  let m := m.wr (flowReg e k 48) (BitVec.ofNat 64 w)
  let d := w - (m.flow e k).ackEnd.toNat
  if 0 < d ∧ (64 ≤ d ∨ m.postedSlots e k ≤ 8 * d) then m.sendFeedAck e k else m

/-! ## Ingress (R433) -/

/-- The flow accepts records. -/
def ingressOpen (m : Mod) (e k : Nat) : Bool :=
  decide (k < 2048) && m.flowValid e k && !m.flowEgress e k && decide (m.flowState e k = 1) && m.ringEnabled (ringOfFlow e k)
def epochLoaded (m : Mod) (e k : Nat) (ep : Byte) : Bool := (m.flow e k).epochs.any (fun p => decide (p.2 = ep))

/-- Posted entries whose slots are all full complete in order; `n` bounds them. -/
def closeFull (m : Mod) (e k : Nat) : Nat → Mod
  | 0 => m
  | n + 1 => match m.postedOf e k with
    | [] => m
    | x :: _ =>
      let c := m.slotsOfEntry e k x
      let f := m.flow e k
      if c ≤ f.used then
        let m := m.doneEntry (ringOfFlow e k) x.index 0 (num x.image 0x20 4) (feedDetail (f.cum.toNat - f.used) c)
        closeFull (m.setFlow e k { f with used := f.used - c }) e k n
      else m

/-- CUM moves over the records accepted above it; `n` bounds the moves. -/
def moveCum (f : Flow) : Nat → Flow
  | 0 => f
  | n + 1 => if f.above.contains f.cum.toNat then moveCum { f with above := f.above.erase f.cum.toNat, cum := f.cum + 1, used := f.used + 1 } n else f

/-- An accepted record: header and plaintext go into its slot. -/
def acceptRecord (m : Mod) (e : Nat) (x : FeedDatagram) (at_ : Nat) : Mod :=
  let k := x.flow
  let s := (m.slotOfRing (ringOfFlow e k)).getD 0
  let head := bytesOf 8 x.seq.toNat ++ bytesOf 2 x.len ++ bytesOf 2 k ++ [x.epoch] ++ bytesOf 3 0 ++ bytesOf 8 m.count.toNat ++ bytesOf 8 0
  let m := m.storeHbm s at_ (head ++ x.data.take x.len)
  let f := m.flow e k
  let f := moveCum { f with above := f.above ++ [x.seq.toNat] } (f.above.length + 1)
  let m := m.setFlow e k f
  (m.closeFull e k (m.postedOf e k).length).showWindow e k

/-- Counts a dropped datagram by the number of its counter. -/
def feedCount (m : Mod) (e n : Nat) : Mod := m.addCnt (FD_CNT e n) 1

/-- A tag failure: 0x0D21 (R433). -/
def feedTagFail (m : Mod) (e k : Nat) : Mod := (m.feedCount e 3).raiseFeed e 0x0D21 k (m.slotOfRing (ringOfFlow e k))

/-- The checks of R433 in order. -/
def takeDatagram (m : Mod) (e : Nat) (x : FeedDatagram) : Mod :=
  let k := x.flow
  let f := m.flow e k
  if !x.formOk || !m.ingressOpen e k || !m.epochLoaded e k x.epoch then m.feedCount e 4
  else if m.windowEnd e k ≤ x.seq.toNat then m.feedCount e 1
  else if x.seq.toNat < f.cum.toNat ∨ f.above.contains x.seq.toNat = true then m.feedCount e 2
  else if x.len = 0 ∨ m.flowRecMax e k < x.len then m.feedCount e 4
  else if !x.tagOk then m.feedTagFail e k
  else match m.slotAddr e k (m.postedOf e k) (f.used + (x.seq.toNat - f.cum.toNat)) with
    | none => m.feedCount e 1
    | some a =>
      let s := (m.slotOfRing (ringOfFlow e k)).getD 0
      if m.hbmCode s a ≠ 0 then (m.hbmFault s a).feedCount e 4 else m.acceptRecord e x a

/-- A datagram at an interface: the ingress buffer of 4 MiB, XOFF above XOFF_KIB (R429), then the flow. -/
def feedArrives (m : Mod) (e : Nat) (x : FeedDatagram) : Mod :=
  if !m.feedOn e || !m.feedLink e then m
  else
    let m := m.feedCount e 0
    let xoff := m.flag (FD_CTL e) 1 && !(m.feed e).xoff && decide (1024 * m.fld (FD_PFC e) 0 16 < x.fill)
    let m := if xoff then (((m.setFeed e { m.feed e with xoff := true }).feedCount e 6).sendOut (.pfc e true)) else m
    if 2 ^ 22 < x.fill + 48 + x.len then m.feedCount e 5 else m.takeDatagram e x

/-! ## Egress (R435) -/

/-- The bytes of record `q` of a posted SEND entry whose first record is `first`, with what their read raises. -/
def recordBytes (m : Mod) (e k : Nat) (x : RingEntry) (first q : Nat) : List Byte × Mod :=
  let rm := m.flowRecMax e k
  let o := (q - first) * rm
  m.readHbm ((m.slotOfRing (ringOfFlow e k)).getD 0) (num x.image 0x18 8 + o) (min rm (num x.image 0x20 4 - o))
/-- First record number and record count of a posted SEND. -/
def sendFirst (x : RingEntry) : Nat := num x.detail 0 8
def sendCount (x : RingEntry) : Nat := num x.detail 8 4

/-- A record as it leaves: header, ciphertext and tag (R430). -/
def sealRecord (m : Mod) (e k q : Nat) (b : List Byte) : List Byte :=
  let p := m.sendEpoch e k
  let h := feedHeader 1 k p.2 q b.length
  h ++ bytesIn _ (Config.encipher (m.keyAt (.feed e k p.1)) (feedNonce 1 k p.2 q ++ h) b)

/-- The flow may send: interface, link, no pause, OPEN. -/
def egressOpen (m : Mod) (e k : Nat) : Bool :=
  m.feedOn e && m.feedLink e && !(m.feed e).paused && m.flowEgress e k && decide (m.flowState e k = 1)

/-- Sends further records while the window allows: WINDOW unacknowledged ones, and none at or beyond WINDOW_END (R433, R435); `n` bounds them. -/
def pump (m : Mod) (e k : Nat) : Nat → Mod
  | 0 => m
  | n + 1 =>
    let f := m.flow e k
    let q := f.sentTo.toNat
    match (m.postedOf e k).find? (fun x => decide (sendFirst x ≤ q) && decide (q < sendFirst x + sendCount x)) with
    | none => m
    | some x =>
      if m.egressOpen e k && decide (f.sent.length < m.flowWindow e k) && decide (q < f.peerEnd.toNat) then
        let b := m.recordBytes e k x (sendFirst x) q
        let m := b.2
        let c := m.sealRecord e k q b.1
        let m := m.setFlow e k { f with sentTo := f.sentTo + 1, sent := f.sent ++ [{ seq := BitVec.ofNat 64 q, bytes := c, resent := 0 }] }
        pump ((m.feedCount e 7).sendOut (.feedData e k (BitVec.ofNat 64 q) c)) e k n
      else m

/-- As many records as a flow has waiting. -/
def waitingRecords (m : Mod) (e k : Nat) : Nat := ((m.postedOf e k).map sendCount).sum
/-- The flows of an interface send what they have waiting. -/
def pumpAll (m : Mod) (e : Nat) : Mod :=
  forEach m (m.flows.filterMap (fun p => if p.1 / 2048 = e then some (p.1 % 2048) else none)) (fun m k => m.pump e k (m.waitingRecords e k))

/-- SEND entries whose records are all acknowledged complete. -/
def closeSent (m : Mod) (e k : Nat) : Mod :=
  (m.postedOf e k).foldl (fun m x =>
    if sendFirst x + sendCount x ≤ (m.flow e k).cum.toNat then m.doneEntry (ringOfFlow e k) x.index 0 (num x.image 0x20 4) x.detail else m) m

/-- The flow fails: 0x0D22, ERROR, its entry completes with the code. -/
def failFlow (m : Mod) (e k q : Nat) : Mod :=
  let r := ringOfFlow e k
  let m := (m.postedOf e k).foldl (fun m x =>
    if sendFirst x ≤ q ∧ q < sendFirst x + sendCount x then m.doneEntry r x.index 0x0D22 0 x.detail else m) m
  (m.setFlowState e k 2).raiseFeed e 0x0D22 k (m.slotOfRing r)

/-- Resends one record, or fails after RETRY_MAX. -/
def resendRecord (m : Mod) (e k q : Nat) : Mod :=
  let f := m.flow e k
  match f.sent.find? (fun x => decide (x.seq.toNat = q)) with
  | none => m
  | some x =>
    if !m.egressOpen e k then m
    else if m.flowRetryMax e k ≤ x.resent then m.failFlow e k q
    else
      let m := m.setFlow e k { f with sent := f.sent.map (fun y => if y.seq = x.seq then { y with resent := y.resent + 1 } else y) }
      (m.feedCount e 8).sendOut (.feedData e k x.seq x.bytes)

/-- An ACK of an egress flow: the window moves, gaps below an acknowledged record are resent, further records leave. -/
def takeFeedAck (m : Mod) (e : Nat) (x : FeedAck) : Mod :=
  let k := x.flow
  if !m.feedOn e || !m.feedLink e then m
  else
    let m := m.feedCount e 0
    if 2048 ≤ k ∨ m.flowEgress e k = false ∨ m.flowState e k ≠ 1 ∨ m.epochLoaded e k x.epoch = false then m.feedCount e 4
    else if !x.tagOk then m.feedTagFail e k
    else
      let f := m.flow e k
      let cum := max f.cum.toNat x.cum.toNat
      let sacked := fun (q : Nat) => decide (x.cum.toNat < q) && bit x.sack (q - x.cum.toNat - 1)
      let left := f.sent.filter (fun r => decide (cum ≤ r.seq.toNat) && !sacked r.seq.toNat)
      let top := (upto 64).foldl (fun a i => if bit x.sack i then x.cum.toNat + 1 + i else a) 0
      let m := m.setFlow e k { f with cum := BitVec.ofNat 64 cum, sent := left, peerEnd := BitVec.ofNat 64 (max f.peerEnd.toNat x.windowEnd.toNat) }
      let m := m.wr (flowReg e k 48) (BitVec.ofNat 64 cum)
      let m := forEach m ((left.map (fun r => r.seq.toNat)).filter (fun q => decide (q < top))) (fun m q => m.resendRecord e k q)
      let m := m.closeSent e k
      m.pump e k (m.waitingRecords e k)

end Mod

/-! ## Meanings -/

/-- FEED_DATA (R433). -/
def execFeedData (e : Nat) (x : FeedDatagram) (s : State) : Host.Outcome State Fault Refusal := onFeed s e (fun m => m.feedArrives e x)
/-- FEED_ACK (R435). -/
def execFeedAck (e : Nat) (x : FeedAck) (s : State) : Host.Outcome State Fault Refusal := onFeed s e (fun m => m.takeFeedAck e x)
/-- NON_FEED_FRAME: to Gallery's queue of 64 frames, or dropped and counted (R429). -/
def execNonFeedFrame (e : Nat) (x : EtherFrame) (s : State) : Host.Outcome State Fault Refusal :=
  onFeed s e (fun m => if !m.feedOn e || !m.feedLink e then m
    else match x with
      | .other b => if (m.feed e).gallery.length < 64 then m.setFeed e { m.feed e with gallery := (m.feed e).gallery ++ [b] } else m.feedCount e 5
      | _ => m.feedCount e 4)
/-- PFC_PAUSE_FRAME on FEED_PRIO: egress holds, or goes on (R429). -/
def execPfcPauseFrame (e : Nat) (xoff : Bool) (s : State) : Host.Outcome State Fault Refusal :=
  onFeed s e (fun m => if m.feedOn e && m.flag (FD_CTL e) 1 then (m.setFeed e { m.feed e with paused := xoff }).pumpAll e else m)
/-- FEED_XON: the ingress buffer has fallen below XON_KIB (R429). -/
def execFeedXon (e : Nat) (s : State) : Host.Outcome State Fault Refusal :=
  onFeed s e (fun m => if (m.feed e).xoff then (m.setFeed e { m.feed e with xoff := false }).sendOut (.pfc e false) else m)
/-- FEED_ACK_TIMER (R434). -/
def execFeedAckTimer (e k : Nat) (s : State) : Host.Outcome State Fault Refusal :=
  onFeed s e (fun m => if m.ingressOpen e k && m.feedLink e then m.sendFeedAck e k else m)
/-- FEED_RTO_EXPIRY of record `seq` (R435). -/
def execFeedRtoExpiry (e k : Nat) (seq : W64) (s : State) : Host.Outcome State Fault Refusal :=
  onFeed s e (fun m => if m.flowEgress e k && decide (m.flowState e k = 1) then m.resendRecord e k seq.toNat else m)
/-- FEED_IDLE_TIMEOUT: the oldest posted entry completes short, when nothing lies above CUM (R433). -/
def execFeedIdleTimeout (e k : Nat) (s : State) : Host.Outcome State Fault Refusal :=
  onFeed s e (fun m => match m.postedOf e k with
    | [] => m
    | x :: _ =>
      let f := m.flow e k
      if m.ingressOpen e k && f.above.isEmpty then
        let m := m.doneEntry (Mod.ringOfFlow e k) x.index 0 (f.used * m.flowStride e k) (Mod.feedDetail (f.cum.toNat - f.used) f.used)
        (m.setFlow e k { f with used := 0 }).showWindow e k
      else m)
/-- FEED_RECV: the slots of a started entry join the posted sequence (R432, R433). -/
def execFeedRecv (r : Nat) (s : State) : Host.Outcome State Fault Refusal :=
  onRing s r (fun m => match (m.working r).find? (fun x => decide (x.token = 0)) with
    | none => m
    | some x => if ringKind r = 4 ∧ entryOp x.image = 1 then
        (m.setRing r { m.ringOf r with prog := (m.ringOf r).prog.map (fun y => if y.index = x.index then { y with token := 1 } else y) }).showWindow (ifaceOfRing r) (flowOfRing r)
      else m)
/-- FEED_SEND: the records of a started entry are numbered from NEXT_SEQ and leave as the window allows (R435). -/
def execFeedSend (r : Nat) (s : State) : Host.Outcome State Fault Refusal :=
  onRing s r (fun m => match (m.working r).find? (fun x => decide (x.token = 0)) with
    | none => m
    | some x =>
      let e := ifaceOfRing r
      let k := flowOfRing r
      let p := (m.slotOfRing r).getD 0
      let a := num x.image 0x18 8
      if ringKind r ≠ 4 ∨ entryOp x.image ≠ 2 then m
      else if m.hbmCode p a = 0x0909 then m.refuseWork r x 0x0909
      else if m.hbmCode p a ≠ 0 then (m.hbmFault p a).doneEntry r x.index (m.hbmCode p a) 0 []
      else
        let first := (m.rd (flowReg e k 40)).toNat
        let n := ceilDiv (num x.image 0x20 4) (m.flowRecMax e k)
        let m := m.setRing r { m.ringOf r with prog := (m.ringOf r).prog.map (fun y =>
          if y.index = x.index then { y with token := 1, detail := Mod.feedDetail first n } else y) }
        let m := m.wr (flowReg e k 40) (BitVec.ofNat 64 (first + n))
        m.pump e k (m.waitingRecords e k))
/-- ETHERNET_LINK_DOWN: 0x0D23; the flows hold (R440). -/
def execEthernetLinkDown (e : Nat) (s : State) : Host.Outcome State Fault Refusal :=
  onFeed s e (fun m => if m.feedLink e then (m.setFlag (FD_STATUS e) 0 false).raiseFeed e 0x0D23 0 none else m)
/-- ETHERNET_LINK_UP: an interface that the configuration record enables has its link; its flows go on (R440, R456). -/
def execEthernetLinkUp (e : Nat) (s : State) : Host.Outcome State Fault Refusal :=
  onFeed s e (fun m => if m.feedEn e then
(m.setFlag (FD_STATUS e) 0 true).pumpAll e else m)

end Sys2Proof.Machine
end

