-- ==== Sys2Proof/Machine/Parts.lean ====
section
/-! DEFINITION. Partitions, contexts and their power (R274, R506, R510, R513, R559, R561): what resets a context, makes and removes a partition, and moves its dies between M0 and M2; entry into DARK (R451, R460, R536). -/

namespace Sys2Proof.Machine

namespace Mod

/-! ## Contexts (R510, R513) -/

/-- A context by its number. -/
def context (m : Mod) (c : Nat) : Option Context := (m.contexts.find? (fun p => decide (p.1 = c))).map (·.2)
def setContext (m : Mod) (c : Nat) (x : Context) : Mod := { m with contexts := Sparse.insertAt c x (Sparse.erase c m.contexts) }
/-- A context exists, belongs to the slot, and is SAVED or not. -/
def contextIs (m : Mod) (c s : Nat) (saved : Bool) : Bool := match m.context c with
  | some x => decide (x.slot = s) && decide (x.saved = saved)
  | none => false
/-- The buoys of a slot that a context owns. -/
def buoysOfContext (m : Mod) (s c : Nat) : List Nat := (m.buoysOf s).filter (fun b => decide ((m.buoy b).owner.toNat = c))
/-- The enabled rings of a slot that a context owns. -/
def ringsOfContext (m : Mod) (s c : Nat) : List Nat := (m.ringsOf s).filter (fun r => decide (m.fld (RING_CTL r) 48 16 = c))
/-- Buoys of a list that are LIVE or SAVED go BROKEN (R285). -/
def breakAll (m : Mod) (l : List Nat) : Mod :=
  forEach m (l.filter (fun b => decide ((m.buoy b).st = .live ∨ (m.buoy b).st = .saved))) (fun m b => m.breakBuoy b)
/-- The reset of a context: its buoys go BROKEN, its rings stop (R285, R296). -/
def resetContext (m : Mod) (s c : Nat) : Mod :=
  forEach (m.breakAll (m.buoysOfContext s c)) (m.ringsOfContext s c) (fun m r => m.stopRing r)
/-- Every context of a slot is reset (R491). -/
def resetContexts (m : Mod) (s : Nat) : Mod := m.breakAll (m.buoysOf s)

/-! ## Power of a partition's dies (R559, R561) -/

/-- The tile and SRAM rails of a die go off: scratchpads and tile registers are lost. -/
def loseTile (m : Mod) (t : Nat) : Mod :=
  ((m.clearMem (scratchAt t 0) (scratchAt (t + 1) 0)).resetRegs (tileBase t) (tileBase (t + 1))).setTile t {}
/-- The HBM of a die enters or leaves self-refresh. -/
def selfRefresh (m : Mod) (d : Nat) (on : Bool) : Mod :=
  forEach m ((upto 4).map (fun i => 4 * d + i)) (fun m k => m.setStack k { m.stack k with selfRefresh := on })
def dieDown (m : Mod) (d : Nat) : Mod := (forEach m ((upto 160).map (fun i => 160 * d + i)) (fun m t => m.loseTile t)).selfRefresh d true
/-- TILE_SEC keeps the domain across M2: keys and locks stay in place. -/
def keepDomain (m : Mod) (s : Nat) : Mod :=
  forEach m (m.tilesOf s) (fun m t => m.setF (TILE_SEC t) 0 16 (m.kslot s).domain.toNat)
/-- A partition reaches M2. -/
def partDown (m : Mod) (s : Nat) : Mod :=
  let m := (forEach m (m.diesOf s) (fun m d => m.dieDown d)).keepDomain s
  (m.modPart s (fun p => { p with m2 := true, powering := false })).setPower s 2
/-- The transition of a partition to M0 has ended; no job runs, so POWER reads M1. -/
def partReady (m : Mod) (s : Nat) : Mod := (m.modPart s (fun p => { p with powering := false })).setPower s 1
/-- The rails of a partition are up after M2: HBM out of self-refresh; the Keeper scrubs the tiles in the partition's domain where it has one, else the transition has ended (R561). -/
def partUp (m : Mod) (s : Nat) : Mod :=
  let m := forEach m (m.diesOf s) (fun m d => m.selfRefresh d false)
  let m := m.modPart s (fun p => { p with m2 := false })
  if (m.kslot s).domain = 0 then m.partReady s else forEach m (m.tilesOf s) (fun m t => m.keeperDomain t (m.kslot s).domain true)

/-! ## Making and removing a partition (R28, R506) -/

/-- The 15 allowed sets: aligned runs of 1, 2, 4 or 8 dies. -/
def allowedSet (mask : Nat) : Bool :=
  [1, 2, 4, 8].any (fun n => (upto (8 / n)).any (fun i => decide (mask = (2 ^ n - 1) * 2 ^ (n * i))))
/-- The lowest die of a mask, which gives its partition the slot number. -/
def lowestDie (mask : Nat) : Nat := ((upto 8).find? (fun d => decide (mask / 2 ^ d % 2 = 1))).getD 0

/-- A new partition on the dies of a mask: it comes up from M2. -/
def makePart (m : Mod) (mask : Nat) : Mod :=
  let s := lowestDie mask
  let m := forEach m ((upto 8).filter (fun d => decide (mask / 2 ^ d % 2 = 1))) (fun m d => m.setF MOD_PART_MAP (4 * d) 4 (8 + s))
  let m := m.setPart s { mask := BitVec.ofNat 8 mask, m2 := true, powering := true }
  m.wr (PART_STATUS s) (BitVec.ofNat 64 (mask * 256 + 0x20))

/-- A release would make the buoy FREE (R274). -/
def freeable (m : Mod) (b : Nat) : Bool :=
  let x := m.buoy b
  decide (x.st = .broken) || (decide (x.st = .live) && x.waiters.isEmpty && x.watches.isEmpty && decide (x.subs = 0))

/-- A buoy of a partition that goes becomes FREE (R273, R506): a SAVED one is discarded with its context, and one with waiters, watches or subscriptions goes BROKEN first, so that they are answered (R274, R285; log entry 78). -/
def dropBuoy (m : Mod) (b : Nat) : Mod :=
  match (m.buoy b).st with
  | .free => m
  | _ => (if m.freeable b then m else m.breakBuoy b).freeBuoy b

/-- The last part of a PART_DELETE: rings stop, buoys are freed, the dies leave MOD_PART_MAP and are held in M2. -/
def removePart (m : Mod) (s : Nat) : Mod :=
  let m := forEach m (m.ringsOf s) (fun m r => m.stopRing r)
  let m := forEach m (m.buoysOf s) (fun m b => m.dropBuoy b)
  let dies := m.diesOf s
  let m := forEach m dies (fun m d => m.dieDown d)
  let m := forEach m dies (fun m d => m.setF MOD_PART_MAP (4 * d) 4 0)
  let m := { m with contexts := m.contexts.filter (fun p => decide (p.2.slot ≠ s)) }
  let m := m.resetRegs (partReg s 0) (partReg s 0x2000)
  ((m.setPart s {}).setKslot s {}).showSealing s

/-- The deletion that waited for the Keeper ends with a code (R506). -/
def endDelete (m : Mod) (s : Nat) (code : W16) : Mod :=
  (if code = 0 then m.removePart s else m).finishCmd s 0x11 code 0 []

/-! ## DARK (R451, R460, R536) -/

/-- A die's keys are cleared: stacks lose KEY_LOADED, key slots and Feed flows their marks. -/
def clearKey (m : Mod) (k : KeyPlace) : Mod :=
  let m := { m with keys := m.keys.filter (fun p => decide (p.1 ≠ k)) }
  match k with
  | .stack s => m.setFlag (HBM_SEC s) 17 false
  | .link _ i => m.wr (JC_KEYSLOT i) 0
  | .context _ => m
  | .feed e f i =>
    let m := m.setFlag (flowReg e f 0) (8 + i) false
    let x := m.flow e f
    m.setFlow e f { x with epochs := x.epochs.filter (fun p => decide (p.1 ≠ i)) }

/-- The module enters DARK; `keeperOff` when the rail removal covers the Keeper die (R575).  Keys are gone with the dies or cleared; the Keeper's copies too; dialogues are answered 0x0F0B; commands in progress are refused as DARK refuses them; a module-fatal handling ends, and HANDLING of the module record reads 4 (R538, R539). -/
def enterDark (m : Mod) (keeperOff : Bool) : Mod :=
  let m := m.keys.foldl (fun m p => m.clearKey p.1) m
  let m := forEach m (upto m.dialogues.length) (fun m _ => m.endDialogue 0x0F0B [])
  let m : Mod := { m with keysSet := [], kdies := [], zeroising := false, zeroiseBegun := false, keeperBad := false }
  let m := forEach m (upto 8) (fun m s => m.setKslot s { m.kslot s with jk := [], kemAt := none, sealKey := none })
  let m := m.cmds.foldl (fun (m : Mod) c => m.completeCmd c 0x0106 0 []) m
  let m := (m.goState 5 0).setF KPR_STATUS 0 4 3
  let m : Mod := { m with board := { m.board with keeperDown := keeperOff } }
  forEach m (upto 9) (fun m k => if m.handling k = 3 ∨ k = 8 then m.setHandling k 4 else m)

end Mod

end Sys2Proof.Machine
end

