-- ==== Sys2Proof/Machine/KeeperBus.lean ====
section
/-! DEFINITION. The keeper bus and what a dialogue does with it (R446 to R451, R466 to R469, R480, R481, R491): messages as dies take them, answers as the Keeper takes them, measurements, keying, sealing and teardown. -/

namespace Sys2Proof.Machine

/-! ## Key places (R446) -/

/-- TARGET of KEY_LOAD and KEY_CLEAR. -/
def KeyPlace.target : KeyPlace → Nat
  | .stack s => s
  | .link _ i => 0x8000 + i
  | .context i => 0x8000 + i
  | .feed e f i => 0xC000 + f + e * 2048 + i * 4096
/-- The die whose wires lead to a key place. -/
def KeyPlace.die : KeyPlace → Nat
  | .stack s => dieOfStack s
  | .link j _ => linkDie j
  | _ => bridgeDie
/-- The key place that a message to a die names. -/
def placeOf (die target : Nat) : Option KeyPlace :=
  match target / 16384 with
  | 0 => if die < 8 then some (.stack (target % 32)) else none
  | 2 => if die = bridgeDie then some (.context (target % 16)) else if 24 ≤ die ∧ die < 30 then some (.link (die - 24) (target % 16)) else none
  | 3 => if die = bridgeDie then some (.feed (target / 2048 % 2) (target % 2048) (target / 4096 % 2)) else none
  | _ => none

/-! ## Messages that the Keeper sends -/

def msgDomain (slot : Nat) (dom : W16) (scrub : Bool) : KMsg :=
  { ty := 3, target := 3, slot := slot, payload := bytesOf 2 dom.toNat ++ [if scrub then 1 else 0, 0] }
def msgKey (k : KeyPlace) (slot head : Nat) (key : List Byte) : Nat × KMsg :=
  (k.die, { ty := 1, target := k.target, slot := slot, payload := bytesOf 4 head ++ key })
def msgClear (k : KeyPlace) (slot : Nat) : Nat × KMsg := (k.die, { ty := 2, target := k.target, slot := slot })
def msgMeasure : KMsg := { ty := 6 }
def msgDebug (open_ : Bool) : KMsg := { ty := 10, payload := [if open_ then 1 else 0] }

namespace Mod

/-! ## What a die does with a message -/

/-- A key comes into a place. -/
def putKey (m : Mod) (k : KeyPlace) (key : List Byte) : Mod := { m with keys := m.keys.filter (fun p => decide (p.1 ≠ k)) ++ [(k, key)] }

/-- KEY_LOAD on a die (R320, R410, R446).  The frame counter of a key slot starts at 0 with a new key; it is one counter of the module, so a key that another link die holds already does not reset it (R410). -/
def takeKeyLoad (m : Mod) (die : Nat) (x : KMsg) : Mod :=
  let key := x.payload.drop 4
  match placeOf die x.target with
  | none => m
  | some k =>
    let held := match k with
      | .link _ i => (upto 6).any (fun j => m.keys.contains (KeyPlace.link j i, key))
      | _ => false
    let m := m.putKey k key
    match k with
    | .stack s =>
      let dom := num x.payload 0 2
      let other := decide (dom ≠ m.fld (HBM_SEC s) 0 16)
      let m := (m.setF (HBM_SEC s) 0 16 dom).setFlag (HBM_SEC s) 17 true
      if other then m.startStackScrub s else m
    | .link _ i =>
      let m := m.wr (JC_KEYSLOT i) (BitVec.ofNat 64 (num x.payload 0 2 + x.slot * 2 ^ 16 + 3 * 2 ^ 19))
      if held then m else { m with keyCtrs := Sparse.put (fun _ => 0) m.keyCtrs i 0 }
    | .context _ => m
    | .feed e f i =>
      let m := m.setFlag (flowReg e f 0) (8 + i) true
      let y := m.flow e f
      m.setFlow e f { y with epochs := y.epochs.filter (fun p => decide (p.1 ≠ i)) ++ [(i, x.payload.getD 0 0)], owner := some x.slot }

/-- DOMAIN on a die: TILE_SEC of every tile of the named halves (R83). -/
def takeDomain (m : Mod) (die : Nat) (x : KMsg) : Mod :=
  if die < 8 then
    forEach m ((upto 160).filter (fun i => decide (x.target / 2 ^ (i / 80) % 2 = 1)))
      (fun m i => m.keeperDomain (160 * die + i) (BitVec.ofNat 16 (num x.payload 0 2)) (decide (num x.payload 2 2 % 2 = 1)))
  else m

/-- 32-byte hashes of a list. -/
def hashes : Nat → List Byte → List (List Byte)
  | 0, _ => []
  | n + 1, b => b.take 32 :: hashes n (b.drop 32)

/-- LOCK on a die: its lock bit, its lists, and PUBLIC of its homed buoys (R467, R481). -/
def takeLock (m : Mod) (die : Nat) (x : KMsg) : Mod :=
  let k := m.kdie die
  let plans := (m.kslot x.slot).manifest
  let n := num plans 0x10 2
  let m := m.setKdie die { k with
    lock := setBit k.lock x.slot true
    images := if die < 8 then k.images ++ (hashes ((x.payload.length - 128) / 32) (x.payload.drop 128)).map (fun h => (x.slot, h)) else k.images
    plans := if die = bridgeDie then k.plans ++ (hashes n x.payload).map (fun h => (x.slot, h)) else k.plans
    flows := if die = bridgeDie then k.flows ++ (upto ((x.payload.length - 32 * n) / 4)).map (fun i => (x.slot, BitVec.ofNat 32 (num x.payload (32 * n + 4 * i) 4))) else k.flows }
  if die < 8 then
    forEach m ((upto 1024).filter (fun b => bit (x.payload.getD (b / 8) 0) (b % 8))) (fun m b =>
      m.setBuoy (1024 * die + b) { m.buoy (1024 * die + b) with pub := true })
  else m

/-- UNLOCK on a die: the lock, the lists and every PUBLIC bit go (R481). -/
def takeUnlock (m : Mod) (die : Nat) (x : KMsg) : Mod :=
  let k := m.kdie die
  let other := fun (s : Nat) => decide (s ≠ x.slot)
  let m := m.setKdie die { k with
    lock := setBit k.lock x.slot false
    images := k.images.filter (fun p => other p.1)
    plans := k.plans.filter (fun p => other p.1)
    flows := k.flows.filter (fun p => other p.1) }
  if die < 8 then
    forEach m ((m.buoys.map (·.1)).filter (fun b => decide (dieOfBuoy b = die) && (m.buoy b).pub)) (fun m b => m.setBuoy b { m.buoy b with pub := false })
  else m

/-- DEBUG_GATE on a die; when it closes, threads in DEBUG resume (R469). -/
def takeDebugGate (m : Mod) (die : Nat) (x : KMsg) : Mod :=
  let on := decide (x.payload.getD 0 0 ≠ 0)
  let m := m.setKdie die { m.kdie die with debug := on }
  if die < 8 && !on then forEach m ((upto 160).map (fun i => 160 * die + i)) (fun m t => m.resumeDebug t) else m

/-- The place numbers of a list, ascending, without repeats. -/
def placeCodes (l : List KeyPlace) : List Nat := (l.foldl (fun a k => Sparse.put (fun _ => false) a (k.die * 65536 + k.target) true) []).map (·.1)
/-- The bytes of a measurement: lock mask, domains, places LOADED. -/
def measureBytes (lock : Byte) (doms : List Nat) (places : List KeyPlace) : List Byte :=
  [lock] ++ doms.flatMap (bytesOf 2) ++ (placeCodes places).flatMap (bytesOf 4)
/-- What a measurement carries beyond locks, domains and places: the results of a compute die's tile scrubs (R85), the export records of the bridge die's context engine (R489). -/
def measureTail (m : Mod) (die : Nat) : List Byte :=
  if die < 8 then [if (upto 160).any (fun i => m.flag (TILE_STATUS (160 * die + i)) 4) then 1 else 0]
  else if die = bridgeDie then (upto 8).flatMap (fun s => (m.kslot s).exportRec)
  else []
/-- What a die measures of itself (R446 MEASURE_RSP). -/
def measured (m : Mod) (die : Nat) : List Byte :=
  let doms := if die < 8 then [m.fld (TILE_SEC (160 * die)) 0 16, m.fld (TILE_SEC (160 * die + 80)) 0 16] ++ (upto 4).map (fun i => m.fld (HBM_SEC (4 * die + i)) 0 16) else []
  measureBytes (m.kdie die).lock doms ((m.keys.map (·.1)).filter (fun k => decide (k.die = die))) ++ m.measureTail die
/-- What the Keeper has set on a die. -/
def expected (m : Mod) (die : Nat) : List Byte :=
  let doms := if die < 8 then (upto 6).map (fun i => (Sparse.get (fun _ => (0 : W16)) (m.kdie die).setDom i).toNat) else []
  measureBytes (m.kdie die).setLock doms (m.keysSet.filter (fun k => decide (k.die = die)))

/-- The message on the wire to a die, if it has this type and no answer yet. -/
def onWire (m : Mod) (die ty : Nat) : Option KMsg := match (m.kdie die).out with
  | x :: _ => if x.ty = ty ∧ (m.kdie die).answers = [] then some x else none
  | [] => none
/-- A die answers the message on its wire. -/
def dieAnswers (m : Mod) (die ty : Nat) (seq : Byte) (payload : List Byte) : Mod :=
  m.setKdie die { m.kdie die with answers := [{ ty := ty, seq := seq, payload := payload }] }
/-- A die takes the message of a type on its wire and acknowledges it. -/
def dieTakes (m : Mod) (die ty : Nat) (f : Mod → Nat → KMsg → Mod) : Mod := match m.onWire die ty with
  | none => m
  | some x => (f m die x).dieAnswers die 9 x.seq (bytesOf 2 0)

/-! ## What the Keeper keeps of an acknowledged message -/

def acked (m : Mod) (die : Nat) (x : KMsg) : Mod :=
  let k := m.kdie die
  let place := placeOf die x.target
  match x.ty, place with
  | 1, some p =>
    let m := { m with keysSet := m.keysSet.erase p ++ [p] }
    match p with
    | .stack s => m.setKdie die { k with setDom := Sparse.put (fun _ => 0) k.setDom (2 + s % 4) (BitVec.ofNat 16 (num x.payload 0 2)) }
    | _ => m
  | 2, some p => { m with keysSet := m.keysSet.erase p }
  | 3, _ => m.setKdie die { k with setDom := forDoms k.setDom }
  | 4, _ => m.setKdie die { k with setLock := setBit k.setLock x.slot true }
  | 5, _ => m.setKdie die { k with setLock := setBit k.setLock x.slot false }
  | _, _ => m
where
  forDoms (l : List (Nat × W16)) : List (Nat × W16) :=
    let v : W16 := BitVec.ofNat 16 (num x.payload 0 2)
    let l := if x.target % 2 = 1 then Sparse.put (fun _ => 0) l 0 v else l
    if x.target / 2 % 2 = 1 then Sparse.put (fun _ => 0) l 1 v else l

/-! ## Keys of a slot (R450) -/

def prkJob (m : Mod) (s : Nat) : List Byte := hkdfExtract (m.kslot s).manifestHash (m.kslot s).jk
def hbmKey (m : Mod) (s : Nat) : List Byte := hkdfExpand (m.prkJob s) (ascii "hbm" ++ bytesOf 2 m.moduleId ++ bytesOf 1 s) 64
def linkKey (m : Mod) (s : Nat) : List Byte := hkdfExpand (m.prkJob s) (ascii "link" ++ bytesOf 2 (m.kslot s).jobTag.toNat) 32
def feedKey (m : Mod) (s e f epoch : Nat) : List Byte :=
  hkdfExpand (m.prkJob s) (ascii "feed" ++ bytesOf 2 m.moduleId ++ bytesOf 1 e ++ bytesOf 2 f ++ bytesOf 1 epoch) 32
def contextKey (m : Mod) (s : Nat) : List Byte := hkdfExpand (m.prkJob s) (ascii "ctx" ++ bytesOf 2 m.moduleId ++ bytesOf 1 s) 32
def outputKey (m : Mod) (s : Nat) : List Byte := hkdfExpand (m.prkJob s) (ascii "out") 32

/-! ## Plans of messages -/

/-- The link dies that are present. -/
def linkDies (m : Mod) : List Nat := (upto 6).filter (fun j => m.flag MOD_DIES (linkDie j))
/-- The key slot of the link dies for a partition slot: its own, or a free one. -/
def freeKeySlot (m : Mod) (s : Nat) : Nat :=
  match (upto 16).find? (fun i => m.flag (JC_KEYSLOT i) 19 && decide (m.fld (JC_KEYSLOT i) 16 3 = s)) with
  | some i => i
  | none => ((upto 16).find? (fun i => !m.flag (JC_KEYSLOT i) 19)).getD 0
def sendDomain (m : Mod) (s : Nat) (dom : W16) (scrub : Bool) : KStep := .send ((m.diesOf s).map (fun d => (d, msgDomain s dom scrub)))
def sendHbm (m : Mod) (s : Nat) : KStep := .send ((m.stacksOf s).map (fun k => msgKey (.stack k) s (m.kslot s).domain.toNat (m.hbmKey s)))
def sendLink (m : Mod) (s : Nat) : KStep := .send (m.linkDies.map (fun j => msgKey (.link j (m.freeKeySlot s)) s (m.kslot s).jobTag.toNat (m.linkKey s)))
/-- Every die that takes part in a slot's locks: its compute dies, the link dies, the bridge. -/
def lockDies (m : Mod) (s : Nat) : List Nat := m.diesOf s ++ m.linkDies.map linkDie ++ [bridgeDie]
def sendMeasure (m : Mod) (s : Nat) : KStep := .send ((m.lockDies s).map (fun d => (d, msgMeasure)))

/-- The PUBLIC mask of a compute die from a manifest (R481). -/
def publicMask (man : List Byte) (die : Nat) : List Byte :=
  let o := 0x120 + 32 * num man 0x12 2
  let l := (upto (num man 0x14 2)).map (fun i => num man (o + 2 * i) 2 % 8192)
  (upto 128).map (fun k => BitVec.ofNat 8 (((upto 8).map (fun b => if l.contains (1024 * die + 8 * k + b) then 2 ^ b else 0)).sum))
def lockPayload (man : List Byte) (die : Nat) : List Byte :=
  let ni := num man 0x12 2
  if die < 8 then publicMask man die ++ (man.drop 0x120).take (32 * ni)
  else if die = bridgeDie then (man.drop 0x20).take (32 * num man 0x10 2) ++ (man.drop (0x120 + 32 * ni + 2 * num man 0x14 2)).take (4 * num man 0x16 2)
  else []
def sendLocks (m : Mod) (s : Nat) : KStep :=
  .send ((m.lockDies s).map (fun d => (d, { ty := 4, slot := s, payload := lockPayload (m.kslot s).manifest d })))
def sendContext (m : Mod) (s : Nat) : KStep :=
  .send [msgKey (.context (2 * s)) s 0 (m.contextKey s), msgKey (.context (2 * s + 1)) s 0 (m.outputKey s)]

/-- OPEN_DOMAIN (R464, R469): domain, keys, scrubs, measurement. -/
def openPlan (m : Mod) (s : Nat) : List KStep :=
  [m.sendDomain s (m.kslot s).domain false, m.sendHbm s, m.sendLink s, .scrubs, m.sendMeasure s]
/-- DELIVER_JOB_KEY (R480) up to its scrubs; SEALING_CONFIRM goes on from there. -/
def sealPlan (m : Mod) (s : Nat) : List KStep :=
  [m.sendLocks s, m.sendDomain s (m.kslot s).domain true, m.sendHbm s, m.sendLink s, m.sendContext s, .event]

/-- The stack messages of a scrub to no domain, each with a key of its own from the DRBG (R491). -/
def voidStacks (m : Mod) (s : Nat) : KStep × Mod :=
  let ks := m.stacksOf s
  (.send (ks.zipIdx.map (fun p => msgKey (.stack p.1) s 0 (bytesIn 64 (Config.drbg 64 (m.draws + p.2))))), { m with draws := m.draws + ks.length })
def clearStacks (m : Mod) (s : Nat) : KStep := .send ((m.stacksOf s).map (fun k => msgClear (.stack k) s))
/-- SCRUB_PARTITION (R451, R464): the results of the tile scrubs come as measurements (R85). -/
def scrubPlan (m : Mod) (s : Nat) : List KStep × Mod :=
  let v := m.voidStacks s
  ([m.sendDomain s 0 true, v.1, .scrubs, .send ((m.diesOf s).map (fun d => (d, msgMeasure))), m.clearStacks s], v.2)

/-- The keys of a slot outside its stacks that the Keeper has loaded. -/
def slotKeys (m : Mod) (s : Nat) : List KeyPlace := m.keysSet.filter (fun k => match k with
  | .stack _ => false
  | .link _ i => decide (m.fld (JC_KEYSLOT i) 16 3 = s)
  | .context i => decide (i / 2 = s)
  | .feed e f _ => decide ((m.flow e f).owner = some s))
/-- The start of a teardown (R491 actions 1 to 4). -/
def beginTeardown (m : Mod) (s : Nat) : Mod :=
  let m := (m.resetContexts s).setSealing s .tearing
  let v := m.voidStacks s
  v.2.setPlan [.send ((m.slotKeys s).map (fun k => msgClear k s)), m.sendDomain s 0 true, v.1, .event]
/-- Its end after the scrubs (R491 actions 5 and 6). -/
def endTeardown (m : Mod) (s : Nat) : Mod :=
  m.setPlan [m.clearStacks s, .send ((busDies.filter (fun d => bit (m.kdie d).setLock s)).map (fun d => (d, { ty := 5, slot := s })))]
/-- R491 action 7: the Keeper forgets the job; the slot is UNSEALED, without a domain. -/
def forgetSlot (m : Mod) (s : Nat) : Mod :=
  (((m.setKslot s {}).setFlag (PART_STATUS s) 23 false).wr (PART_JOB s) 0).showSealing s
def beginScrub (m : Mod) (s : Nat) : Mod :=
  let m := (m.setKslot s { m.kslot s with domain := 0, jk := [] }).setFlag (PART_STATUS s) 23 false
  let p := m.scrubPlan s
  p.2.setPlan p.1

/-! ## The end of a dialogue -/

/-- The last measurement of a die of the slot told of a tile that failed the verify pass of its scrub (R85). -/
def scrubFailed (m : Mod) (s : Nat) : Bool := (m.diesOf s).any (fun d => (m.kdie d).scrubFail)

/-- Every step of the dialogue in service is done. -/
def finishDialogue (m : Mod) (d : Dialogue) : Mod :=
  let s := d.slot
  let fail : W16 := if m.scrubFailed s then 0x0224 else 0
  let last := fun (m : Mod) (code : W16) => match d.ch with
    | some _ => m.endDialogue code []
    | none => (m.endDialogue code []).endDelete s code
  match d.op with
  | 0x20 => (m.setFlag (PART_STATUS s) 23 true).endDialogue fail []
  | 0x21 => last m fail
  | 0x11 => if d.code = 0 ∧ fail ≠ 0 then ({ m with dialogues := { d with code := fail } :: m.dialogues.drop 1 } : Mod).beginTeardown s
    else if d.code = 0 then ((m.setSealing s .sealed).setFlag (PART_STATUS s) 23 true).endDialogue 0 [] else (m.forgetSlot s).endDialogue d.code []
  | 0x14 => last (m.forgetSlot s) 0
  | 0x50 => (m.endDialogue 0 []).enterDark false
  | _ => m.endDialogue d.code d.body

/-- The opcodes of R464. -/
def dialogueOps : List Nat := [1, 2, 3, 0x10, 0x11, 0x12, 0x13, 0x14, 0x20, 0x21, 0x30, 0x31, 0x32, 0x33, 0x40, 0x41, 0x50]

/-- The head of the queue when it has not begun: the Keeper's own work begins, a reserved OP is refused; any other waits for its command. -/
def takeHead (m : Mod) (d : Dialogue) : Option Mod :=
  if m.board.keeperDown then some (m.endDialogue 0x0F0B [])
  else if d.ch = none then some (if d.op = 0x14 then m.beginTeardown d.slot else m.beginScrub d.slot)
  else if dialogueOps.contains d.op then none
  else some (m.endDialogue (if m.keeperState = 3 ∨ m.fatalStopped = true then 0x0F0B else 0x0F0A) [])

/-- The Keeper goes on with its dialogues until one waits; `n` bounds the turns. -/
def settleKeeper (m : Mod) : Nat → Mod
  | 0 => m
  | n + 1 =>
    let m := m.keeperGoesOn
    match m.dialogues with
    | [] => m
    | d :: _ =>
      if d.begun then (if d.plan = [] ∧ m.busQuiet = true then settleKeeper (m.finishDialogue d) n else m)
      else match m.takeHead d with
        | some m => settleKeeper m n
        | none => m
def settle (m : Mod) : Mod := m.settleKeeper (2 * m.dialogues.length + 1)

/-- The dialogue in service fails with a code: a sealing is torn down and then ends with it (R480); any other ends. -/
def failDialogue (m : Mod) (code : W16) : Mod :=
  match m.dialogues with
  | [] => m
  | d :: r =>
    if !d.begun then m
    else if d.op = 0x11 ∧ d.code = 0 then ({ m with dialogues := { d with code := code } :: r } : Mod).beginTeardown d.slot
    else match d.ch with
      | some _ => m.endDialogue code []
      | none => (m.endDialogue code []).endDelete d.slot code

/-! ## Answers, resends (R447, R448) -/

/-- The answer of a die reaches the Keeper: the message is done. -/
def answered (m : Mod) (die : Nat) : Mod := m.setKdie die { m.kdie die with out := (m.kdie die).out.drop 1, answers := [], resends := 0 }

/-- An ACK (R447). -/
def takeBusAck (m : Mod) (die : Nat) : Mod :=
  match (m.kdie die).out, (m.kdie die).answers with
  | x :: _, y :: _ => if y.ty = 9 then ((m.acked die x).answered die).settle else m
  | _, _ => m

/-- The partition whose keys or locks a message carried. -/
def carried (x : KMsg) : Option Nat := if 1 ≤ x.ty ∧ x.ty ≤ 5 then some x.slot else none

/-- A NAK or no answer: resent with 0x0F21, or given up with 0x0F22 after three resends (R447). -/
def resendBus (m : Mod) (die : Nat) : Mod :=
  match (m.kdie die).out with
  | [] => m
  | x :: _ =>
    if (m.kdie die).resends = 3 then
      let m := (m.answered die).raiseKeeper 0x0F22 die x.ty (carried x)
      let m := if m.inService.isSome then forEach m busDies (fun m d => m.setKdie d { m.kdie d with out := [], answers := [], resends := 0 }) else m
      (m.failDialogue 0x0F22).settle
    else
      let m := m.setKdie die { m.kdie die with resends := (m.kdie die).resends + 1, answers := [] }
      (m.addCnt CNT_BUS_RESEND 1).raiseKeeper 0x0F21 die x.ty none

/-- A MEASURE_RSP: a lock, domain or LOADED bit that differs from what the Keeper set is 0x0F2A (R448); a compute die's scrub result is kept (R85). -/
def takeMeasure (m : Mod) (die : Nat) : Mod :=
  match (m.kdie die).out, (m.kdie die).answers with
  | x :: _, y :: _ =>
    if x.ty = 6 ∧ y.ty = 7 then
      let want := m.expected die
      let same := decide (y.payload.take want.length = want)
      let m := m.answered die
      let m := if die < 8 then m.setKdie die { m.kdie die with scrubFail := decide (num y.payload want.length 1 = 1) } else m
      if same then m.settle else (m.raiseKeeper 0x0F2A die 7 none).settle
    else m
  | _, _ => m

/-- A die clears every key it holds and answers (R536). -/
def zeroiseDie (m : Mod) (die : Nat) : Mod :=
  let l := (m.keys.map (·.1)).filter (fun k => decide (k.die = die))
  let m := l.foldl (fun m k => m.clearKey k) m
  { m.setKdie die { m.kdie die with zeroised := true } with zeroiseBegun := true }

end Mod

/-! ## Meanings -/

/-- A command of the keeper-bus wires of a die: not while the module is OFF or the Keeper die has no rails. -/
def onBusDie (s : State) (die : Nat) (f : Mod → Mod) : Host.Outcome State Fault Refusal :=
  onWhen s (decide (die < 31) && decide (s.m.modState ≠ 0) && !s.m.board.keeperDown) f

/-- KEY_LOAD (R446). -/
def execKeyLoad (die : Nat) (s : State) : Host.Outcome State Fault Refusal := onBusDie s die (fun m => m.dieTakes die 1 (fun m d x => m.takeKeyLoad d x))
/-- KEY_CLEAR (R446, R451). -/
def execKeyClear (die : Nat) (s : State) : Host.Outcome State Fault Refusal :=
  onBusDie s die (fun m => m.dieTakes die 2 (fun m d x => match placeOf d x.target with
    | some k => m.clearKey k
    | none => m))
/-- DOMAIN (R83, R446). -/
def execDomain (die : Nat) (s : State) : Host.Outcome State Fault Refusal := onBusDie s die (fun m => m.dieTakes die 3 (fun m d x => m.takeDomain d x))
/-- LOCK (R467, R481). -/
def execLock (die : Nat) (s : State) : Host.Outcome State Fault Refusal := onBusDie s die (fun m => m.dieTakes die 4 (fun m d x => m.takeLock d x))
/-- UNLOCK (R481). -/
def execUnlock (die : Nat) (s : State) : Host.Outcome State Fault Refusal := onBusDie s die (fun m => m.dieTakes die 5 (fun m d x => m.takeUnlock d x))
/-- MEASURE_REQ: the die answers with what it holds (R446, R448). -/
def execMeasureReq (die : Nat) (s : State) : Host.Outcome State Fault Refusal :=
  onBusDie s die (fun m => match m.onWire die 6 with
    | some x => m.dieAnswers die 7 x.seq (m.measured die)
    | none => m)
/-- MEASURE_RSP (R448). -/
def execMeasureRsp (die : Nat) (s : State) : Host.Outcome State Fault Refusal := onBusDie s die (fun m => m.takeMeasure die)
/-- ZEROISE on a die in a module-fatal handling; a fault of the Keeper die leaves none to send it (R536). -/
def execZeroiseMessage (die : Nat) (s : State) : Host.Outcome State Fault Refusal := onBusDie s die (fun m => if m.zeroising && !m.keeperBad then m.zeroiseDie die else m)
/-- KEEPER_BUS_ACK: the ACK or NAK of a die (R447). -/
def execKeeperBusAck (die : Nat) (nak : Bool) (s : State) : Host.Outcome State Fault Refusal :=
  onBusDie s die (fun m => if nak then (if (m.kdie die).answers = [] then m.resendBus die else m) else m.takeBusAck die)
/-- DEBUG_GATE (R469). -/
def execDebugGate (die : Nat) (s : State) : Host.Outcome State Fault Refusal := onBusDie s die (fun m => m.dieTakes die 10 (fun m d x => m.takeDebugGate d x))
/-- KEEPER_BUS_TIMEOUT: no answer within 2 µs (R447). -/
def execKeeperBusTimeout (die : Nat) (s : State) : Host.Outcome State Fault Refusal := onBusDie s die (fun m => m.resendBus die)
/-- PERIODIC_MEASURE (R448). -/
def execPeriodicMeasure (s : State) : Host.Outcome State Fault Refusal :=
  onWhen s (decide (s.m.keeperState = 2) && s.m.anySealed) (fun m =>
    m.sendAll ((((upto 8).filter (fun d => match m.slotOfDie d with
      | some p => m.isSealed p
      | none => false)) ++ m.linkDies.map linkDie ++ [bridgeDie]).map (fun d => (d, msgMeasure))))

end Sys2Proof.Machine
end

