-- ==== Sys2Proof/Machine/Boot.lean ====
section
/-! DEFINITION. Signed objects, the flash and Keeper boot (R452 to R460), and the start-up phases after it (R25, R455, R570, R571). -/

namespace Sys2Proof.Machine

/-! ## Signed objects (R457, R458) -/

/-- The flash regions of the targets of FLASH_WRITE (R453, R464): base and size. -/
def targetBase : Nat → Nat
  | 0 => 0x1_0000 | 1 => 0x2_0000 | 2 => 0x3_0000 | 3 => 0x4_0000 | 4 => 0x100_0000 | _ => 0x300_0000
def targetSize (k : Nat) : Nat := if k < 4 then 0x1_0000 else 0x200_0000
/-- TYPE of the object that a target holds. -/
def targetType : Nat → Nat
  | 0 => 4 | 1 => 2 | 2 => 3 | 3 => 5 | _ => 1
/-- BODY_LEN as a TYPE allows it. -/
def bodyLenOk (ty n : Nat) : Bool := match ty with
  | 1 => decide (n ≤ 33524384) | 2 => decide (n = 32) | 3 => decide (n = 192) | 4 => decide (n = 128) | _ => decide (n = 32)

namespace Mod

/-- A counter of R454: SVN_GALLERY, SVN_CONFIG, SVN_REPAIR for object types 1 to 3, and 0 for the others. -/
def svnOf (m : Mod) (ty : Nat) : Nat := match ty with
  | 1 => m.fld KPR_SVN0 0 32 | 2 => m.fld KPR_SVN0 32 32 | 3 => m.fld KPR_SVN1 0 32 | _ => 0
def rootMin (m : Mod) : Nat := m.fld KPR_SVN1 32 2
def bootBank (m : Mod) : Nat := m.fld KPR_STATUS 6 1

/-- The header check of R458 action 1. -/
def headerOk (m : Mod) (ty : Nat) (h : List Byte) : Bool :=
  decide (num h 0 4 = 0x53584454) && decide (num h 4 2 = 1) && decide (num h 6 2 = ty) && decide (num h 8 4 = 0x100) &&
  bodyLenOk ty (num h 0xC 4) && decide (num h 0x14 1 ≤ 3) && zeros h 0x15 3 &&
  decide (num h 0x18 4 = m.fld 0 32 32) && decide (num h 0x1C 2 = m.fld 0 16 16) &&
  (decide (num h 0x1E 1 = m.fld 0 8 8) || decide (num h 0x1E 1 = 0xFF)) && zeros h 0x1F 1 &&
  (if 2 ≤ ty ∧ ty ≤ 4 then decide ((h.drop 0x20).take 32 = bytesIn 32 Config.devicePkHash) else zeros h 0x20 32) && zeros h 0x60 160

/-- The check of a signed object that stands at a memory address; the signature engine's verdict is given (R458). -/
def checkObject (m : Mod) (a ty : Nat) (sigOk : Bool) : W16 :=
  let h := m.ld a 256
  if !m.headerOk ty h then 0x0F07
  else if num h 0x14 1 < m.rootMin ∨ num h 0x10 4 < m.svnOf ty then 0x0F06
  else if sha256 (m.ld (a + 256) (num h 0xC 4)) ≠ (h.drop 0x40).take 32 ∨ sigOk = false then 0x0F05
  else 0

/-- Copies a range of memory; what stands there is replaced. -/
def copyMem (m : Mod) (src dst len : Nat) : Mod :=
  let cells := m.mem.filter (fun p => decide (src ≤ p.1) && decide (p.1 < src + len))
  cells.foldl (fun m p => m.st (p.1 - src + dst) [p.2]) (m.clearMem dst (dst + len))

/-! ## The replay-protected region (R454) -/

/-- Where the model keeps the region's counters: behind the 256 MiB of the flash. -/
def replayAt : Nat := flashAt 0x1000_0000
/-- The counters are read at boot. -/
def readReplay (m : Mod) : Mod :=
  let m := m.wr KPR_SVN0 (BitVec.ofNat 64 (m.ldNat replayAt 8))
  let m := m.wr KPR_SVN1 (BitVec.ofNat 64 (m.ldNat (replayAt + 8) 4 + m.ldNat (replayAt + 12) 1 % 4 * 2 ^ 32))
  m.setF KPR_STATUS 6 1 (m.ldNat (replayAt + 13) 1)
/-- The counters are written. -/
def writeReplay (m : Mod) : Mod :=
  m.st replayAt (bytesOf 8 (m.rd KPR_SVN0).toNat ++ bytesOf 4 (m.svnOf 3) ++ bytesOf 1 m.rootMin ++ bytesOf 1 m.bootBank)
def setBootBank (m : Mod) (b : Nat) : Mod := (m.setF KPR_STATUS 6 1 b).writeReplay

/-! ## Configuration and repair records (R455, R456) -/

/-- SERIAL of the device certificate. -/
def serial (m : Mod) : List Byte := m.ld (flashAt (0x1_0000 + 256 + 16)) 16
/-- The body of the configuration record lies in its ranges. -/
def configOk (m : Mod) (b : List Byte) : Bool :=
  let fmax := num b 0 1
  let fmin := num b 1 1
  decide (50 ≤ fmin) && decide (fmin ≤ fmax) && decide (fmax ≤ 140) && zeros b 2 2 && decide (num b 4 4 ≤ 14500) &&
  decide (num b 8 1 < 64) && decide (num b 9 1 < 4) && decide (num b 10 1 < 2) && zeros b 11 5 && decide ((b.drop 16).take 16 = m.serial)

/-- The configuration record comes into use: its body, the power cap and the frequency limits (R563, R580). -/
def useConfig (m : Mod) : Mod :=
  let a := flashAt 0x2_0000
  let m := { m with configHeader := m.ld a 256, config := m.ld (a + 256) 32 }
  let m := m.wr PWR_CAP (BitVec.ofNat 64 m.powerMax)
  forEach m (upto 16) (fun m i => m.setF (PWR_FLIMIT i) 0 8 m.fmax)
def useRepair (m : Mod) : Mod :=
  let a := flashAt 0x3_0000
  let b := m.ld (a + 256) 192
  { m with repairHeader := m.ld a 256, repairRecord := b, repair := b }

/-- The disabled physical row of half `i`, column `c` in a repair body. -/
def repairRow (b : List Byte) (i c : Nat) : Nat := num b (4 * i + c / 2) 1 / 16 ^ (c % 2) % 16
/-- The physical tiles that a repair body disables. -/
def repairTiles (b : List Byte) : List Nat :=
  (upto 16).flatMap (fun i => (upto 8).filterMap (fun c => if repairRow b i c ≤ 10 then some (88 * i + 8 * repairRow b i c + c) else none))
/-- The pseudo-channels of a stack retired at manufacture. -/
def repairMask (b : List Byte) (s : Nat) : Nat := num b (64 + 4 * s) 4

/-! ## Gallery (R459, R464) -/

def bankAt (b : Nat) : Nat := flashAt (targetBase (4 + b))
/-- Gallery runs the image of a bank: its body in Gallery memory, its SVN and bank shown. -/
def runGallery (m : Mod) (b : Nat) : Mod :=
  let h := m.ld (bankAt b) 256
  let m := m.copyMem (bankAt b + 256) (galleryAt 0) (num h 0xC 4)
  let m := { m with galHeader := h }
  let m := (m.wr GAL_STATUS 0x802).wr GAL_IMAGE (BitVec.ofNat 64 (num h 0x10 4 + b * 2 ^ 32))
  m.setF HI_STATUS 0 4 1
/-- RECOVERY: Gallery held in reset (R460). -/
def recovery (m : Mod) : Mod := ((m.setF KPR_STATUS 0 4 1).setF GAL_STATUS 0 16 0).setF HI_STATUS 0 4 2
/-- The first bank of a list whose image verifies. -/
def goodBank (m : Mod) (l : List (Nat × Bool)) : Option Nat :=
  (l.find? (fun p => decide (m.checkObject (bankAt p.1) 1 p.2 = 0))).map (·.1)

/-- What kboot keeps of an object still verifies under the root index that is now the lowest accepted (R454, R458): 0 configuration, 1 repair, 2 bank A, 3 bank B. -/
def bootGood (m : Mod) (i : Nat) : Bool :=
  bit m.kboot i && decide (m.rootMin ≤ m.ldNat (flashAt (targetBase (if i = 0 then 1 else if i = 1 then 2 else i + 2)) + 0x14) 1)

/-! ## Keeper boot (R459) -/

/-- What of R459 verifies, as it is kept for RECOVERY: configuration, repair, bank A, bank B. -/
def bootBits (m : Mod) (o : BootChecks) : Byte :=
  let one := fun (i : Nat) (b : Bool) => if b then 2 ^ i else 0
  BitVec.ofNat 8 (one 0 (decide (m.checkObject (flashAt 0x2_0000) 2 o.configOk = 0) && m.configOk (m.ld (flashAt 0x2_0100) 32)) +
    one 1 (decide (m.checkObject (flashAt 0x3_0000) 3 o.repairOk = 0)) +
    one 2 (decide (m.checkObject (bankAt 0) 1 o.bankAOk = 0)) + one 3 (decide (m.checkObject (bankAt 1) 1 o.bankBOk = 0)))

/-- Gallery starts from BOOT_BANK or the other bank, and the Keeper runs; no bootable bank is 0x0F24. -/
def bootGallery (m : Mod) : Mod :=
  let good := fun (b : Nat) => bit m.kboot (2 + b)
  let b := m.bootBank
  if good b || good (1 - b) then
    let m := if good b then m else m.setBootBank (1 - b)
    let m := (m.runGallery m.bootBank).setF KPR_STATUS 0 4 2
    m.sendAll (busDies.map (fun d => (d, msgDebug false)))
  else (m.raiseKeeper 0x0F24 31 0 none).recovery

/-- The steps of Keeper boot in their order. -/
def bootKeeper (m : Mod) (o : BootChecks) : Mod :=
  if !o.romOk then m.raiseKeeper 0x0F28 31 0 none
  else if !o.pufOk then m.raiseKeeper 0x0F23 31 0 none
  else if !o.entropyOk then m.raiseKeeper 0x0F29 31 0 none
  else if !o.replayOk then m.raiseKeeper 0x0F27 31 0 none
  else
    let m := (m.readReplay).goState 1 2
    let m := { m with kboot := m.bootBits o }
    if bit m.kboot 0 && bit m.kboot 1 then (m.useConfig.useRepair).bootGallery
    else (m.raiseKeeper 0x0F25 31 0 none).recovery

/-! ## Self-test and training (R25, R455, R571) -/

/-- Rows disabled in a column of a half. -/
def badRows (m : Mod) (i c : Nat) : List Nat := (upto 11).filter (fun r => m.disabled.contains (88 * i + 8 * r + c))
/-- A compute die is unavailable: a column has two failing tiles. -/
def dieSpoiled (m : Mod) (d : Nat) : Bool := [2 * d, 2 * d + 1].any (fun i => (upto 8).any (fun c => decide (2 ≤ (m.badRows i c).length)))
/-- The effective repair state in the record's layout (R455). -/
def effectiveRepair (m : Mod) : List Byte :=
  (upto 16).flatMap (fun i => (upto 4).map (fun k =>
    BitVec.ofNat 8 ((m.badRows i (2 * k)).headD 15 + 16 * (m.badRows i (2 * k + 1)).headD 15))) ++ m.repairRecord.drop 64

/-- Tile self-test ends. -/
def selfTest (m : Mod) (o : SelfTest) : Mod :=
  let rec_ := repairTiles m.repairRecord
  let fails := o.failedTiles.filter (fun p => decide (p < 1408))
  let beyond := fails.filter (fun p => !rec_.contains p)
  let m := { m with disabled := (rec_ ++ beyond).eraseDups, repairDisabled := rec_ }
  let m := beyond.foldl (fun m p => m.raise { code := 0x0F26, kind := 1, unit := p, loc := p * 2 ^ 32 }) m
  let m := { m with repair := m.effectiveRepair }
  let dies := ((upto 8).filter (fun d => !m.dieSpoiled d && !bit o.badDies d)).map (2 ^ ·)
  let m := m.wr MOD_DIES (BitVec.ofNat 64 (dies.sum + o.sramPass.toNat * 2 ^ 8 + o.linkPass.toNat * 2 ^ 24 + 0xC000_0000))
  let m := forEach m (upto 32) (fun m s => forEach (m.setHbmState s 1) ((upto 32).filter (fun p => repairMask m.repairRecord s / 2 ^ p % 2 = 1)) (fun m p => m.setPcState s p 2))
  m.goState 1 4

/-- HBM training ends (R571). -/
def trainHbm (m : Mod) (failed : W32) : Mod :=
  let m := forEach m (upto 32) (fun m s =>
    if bit failed s then ((m.setHbmState s 4).setFlag MOD_DIES (dieOfStack s) false).raiseStackAt s 0x0925 0 else m.setHbmState s 3)
  (forEach m (upto 8) (fun m d => m.selfRefresh d true)).goState 1 5

end Mod

/-! ## Meanings -/

/-- A start-up phase that runs and may end: THERM_N holds it otherwise (R569). -/
def onPhase (s : State) (p : Nat) (f : Mod → Mod) : Host.Outcome State Fault Refusal :=
  onWhen s (decide (s.m.modState = 1) && decide (s.m.startPhase = p) && !s.m.startHeld) f

/-- KEEPER_BOOT_COMPLETE (R459). -/
def execKeeperBootComplete (o : BootChecks) (s : State) : Host.Outcome State Fault Refusal :=
  onWhen s (decide (s.m.modState = 1) && (decide (s.m.startPhase = 1) || decide (s.m.startPhase = 2)) && !s.m.startHeld && decide (s.m.keeperState = 0) && !s.m.fatalStopped)
    (fun m => m.bootKeeper o)
/-- TILE_SELF_TEST_DONE (R25, R455). -/
def execTileSelfTestDone (o : SelfTest) (s : State) : Host.Outcome State Fault Refusal := onPhase s 3 (fun m => m.selfTest o)
/-- HBM_TRAINING_DONE (R571). -/
def execHbmTrainingDone (failed : W32) (s : State) : Host.Outcome State Fault Refusal := onPhase s 4 (fun m => m.trainHbm failed)
/-- BEACON_LOCK_PHASE_END: the module reaches READY, LOCKED or not; a MOD_WAKE in progress completes (R562, R571). -/
def execBeaconLockPhaseEnd (s : State) : Host.Outcome State Fault Refusal :=
  onPhase s 6 (fun m =>
    let m := m.goState 2 0
    match m.cmds.find? (fun c => decide (pkOp c.packet = 0x06)) with
    | some c => m.completeCmd c 0 0 []
    | none => m)

end Sys2Proof.Machine
end

