-- ==== Sys2Proof/Machine/Dialogues.lean ====
section
/-! DEFINITION. The mailbox and the dialogues (R461 to R465, R469, R474 to R480, R484, R490, R491): requests, their checks, what each does. -/

namespace Sys2Proof.Machine

/-! ## The mailbox (R461 to R463) -/

namespace Mod

/-- The request that stands in MB_REQ: header, and as much body as LEN says. -/
def mbRequest (m : Mod) (ch : Nat) : List Byte :=
  let h := m.getRegWords (MB_REQ ch 0) 4
  let n := num h 8 4
  if n ≤ 28640 then h ++ (m.getRegWords (MB_REQ ch 4) (ceilDiv n 8)).take n else h

/-- A refusal of R463: counted, the code shown. -/
def mbRefuse (m : Mod) (ch : Nat) : W16 × Mod := (0x0F04, (m.addCnt (CNT_MB_REFUSED ch) 1).setF (MB_STATUS ch) 48 16 0x0F04)

/-- The channel is the requester's own (R461). -/
def ownChannel (who : Requester) (ch : Nat) : Bool := match who with
  | .host => decide (ch = 0)
  | .gallery => decide (ch = 1)
  | .keeper => false

/-- A write of MB_DOORBELL. -/
def writeMbDb (m : Mod) (who : Requester) (ch : Nat) (go ack : Bool) : W16 × Mod :=
  if !ownChannel who ch then (0x0F03, m)
  else if (go && decide (m.mbState ch ≠ 0)) || (ack && !go && decide (m.mbState ch ≠ 2)) then m.mbRefuse ch
  else if go then
    let d : Dialogue := { ch := some ch, req := m.mbRequest ch }
    let m := { m with dialogues := m.dialogues ++ [d] }
    (0, (m.setF (MB_STATUS ch) 0 2 1).settle)
  else (0, if ack then m.setF (MB_STATUS ch) 0 2 0 else m)
/-- A write of a word of MB_REQ. -/
def writeMbReq (m : Mod) (who : Requester) (ch a : Nat) (new : W64) : W16 × Mod :=
  if !ownChannel who ch then (0x0F03, m) else if m.mbState ch ≠ 0 then m.mbRefuse ch else (0, m.wr a new)

/-! ## Checks of a request (R462, R464) -/

/-- Dialogues whose SLOT must name a partition slot. -/
def slotted (op : Nat) : Bool := [0x10, 0x11, 0x12, 0x13, 0x14, 0x20, 0x21].contains op
/-- LEN as an OP allows it. -/
def lenOk (op n : Nat) : Bool := match op with
  | 0x10 => decide (32 ≤ n) && decide (n ≤ 28640)
  | 0x11 => decide (n = 1616)
  | 0x12 => decide (n = 4)
  | 0x13 => decide (n = 8)
  | 0x20 => decide (n = 72)
  | 0x30 => decide (8 ≤ n) && decide (n ≤ 28640)
  | 0x31 => decide (n = 4)
  | 0x32 => decide (n = 4)
  | _ => decide (n = 0)
/-- The zero fields of a body, and its selectors. -/
def bodyOk (op : Nat) (b : List Byte) : Bool := match op with
  | 0x12 => decide (num b 0 4 / 2 ^ 13 % 8 = 0) && decide (num b 3 1 = 0)
  | 0x13 => zeros b 4 4
  | 0x20 => zeros b 2 6
  | 0x30 => decide (num b 0 1 ≤ 5) && zeros b 1 3
  | 0x31 => decide (num b 0 1 ≤ 5) && zeros b 1 3
  | 0x32 => decide (num b 0 1 ≤ 2) && zeros b 1 3
  | _ => true
def requestOk (d : Dialogue) : Bool :=
  zeros d.req 2 2 && zeros d.req 13 19 && lenOk d.op d.len && bodyOk d.op d.data &&
  (decide (d.slot < 8) || (!slotted d.op && decide (d.slot = 0xFF)))
/-- The Keeper's state permits the OP. -/
def keeperAllows (m : Mod) (op : Nat) : Bool :=
  decide (op = 1) || (!m.fatalStopped && match m.keeperState with
    | 0 => decide (op = 0x50)
    | 1 => [0x02, 0x30, 0x31, 0x50].contains op
    | 2 => true
    | _ => false)

/-- The Keeper takes the dialogue at the head of its queue, when its OP is `op`. -/
def dialogue (m : Mod) (op : Nat) (f : Mod → Dialogue → Mod) : Mod :=
  match m.dialogues with
  | [] => m
  | d :: _ =>
    if d.begun = true ∨ d.ch = none ∨ d.op ≠ op then m
    else if m.keeperState = 3 ∧ op ≠ 1 then (m.endDialogue 0x0F0B []).settle
    else if !requestOk d then (m.endDialogue 0x0F0A []).settle
    else if !m.keeperAllows op then (m.endDialogue 0x0F0B []).settle
    else (f m d).settle

/-! ## Reports (R464, R465) -/

/-- The measurement block. -/
def measurements (m : Mod) : List Byte :=
  bytesIn 32 Config.keeperRomHash ++ sha256 m.galHeader ++ sha256 m.configHeader ++ sha256 m.repair ++
  bytesOf 4 (m.svnOf 1) ++ bytesOf 4 (m.svnOf 2) ++ bytesOf 4 (m.svnOf 3) ++ bytesOf 1 m.rootMin ++
  bytesOf 1 (m.fld KPR_STATUS 4 3) ++ bytesOf 2 0 ++ bytesIn 32 Config.devicePkHash ++ bytesOf 16 0

/-- The geometry record of a partition (R368). -/
def geometry (m : Mod) (s : Nat) : List Byte :=
  let d := (m.diesOf s).length
  bytesOf 2 1 ++ bytesOf 1 d ++ bytesOf 1 4 ++ bytesOf 2 (160 * d) ++ bytesOf 1 64 ++ bytesOf 1 32 ++ bytesOf 1 32 ++ bytesOf 1 4 ++
  bytesOf 1 6 ++ bytesOf 1 0 ++ bytesOf 2 256 ++ bytesOf 2 32 ++ bytesOf 2 (4 * d) ++ bytesOf 2 62 ++ bytesOf 2 1024 ++ bytesOf 10 0

/-! ## Attestation (R475 to R477) -/

/-- The words of a list part of a manifest. -/
def manifestList (b : List Byte) (o n size : Nat) : List Nat := (upto n).map (fun i => num b (o + size * i) size)
/-- Every number is below the next. -/
def ascending : List Nat → Bool
  | a :: b :: r => decide (a < b) && ascending (b :: r)
  | _ => true
def noRepeat : List Nat → Bool
  | [] => true
  | a :: r => !r.contains a && noRepeat r

/-- The conditions of R476. -/
def manifestOk (m : Mod) (s : Nat) (b : List Byte) : Bool :=
  let np := num b 0x10 2
  let ni := num b 0x12 2
  let nu := num b 0x14 2
  let nf := num b 0x16 2
  let oU := 0x120 + 32 * ni
  let oF := oU + 2 * nu
  let fin := oF + 4 * nf
  let plans := manifestList b 0x20 8 32
  let public_ := manifestList b oU nu 2
  let flows := manifestList b oF nf 4
  let steer := num b 0xC 1
  let disc := num b 0xB 1
  let tile := num b 0xE 2
  decide (num b 0 4 = 0x4D584454) && decide (num b 4 2 = 1) && zeros b 6 2 && decide (1 ≤ num b 8 2) &&
  decide (num b 0xA 1 = (m.diesOf s).length) && decide (disc ≤ 2) && decide (steer ≤ 1) && decide (num b 0xD 1 < 4) &&
  decide (1 ≤ np) && decide (np ≤ 8) && decide (1 ≤ ni) && decide (ni ≤ 768) && decide (nu ≤ 64) && decide (nf ≤ 64) &&
  zeros b 0x18 8 && decide (b.length = roundUp fin 32) && zeros b fin (b.length - fin) &&
  (plans.drop np).all (fun h => decide (h = 0)) && noRepeat (plans.take np) && ascending (manifestList b 0x120 ni 32) &&
  decide ((steer = 1) = (disc = 0)) &&
  (if steer = 1 then decide (tile < numTiles) && decide (m.slotOfTile tile = some s) else decide (tile = 0xFFFF)) &&
  public_.all (fun x => decide (x < 8192) && decide (m.slotOfBuoy x = some s)) &&
  flows.all (fun x => decide (x < 4096)) && noRepeat flows

/-- No DOMAIN number is left (R451). -/
def domainsGone (m : Mod) : Bool := decide (0xFFFF < m.nextDomain)
/-- A fresh DOMAIN number for a slot. -/
def takeDomainNo (m : Mod) (s : Nat) : Mod :=
  { m.setKslot s { m.kslot s with domain := BitVec.ofNat 16 m.nextDomain } with nextDomain := m.nextDomain + 1 }

/-- The attestation up to its signature. -/
def attestation (m : Mod) (s : Nat) (nonce man : List Byte) (kem sk : Nat) : List Byte :=
  bytesOf 4 0x41584454 ++ bytesOf 2 1 ++ bytesOf 2 1 ++ m.serial ++ bytesOf 8 (m.rd 0).toNat ++ bytesOf 2 m.moduleId ++ bytesOf 1 s ++
  bytesOf 1 (m.fld (PART_STATUS s) 8 8) ++ (man.drop 8).take 2 ++ (man.drop 0xB).take 2 ++
  bytesOf 8 (if m.beaconLocked then m.count.toNat else 0) ++ nonce ++ m.measurements ++ sha256 man ++ m.geometry s ++
  bytesIn 32 (Config.publicKey 32 sk) ++ bytesIn 1568 (Config.publicKey 1568 kem) ++ bytesOf 16 0

/-- ATTEST (R477). -/
def dlgAttest (m : Mod) (d : Dialogue) : Mod :=
  let s := d.slot
  let man := d.data.drop 32
  let k := m.kslot s
  if !m.hasPart s || m.jobRuns s || !(decide (k.st = .unsealed) || decide (k.st = .attested)) then m.endDialogue 0x0F0B []
  else if m.debugOn then m.endDialogue 0x0F09 []
  else if m.domainsGone then m.endDialogue 0x0F12 []
  else if !m.manifestOk s man then m.endDialogue 0x0F10 []
  else
    let kem := m.draws + 1
    let sk := m.draws + 2
    let m := { m with draws := m.draws + 2 }
    let a := m.attestation s (d.data.take 32) man kem sk
    let a := a ++ bytesIn 17088 (Config.sign 17088 0 a)
    let m := m.setKslot s { k with st := .attested, manifest := man, manifestHash := sha256 man, attHash := sha256 a, kemAt := some kem, sealKey := some sk }
    (m.showSealing s).endDialogue 0 a

/-! ## Keying (R464, R479, R480, R484) -/

/-- An attestation lapses: the slot is UNSEALED, without its KEM and seal keys and its manifest (R474, R479). -/
def dropAttest (m : Mod) (s : Nat) : Mod :=
  (m.setKslot s { m.kslot s with st := .unsealed, kemAt := none, sealKey := none, manifest := [], manifestHash := [], attHash := [] }).showSealing s

/-- DELIVER_JOB_KEY: an accepted delivery begins the sealing. -/
def dlgDeliver (m : Mod) (d : Dialogue) (tagOk : Bool) : Mod :=
  let s := d.slot
  let k := m.kslot s
  match k.st, k.kemAt with
  | .attested, some kem =>
    if m.debugOn then m.endDialogue 0x0F09 []
    else if m.domainsGone then m.endDialogue 0x0F12 []
    else if !m.hasPart s || m.jobRuns s then m.endDialogue 0x0F0B []
    else if !tagOk then (m.dropAttest s).endDialogue 0x0F0A []
    else
      let tag : W16 := BitVec.ofNat 16 (num k.manifest 8 2)
      let m := m.setKslot s { k with jk := bytesIn 32 (Config.unwrap kem d.data), kemAt := none, jobTag := tag }
      let m := (m.takeDomainNo s).setSealing s .sealing
      let m := (m.wr (PART_JOB s) (tag.zeroExtend 64)).setFlag (PART_STATUS s) 23 false
      m.setPlan (m.sealPlan s)
  | _, _ => m.endDialogue 0x0F0F []

/-- OPEN_DOMAIN. -/
def dlgOpen (m : Mod) (d : Dialogue) : Mod :=
  let s := d.slot
  if !m.hasPart s || m.jobRuns s || !decide ((m.kslot s).st = .unsealed) then m.endDialogue 0x0F0B []
  else if m.domainsGone then m.endDialogue 0x0F12 []
  else
    let tag : W16 := BitVec.ofNat 16 (num d.data 0 2)
    let m := m.setKslot s { m.kslot s with jk := (d.data.drop 8).take 32, manifestHash := (d.data.drop 40).take 32, jobTag := tag }
    let m := ((m.takeDomainNo s).wr (PART_JOB s) (tag.zeroExtend 64)).setFlag (PART_STATUS s) 23 false
    m.setPlan (m.openPlan s)

/-- SCRUB_PARTITION. -/
def dlgScrub (m : Mod) (d : Dialogue) : Mod :=
  if !m.hasPart d.slot || m.jobRuns d.slot || !decide ((m.kslot d.slot).st = .unsealed) then m.endDialogue 0x0F0B [] else m.beginScrub d.slot

/-- LOAD_FEED_EPOCH (R484). -/
def dlgEpoch (m : Mod) (d : Dialogue) : Mod :=
  let s := d.slot
  let w := num d.data 0 4
  let f := w % 2048
  let e := w / 2048 % 2
  let man := (m.kslot s).manifest
  let o := 0x120 + 32 * num man 0x12 2 + 2 * num man 0x14 2
  let listed := (manifestList man o (num man 0x16 2) 4).contains (w % 4096)
  if m.isSealed s && listed && decide (m.slotOfRing (ringOfFlow e f) = some s) then
    m.setPlan [.send [msgKey (.feed e f (w / 4096 % 2)) s (w / 65536 % 256) (m.feedKey s e f (w / 65536 % 256))]]
  else m.endDialogue 0x0F0B []

/-- SEAL_EXPORT (R490): the record comes over the keeper bus; the statement is signed. -/
def dlgSealExport (m : Mod) (d : Dialogue) : Mod :=
  let s := d.slot
  let k := m.kslot s
  let idx := num d.data 0 2
  let cnt := num d.data 2 2
  if !m.isSealed s || num k.manifest 0xD 1 % 2 = 0 || k.exportRec.isEmpty || decide (cnt ≤ idx) then m.endDialogue 0x0F11 []
  else
    let r := k.exportRec
    let b := bytesOf 4 0x4C584454 ++ bytesOf 2 1 ++ bytesOf 2 idx ++ bytesOf 2 cnt ++ bytesOf 2 k.jobTag.toNat ++ bytesOf 2 m.moduleId ++ bytesOf 2 0 ++
      (r.drop 8).take 8 ++ r.take 8 ++ k.attHash ++ k.manifestHash ++ (r.drop 24).take 32 ++ (r.drop 56).take 32 ++ (r.drop 16).take 8 ++ bytesOf 24 0
    let b := b ++ bytesIn 7856 (Config.sign 7856 (k.sealKey.getD 0) b)
    match m.dialogues with
    | [] => m
    | x :: rest => ({ m with dialogues := { x with body := b } :: rest } : Mod).setPlan [.send [(bridgeDie, msgMeasure)]]

/-- TEARDOWN (R491). -/
def dlgTeardown (m : Mod) (d : Dialogue) : Mod :=
  if !m.isSealed d.slot || m.jobRuns d.slot then m.endDialogue 0x0F0B [] else m.beginTeardown d.slot

/-! ## Flash (R464) -/

/-- FLASH_WRITE: data into the staging copy, which starts as a copy of the region. -/
def dlgFlashWrite (m : Mod) (d : Dialogue) : Mod :=
  let k := num d.data 0 1
  let o := num d.data 4 4
  let b := d.data.drop 8
  let inUse := decide (4 ≤ k) && decide (m.fld GAL_STATUS 0 4 = 2) && decide (m.fld GAL_IMAGE 32 1 = k - 4)
  if inUse || decide (targetSize k < o + b.length) then m.endDialogue 0x0F0C []
  else
    let m := if m.stagings.contains k then m
      else { m.copyMem (flashAt (targetBase k)) (stagingAt k 0) (targetSize k) with stagings := k :: m.stagings }
    (m.st (stagingAt k o) b).endDialogue 0 []

/-- In RECOVERY, a commit after which a bank and both records verify goes back to BOOT (R460). -/
def leaveRecovery (m : Mod) : Mod :=
  if m.keeperState = 1 ∧ (m.bootGood 0 && m.bootGood 1 && (m.bootGood 2 || m.bootGood 3)) = true then m.setF KPR_STATUS 0 4 0 else m

/-- FLASH_COMMIT: the staged object, once verified, goes to its region. -/
def dlgCommit (m : Mod) (d : Dialogue) (v : SignatureCheck) : Mod :=
  let k := num d.data 0 1
  let a := stagingAt k 0
  let root := m.ldNat (a + 256) 1
  let c := m.checkObject a (targetType k) v.sigOk
  let c := if c = 0 ∧ k = 3 ∧ m.ldNat (a + 0x14) 1 < root then 0x0F06 else c
  if c ≠ 0 then m.endDialogue c []
  else
    let m := m.copyMem a (flashAt (targetBase k)) (targetSize k)
    let m := { m with stagings := m.stagings.erase k }
    let m := if 4 ≤ k then m.setBootBank (k - 4) else if k = 3 then (m.setF KPR_SVN1 32 2 (max m.rootMin root)).writeReplay else m
    let bits := match k with
      | 1 => 0 | 2 => 1 | 4 => 2 | 5 => 3 | _ => 8
    let m := { m with kboot := setBit m.kboot bits true }
    m.leaveRecovery.endDialogue 0 []

/-- ADVANCE_SVN: the counter goes to the SVN of the object in use. -/
def dlgAdvance (m : Mod) (d : Dialogue) : Mod :=
  let c := num d.data 0 1
  let h := match c with
    | 0 => m.galHeader | 1 => m.configHeader | _ => m.repairHeader
  let v := num h 0x10 4
  if v ≤ m.svnOf (c + 1) then m.endDialogue 0x0F0D []
  else
    let m := match c with
      | 0 => m.setF KPR_SVN0 0 32 v | 1 => m.setF KPR_SVN0 32 32 v | _ => m.setF KPR_SVN1 0 32 v
    m.writeReplay.endDialogue 0 (bytesOf 4 v)

/-! ## Gallery restart, debug, zeroise -/

/-- Every command in progress ends with 0x0E23; those of rings start again from HEAD (R502). -/
def abandonCmds (m : Mod) : Mod :=
  let l := m.cmds
  let m := { m with cmds := [] }
  l.foldl (fun m c =>
    let m := (m.raise { code := 0x0E23, slot := none, kind := 8 }).noteCmd (pkSlot c.packet) 0x0E23
    let rec_ := completionRecord (match c.ch with | .mcmd => 0xFFFF | .ring r => r) 0x0E23 c.index.toNat (pkTag c.packet) m.count 0 []
    match c.ch with
    | .mcmd =>
      let m := (m.putRegs HI_MCMD_RSP 8 rec_).wr HI_MCMD_STATUS 2
      if m.flag HI_MCMD_CTL 16 then m.sendOut (.msix (m.fld HI_MCMD_CTL 0 11)) else m
    | .ring r =>
      let m := m.setRing r { m.ringOf r with prog := [] }
      match m.cqOf r with
      | some q => if m.recordFate q = .written then m.pushRecord q rec_ else m
      | none => m) m

/-- GALLERY_RESTART: from BOOT_BANK or the other bank; while a sealed partition exists, only an image with the header in use. -/
def dlgRestart (m : Mod) (v : SignatureCheck) : Mod :=
  let b := m.bootBank
  let l := [(b, v.sigOk), (1 - b, v.otherOk)]
  let same := fun (p : Nat × Bool) => decide (m.ld (bankAt p.1) 256 = m.galHeader)
  let m := m.abandonCmds
  match m.goodBank (if m.anySealed then l.filter same else l) with
  | some g =>
    let m := if m.anySealed then m else if g = b then m else m.setBootBank g
    (m.runGallery g).endDialogue 0 []
  | none => ((m.raiseKeeper 0x0F24 31 0 none).recovery).endDialogue 0x0F05 []

/-- DEBUG_ENABLE (R469). -/
def dlgDebugOn (m : Mod) : Mod :=
  if !m.debugAllowed || m.anySealed || (upto 8).any (fun s => decide ((m.kslot s).st = .sealing)) then m.endDialogue 0x0F08 []
  else ((m.setFlag KPR_STATUS 4 true).setFlag KPR_STATUS 5 true).setPlan [.send (busDies.map (fun d => (d, msgDebug true)))]
/-- DEBUG_DISABLE. -/
def dlgDebugOff (m : Mod) : Mod := (m.setFlag KPR_STATUS 4 false).setPlan [.send (busDies.map (fun d => (d, msgDebug false)))]

/-- ZEROISE: every key that the Keeper loaded is cleared, then it answers and enters DARK (R451). -/
def dlgZeroise (m : Mod) : Mod := m.setPlan [.send (m.keysSet.map (fun k => msgClear k 0))]

end Mod

/-! ## Meanings -/

/-- A dialogue: the Keeper serves it while it has rails. -/
def onDialogue (s : State) (op : Nat) (f : Mod → Dialogue → Mod) : Host.Outcome State Fault Refusal :=
  onWhen s (decide (s.m.modState ≠ 0) && !s.m.board.keeperDown) (fun m => m.dialogue op f)

/-- MB_GO (R463). -/
def execMbGo (who : Requester) (ch : Nat) (s : State) : Host.Outcome State Fault Refusal :=
  onWhen s (decide (s.m.modState ≠ 0) && decide (ch < 2)) (fun m => m.commit who (mbReg ch 0) (m.writeMbDb who ch true false))
/-- MB_ACK (R463). -/
def execMbAck (who : Requester) (ch : Nat) (s : State) : Host.Outcome State Fault Refusal :=
  onWhen s (decide (s.m.modState ≠ 0) && decide (ch < 2)) (fun m => m.commit who (mbReg ch 0) (m.writeMbDb who ch false true))
/-- GET_STATUS. -/
def execGetStatus (s : State) : Host.Outcome State Fault Refusal :=
  onDialogue s 0x01 (fun m _ => m.endDialogue 0 (m.getRegWords KPR_STATUS 3))
/-- GET_IDENTITY: the certificate object. -/
def execGetIdentity (s : State) : Host.Outcome State Fault Refusal :=
  onDialogue s 0x02 (fun m _ => m.endDialogue 0 (m.ld (flashAt 0x1_0000) 30176))
/-- GET_MEASUREMENTS (R465). -/
def execGetMeasurements (s : State) : Host.Outcome State Fault Refusal := onDialogue s 0x03 (fun m _ => m.endDialogue 0 m.measurements)
/-- ATTEST (R476, R477). -/
def execAttest (s : State) : Host.Outcome State Fault Refusal := onDialogue s 0x10 (fun m d => m.dlgAttest d)
/-- DELIVER_JOB_KEY (R479, R480); `tagOk` is what the AES-GCM tag of the delivery shows. -/
def execDeliverJobKey (tagOk : Bool) (s : State) : Host.Outcome State Fault Refusal := onDialogue s 0x11 (fun m d => m.dlgDeliver d tagOk)
/-- SEALING_CONFIRM: every sealing scrub has completed, and the Keeper measures (R480 action 7); with a failed scrub the measurement ends the sealing with 0x0224. -/
def execSealingConfirm (slot : Nat) (s : State) : Host.Outcome State Fault Refusal :=
  onWhen s (decide (s.m.modState ≠ 0)) (fun m => match m.inService with
    | none => m
    | some d => if d.op = 0x11 ∧ d.code = 0 ∧ d.slot = slot ∧ d.plan = [.event] ∧ m.busQuiet = true ∧ m.scrubsDone slot = true then
        (m.setPlan [m.sendMeasure slot]).settle
      else m)
/-- LOAD_FEED_EPOCH (R484). -/
def execLoadFeedEpoch (s : State) : Host.Outcome State Fault Refusal := onDialogue s 0x12 (fun m d => m.dlgEpoch d)
/-- SEAL_EXPORT (R490). -/
def execSealExport (s : State) : Host.Outcome State Fault Refusal := onDialogue s 0x13 (fun m d => m.dlgSealExport d)
/-- TEARDOWN (R491). -/
def execTeardown (s : State) : Host.Outcome State Fault Refusal := onDialogue s 0x14 (fun m d => m.dlgTeardown d)
/-- TEARDOWN_SCRUB_DONE (R491 actions 5 to 7). -/
def execTeardownScrubDone (slot : Nat) (s : State) : Host.Outcome State Fault Refusal :=
  onWhen s (decide (s.m.modState ≠ 0)) (fun m => match m.inService with
    | none => m
    | some d => if d.slot = slot ∧ (m.kslot slot).st = .tearing ∧ d.plan = [.event] ∧ m.busQuiet = true ∧ m.scrubsDone slot = true then (m.endTeardown slot).settle else m)
/-- KEM_KEY_EXPIRY (R474). -/
def execKemKeyExpiry (slot : Nat) (s : State) : Host.Outcome State Fault Refusal :=
  onWhen s (decide (slot < 8)) (fun m => if (m.kslot slot).st = .attested then m.dropAttest slot else m)
/-- OPEN_DOMAIN (R464). -/
def execOpenDomain (s : State) : Host.Outcome State Fault Refusal := onDialogue s 0x20 (fun m d => m.dlgOpen d)
/-- SCRUB_PARTITION (R464). -/
def execScrubPartition (s : State) : Host.Outcome State Fault Refusal := onDialogue s 0x21 (fun m d => m.dlgScrub d)
/-- FLASH_WRITE (R464). -/
def execFlashWrite (s : State) : Host.Outcome State Fault Refusal := onDialogue s 0x30 (fun m d => m.dlgFlashWrite d)
/-- FLASH_COMMIT (R458, R464). -/
def execFlashCommit (v : SignatureCheck) (s : State) : Host.Outcome State Fault Refusal := onDialogue s 0x31 (fun m d => m.dlgCommit d v)
/-- ADVANCE_SVN (R464). -/
def execAdvanceSvn (s : State) : Host.Outcome State Fault Refusal := onDialogue s 0x32 (fun m d => m.dlgAdvance d)
/-- GALLERY_RESTART (R464, R502). -/
def execGalleryRestart (v : SignatureCheck) (s : State) : Host.Outcome State Fault Refusal := onDialogue s 0x33 (fun m _ => m.dlgRestart v)
/-- DEBUG_ENABLE (R469). -/
def execDebugEnable (s : State) : Host.Outcome State Fault Refusal := onDialogue s 0x40 (fun m _ => m.dlgDebugOn)
/-- DEBUG_DISABLE (R469). -/
def execDebugDisable (s : State) : Host.Outcome State Fault Refusal := onDialogue s 0x41 (fun m _ => m.dlgDebugOff)
/-- ZEROISE (R451, R464). -/
def execZeroise (s : State) : Host.Outcome State Fault Refusal := onDialogue s 0x50 (fun m _ => m.dlgZeroise)

end Sys2Proof.Machine
end

