-- ==== Sys2Proof/Machine/Pmbus.lean ====
section
/-! DEFINITION. The board's management buses: PMBus and FRU data on SMBus (R578), the JTAG TAP (R469, R577).  The spec names PMBus 1.4 Part II for the codings; bit places and LINEAR11 are that standard's (log entry 25). -/

namespace Sys2Proof.Machine

/-- A transaction on SMBus is answered while the standby rails are good. -/
def onBus (s : State) (f : Mod → Mod) : Host.Outcome State Fault Refusal := onWhen s (decide (s.m.modState ≠ 0)) f

/-- The LINEAR11 exponent for num / den: the smallest at which the mantissa fits (log entry 25). -/
def linearExp (num den : Nat) : Nat → Nat → Nat
  | e, 0 => e
  | e, n + 1 => if num * 2 ^ 16 / (den * 2 ^ e) ≤ 1023 then e else linearExp num den (e + 1) n
/-- LINEAR11 of num / den; the exponent counts from −16. -/
def linear11 (neg : Bool) (num den : Nat) : W16 :=
  let e := linearExp num den 0 31
  let y := num * 2 ^ 16 / (den * 2 ^ e)
  let mant : BitVec 11 := if neg then - BitVec.ofNat 11 y else BitVec.ofNat 11 y
  BitVec.ofNat 16 ((BitVec.ofInt 5 ((e : Int) - 16)).toNat * 2 ^ 11 + mant.toNat)
/-- The value of a LINEAR11 word in whole units, rounded down. -/
def fromLinear11 (w : W16) : Nat :=
  let n := sext 5 (bf w 11 5)
  let y := (sext 11 (bf w 0 11)).toNat
  if 0 ≤ n then y * 2 ^ n.toNat else y / 2 ^ (-n).toNat

namespace Mod

/-- STATUS_INPUT: VIN over-voltage, VIN under-voltage, input over-power. -/
def statusInputByte (m : Mod) : Byte :=
  let b := m.board.statusBits
  BitVec.ofNat 8 ((if bit b 0 then 0x80 else 0) + (if bit b 1 then 0x10 else 0) + (if bit b 2 then 0x01 else 0))
/-- STATUS_TEMPERATURE: fault for critical, warning for warn. -/
def statusTempByte (m : Mod) : Byte :=
  let b := m.board.statusBits
  BitVec.ofNat 8 ((if bit b 4 then 0x80 else 0) + (if bit b 3 then 0x40 else 0))
/-- STATUS_WORD: INPUT, TEMPERATURE and the power-limit bits. -/
def statusWordBits (m : Mod) : W16 :=
  BitVec.ofNat 16 ((if m.statusInputByte ≠ 0 then 0x2000 else 0) + (if m.statusTempByte ≠ 0 then 0x0004 else 0) +
    (if bit m.board.statusBits 5 then 0x4000 else 0))
/-- SMB_ALERT_N is asserted while any bit of STATUS_WORD is set (R578). -/
def smbAlert (m : Mod) : Bool := decide (m.statusWordBits ≠ 0)

/-- A signed reading in 1/16 °C as LINEAR11. -/
def tempLinear (t : W16) : W16 := linear11 (decide (t.toInt < 0)) t.toInt.natAbs 16
/-- The hottest junction sensor. -/
def hottest (m : Mod) : W16 := (upto 56).foldl (fun a n => if a.toInt < (m.temp n).toInt then m.temp n else a) (m.temp 0)
def answerWord (m : Mod) (w : W16) : Mod := m.answerBytes (bytesOf 2 w.toNat)
def nackBus (m : Mod) : Mod := { m with reply := { nack := true } }

/-- CAP_W takes 2,000 to POWER_MAX_W; other values are refused with 0x1101 (R580). -/
def writeCap (m : Mod) (w : Nat) : W16 × Mod :=
  if 2000 ≤ w ∧ w ≤ m.powerMax then (0, m.setF PWR_CAP 0 16 w) else (0x1101, m)

end Mod

/-! ## PMBus -/

/-- CLEAR_FAULTS. -/
def execClearFaults (s : State) : Host.Outcome State Fault Refusal :=
  onBus s (fun m => ({ m with board := { m.board with statusBits := 0 } }).answer 0)
/-- CAPABILITY: PEC, 1 MHz, SMBALERT. -/
def execCapability (s : State) : Host.Outcome State Fault Refusal := onBus s (fun m => m.answerBytes [0xD0])
/-- STATUS_WORD. -/
def execStatusWord (s : State) : Host.Outcome State Fault Refusal := onBus s (fun m => m.answerWord m.statusWordBits)
/-- STATUS_INPUT. -/
def execStatusInput (s : State) : Host.Outcome State Fault Refusal := onBus s (fun m => m.answerBytes [m.statusInputByte])
/-- STATUS_TEMPERATURE. -/
def execStatusTemperature (s : State) : Host.Outcome State Fault Refusal := onBus s (fun m => m.answerBytes [m.statusTempByte])
/-- READ_VIN: PWR_IN's voltage, in 10 mV. -/
def execReadVin (s : State) : Host.Outcome State Fault Refusal := onBus s (fun m => m.answerWord (linear11 false (m.fld PWR_IN 16 16) 100))
/-- READ_IIN: PWR_IN's current, in 0.1 A. -/
def execReadIin (s : State) : Host.Outcome State Fault Refusal := onBus s (fun m => m.answerWord (linear11 false (m.fld PWR_IN 32 16) 10))
/-- READ_PIN: PWR_IN's power, in W. -/
def execReadPin (s : State) : Host.Outcome State Fault Refusal := onBus s (fun m => m.answerWord (linear11 false (m.fld PWR_IN 0 16) 1))
/-- READ_TEMPERATURE_1: the hottest junction. -/
def execReadTemperature1 (s : State) : Host.Outcome State Fault Refusal := onBus s (fun m => m.answerWord (Mod.tempLinear m.hottest))
/-- READ_TEMPERATURE_2: the coolant inlet. -/
def execReadTemperature2 (s : State) : Host.Outcome State Fault Refusal := onBus s (fun m => m.answerWord (Mod.tempLinear (m.temp 56)))
/-- READ_TEMPERATURE_3: the coolant outlet. -/
def execReadTemperature3 (s : State) : Host.Outcome State Fault Refusal := onBus s (fun m => m.answerWord (Mod.tempLinear (m.temp 57)))
/-- PMBUS_REVISION. -/
def execPmbusRevision (s : State) : Host.Outcome State Fault Refusal := onBus s (fun m => m.answerBytes [0x44])
/-- MFR_ID. -/
def execMfrId (s : State) : Host.Outcome State Fault Refusal := onBus s (fun m => m.answerBytes (ascii "VWK"))
/-- MFR_MODEL. -/
def execMfrModel (s : State) : Host.Outcome State Fault Refusal := onBus s (fun m => m.answerBytes (ascii "VWK-CJ32-A"))
/-- MFR_SERIAL: SERIAL of the certificate in flash (R457, R453). -/
def execMfrSerial (s : State) : Host.Outcome State Fault Refusal := onBus s (fun m => m.answerBytes (m.ld (flashAt 0x1_0110) 16))
/-- MFR_POWER_CAP: reads CAP_W, or writes it; a value refused by R580 leaves it and is answered with NACK. -/
def execMfrPowerCap (write : Option W16) (s : State) : Host.Outcome State Fault Refusal :=
  onBus s (fun m => match write with
    | none => m.answerWord (linear11 false m.capW 1)
    | some w =>
      let r := m.writeCap (fromLinear11 w)
      if r.1 = 0 then r.2.answer 0 else (r.2.noteRange r.1 none).nackBus)
/-- A code that R578 does not list is answered with NACK. -/
def execPmbusUnsupportedCode (code : Byte) (s : State) : Host.Outcome State Fault Refusal :=
  onBus s (fun m =>
    if [0x03, 0x19, 0x79, 0x7C, 0x7D, 0x88, 0x89, 0x97, 0x8D, 0x8E, 0x8F, 0x98, 0x99, 0x9A, 0x9E, 0xD0].contains code.toNat then m
    else m.nackBus)
/-- FRU_READ: bytes of the FRU data, which the spec does not give. -/
def execFruRead (off : Nat) (len : Nat) (s : State) : Host.Outcome State Fault Refusal :=
  onBus s (fun m => m.answerBytes ((upto len).map (fun i => Config.fru (off + i))))

/-! ## JTAG: `board.tap` holds the instruction: 0 BYPASS, 1 IDCODE, 2 SAMPLE/PRELOAD, 3 EXTEST -/

def loadTap (m : Mod) (i : Byte) (value : W64) : Mod := ({ m with board := { m.board with tap := i } }).answerValue value

/-- BYPASS. -/
def execBypass (s : State) : Host.Outcome State Fault Refusal := onBus s (fun m => loadTap m 0 0)
/-- IDCODE 0x1C13_20B5 (R577). -/
def execIdcode (s : State) : Host.Outcome State Fault Refusal := onBus s (fun m => loadTap m 1 0x1C13_20B5)
/-- SAMPLE/PRELOAD: accepted while the debug TAP is open, BYPASS otherwise (R469, R577). -/
def execSamplePreload (s : State) : Host.Outcome State Fault Refusal := onBus s (fun m => loadTap m (if m.debugOn then 2 else 0) 0)
/-- EXTEST: accepted while the debug TAP is open, BYPASS otherwise (R469, R577). -/
def execExtest (s : State) : Host.Outcome State Fault Refusal := onBus s (fun m => loadTap m (if m.debugOn then 3 else 0) 0)

end Sys2Proof.Machine
end

