-- ==== Sys2Proof/Machine/RegAccess.lean ====
section
/-! DEFINITION. Reads and writes of module space by address (R7, R33 to R35, R468, R485, R496): what stands where, who may reach it, what a read returns and what a write does. -/

namespace Sys2Proof.Machine

/-- The address lies in a window, at or before its last register (R33, R34).  A tail that a map only calls reserved (R339, R437, R471, R551, R580) lies beyond the last register, so an access to it is refused; that it does not read 0 as a reserved offset between registers does is the model's choice (DESIGN CHOICE, log entry 90). -/
def mapped (a : Nat) : Bool :=
  decide (a < 0x28_0000) || (decide (0x40_0000 ≤ a) && decide (a < 0x48_0000)) || (decide (0x80_0000 ≤ a) && decide (a < 0x82_0000)) ||
  (decide (0x100_0000 ≤ a) && decide (a < 0x140_0000)) ||
  (decide (0x1000_0000 ≤ a) && decide (a < 0x6000_0000)) || (decide (0x1_0000_0000 ≤ a) && decide (a < 0x1_5800_0000)) ||
  (decide (0x2_0000_0000 ≤ a) && decide (a < 0x2_2000_0000) && decide (a % 0x100_0000 < 0x3_0800)) ||
  (decide (0x3_0000_0000 ≤ a) && decide (a < 0x3_0600_0000) && decide (a % 0x100_0000 < 0x80_4100)) ||
  (decide (0x3_1000_0000 ≤ a) && decide (a < 0x3_1020_0000) && decide (a % 0x10_0000 < 0x3_0000)) ||
  (decide (0x3_2000_0000 ≤ a) && decide (a < 0x3_2010_0000)) ||
  (decide (0x4_0000_0000 ≤ a) && decide (a < 0x4_1200_0000)) || (decide (0x5_0000_0000 ≤ a) && decide (a < 0x5_0003_0000)) ||
  (decide (0x6_0000_0000 ≤ a) && decide (a < 0x6_0000_04D0))

/-- The units that run from the standby rails: everything but buoys, rings, tiles, stacks, ports and Feed (R559, R560, log entry 30). -/
def onStandby (a : Nat) : Bool :=
  decide (a < 0x40_0000) || (decide (0x80_0000 ≤ a) && decide (a < 0x100_0000)) || decide (0x3_2000_0000 ≤ a)

/-- The largest power of two that does not exceed a counter's value, or 0 (R485). -/
def bucketed (v : W64) : W64 := if v = 0 then 0 else BitVec.ofNat 64 (2 ^ Nat.log2 v.toNat)

namespace Mod

/-! ## Views of state that no register word holds -/

/-- The fields of an entry of a waiter list. -/
def waiterView (e : WaitEntry) : Nat :=
  let id := match e.who with
    | .thread t th => 2 ^ 60 + (4 * t + th) * 2 ^ 32
    | .ringHead r => 2 * 2 ^ 60 + r * 2 ^ 32
  id + e.cond.toNat * 2 ^ 57 + e.value.toNat
/-- BUOY_WENTRY: the waiter or watch that BUOY_WSEL selects (R289). -/
def buoyEntry (m : Mod) (b : Nat) : W64 :=
  let i := m.fld (buoyReg b 0x28) 0 17
  if m.flag (buoyReg b 0x28) 20 then
    match (m.buoy b).watches[i]? with
    | some w => BitVec.ofNat 64 (3 * 2 ^ 60 + w.cond.toNat * 2 ^ 57 + w.target.toNat * 2 ^ 32 + w.value.toNat)
    | none => 0
  else match (m.buoy b).waiters[i]? with
    | some e => BitVec.ofNat 64 (waiterView e)
    | none => 0
/-- BUOY_CTL; the counts read 0 where `hidden` (R289, R292). -/
def buoyCtl (m : Mod) (b : Nat) (hidden : Bool) : W64 :=
  let x := m.buoy b
  BitVec.ofNat 64 (x.st.code + (if x.pub then 2 ^ 8 else 0) + x.owner.toNat * 2 ^ 48 +
    (if hidden then 0 else x.watches.length * 2 ^ 16 + x.waiters.length * 2 ^ 24))

/-- A read of offset `o` of a buoy's block (R289, R291, R292). -/
def readBuoy (m : Mod) (who : Requester) (b o : Nat) : Except W16 W64 :=
  let x := m.buoy b
  let shut := m.shut who (m.slotOfBuoy b)
  if o = 8 then .ok (m.buoyCtl b shut)
  else if o = 0 then (if shut && !x.pub then .error 0x0F01 else .ok (x.value.zeroExtend 64))
  else if shut then .error 0x0F01
  else if o = 0x18 then .ok (x.lastSrc.zeroExtend 64)
  else if o = 0x20 then .ok x.lastTime
  else if o = 0x28 then .ok (m.rd (buoyReg b 0x28))
  else if o = 0x30 then .ok (m.buoyEntry b)
  else if o = 0x38 then .ok (x.subs.zeroExtend 64)
  else .ok 0

/-- Word `w` of an error record that the block shows (R541, R551). -/
def readErr (m : Mod) (o : Nat) : W64 :=
  if 0x1000 ≤ o ∧ o < 0x1240 then (m.first ((o - 0x1000) / 64)).word (o % 64 / 8)
  else if 0x1_0000 ≤ o ∧ o < 0x2_0000 then (Sparse.get (fun _ => ({} : ErrRec)) m.ring ((o - 0x1_0000) / 64)).word (o % 64 / 8)
  else m.rd (errReg o)

/-- TILE_PHYS of physical tile `p`: PHYS, SPARE, DISABLED, MAPPED and LOGICAL (R24, R92). -/
def tilePhys (m : Mod) (p : Nat) : W64 :=
  let gone := m.disabled.contains p
  let t := m.logicalOf p
  setBf (setBit (setBit (setBit (setBf 0 0 11 (t.getD 0)) 16 t.isSome) 17 gone) 18 (!t.isSome && !gone)) 32 11 p

/-! ## Rights over what belongs to a locked slot (R468, R485) -/

/-- Items that R468 opens only under open steering are closed. -/
def steeringShut (m : Mod) (who : Requester) (s : Nat) : Bool := m.shut who (some s) && m.sealedSteering s

/-- A read of offset `o` of a slot's partition window (R245, R246, R399, R401, R485, R523). -/
def readPart (m : Mod) (who : Requester) (s o : Nat) : Except W16 W64 :=
  let v := m.rd (partReg s o) &&& ~~~(match partSpec o with | some x => x.wo | none => 0)
  let full := decide (m.disclosure s = 2)
  if !m.shut who (some s) ∨ o < 0x2000 ∨ o = 0x2000 ∨ o = 0x2008 ∨ (0x2048 ≤ o ∧ o ≤ 0x2070) ∨ o = 0x8008 ∨ o = 0x8010 then .ok v
  else if m.sealedSteering s then .error 0x0F01
  else if o = 0x2030 then .ok v
  else if o = 0x2040 then .ok (if full then v else 0)
  else if o = 0x2100 then .ok (if full then v else setBf v 0 8 0)
  else if 0x3000 ≤ o ∧ o < 0x7000 then .ok (if full ∨ o % 16 = 0 then v else setBf v 32 24 0)
  else if o = 0x8018 ∨ o = 0x8020 then .ok (bucketed v)
  else .error 0x0F01

/-- A ring of a locked slot that the host and Gallery may still work with (R308). -/
def hostFacing (m : Mod) (r : Nat) : Bool := m.doorbellOpen r

/-- A read of a ring's descriptor (R294, R308). -/
def readRing (m : Mod) (who : Requester) (r o : Nat) : Except W16 W64 :=
  let closed := m.shut who (m.slotOfRing r) && !(decide (o = 0) || decide (0x28 ≤ o) || (m.hostFacing r && (decide (o = 0x10) || decide (o = 0x18))))
  if closed then .error 0x0F01 else .ok (if o = 0x18 then 0 else m.rd (ringReg r o))

/-- A read of offset `o` of tile `t`'s logical window: the lock, the scrub, then the register or the aperture (R85, R89, R91). -/
def readTileWin (m : Mod) (who : Requester) (t o : Nat) : Except W16 W64 :=
  if m.shut who (m.slotOfTile t) && !(List.contains [0, 0x10, 0x18, 0x120] o) then .error 0x0F01
  else if m.scrubbing t && !(List.contains [0, 0x10, 0x18] o) then .error 0x020F
  else if 0x8_0000 ≤ o then
    match m.apertureAddr t (o - 0x8_0000) with
    | .error c => .error c
    | .ok a => .ok (BitVec.ofNat 64 (m.ldNat (scratchAt t a) 8))
  else m.readTile t o

/-- A read of offset `o` of physical tile `p`'s diagnostic window: TILE_PHYS, and the registers of the tile it carries (R35, R92). -/
def readPhys (m : Mod) (who : Requester) (p o : Nat) : Except W16 W64 :=
  if m.shut who (m.slotOfDie (p / 176)) then .error 0x0F01
  else if o = 0x40 then .ok (m.tilePhys p)
  else match m.logicalOf p with
    | some t => m.readTileWin who t o
    | none => if o = 0x10 then .ok 0 else .error 0x0211

/-- A read of offset `o` of a stack's window (R339, R340). -/
def readStack (m : Mod) (who : Requester) (k o : Nat) : Except W16 W64 :=
  let opened := decide (o = 0) || decide (o = 8) || (decide (0x100 ≤ o) && decide (o ≤ 0x228))
  if m.shut who (m.slotOfStack k) && !opened then .error 0x0F01
  else match stackSpec o with
    | none => .ok 0
    | some x => .ok (if o = 0x30 then m.planeStatus k else m.rd (stackReg k o) &&& ~~~x.wo)

/-- The slot that a port's compiled traffic is assigned to (R436). -/
def portSlot (m : Mod) (j : Nat) : Option Nat := if m.flag (JC_CTL j) 1 then some (m.fld (JC_CTL j) 2 3) else none

/-- A read of offset `o` of a port's window; offsets from 0x80_0000 reach the shared block (R436, R438). -/
def readPort (m : Mod) (who : Requester) (j o : Nat) : Except W16 W64 :=
  match portSpec o with
  | none => .ok 0
  | some x =>
    if 0x1_0000 ≤ o ∧ o < 0x1_2000 ∧ m.shut who (m.portSlot j) then .error 0x0F01
    else if 0x80_1000 ≤ o ∧ o < 0x80_3000 ∧ m.shut who (some ((o - 0x80_1000) / 0x400)) then .error 0x0F01
    else if 0x80_4000 ≤ o then
      let v := m.rd (portReg 0 o)
      .ok (if m.shut who (some (bf v 16 3)) then v &&& 0x18_0000 else v)
    else .ok (m.rd (portReg (if 0x80_0000 ≤ o then 0 else j) o) &&& ~~~x.wo)

/-- A read of the Keeper's windows (R461, R463, R470). -/
def readKeeper (m : Mod) (who : Requester) (o : Nat) : Except W16 W64 :=
  let a := mbReg 0 o
  if o < 0x2_0000 then
    if who ≠ .keeper ∧ ownChannel who (o / 0x1_0000) = false then .error 0x0F03
    else match keeperSpec o with
      | none => .ok 0
      | some x => .ok (m.rd a &&& ~~~x.wo)
  else if m.board.keeperDown then .ok (if o = 0x2_0000 then 0x0F0B_0000_0000_0003 else 0)
  else .ok (m.rd a)

/-- A read of the Gallery window (R471). -/
def readGallery (m : Mod) (who : Requester) (o : Nat) : Except W16 W64 :=
  if 0x1000 ≤ o ∧ o < 0x1000_0000 ∧ who = .host then .error 0x0F03
  else if 0x1000_0000 ≤ o ∧ o < 0x1200_0000 then .ok (BitVec.ofNat 64 (m.ldNat (galleryAt (o - 0x1000_0000)) 8))
  else .ok (m.rd (galReg o))

/-- A read of the 8-byte word at a module-space address: its value, or the reason code of the refusal. -/
def readReg (m : Mod) (who : Requester) (a : Nat) : Except W16 W64 :=
  if !mapped a then .error 0x0101
  else if a < 0x10_0000 then .ok (m.rd a)
  else if a = BCN_COUNT then .ok m.count
  else if a < 0x20_0000 then
    let v := m.rd a &&& ~~~(if a = BCN_CMD then 3 else 0)
    .ok (if HALF_CLK 0 ≤ a ∧ a < HALF_CLK 16 ∧ who ≠ .keeper ∧ m.halfSealedSteering ((a - HALF_CLK 0) / 8) = true then setBf v 0 8 0 else v)
  else if a < 0x28_0000 then m.readPart who ((a - 0x20_0000) / 0x1_0000) (a % 0x1_0000)
  else if a < 0x48_0000 then m.readBuoy who ((a - 0x40_0000) / 64) (a % 64)
  else if a < 0x100_0000 then .ok (m.readErr (a - 0x80_0000))
  else if a < 0x140_0000 then m.readRing who ((a - 0x100_0000) / 64) (a % 64)
  else if a < 0x6000_0000 then m.readTileWin who ((a - 0x1000_0000) / 0x10_0000) (a % 0x10_0000)
  else if a < 0x1_5800_0000 then m.readPhys who ((a - 0x1_0000_0000) / 0x10_0000) (a % 0x10_0000)
  else if a < 0x2_2000_0000 then m.readStack who ((a - 0x2_0000_0000) / 0x100_0000) (a % 0x100_0000)
  else if a < 0x3_0600_0000 then m.readPort who ((a - 0x3_0000_0000) / 0x100_0000) (a % 0x100_0000)
  else if a < 0x3_2000_0000 then .ok (m.rd a)
  else if a < 0x3_2010_0000 then .ok (if a = hostReg 0x10 then 0 else m.rd a)
  else if a < 0x5_0000_0000 then m.readGallery who (a - 0x4_0000_0000)
  else if a < 0x5_0003_0000 then m.readKeeper who (a - 0x5_0000_0000)
  else if TEMP 0 ≤ a ∧ a < CNT_THROTTLE then .ok ((m.temp ((a - TEMP 0) / 8)).zeroExtend 64)
  else .ok (m.rd a)

/-! ## Writes by window: the lanes written, the word's value on them -/

/-- A write of a word whose bits are plain: RW at once, RWS staged (R7, R8). -/
def writePlain (m : Mod) (a : Nat) (s : RegSpec) (mask v : W64) : Mod :=
  let new := m.written a s mask v
  if s.rws ≠ 0 then m.stage a new else m.wr a new

/-- The Beacon window (R269, R270). -/
def writeBcn (m : Mod) (o : Nat) (s : RegSpec) (mask v : W64) : W16 × Mod :=
  if o = 8 then m.writeBcnCtl (m.written BCN_CTL s mask v)
  else if o = 0x18 then m.writeBcnCmd (v &&& mask)
  else if 0x100 ≤ o ∧ o < 0x180 then m.writeHalfClk ((o - 0x100) / 8) v mask
  else (0, m.writePlain (bcnReg o) s mask v)

/-- The partition window (R214, R245, R246, R399, R401). -/
def writePart (m : Mod) (who : Requester) (p o : Nat) (s : RegSpec) (mask v : W64) : W16 × Mod :=
  let a := partReg p o
  let new := m.written a s mask v
  let shut := m.shut who (some p)
  let steer := decide (o = 0x2038) || (decide (0x2800 ≤ o) && decide (o < 0x3000))
  let counter := decide (0x2048 ≤ o) && decide (o ≤ 0x2070)
  if o < 0x2000 then (0, m)
  else if shut && !counter && !((steer || (decide (o = 0x8000) && decide (who = .gallery))) && !m.sealedSteering p) then (0x0F01, m)
  else if o = 0x2038 then (0, if bit new 0 && m.jobRuns p then m.pushSteer p else m)
  else if 0xC000 ≤ o then m.writeXchRecord p ((o - 0xC000) / 16) (decide (o % 16 = 8)) new
  else if s.rwl ≠ 0 then m.writeLocked a (m.jobRuns p) 0x0B01 new
  else (0, m.writePlain a s mask v)

/-- A buoy's block (R278, R289, R291, R292). -/
def writeBuoy (m : Mod) (who : Requester) (b o : Nat) (s : RegSpec) (mask v : W64) : W16 × Mod :=
  let new := v &&& mask
  if o = 0x10 then
    if m.shut who (m.slotOfBuoy b) && !(m.buoy b).pub then (0x0F01, m)
    else if 2 ≤ bf new 32 2 then (0x0803, m)
    else m.buoyOpWrite who b (decide (bf new 32 2 = 1)) (new.truncate 32)
  else if m.shut who (m.slotOfBuoy b) then (0x0F01, m)
  else if o = 8 then (if bit mask 8 && (bit v 8 != (m.buoy b).pub) then (0x0F02, m) else (0, m))
  else if o = 0x28 then (0, m.writePlain (buoyReg b o) s mask v)
  else (0, m)

/-- The error and event block (R552, R553).  In DARK no handling is in progress, so the module record can be cleared; its HANDLING still reads 4 (R538). -/
def writeErr (m : Mod) (o : Nat) (s : RegSpec) (mask v : W64) : W16 × Mod :=
  let new := m.written (errReg o) s mask v
  if o = 8 ∧ bf new 1 3 = 0 then (0x1002, m)
  else if (o = 0x20 ∨ o = 0x28) ∧ bf new 0 32 < 0x1_0000 then (0x1002, m)
  else if o = 0x38 then
    let bits := v &&& mask &&& 0x1FF
    let hit := (upto 9).filter (fun i => bit bits i)
    if hit.any (fun i => decide (1 ≤ m.handling i ∧ m.handling i ≤ 3)) then (0x1001, m)
    else (0, forEach m hit (fun m i => (m.setFlag ERR_FE_VALID i false).setFirst i { handling := m.handling i }))
  else (0, m.writePlain (errReg o) s mask v)

/-- A ring's descriptor (R294 to R298, R308). -/
def writeRing (m : Mod) (who : Requester) (r o : Nat) (s : RegSpec) (mask v : W64) : W16 × Mod :=
  let a := ringReg r o
  let new := m.written a s mask v
  if o = 0x18 then (if mask &&& s.wo = 0 then (0, m) else m.ringDb who r (new.truncate 32))
  else if o = 0 then
    if !m.ringShut who r new then m.writeRingCtl r new
    else if bit new 0 && !m.ringEnabled r then (0x0F01, m)
    else if !bit new 0 && m.ringEnabled r then m.writeRingCtl r new
    else if new = m.rd a then (0, m) else (0x0F02, m)
  else if m.shut who (m.slotOfRing r) then (0x0F01, m)
  else if s.rwl ≠ 0 then m.writeLocked a (m.ringEnabled r) 0x0801 new
  else (0, m.wr a new)

/-- A tile's logical window (R85, R89 to R91).  A tile without power takes no write (log entry 31). -/
def writeTileWin (m : Mod) (who : Requester) (t o : Nat) (mask v : W64) : W16 × Mod :=
  let a := tileReg t o
  if m.shut who (m.slotOfTile t) && !(decide (o = 8) && !bit (v &&& mask) 0) then (0x0F01, m)
  else if m.scrubbing t then (0x020F, m)
  else if m.tileState t = 0 then (0, m)
  else if 0x8_0000 ≤ o then
    match m.apertureAddr t (o - 0x8_0000) with
    | .error c => (c, m)
    | .ok x => (0, m.stNat (scratchAt t x) 8 (merge mask (BitVec.ofNat 64 (m.ldNat (scratchAt t x) 8)) v).toNat)
  else match tileSpec t o with
    | none => (0, m)
    | some s => if mask &&& s.kg &&& (m.rd a ^^^ v) ≠ 0 then (0x0F02, m) else m.writeTile t o (m.written a s mask v)

/-- PLANE_CTL (R339, R520). -/
def writePlaneCtl (m : Mod) (k : Nat) (new : W64) : W16 × Mod :=
  let a := PLANE_CTL k
  if m.flag a 0 then
    (if bit new 0 = false then (0, (m.setFlag a 0 false).setF (PLANE_STATUS k) 0 4 0) else if new = m.rd a then (0, m) else (0x0901, m))
  else (0, m.wr a new)

/-- A stack's window (R316, R321, R323, R333, R338 to R340). -/
def writeStack (m : Mod) (who : Requester) (k o : Nat) (s : RegSpec) (mask v : W64) : W16 × Mod :=
  let a := stackReg k o
  let new := m.written a s mask v
  let opened := [0x10, 0x18, 0x20].contains o || (decide (0x200 ≤ o) && decide (o ≤ 0x228))
  let gscale := decide (0x1_0000 ≤ o) && decide (o < 0x1_0200) && decide (o % 0x40 = 0) && decide (mask = 0xFFFF_FFFF_0000_0000) && decide (who = .gallery) &&
    (match m.slotOfStack k with | some p => !m.sealedSteering p | none => false)
  if m.shut who (m.slotOfStack k) && !opened && !gscale then (0x0F01, m)
  else if mask &&& s.kg &&& (m.rd a ^^^ v) ≠ 0 then (0x0F02, m)
  else if o = 0x10 then m.writeArbCtl k new
  else if o = 0x18 then (if mask &&& s.wo = 0 then (0, m) else m.writePcCmd k (bf new 0 5) (bf new 8 2))
  else if o = 0x28 then m.writePlaneCtl k new
  else if 0x1_0000 ≤ o ∧ o < 0x1_0200 then
    let n := m.stage a new
    if ruleOk (n.stagedRule k ((o - 0x1_0000) / 0x40)) then (0, n) else (0x0905, m)
  else (0, m.writePlain a s mask v)

/-- A port's window and the shared block (R410, R424, R436, R438). -/
def writePort (m : Mod) (who : Requester) (j o : Nat) (s : RegSpec) (mask v : W64) : W16 × Mod :=
  let a := portReg (if 0x80_0000 ≤ o then 0 else j) o
  let new := m.written a s mask v
  if o = 0 then m.writeJcCtl j new
  else if o = 0x20 then m.writeJcCmd j new
  else if 0x1_0000 ≤ o ∧ o < 0x1_2000 then
    if m.shut who (m.portSlot j) then (0x0F01, m)
    else m.writeLocked a (match m.portSlot j with | some p => m.jobRuns p | none => false) 0x0C01 new
  else if o = 0x80_0000 then m.writeTopo new
  else if o = 0x80_0010 then m.writeLocked a ((upto 6).any (fun i => m.flag (JC_CTL i) 0)) 0x0C01 new
  else if 0x80_1000 ≤ o ∧ o < 0x80_3000 then
    let p := (o - 0x80_1000) / 0x400
    if m.shut who (some p) then (0x0F01, m)
    else if o % 16 = 0 then m.writeGroup p ((o - 0x80_1000) % 0x400 / 16) new else (0, m)
  else if 0x80_4000 ≤ o then
    (if m.shut who (some (m.fld a 16 3)) then (0x0F01, m) else if mask &&& s.kg &&& (m.rd a ^^^ v) ≠ 0 then (0x0F02, m) else (0, m))
  else (0, m.writePlain a s mask v)

/-- The host interface window (R499, R522). -/
def writeHost (m : Mod) (o : Nat) (s : RegSpec) (mask v : W64) : W16 × Mod :=
  let a := hostReg o
  let new := m.written a s mask v
  if o = 0x10 then m.writeMcmdDb (bit new 0) (bit new 1)
  else if 0x1000 ≤ o ∧ o < 0x1040 then m.writeMcmdReq a new
  else (0, m.wr a new)

/-- The Gallery window: Gallery's memory is Gallery's to write (R471). -/
def writeGallery (m : Mod) (who : Requester) (o : Nat) (mask v : W64) : W16 × Mod :=
  if 0x1000 ≤ o ∧ o < 0x1000_0000 ∧ who = .host then (0x0F03, m)
  else if 0x1000_0000 ≤ o ∧ o < 0x1200_0000 ∧ who = .gallery then
    let x := galleryAt (o - 0x1000_0000)
    (0, m.stNat x 8 (merge mask (BitVec.ofNat 64 (m.ldNat x 8)) v).toNat)
  else (0, m)

/-- The Keeper's windows (R461, R470). -/
def writeKeeper (m : Mod) (who : Requester) (o : Nat) (s : RegSpec) (mask v : W64) : W16 × Mod :=
  let ch := o / 0x1_0000
  let c := o % 0x1_0000
  let a := mbReg 0 o
  let new := m.written a s mask v
  if 2 ≤ ch then (0, m)
  else if c = 0 then m.writeMbDb who ch (bit new 0) (bit new 1)
  else if 0x1000 ≤ c ∧ c < 0x8000 then m.writeMbReq who ch a new
  else if !ownChannel who ch then (0x0F03, m)
  else if c = 0x10 ∧ ch = 1 then (0, m)
  else (0, m.wr a new)

/-- The power window (R580). -/
def writePower (m : Mod) (o : Nat) (s : RegSpec) (mask v : W64) : W16 × Mod :=
  let a := pwrReg o
  let new := m.written a s mask v
  if o = 8 then m.writeCap (bf new 0 16)
  else if 0x200 ≤ o ∧ o < 0x240 then
    (if m.slotOfBuoy (bf new 0 13) = some ((o - 0x200) / 8) then (0, m.wr a new) else (0x1102, m))
  else (0, m.wr a new)

/-- A Feed interface's window (R431, R437); a change of KEYS is refused (R466). -/
def writeFeedWin (m : Mod) (e o : Nat) (s : RegSpec) (mask v : W64) : W16 × Mod :=
  let a := feedReg e o
  if mask &&& s.kg &&& (m.rd a ^^^ v) ≠ 0 then (0x0F02, m) else m.writeFeed e o (m.written a s mask v)

/-- A write to physical tile `p`'s diagnostic window: a tile that carries no logical tile refuses it, TILE_PHYS ignores it (R7, R35, R92). -/
def writePhys (m : Mod) (who : Requester) (p o : Nat) (mask v : W64) : W16 × Mod :=
  if m.shut who (m.slotOfDie (p / 176)) then (0x0F01, m)
  else match m.logicalOf p with
    | none => (0x0211, m)
    | some t => if o = 0x40 ∨ !m.mainUp then (0, m) else m.writeTileWin who t o mask v

/-- A write of the lanes `mask` of the 8-byte word at a module-space address: its reason code and what it leaves.  Reserved offsets and read-only words ignore it (R7, R10); a unit without power takes nothing. -/
def writeReg (m : Mod) (who : Requester) (a : Nat) (mask v : W64) : W16 × Mod :=
  if !mapped a then (0x0101, m)
  else if 0x1000_0000 ≤ a ∧ a < 0x6000_0000 then
    (if !m.mainUp then (0, m) else m.writeTileWin who ((a - 0x1000_0000) / 0x10_0000) (a % 0x10_0000) mask v)
  else if 0x1_0000_0000 ≤ a ∧ a < 0x1_5800_0000 then m.writePhys who ((a - 0x1_0000_0000) / 0x10_0000) (a % 0x10_0000) mask v
  else if 0x4_0000_0000 ≤ a ∧ a < 0x5_0000_0000 then m.writeGallery who (a - 0x4_0000_0000) mask v
  else if !onStandby a && !m.mainUp then (0, m)
  else match regSpec a with
    | none => (0, m)
    | some s =>
      if a < 0x10_0000 then (0, m)
      else if a < 0x20_0000 then m.writeBcn (a - 0x10_0000) s mask v
      else if a < 0x28_0000 then m.writePart who ((a - 0x20_0000) / 0x1_0000) (a % 0x1_0000) s mask v
      else if a < 0x48_0000 then m.writeBuoy who ((a - 0x40_0000) / 64) (a % 64) s mask v
      else if a < 0x100_0000 then m.writeErr (a - 0x80_0000) s mask v
      else if a < 0x140_0000 then m.writeRing who ((a - 0x100_0000) / 64) (a % 64) s mask v
      else if a < 0x2_2000_0000 then m.writeStack who ((a - 0x2_0000_0000) / 0x100_0000) (a % 0x100_0000) s mask v
      else if a < 0x3_0600_0000 then m.writePort who ((a - 0x3_0000_0000) / 0x100_0000) (a % 0x100_0000) s mask v
      else if a < 0x3_1020_0000 then m.writeFeedWin ((a - 0x3_1000_0000) / 0x10_0000) (a % 0x10_0000) s mask v
      else if a < 0x3_2010_0000 then m.writeHost (a - 0x3_2000_0000) s mask v
      else if a < 0x5_0003_0000 then m.writeKeeper who (a - 0x5_0000_0000) s mask v
      else m.writePower (a - 0x6_0000_0000) s mask v

/-- The lanes and the placed value of a write of 8 bytes, or of 4 at an address of either half (R496). -/
def lanes (a : Nat) (wide : Bool) (v : W64) : W64 × W64 :=
  if wide then (BitVec.allOnes 64, v)
  else if a % 8 = 4 then (0xFFFF_FFFF_0000_0000, v <<< 32) else (0xFFFF_FFFF, v &&& 0xFFFF_FFFF)

/-- A write by address: misaligned accesses are refused with 0x0E08 (R495). -/
def writeAt (m : Mod) (who : Requester) (a : Nat) (wide : Bool) (v : W64) : W16 × Mod :=
  if a % (if wide then 8 else 4) ≠ 0 then (0x0E08, m)
  else m.writeReg who (a / 8 * 8) (lanes a wide v).1 (lanes a wide v).2

/-- The module-space address that an access through a BAR reaches (R492, R495): the host window, the doorbell page, the fixed map, an aperture; the mailbox of channel 0. -/
def barAt (m : Mod) (sp : Space) (a : Nat) : Option Nat := match sp with
  | .module => some a
  | .bar2 => if a < 0x1_0000 then some (mbReg 0 a) else none
  | .bar0 =>
    if a < 0x10_0000 then some (hostReg a)
    else if a < 0x18_0000 then some (ringReg ((a - 0x10_0000) / 8) (0x18 + a % 8))
    else if 0x100_0000 ≤ a ∧ a < 0x240_0000 then some (a - 0x100_0000)
    else if 0x300_0000 ≤ a ∧ a < 0x400_0000 then some (m.fld (HI_APER ((a - 0x300_0000) / 0x40_0000)) 22 18 * 0x40_0000 + a % 0x40_0000)
    else none

/-- A write of the MSI-X table or the pending-bit array (R495): a vector that is pending goes out when its entry unmasks it; the pending bits are read only (log entry 79). -/
def writeMsix (m : Mod) (a : Nat) (wide : Bool) (v : W64) : W16 × Mod :=
  if a % (if wide then 8 else 4) ≠ 0 then (0x0E08, m)
  else if 0x20_8000 ≤ a then (0, m)
  else
    let i := (a - 0x20_0000) / 8
    let old := Sparse.get (fun _ => (0 : W64)) m.msix i
    let m := { m with msix := Sparse.put (fun _ => 0) m.msix i (merge (lanes a wide v).1 old (lanes a wide v).2) }
    (0, if m.msixPending.contains (i / 2) && !m.msixMasked (i / 2) then { m with msixPending := m.msixPending.erase (i / 2) }.sendOut (.msix (i / 2)) else m)

/-- A write at an address of a space: an offset of a BAR that reaches nothing is refused with 0x0E08 (R495). -/
def writeVia (m : Mod) (who : Requester) (sp : Space) (a : Nat) (wide : Bool) (v : W64) : Mod :=
  if sp = .bar0 ∧ 0x20_0000 ≤ a ∧ a < 0x20_8100 then m.commit who a (m.writeMsix a wide v)
  else match m.barAt sp a with
    | some x => m.commit who x (m.writeAt who x wide v)
    | none => m.commit who a (0x0E08, m)

end Mod

/-- A full-width write of a register, as a row of its own. -/
def regWrite (who : Requester) (a : Nat) (v : W64) (s : State) : Host.Outcome State Fault Refusal :=
  onWhen s (decide (s.m.modState ≠ 0)) (fun m => m.commit who a (m.writeReg who a (BitVec.allOnes 64) v))

/-! ## Meanings -/

/-- REGISTER_WRITE (R7, R495, R496). -/
def execRegisterWrite (who : Requester) (space : Space) (addr : W40) (wide : Bool) (v : W64) (s : State) : Host.Outcome State Fault Refusal :=
  onWhen s (decide (s.m.modState ≠ 0)) (fun m => m.writeVia who space addr.toNat wide v)
/-- BCN_CMD_ALIGN (R255). -/
def execBcnCmdAlign (who : Requester) (s : State) : Host.Outcome State Fault Refusal := regWrite who BCN_CMD 1 s
/-- BCN_CMD_RECAL (R254). -/
def execBcnCmdRecal (who : Requester) (s : State) : Host.Outcome State Fault Refusal := regWrite who BCN_CMD 2 s
/-- BCN_CTL_WRITE (R269). -/
def execBcnCtlWrite (who : Requester) (v : W64) (s : State) : Host.Outcome State Fault Refusal := regWrite who BCN_CTL v s
/-- HALF_CLK_WRITE (R262, R270). -/
def execHalfClkWrite (who : Requester) (i : Nat) (v : W64) (s : State) : Host.Outcome State Fault Refusal := regWrite who (HALF_CLK (i % 16)) v s
/-- TILE_ENABLE (R97). -/
def execTileEnable (who : Requester) (t : Nat) (s : State) : Host.Outcome State Fault Refusal := regWrite who (TILE_CTL (t % 1280)) 1 s
/-- TILE_DISABLE (R99). -/
def execTileDisable (who : Requester) (t : Nat) (s : State) : Host.Outcome State Fault Refusal := regWrite who (TILE_CTL (t % 1280)) 0 s
/-- DOWEL_VALID_SET: a write of the low word with VALID 1 (R54). -/
def execDowelValidSet (who : Requester) (t d : Nat) (v : W64) (s : State) : Host.Outcome State Fault Refusal :=
  regWrite who (DOWEL0 (t % 1280) (d % 256)) (setBit v 63 true) s
/-- DOWEL_VALID_CLEAR: a write of the low word that changes VALID only (R55). -/
def execDowelValidClear (who : Requester) (t d : Nat) (s : State) : Host.Outcome State Fault Refusal :=
  regWrite who (DOWEL0 (t % 1280) (d % 256)) (setBit (s.m.rd (DOWEL0 (t % 1280) (d % 256))) 63 false) s
/-- JIG_ENABLE: a write of JIG_CTL with ENABLE 1 (R69). -/
def execJigEnable (who : Requester) (t j : Nat) (v : W64) (s : State) : Host.Outcome State Fault Refusal :=
  regWrite who (JIG_CTL (t % 1280) (j % 6)) (setBit v 0 true) s
/-- JIG_DISABLE: a write that changes ENABLE only (R70). -/
def execJigDisable (who : Requester) (t j : Nat) (s : State) : Host.Outcome State Fault Refusal :=
  regWrite who (JIG_CTL (t % 1280) (j % 6)) (setBit (s.m.rd (JIG_CTL (t % 1280) (j % 6))) 0 false) s
/-- VENEER_CTL_WRITE (R72). -/
def execVeneerCtlWrite (who : Requester) (t : Nat) (v : W64) (s : State) : Host.Outcome State Fault Refusal := regWrite who (VENEER_CTL (t % 1280)) v s
/-- NUM_CTL_WRITE (R207). -/
def execNumCtlWrite (who : Requester) (t : Nat) (v : W64) (s : State) : Host.Outcome State Fault Refusal := regWrite who (NUM_CTL (t % 1280)) v s
/-- SEQ_DBG_RESUME (R126). -/
def execSeqDbgResume (who : Requester) (t : Nat) (s : State) : Host.Outcome State Fault Refusal := regWrite who (tileReg (t % 1280) 0x1_0030) 1 s
/-- XCH_RECORD_WRITE: a word of the exchange record table (R214). -/
def execXchRecordWrite (who : Requester) (slot n : Nat) (word : Bool) (v : W64) (s : State) : Host.Outcome State Fault Refusal :=
  regWrite who (XCH_RECORD (slot % 8) (n % 1024) (if word then 1 else 0)) v s
/-- ERR_FE_VALID_WRITE (R552). -/
def execErrFeValidWrite (who : Requester) (v : W64) (s : State) : Host.Outcome State Fault Refusal := regWrite who ERR_FE_VALID v s
/-- SCRATCHPAD_APERTURE_ACCESS: a read answers the word (R89). -/
def execScratchpadApertureAccess (who : Requester) (t off : Nat) (write : Option W64) (s : State) : Host.Outcome State Fault Refusal :=
  let a := tileReg (t % 1280) (0x8_0000 + off % 0x8_0000 / 8 * 8)
  match write with
  | some v => regWrite who a v s
  | none => onWhen s (decide (s.m.modState ≠ 0)) (fun m =>
      match m.readReg who a with
      | .ok v => m.answerValue v
      | .error c => { m.finishAccess who a false c with reply := { code := c, value := BitVec.allOnes 64 } })

end Sys2Proof.Machine
end

