-- ==== Sys2Proof/Machine/HostCmds.lean ====
section
/-! DEFINITION. Host commands on the module, on partitions, on buoys and on registers, and field tests (R504 to R506, R516 to R518, R546 to R549, R561, R562). -/

namespace Sys2Proof.Machine

namespace Mod

/-! ## Partitions (R506, R561) -/

/-- A die of a mask is absent or in a partition. -/
def diesTaken (m : Mod) (mask : Nat) : Bool :=
  (upto 8).any (fun d => decide (mask / 2 ^ d % 2 = 1) && (!m.flag MOD_DIES d || (m.slotOfDie d).isSome))

/-- PART_CREATE. -/
def createPart (m : Mod) (mask : Nat) : CmdResult :=
  if m.modState ≠ 2 ∧ m.modState ≠ 3 then .refuse m 0x0106
  else if !allowedSet mask then .refuse m 0x0102
  else if m.diesTaken mask then .refuse m 0x0103
  else .wait (m.makePart mask)

/-- A dialogue of the Keeper's own on a slot: a 32-byte request header (R491). -/
def ownDialogue (op s : Nat) : Dialogue := { ch := none, req := bytesOf 2 op ++ List.replicate 10 0 ++ bytesOf 1 s ++ List.replicate 19 0 }

/-- PART_DELETE: a teardown or a scrub comes first where the slot is sealed or has a domain. -/
def deletePart (m : Mod) (s : Nat) : CmdResult :=
  let own := fun op => CmdResult.wait ({ m with dialogues := m.dialogues ++ [ownDialogue op s] }).settle
  if m.jobRuns s then .refuse m 0x0105
  else match (m.kslot s).st with
    | .attested => .refuse m 0x0F0B
    | .sealing => .refuse m 0x0F0B
    | .sealed => own 0x14
    | .tearing => own 0x14
    | .unsealed => if (m.kslot s).domain ≠ 0 then own 0x21 else .ok (m.removePart s)

/-- PART_POWER to a state that the partition has already completes at once; otherwise the rails move. -/
def powerPart (m : Mod) (s st : Nat) : CmdResult :=
  if st = 2 ∧ m.jobRuns s = true then .refuse m 0x0105
  else if decide (st = 2) == (m.part s).m2 then .ok m
  else .wait (if st = 0 then m.modPart s (fun p => { p with powering := true }) else m)

/-- The command that a slot's power-up belongs to: its PART_CREATE or PART_POWER. -/
def powerCmd (m : Mod) (s : Nat) : Option HostCmd :=
  m.cmds.find? (fun c => (decide (pkOp c.packet = 0x10) && decide (lowestDie (pkPar c.packet 0 1) = s)) ||
    (decide (pkOp c.packet = 0x12) && decide (pkSlot c.packet = s) && decide (pkPar c.packet 0 1 = 0)))

/-- The command of a power-up completes; a PART_CREATE leaves the slot IDLE and answers its number. -/
def endPowerUp (m : Mod) (s : Nat) : Mod :=
  match m.powerCmd s with
  | none => m
  | some x => if pkOp x.packet = 0x10 then (m.setPartState s 1).completeCmd x 0 0 (bytesOf 1 s) else m.completeCmd x 0 0 []
/-- The rails of a slot's dies are up, or one did not come up (0x0121); with a domain the power-up goes on until the tiles are scrubbed. -/
def powerUpDone (m : Mod) (s : Nat) (ok : Bool) : Mod :=
  if !(m.part s).powering || !(m.part s).m2 then m
  else if ok then
    let m := m.partUp s
    if (m.part s).powering then m else m.endPowerUp s
  else
    let c := m.powerCmd s
    let m := (m.modPart s (fun p => { p with powering := false })).raisePower 0x0121 s (some s)
    match c with
    | none => m
    | some x => m.completeCmd x 0x0121 0 []
/-- The last scrub of a power-up has ended (R561). -/
def powerGoesOn (m : Mod) (o : Option Nat) : Mod :=
  match o with
  | none => m
  | some s => if (m.part s).powering && !(m.part s).m2 && (m.tilesOf s).all (fun t => !m.scrubbing t) then (m.partReady s).endPowerUp s else m

/-- The dies of a slot reach M2 after PART_POWER. -/
def powerDownDone (m : Mod) (s : Nat) : Mod :=
  match m.cmdOf s 0x12 with
  | none => m
  | some c => if pkPar c.packet 0 1 = 2 ∧ (m.part s).m2 = false then (m.partDown s).completeCmd c 0 0 [] else m

/-! ## Module states (R37, R505, R562) -/

/-- HALTED ends: the deadlines and vote timeouts that paused go on (R384, R539), the abandoned phases of each slot are raised (R233). -/
def resume (m : Mod) : Mod :=
  let gone := m.count - m.haltAt
  let m := m.goState m.wasState 0
  let m := forEach m (m.slots.filter (fun s => decide (m.handling s = 1 ∨ m.handling s = 2))) (fun m s =>
    m.setFirst s { m.first s with deadline := (m.first s).deadline + gone })
  let m := forEach m (m.slots.filter (fun s => m.jobRuns s)) (fun m s => m.modPart s (fun p => { p with
    vote1 := { p.vote1 with at_ := p.vote1.at_ + gone }, vote2 := { p.vote2 with at_ := p.vote2.at_ + gone }, decision1At := p.decision1At + gone }))
  forEach m (m.slots.filter (fun s => (m.part s).cutPhase)) (fun m s =>
    (m.modPart s (fun p => { p with cutPhase := false })).raise { code := 0x062C, slot := some s, kind := 0x0B, unit := s })

/-- DETAIL of MOD_QUERY. -/
def queryDetail (m : Mod) : List Byte := bytesOf 8 (m.rd 0).toNat ++ bytesOf 8 (m.rd MOD_STATE).toNat ++ bytesOf 8 (m.rd MOD_DIES).toNat ++ bytesOf 8 (m.rd MOD_PART_MAP).toNat

/-- HOST_NOP; an ill-formed packet of the module channel that Gallery finds when it begins to serve completes with 0x0803 (R498, R499). -/
def takeNop (m : Mod) (ch : Channel) : Mod :=
  match ch, m.offered ch with
  | .mcmd, some b => if m.hostServed && !packetOk b then m.completeCmd { ch := .mcmd, packet := b } 0x0803 0 [] else m.serve ch 0x01 (fun m _ => .ok m)
  | _, _ => m.serve ch 0x01 (fun m _ => .ok m)

/-! ## Buoys (R274, R516) -/

/-- BUOY_ALLOC. -/
def allocBuoy (m : Mod) (s b : Nat) (v : W32) (c : Nat) : CmdResult :=
  if m.slotOfBuoy b ≠ some s then .refuse m 0x0804
  else if !m.contextIs c s false then .refuse m 0x0109
  else if (m.buoy b).st ≠ .free then .refuse m 0x0805
  else .ok (m.setBuoy b { pub := (m.buoy b).pub, st := .live, value := v, owner := BitVec.ofNat 16 c })

/-- BUOY_RELEASE: FREE, or BROKEN where something waits or watches. -/
def releaseBuoy (m : Mod) (s b : Nat) : CmdResult :=
  if m.slotOfBuoy b ≠ some s then .refuse m 0x0804
  else if (m.buoy b).st = .free ∨ (m.buoy b).st = .saved then .refuse m 0x0806
  else .ok (if m.freeable b then m.freeBuoy b else m.breakBuoy b)

/-- BUOY_WATCH: a watch with Gallery core 0 as target; the command stays until its message. -/
def watchBuoy (m : Mod) (s : Nat) (b : List Byte) : CmdResult :=
  let n := pkPar b 0 2 % 8192
  let w : Watch := { cond := BitVec.ofNat 3 (pkPar b 2 1), value := BitVec.ofNat 32 (pkPar b 4 4), mask := BitVec.ofNat 32 (pkPar b 8 4)
                     deadline := BitVec.ofNat 64 (pkPar b 16 8), target := 0, cookie := BitVec.ofNat 32 (pkPar b 12 4) }
  if m.slotOfBuoy n ≠ some s then .refuse m 0x0804
  else
    let r := m.registerWatch .gallery n w
    if r.1 = 0 then .wait r.2 else .refuse m r.1

/-- BUOY_WATCH_CANCEL. -/
def cancelWatch (m : Mod) (s b : Nat) (cookie : W32) : CmdResult :=
  if m.slotOfBuoy b ≠ some s then .refuse m 0x0804
  else match (upto 4).find? (fun n => match (m.buoy b).watches[n]? with | some w => decide (w.cookie = cookie) | none => false) with
    | some n => .ok (m.endWatch b n 3)
    | none => .refuse m 0x0E07

/-! ## Registers and telemetry (R517) -/

/-- Reads consecutive registers with the host's rights until one is refused. -/
def csrRead (m : Mod) (a : Nat) : Nat → List Byte → W16 × List Byte
  | 0, l => (0, l)
  | n + 1, l => match m.readReg .host a with
    | .ok v => csrRead m (a + 8) n (l ++ bytesOf 8 v.toNat)
    | .error c => (c, l)
def csrReadCmd (m : Mod) (b : List Byte) : CmdResult :=
  let words := pkPar b 8 4
  let r := m.csrRead (pkPar b 0 8) words []
  if words ≤ 4 then .done r.1 r.2.length r.2 m else .done r.1 r.2.length [] (m.st (hostAt (pkBuf b)) r.2)

/-- Writes consecutive registers with the host's rights until one is refused: the code, how many were written, the module. -/
def csrWrite (m : Mod) (a : Nat) (b : List Byte) : Nat → Nat → W16 × Nat × Mod
  | 0, k => (0, k, m)
  | n + 1, k =>
    let r := m.writeReg .host a (BitVec.allOnes 64) (BitVec.ofNat 64 (num b 0 8))
    if r.1 = 0 then csrWrite r.2 (a + 8) (b.drop 8) n (k + 1) else (r.1, k, r.2)
def csrWriteCmd (m : Mod) (b : List Byte) : CmdResult :=
  let words := pkPar b 8 4
  let data := if words ≤ 3 then b.drop 0x28 else m.ld (hostAt (pkBuf b)) (8 * words)
  let r := m.csrWrite (pkPar b 0 8) data words 0
  .done r.1 (8 * r.2.1) [] r.2.2

/-- One item of TELEM_READ: value, code, zero; an address that is no multiple of 8 is out of range. -/
def telemItem (m : Mod) (a : Nat) : List Byte :=
  match (if a % 8 ≠ 0 then .error 0x0E01 else m.readReg .host a : Except W16 W64) with
  | .ok v => bytesOf 8 v.toNat ++ bytesOf 8 0
  | .error c => bytesOf 8 0 ++ bytesOf 2 c.toNat ++ bytesOf 6 0
def telemCmd (m : Mod) (b : List Byte) : CmdResult :=
  let n := pkPar b 0 4
  let buf := hostAt (pkBuf b)
  let out := (upto n).flatMap (fun i => m.telemItem (m.ldNat (buf + 8 * i) 8))
  .done 0 (24 * n) (bytesOf 8 m.count.toNat ++ bytesOf 8 m.count.toNat) (m.st (buf + 8 * n) out)

/-! ## Field tests (R518, R546 to R549) -/

def diesOfMask (mask : Nat) : List Nat := (upto 8).filter (fun d => decide (mask / 2 ^ d % 2 = 1))

/-- LAMP_TEST starts: on-demand tests of dies whose partition runs a job are asked of the step block. -/
def lampTest (m : Mod) (mode mask : Nat) : CmdResult :=
  let owners := (diesOfMask mask).filterMap (fun d => m.slotOfDie d)
  if owners.any (fun s => m.locked s) then .refuse m 0x0F01
  else if mode = 0 ∧ owners.any (fun s => m.jobRuns s) = true then .refuse m 0x0105
  else
    let m := { (m.setF LAMP_STATUS 0 8 mask).setF LAMP_STATUS 8 4 (mode + 1) with lampStart := m.count }
    let m := forEach m (owners.eraseDups.filter (fun s => m.jobRuns s)) (fun m s => m.modPart s (fun p => { p with lampAsk := true }))
    .wait (if mask = 0 then m.lampDone 0 else m)

/-- The dies under test whose test the host command itself ends: not those of a running job (R549). -/
def lampDies (m : Mod) : List Nat :=
  (diesOfMask (m.fld LAMP_STATUS 0 8)).filter (fun d => match m.slotOfDie d with | some s => !m.jobRuns s | none => true)

/-- The tiles and stacks of a die that belongs to a partition are scrubbed in its domain; where the die has no power its contents are lost all the same (R86, R547). -/
def lampScrubDie (m : Mod) (d : Nat) : Mod :=
  let tiles := (upto 160).map (fun i => 160 * d + i)
  let hbmStacks := (upto 4).map (fun i => 4 * d + i)
  match m.slotOfDie d with
  | none => m
  | some s =>
    if (m.part s).m2 = false then
      let m := forEach m tiles (fun m t => m.keeperDomain t (m.kslot s).domain true)
      forEach m hbmStacks (fun m k => m.startStackScrub k)
    else
      let m := forEach m tiles (fun m t => m.clearMem (scratchAt t 0) (scratchAt (t + 1) 0))
      forEach m hbmStacks (fun m k => m.clearMem (hbmAt k 0) (hbmAt k (2 ^ 36)))

/-- A die still scrubs. -/
def dieScrubs (m : Mod) (d : Nat) : Bool :=
  (upto 160).any (fun i => m.scrubbing (160 * d + i)) || (upto 4).any (fun i => (m.stack (4 * d + i)).scrubbing)

/-- The dies whose test has ended complete it once they scrub no more (R549). -/
def lampGoesOn (m : Mod) : Mod :=
  let l := (diesOfMask m.lampScrub.toNat).filter (fun d => !m.dieScrubs d)
  if l.isEmpty then m
  else
    let mask := (l.map (2 ^ ·)).sum
    ({ m with lampScrub := m.lampScrub &&& ~~~(BitVec.ofNat 8 mask) }).lampDone mask

/-- Two disabled tiles in one column of a half of a die (R25). -/
def columnSpoiled (m : Mod) (d : Nat) : Bool :=
  [2 * d, 2 * d + 1].any (fun h => (upto 8).any (fun c => decide ((m.goodRows h c).length < 10)))

/-- The test ends: in margined mode the repair state is rebuilt and the dies are scrubbed (R547).  Errors go to the partition of the die; a spare is shown at the die's half 0, a lost die without a unit (log entry 57). -/
def lampEnd (m : Mod) (o : LampOutcome) : Mod :=
  let mode := m.fld LAMP_STATUS 8 4
  let dies := m.lampDies.filter (fun d => !bit m.lampScrub d)
  if mode = 0 ∨ dies = [] then m
  else
    let inTest := fun (p : Nat) => decide (p < 1408) && dies.contains (p / 176)
    let fails := (o.failedTiles.filter inTest).eraseDups
    let on := fun (l : List Nat) (d : Nat) => (l.filter (fun p => decide (p / 176 = d))).length
    if mode = 2 then
      let m := forEach m dies (fun m d => m.wr (LAMP_RESULT d) (m.lampWord (on fails d) 0 0 (decide (on fails d = 0) && !bit o.badDies d)))
      m.lampDone ((dies.map (2 ^ ·)).sum)
    else
      let gone := fails.filter (fun p => !m.disabled.contains p)
      let back := (m.disabled.filter (fun p => inTest p && o.passedTiles.contains p && !fails.contains p && !m.repairDisabled.contains p))
      let errs : List ErrIn := gone.map (fun p => { code := 0x1028, slot := m.slotOfDie (p / 176), kind := 1, unit := (m.logicalOf p).getD p, loc := p * 2 ^ 32 })
      let m := { m with disabled := m.disabled.filter (fun p => !back.contains p) ++ gone }
      let bad := dies.filter (fun d => bit o.badDies d || m.columnSpoiled d)
      let m := forEach m dies (fun m d => m.wr (LAMP_RESULT d) (m.lampWord (on fails d) (on back d) (o.spares.getD d 0) (!bad.contains d)))
      let m := forEach m bad (fun m d => m.setFlag MOD_DIES d false)
      let m := m.raiseAll (errs ++
        dies.flatMap (fun d => (upto (o.spares.getD d 0)).map (fun _ => { code := 0x1028, slot := m.slotOfDie d, kind := 5, unit := 2 * d })) ++
        bad.map (fun d => { code := 0x1027, slot := m.slotOfDie d }))
      let m := forEach m dies (fun m d => m.lampScrubDie d)
      ({ m with lampScrub := m.lampScrub ||| BitVec.ofNat 8 ((dies.map (2 ^ ·)).sum) }).lampGoesOn

end Mod

/-! ## Meanings -/

/-- HOST_NOP (R504). -/
def execHostNop (via : Channel) (s : State) : Host.Outcome State Fault Refusal := onModule s (fun m => m.takeNop via)
/-- MOD_QUERY (R504). -/
def execModQuery (via : Channel) (s : State) : Host.Outcome State Fault Refusal :=
  onModule s (fun m => m.serve via 0x02 (fun m _ => .done 0 0 m.queryDetail m))
/-- MOD_HALT (R505). -/
def execModHalt (via : Channel) (s : State) : Host.Outcome State Fault Refusal :=
  onModule s (fun m => m.serve via 0x03 (fun m _ => .ok (if m.halted then m else m.enterHalted)))
/-- MOD_RESUME (R505). -/
def execModResume (via : Channel) (s : State) : Host.Outcome State Fault Refusal :=
  onModule s (fun m => m.serve via 0x04 (fun m _ =>
    if m.thermLow then .refuse m 0x010A else if !m.halted then .refuse m 0x0106 else .ok m.resume))
/-- MOD_STANDBY (R505). -/
def execModStandby (via : Channel) (s : State) : Host.Outcome State Fault Refusal :=
  onModule s (fun m => m.serve via 0x05 (fun m _ => if m.modState ≠ 2 ∨ m.rd MOD_PART_MAP ≠ 0 then .refuse m 0x0106 else .wait m))
/-- MOD_STANDBY_DONE: READY to STANDBY (R37, R562); a module that THERM_N has halted meanwhile stays HALTED until it is READY again. -/
def execModStandbyDone (s : State) : Host.Outcome State Fault Refusal :=
  onWhen s (decide (s.m.modState = 2)) (fun m => match m.cmds.find? (fun c => decide (pkOp c.packet = 0x05)) with
    | some c => (m.loseMain.goState 1 0).completeCmd c 0 0 []
    | none => m)
/-- MOD_WAKE (R505, R562). -/
def execModWake (via : Channel) (s : State) : Host.Outcome State Fault Refusal :=
  onModule s (fun m => m.serve via 0x06 (fun m _ =>
    if m.modState ≠ 1 ∨ m.startPhase ≠ 0 then .refuse m 0x0106 else .wait { m with board := { m.board with wake := true } }))
/-- PART_CREATE (R506). -/
def execPartCreate (via : Channel) (s : State) : Host.Outcome State Fault Refusal :=
  onModule s (fun m => m.serve via 0x10 (fun m c => m.createPart (pkPar c.packet 0 1)))
/-- PART_DELETE (R506). -/
def execPartDelete (via : Channel) (s : State) : Host.Outcome State Fault Refusal :=
  onModule s (fun m => m.serve via 0x11 (fun m c => m.deletePart (pkSlot c.packet)))
/-- PART_POWER (R561). -/
def execPartPower (via : Channel) (s : State) : Host.Outcome State Fault Refusal :=
  onModule s (fun m => m.serve via 0x12 (fun m c => m.powerPart (pkSlot c.packet) (pkPar c.packet 0 1)))
/-- PARTITION_POWER_UP_DONE (R506, R561). -/
def execPartitionPowerUpDone (slot : Nat) (ok : Bool) (s : State) : Host.Outcome State Fault Refusal := onSlot s slot (fun m => m.powerUpDone slot ok)
/-- PARTITION_POWER_DOWN_DONE (R561). -/
def execPartitionPowerDownDone (slot : Nat) (s : State) : Host.Outcome State Fault Refusal := onSlot s slot (fun m => m.powerDownDone slot)
/-- BUOY_ALLOC (R274, R516). -/
def execBuoyAlloc (via : Channel) (s : State) : Host.Outcome State Fault Refusal :=
  onModule s (fun m => m.serve via 0x40 (fun m c =>
    m.allocBuoy (pkSlot c.packet) (pkPar c.packet 0 2 % 8192) (BitVec.ofNat 32 (pkPar c.packet 4 4)) (pkPar c.packet 8 2)))
/-- BUOY_RELEASE (R274, R516). -/
def execBuoyRelease (via : Channel) (s : State) : Host.Outcome State Fault Refusal :=
  onModule s (fun m => m.serve via 0x41 (fun m c => m.releaseBuoy (pkSlot c.packet) (pkPar c.packet 0 2 % 8192)))
/-- BUOY_WATCH (R282, R516). -/
def execBuoyWatch (via : Channel) (s : State) : Host.Outcome State Fault Refusal :=
  onModule s (fun m => m.serve via 0x42 (fun m c => m.watchBuoy (pkSlot c.packet) c.packet))
/-- BUOY_WATCH_CANCEL (R516). -/
def execBuoyWatchCancel (via : Channel) (s : State) : Host.Outcome State Fault Refusal :=
  onModule s (fun m => m.serve via 0x43 (fun m c => m.cancelWatch (pkSlot c.packet) (pkPar c.packet 0 2 % 8192) (BitVec.ofNat 32 (pkPar c.packet 4 4))))
/-- CSR_READ (R517). -/
def execCsrRead (via : Channel) (s : State) : Host.Outcome State Fault Refusal :=
  onModule s (fun m => m.serve via 0x50 (fun m c => m.csrReadCmd c.packet))
/-- CSR_WRITE (R517). -/
def execCsrWrite (via : Channel) (s : State) : Host.Outcome State Fault Refusal :=
  onModule s (fun m => m.serve via 0x51 (fun m c => m.csrWriteCmd c.packet))
/-- TELEM_READ (R517). -/
def execTelemRead (via : Channel) (s : State) : Host.Outcome State Fault Refusal :=
  onModule s (fun m => m.serve via 0x52 (fun m c => m.telemCmd c.packet))
/-- LAMP_TEST (R518, R546). -/
def execLampTest (via : Channel) (s : State) : Host.Outcome State Fault Refusal :=
  onModule s (fun m => m.serve via 0x60 (fun m c => m.lampTest (pkPar c.packet 0 1) (pkPar c.packet 1 1)))
/-- LAMP_TEST_END (R547). -/
def execLampTestEnd (o : LampOutcome) (s : State) : Host.Outcome State Fault Refusal := onMain s (fun m => m.lampEnd o)
/-- TILE_SCRUB_DONE; a scrub pauses while the module is HALTED (R84). -/
def execTileScrubDone (t : Nat) (verified : Bool) (s : State) : Host.Outcome State Fault Refusal :=
  onTile s t (fun m => if m.scrubbing t ∧ ¬ m.halted then ((m.endScrub t verified).keeperGoesOn.lampGoesOn).powerGoesOn (m.slotOfTile t) else m)
/-- HBM_SCRUB_DONE (R320). -/
def execHbmScrubDone (k : Nat) (s : State) : Host.Outcome State Fault Refusal :=
  onStack s k (fun m => if (m.stack k).scrubbing then (m.endStackScrub k).keeperGoesOn.lampGoesOn else m)

end Sys2Proof.Machine
end

