-- ==== Sys2Proof/Machine/Layout.lean ====
section
/-! DEFINITION. Training layouts (R343 to R357): the job table, tensor entries and piece records, where an element of a piece lies, the version rings, and the shards that pieces name. -/

namespace Sys2Proof.Machine

/-! ## Tensor entries (R345) -/

/-- A tensor entry by its fields. -/
structure Tensor where
  id : Nat
  layer : Nat
  role : Nat
  cls : Nat
  fmt : Nat
  rank : Nat
  chan : Nat
  depth : Nat
  dims : List Nat
  raw : List Byte
  deriving DecidableEq, Repr

def readTensor (b : List Byte) : Tensor :=
  { id := num b 0 4, layer := num b 4 2, role := num b 6 1, cls := num b 7 1, fmt := num b 8 1, rank := num b 9 1, chan := num b 10 1
    depth := num b 11 1, dims := (upto 4).map (fun k => num b (12 + 4 * k) 4), raw := b.take 32 }

namespace Tensor

/-- Channels per word of the format (R57). -/
def perWord (x : Tensor) : Nat := 256 / fmtBits x.fmt
/-- REPLICATED and LOCAL tensors are persistent (R346). -/
def persistent (x : Tensor) : Bool := decide (x.cls < 2)
def dim (x : Tensor) (k : Nat) : Nat := x.dims.getD k 1
/-- A reserved code point or a non-zero zero field (R349). -/
def reserved (x : Tensor) : Bool :=
  decide (1023 < x.layer) || decide (3 < x.role) || decide (2 < x.cls) || decide (9 < x.fmt) || !zeros x.raw 0x1C 4
/-- The entry alone is valid (R345, R349). -/
def valid (x : Tensor) : Bool :=
  decide (1 ≤ x.id) && decide (x.id ≤ 0xFFFF_FFFE) && decide (1 ≤ x.rank) && decide (x.rank ≤ 4) && decide (x.chan < x.rank) &&
  x.dims.all (fun d => decide (1 ≤ d)) && (upto 4).all (fun k => decide (k < x.rank) || decide (x.dim k = 1)) &&
  (if x.persistent then decide (1 ≤ x.depth) && decide (x.depth ≤ 4) else decide (x.depth = 0))
/-- The logical index of an element (R346). -/
def index (x : Tensor) (c : List Nat) : Nat :=
  ((c.getD 0 0 * x.dim 1 + c.getD 1 0) * x.dim 2 + c.getD 2 0) * x.dim 3 + c.getD 3 0
/-- The coordinates of a logical index. -/
def coords (x : Tensor) (i : Nat) : List Nat :=
  [i / x.dim 3 / x.dim 2 / x.dim 1, i / x.dim 3 / x.dim 2 % x.dim 1, i / x.dim 3 % x.dim 2, i % x.dim 3]
/-- The elements of the tensor. -/
def elems (x : Tensor) : Nat := x.dim 0 * x.dim 1 * x.dim 2 * x.dim 3

end Tensor

/-- The code of a tensor table (R349). -/
def tensorsCode (l : List Tensor) : W16 :=
  if l.any (·.reserved) then 0x0A01
  else if !l.all (·.valid) || decide ((l.map (·.id)).eraseDups.length ≠ l.length) then 0x0A02
  else 0

/-! ## Piece records (R347, R348) -/

/-- A piece record by its fields. -/
structure Piece where
  id : Nat
  phase : Nat
  flags : Nat
  lag : Nat
  order : Nat
  rank : Nat
  place : Nat
  dowel : Nat
  shard : Nat
  buoy : Nat
  base : Nat
  origin : List Nat
  extent : List Nat
  verBase : Nat
  deriving DecidableEq, Repr

def readPiece (b : List Byte) : Piece :=
  { id := num b 0 4, phase := num b 4 1, flags := num b 5 1, lag := num b 6 1, order := num b 7 1, rank := num b 8 2, place := num b 10 2
    dowel := num b 12 1, shard := num b 13 1, buoy := num b 14 2, base := num b 0x10 8
    origin := (upto 4).map (fun k => num b (0x18 + 4 * k) 4), extent := (upto 4).map (fun k => num b (0x28 + 4 * k) 4), verBase := num b 0x38 8 }

namespace Piece

def owner (p : Piece) : Bool := decide (p.flags % 2 = 1)
def inHbm (p : Piece) : Bool := decide (p.flags / 2 % 2 = 1)
def versioned (p : Piece) : Bool := decide (p.flags / 4 % 2 = 1)
/-- OWNER in UPDATE. -/
def owns (p : Piece) : Bool := p.owner && decide (p.phase = 2)
def ext (p : Piece) (k : Nat) : Nat := p.extent.getD k 1
def org (p : Piece) (k : Nat) : Nat := p.origin.getD k 0
/-- The outer dimensions, fastest first (DIM_ORDER). -/
def outer (p : Piece) (x : Tensor) : List Nat := (upto (x.rank - 1)).map (fun k => p.order / 4 ^ k % 4)
/-- Positions of the box beside its channel dimension. -/
def positions (p : Piece) (x : Tensor) : Nat := (p.outer x).foldl (fun n d => n * p.ext d) 1
/-- Words of the piece at `n` channels per word (R348). -/
def words (p : Piece) (x : Tensor) (n : Nat) : Nat := ceilDiv (p.ext x.chan) n * p.positions x
/-- The data size D of the piece in the tensor's format (R353). -/
def bytes (p : Piece) (x : Tensor) : Nat := 32 * p.words x x.perWord
/-- An element's coordinates lie in the box. -/
def has (p : Piece) (c : List Nat) : Bool := (upto 4).all (fun k => decide (p.org k ≤ c.getD k 0) && decide (c.getD k 0 < p.org k + p.ext k))
/-- The word and lane of an element at `n` channels per word (R348). -/
def spot (p : Piece) (x : Tensor) (n : Nat) (c : List Nat) : Nat × Nat :=
  let y := fun k => c.getD k 0 - p.org k
  let pos := (p.outer x).foldr (fun d a => y d + p.ext d * a) 0
  (y x.chan / n + ceilDiv (p.ext x.chan) n * pos, y x.chan % n)
/-- The channels of an element's word that the box fills, at `n` channels per word: fewer than `n` in the last group (R348). -/
def used (p : Piece) (x : Tensor) (n : Nat) (c : List Nat) : Nat :=
  min n (p.ext x.chan - n * ((c.getD x.chan 0 - p.org x.chan) / n))
/-- The element is the last of its position along the channel dimension. -/
def lastChan (p : Piece) (x : Tensor) (c : List Nat) : Bool := decide (c.getD x.chan 0 + 1 = p.org x.chan + p.ext x.chan)
/-- The place of an element among the FP32 elements of a plane shard: the order of R348 at 8 channels per word. -/
def shardSpot (p : Piece) (x : Tensor) (c : List Nat) : Nat := (p.spot x 8 c).1 * 8 + (p.spot x 8 c).2
/-- Two boxes share an element. -/
def meets (p q : Piece) : Bool := (upto 4).all (fun k => decide (p.org k < q.org k + q.ext k) && decide (q.org k < p.org k + p.ext k))
/-- The elements of the box. -/
def count (p : Piece) : Nat := (upto 4).foldl (fun n k => n * p.ext k) 1
/-- The coordinates of the elements of the box, in ascending logical index. -/
def cells (p : Piece) : List (List Nat) :=
  let r := fun k => (upto (p.ext k)).map (· + p.org k)
  (r 0).flatMap (fun a => (r 1).flatMap (fun b => (r 2).flatMap (fun c => (r 3).map (fun d => [a, b, c, d]))))

/-- A reserved code point or a non-zero zero field (R347, R349). -/
def reserved (p : Piece) (x : Tensor) : Bool :=
  decide (2 < p.phase) || decide (7 < p.flags) || decide (2 < p.lag) || (!p.versioned && decide (p.lag ≠ 0)) ||
  decide (p.order / 4 ^ (x.rank - 1) ≠ 0) || (p.inHbm && (decide (31 < p.place) || decide (p.dowel ≠ 0))) || decide (8191 < p.buoy) ||
  (!p.owns && !p.versioned && decide (p.buoy ≠ 0)) || decide (2 ^ (if p.inHbm then 41 else 24) ≤ p.base) ||
  (!(p.owns && x.persistent) && decide (p.verBase ≠ 0))
/-- The box lies in the tensor, and DIM_ORDER names each outer dimension once. -/
def fits (p : Piece) (x : Tensor) : Bool :=
  (upto 4).all (fun k => decide (1 ≤ p.ext k) && decide (p.org k + p.ext k ≤ x.dim k)) &&
  ((upto x.rank).filter (fun d => decide (d ≠ x.chan))).all (fun d => (p.outer x).contains d)
/-- The version depth is too small for the lag (R349). -/
def shallow (p : Piece) (x : Tensor) : Bool :=
  p.versioned && decide (x.depth < p.lag + 2) && !(decide (x.depth = 1) && decide (p.lag = 0))

end Piece

/-- The bytes from one version slot to the next (R353). -/
def verStride (d : Nat) : Nat := 1024 + roundUp d 1024

/-- The header line of a version slot (R353). -/
def verHeader (t : Nat) (x : Tensor) (same : Bool) (d : Nat) : List Byte :=
  bytesOf 8 t ++ bytesOf 4 x.id ++ bytesOf 1 x.fmt ++ bytesOf 1 (if same then 1 else 0) ++ bytesOf 2 0 ++ bytesOf 8 d ++ List.replicate 1000 0

namespace Mod

/-! ## The loaded layout -/

/-- The tensor entries and the piece records of this module's rank. -/
def tensors (m : Mod) (s : Nat) : List Tensor := (recordsOf 32 (m.part s).layout.tensors).map readTensor
def myRank (m : Mod) (s : Nat) : Nat := num (m.part s).layout.jobTable 6 2
def pieces (m : Mod) (s : Nat) : List Piece := ((recordsOf 64 (m.part s).layout.pieces).map readPiece).filter (fun p => decide (p.rank = m.myRank s))
def tensorOf (m : Mod) (s id : Nat) : Option Tensor := (m.tensors s).find? (fun x => decide (x.id = id))
/-- The owner UPDATE pieces of persistent tensors, with their tensors: where the job rests (R350, R351). -/
def resting (m : Mod) (s : Nat) : List (Piece × Tensor) :=
  (m.pieces s).filterMap (fun p => match m.tensorOf s p.id with
    | some x => if p.owns && x.persistent then some (p, x) else none
    | none => none)

/-- The code of a job table (R344). -/
def jobTableCode (m : Mod) (b : List Byte) : W16 :=
  let j := num b 4 2
  let ids := (upto j).map (fun q => num b (8 + 2 * q) 2)
  let q := num b 6 2
  if num b 0 2 * num b 2 2 ≠ j ∨ 4096 < j ∨ ids.any (fun i => decide (4095 < i)) = true ∨ ids.eraseDups.length ≠ j ∨ j ≤ q ∨ ids.getD q 0 ≠ m.moduleId then 0x0A05
  else 0

/-- PLACE, DOWEL, BASE and the version ring of a piece lie in the partition; a piece in a scratchpad lies in its tile's 2^20 words (log entry 108). -/
def pieceIn (m : Mod) (s : Nat) (p : Piece) (x : Tensor) : Bool :=
  let n := (m.diesOf s).length
  (if p.inHbm then decide (p.place < 4 * n) && decide (p.base / 2 ^ 36 = p.place) && m.hbmRange s p.base (p.bytes x) 32
   else decide (p.place < 160 * n) && decide (p.base + p.words x x.perWord ≤ 2 ^ 20)) &&
  (!(p.owns && x.persistent) || m.hbmRange s p.verBase (x.depth * verStride (p.bytes x)) 32)

/-- The code of the piece records of this module's rank (R349). -/
def piecesCode (m : Mod) (s : Nat) (l : List Piece) : W16 :=
  let known := l.filterMap (fun p => match m.tensorOf s p.id with | some x => some (p, x) | none => none)
  let owners := (known.filter (fun y => y.1.owns)).map (·.1)
  if known.any (fun y => y.1.reserved y.2) then 0x0A01
  else if known.length ≠ l.length ∨ known.any (fun (y : Piece × Tensor) => !y.1.fits y.2 || !m.pieceIn s y.1 y.2) = true ∨
      (Mod.pairs owners).any (fun (y : Piece × Piece) => decide (y.1.id = y.2.id) && y.1.meets y.2) = true then 0x0A03
  else if known.any (fun y => y.1.shallow y.2) then 0x0A04
  else 0

/-! ## The storage of a piece (R348) -/

/-- Word `a` of a piece, counted from BASE. -/
def pieceWord (m : Mod) (s : Nat) (p : Piece) (a : Nat) : Nat :=
  if p.inHbm then natOf (m.ldHbm s (p.base + 32 * a) 32) else (m.ldDowel (160 * s + p.place) p.dowel (p.base + a)).toNat
def setPieceWord (m : Mod) (s : Nat) (p : Piece) (a v : Nat) : Mod :=
  if p.inHbm then m.stHbm s (p.base + 32 * a) (bytesOf 32 v) else m.stDowel (160 * s + p.place) p.dowel (p.base + a) (BitVec.ofNat 256 v)

/-- The data of a piece as it lies at BASE. -/
def pieceData (m : Mod) (s : Nat) (p : Piece) (x : Tensor) : List Byte := (upto (p.words x x.perWord)).flatMap (fun a => bytesOf 32 (m.pieceWord s p a))

/-- A word of a piece with an element written, the unused channels of the last group as zeros (R348, R58). -/
def placed (p : Piece) (x : Tensor) (c : List Nat) (word v : Nat) : Nat :=
  let b := fmtBits x.fmt
  (setBf (BitVec.ofNat 256 word) (b * (p.spot x x.perWord c).2) b v).toNat % 2 ^ (b * p.used x x.perWord c)
/-- An element of a dense copy that begins at a byte of the memory. -/
def denseElem (m : Mod) (at_ : Nat) (p : Piece) (x : Tensor) (c : List Nat) : Nat :=
  let w := p.spot x x.perWord c
  m.ldNat (at_ + 32 * w.1) 32 / 2 ^ (fmtBits x.fmt * w.2) % 2 ^ fmtBits x.fmt
def setDenseElem (m : Mod) (at_ : Nat) (p : Piece) (x : Tensor) (c : List Nat) (v : Nat) : Mod :=
  let a := at_ + 32 * (p.spot x x.perWord c).1
  m.stNat a 32 (placed p x c (m.ldNat a 32) v)
/-- An element of a piece at BASE. -/
def pieceElem (m : Mod) (s : Nat) (p : Piece) (x : Tensor) (c : List Nat) : Nat :=
  let w := p.spot x x.perWord c
  m.pieceWord s p w.1 / 2 ^ (fmtBits x.fmt * w.2) % 2 ^ fmtBits x.fmt
def setPieceElem (m : Mod) (s : Nat) (p : Piece) (x : Tensor) (c : List Nat) (v : Nat) : Mod :=
  let a := (p.spot x x.perWord c).1
  m.setPieceWord s p a (placed p x c (m.pieceWord s p a) v)

/-! ## Shards that pieces name (R322, R347) -/

/-- The stack whose plane updates a piece. -/
def pieceStack (s : Nat) (p : Piece) : Nat := 4 * s + p.place
/-- A shard entry, with what is staged for it. -/
def planned (m : Mod) (k e : Nat) : List Byte := m.stagedShard k e
def plannedRule (m : Mod) (k e : Nat) : Rule := let b := m.stagedRule k (num (m.planned k e) 6 1 % 8)
  { kind := num b 0 1 % 16, bf16 := decide (num b 0 1 / 16 = 1), gscale := 0, lr := 0, wd := 0, beta1 := 0, beta2 := 0, eps := 0, c1 := 0, c2 := 0 }
/-- A plane updates the piece: it lies in HBM and names a shard whose entry is, or is staged to be, VALID. -/
def planeUpdates (m : Mod) (s : Nat) (p : Piece) : Bool :=
  p.inHbm && decide (p.shard ≠ 0xFF) && decide (128 ≤ num (m.planned (pieceStack s p) p.shard) 7 1)
/-- The slot of a shard that holds the committed state: the record's, or slot A without a valid record. -/
def committedSlot (m : Mod) (k e : Nat) : Nat :=
  let b := m.planned k e
  match readCommit (m.ld (hbmAt k (num b 0x28 8)) 64) with
  | some c => num b (if c.slot = 0 then 0x18 else 0x20) 8
  | none => num b 0x18 8
/-- The byte of an element of KIND 0 (weight), 1 or 2 (moments) in a slot of a shard, and its size. -/
def shardByte (m : Mod) (k e slot kind i : Nat) : Nat × Nat :=
  let r := m.plannedRule k e
  let n := num (m.planned k e) 0 4
  let mb := momentBytes r
  if kind = 0 then (hbmAt k (slot + 4 * i), 4) else (hbmAt k (slot + 4 * n + mb * n * (kind - 1) + mb * i), mb)

/-! ## Version rings (R353, R357) -/

/-- The memory byte of the header of version slot `k` of a piece. -/
def verAt (s : Nat) (p : Piece) (x : Tensor) (k : Nat) : Nat := hbmByte s (p.verBase + k * verStride (p.bytes x))

/-- The fetchable copy of a piece as a job starts with it: the weights of a shard in the tensor's format, or the data at BASE. -/
def fetchable (m : Mod) (s : Nat) (p : Piece) (x : Tensor) (a : Mod) (at_ : Nat) : Mod :=
  if m.planeUpdates s p then
    let k := pieceStack s p
    let slot := m.committedSlot k p.shard
    let a := a.st at_ (List.replicate (p.bytes x) 0)
    p.cells.foldl (fun a c =>
      let y := m.shardByte k p.shard slot 0 (p.shardSpot x c)
      a.setDenseElem at_ p x c (convert x.fmt none (val32 (BitVec.ofNat 32 (m.ldNat y.1 4)))).code) a
  else a.st at_ (m.pieceData s p x)

/-- Writes the initial version slots of a piece and its VER_BUOY, for the first step `t0` (R357). -/
def startVersions (m : Mod) (s t0 : Nat) (y : Piece × Tensor) : Mod :=
  let p := y.1
  let x := y.2
  let m := forEach m (upto x.depth) (fun m i =>
    let u := t0 - x.depth + i
    let at_ := verAt s p x (u % x.depth)
    (m.fetchable s p x m (at_ + 1024)).st at_ (verHeader u x (decide (u ≠ t0 - 1)) (p.bytes x)))
  m.buoySetBy p.buoy (BitVec.ofNat 32 (t0 - 1)) 0

end Mod

end Sys2Proof.Machine
end

