-- ==== Sys2Proof/Machine/Loads.lean ====
section
/-! DEFINITION. Plan loads and program loads (R128 to R130, R418, R419, R421, R424, R482, R483, R507 to R509). -/

namespace Sys2Proof.Machine

/-- A section of a plan (R507): TYPE, TARGET, OFFSET and its bytes. -/
structure Section where
  ty : Nat
  target : Nat
  off : Nat
  len : Nat
  data : List Byte
  deriving DecidableEq, Repr

/-- The section table of a plan. -/
def planSections (b : List Byte) : List Section :=
  (upto (num b 12 4)).map (fun i =>
    let e := (b.drop (64 + 16 * i)).take 16
    { ty := num e 0 2, target := num e 2 2, off := num e 4 4, len := num e 8 4, data := (b.drop (num e 4 4)).take (num e 8 4) })

/-- A section's BYTES fit its form (R508). -/
def Section.fits (x : Section) : Bool :=
  match x.ty with
  | 1 => decide (8 ≤ x.len) && decide (x.len = 8 + 2 * num x.data 4 2)
  | 2 => decide (x.len % 32 = 0)
  | 3 => decide (x.len % 64 = 0)
  | 4 => decide (x.len % 16 = 0) && decide (x.len ≤ 16 * 1024)
  | 5 => decide (x.len = 32)
  | 6 => decide (x.len = 2048)
  | 7 => decide (x.len = 1024)
  | 8 => decide (x.len % 32 = 0) && decide (x.len ≤ 32 * 256)
  | 9 => decide (x.len = 4096)
  | 10 => decide (x.len = 0xC000)
  | 11 => decide (x.len = 16)
  | 12 => decide (x.len = 16904)
  | 13 => decide (8 ≤ x.len) && decide ((x.len - 8) % 32 = 0)
  | _ => false

/-- Two ranges share a byte. -/
def rangesMeet (a b : Nat × Nat) : Bool := decide (a.1 < b.1 + b.2) && decide (b.1 < a.1 + a.2)

namespace Mod

/-! ## The container (R507, R508) -/

/-- The refusals of the container: 0x0E05 for its form, 0x0E06 for a TARGET. -/
def planForm (m : Mod) (s : Nat) (b : List Byte) : W16 :=
  let n := num b 12 4
  let table := upto n
  let l := planSections b
  let ranges := (0, 64 + 16 * n) :: l.map (fun x => (x.off, x.len))
  let dies := (m.diesOf s).length
  if num b 0 4 ≠ 0x4E58_4454 ∨ num b 4 2 ≠ 1 ∨ zeros b 6 2 = false ∨ num b 8 1 ≠ dies ∨ zeros b 9 3 = false ∨ n < 1 ∨ 65535 < n ∨
      num b 16 8 ≠ b.length ∨ zeros b 0x18 40 = false ∨ b.length < 64 + 16 * n ∨ table.any (fun i => !zeros b (64 + 16 * i + 12) 4) = true ∨
      l.any (fun (x : Section) => !x.fits || decide (x.off % 64 ≠ 0) || decide (b.length < x.off + x.len)) = true ∨
      (Mod.pairs ranges).any (fun (p : (Nat × Nat) × (Nat × Nat)) => rangesMeet p.1 p.2) = true then 0x0E05
  else if l.any (fun (x : Section) =>
      (decide (x.ty ≤ 7) && decide (x.target ≠ 0)) || (decide (x.ty = 8) && (decide (5 < x.target) || (m.portSlot x.target).any (fun p => decide (p ≠ s)))) ||
      (decide (9 ≤ x.ty) && decide (x.ty ≤ 11) && decide (160 * dies ≤ x.target)) || (decide (12 ≤ x.ty) && decide (4 * dies ≤ x.target))) = true then 0x0E06
  else 0

/-! ## Destinations: the code of the refusal, and the module -/

/-- Applies `f` to each number of a list until one is refused. -/
def applyAll (m : Mod) (f : Mod → Nat → W16 × Mod) : List Nat → W16 × Mod
  | [] => (0, m)
  | i :: r => let x := f m i; if x.1 = 0 then applyAll x.2 f r else x

/-- The plan load's write of a word of a tile's window: refused during a scrub; an OFF tile takes nothing (R85). -/
def planTile (m : Mod) (t o : Nat) (v : W64) : W16 × Mod :=
  if m.scrubbing t then (0x020F, m)
  else if m.tileState t = 0 then (0, m)
  else match tileSpec t o with
    | none => (0, m)
    | some x => m.writeTile t o (m.written (tileReg t o) x (BitVec.allOnes 64) v)

/-- A word of a byte string. -/
def wordAt (b : List Byte) (i : Nat) : W64 := BitVec.ofNat 64 (num b (8 * i) 8)

/-- XRECORDS: each record is checked (R214), then written. -/
def loadRecords (m : Mod) (s : Nat) (b : List Byte) : W16 × Mod :=
  m.applyAll (fun m n =>
    if !recordOk (wordAt b (2 * n)) then (0x0601, m)
    else (0, (m.wr (XCH_RECORD s n 0) (wordAt b (2 * n))).wr (XCH_RECORD s n 1) (wordAt b (2 * n + 1) &&& 0x8000_0000_00FF_FFFF))) (upto (b.length / 16))

/-- TILE_DOWELS: every VALID bit is cleared, then word 1 and word 0 of each entry are written (R52 to R55). -/
def loadDowels (m : Mod) (t : Nat) (b : List Byte) : W16 × Mod :=
  let c := m.applyAll (fun m d => m.planTile t (0x1000 + 16 * d) 0) (upto 256)
  if c.1 ≠ 0 then c
  else
    let c := c.2.applyAll (fun m d => m.planTile t (0x1008 + 16 * d) (wordAt b (2 * d + 1))) (upto 256)
    if c.1 ≠ 0 then c else c.2.applyAll (fun m d => m.planTile t (0x1000 + 16 * d) (wordAt b (2 * d))) (upto 256)

/-- TILE_XCH: XLIST, XNODE, XEDGE, XDESC (R244). -/
def loadXch (m : Mod) (t : Nat) (b : List Byte) : W16 × Mod :=
  m.applyAll (fun m i => m.planTile t (if i < 1024 then 0x4_1000 + 8 * i else if i < 2048 then 0x4_4000 + 8 * (i - 1024) else 0x4_8000 + 8 * (i - 2048)) (wordAt b i)) (upto 6144)

/-- PLANE: rule blocks and shard entries are staged; NORM_BASE is written while the plane is not enabled (R323, R339). -/
def loadPlane (m : Mod) (k : Nat) (b : List Byte) : W16 × Mod :=
  let m := forEach m (upto 64) (fun m i => m.stage (RULE k (i / 8) (i % 8)) (wordAt b i))
  let m := forEach m (upto 2048) (fun m i => m.stage (SHARD k (i / 8) (i % 8)) (wordAt b (64 + i)))
  if !(upto 8).all (fun r => ruleOk (m.stagedRule k r)) then (0x0905, m)
  else m.writePlaneCtl k (setBf (m.rd (PLANE_CTL k)) 24 32 (num b 16896 4))

/-- A section reaches its destination. -/
def loadSection (m : Mod) (s : Nat) (x : Section) : W16 × Mod :=
  let t := 160 * s + x.target
  let k := 4 * s + x.target
  let lay := fun (f : Layout → Layout) => m.modPart s (fun p => { p with layout := f p.layout })
  match x.ty with
  | 1 => (m.jobTableCode x.data, lay (fun l => { l with jobTable := x.data }))
  | 2 => (tensorsCode ((recordsOf 32 x.data).map readTensor), lay (fun l => { l with tensors := x.data }))
  | 3 => let n := lay (fun l => { l with pieces := x.data }); (n.piecesCode s (n.pieces s), n)
  | 4 => m.loadRecords s x.data
  | 5 => m.applyAll (fun m i => match partSpec (0x2010 + 8 * i) with
      | some y => (0, m.wr (partReg s (0x2010 + 8 * i)) (m.written (partReg s (0x2010 + 8 * i)) y (BitVec.allOnes 64) (wordAt x.data i)))
      | none => (0, m)) (upto 4)
  | 6 => if m.hbmRange s (m.steerBase s) 2048 32 then (0, m.stHbm s (m.steerBase s) x.data) else (0x0902, m)
  | 7 => (0, forEach m (upto 64) (fun m g => (m.wr (VGROUP s g 0) (m.written (VGROUP s g 0) ((regSpec (VGROUP s g 0)).getD {}) (BitVec.allOnes 64) (wordAt x.data (2 * g)))).refreshGroup s g))
  | 8 => if m.portSlot x.target ≠ some s then (0x0C06, m)
    else (0, forEach m (upto (x.len / 8)) (fun m i => let a := JC_NODES x.target (i / 4) (i % 4); m.wr a (m.written a ((regSpec a).getD {}) (BitVec.allOnes 64) (wordAt x.data i))))
  | 9 => m.loadDowels t x.data
  | 10 => m.loadXch t x.data
  | 11 => let c := m.planTile t 0x3_0000 (wordAt x.data 0); if c.1 ≠ 0 then c else c.2.planTile t 0x20 (wordAt x.data 1)
  | 12 => m.loadPlane k x.data
  | _ => let off := num x.data 0 8
    if off % 32 = 0 ∧ off + (x.len - 8) ≤ 0xF_8000_0000 then (0, m.st (hbmAt k off) (x.data.drop 8)) else (0x0902, m)

/-- A destination returns to its reset value; bytes in HBM stay (R508). -/
def unload (m : Mod) (s : Nat) (x : Section) : Mod :=
  let t := 160 * s + x.target
  let k := 4 * s + x.target
  let lay := fun (f : Layout → Layout) => m.modPart s (fun p => { p with layout := f p.layout })
  match x.ty with
  | 1 => lay (fun l => { l with jobTable := [] })
  | 2 => lay (fun l => { l with tensors := [] })
  | 3 => lay (fun l => { l with pieces := [] })
  | 4 => m.resetRegs (XCH_RECORD s 0 0) (XCH_RECORD s (x.len / 16) 0)
  | 5 => m.resetRegs (STEP_CFG0 s) (STEER_INDEX s)
  | 7 => m.resetRegs (VGROUP s 0 0) (VGROUP s 64 0)
  | 8 => if m.portSlot x.target = some s then m.resetRegs (JC_NODES x.target 0 0) (JC_NODES x.target (x.len / 32) 0) else m
  | 9 => m.resetRegs (DOWEL0 t 0) (DOWEL0 t 256)
  | 10 => ((m.resetRegs (XLIST t 0) (XLIST t 1024)).resetRegs (XNODE t 0 0) (XEDGE t 128 0)).resetRegs (XDESC t 0 0) (XDESC t 2048 0)
  | 11 => ((m.unstage (NUM_CTL t)).unstage (VENEER_CTL t)).setF (VENEER_STATUS t) 4 4 (m.fld (VENEER_STATUS t) 0 4)
  | 12 =>
    let m := forEach m (upto 64) (fun m i => m.unstage (RULE k (i / 8) (i % 8)))
    let m := forEach m (upto 2048) (fun m i => m.unstage (SHARD k (i / 8) (i % 8)))
    if m.flag (PLANE_CTL k) 0 then m else m.setF (PLANE_CTL k) 24 32 0
  | _ => m

/-- Applies the sections in table order: the code, how many destinations were written, the module. -/
def loadSections (m : Mod) (s : Nat) : List Section → Nat → W16 × Nat × Mod
  | [], n => (0, n, m)
  | x :: r, n => let y := m.loadSection s x; if y.1 = 0 then loadSections y.2 s r (n + 1) else (y.1, n + 1, y.2)

/-! ## What the whole plan must satisfy -/

/-- A CROSS record names a VALID group, early enough (R421, R424). -/
def crossOk (m : Mod) (s n : Nat) : Bool :=
  !(m.recValid s n && m.recCross s n) ||
  (decide (m.recGroup s n < 64) && m.groupValid s (m.recGroup s n) && decide (m.fld (VGROUP s (m.recGroup s n) 1) 0 16 + 48 ≤ m.recLead s n))

/-- A link-die entry's DEST and window are valid, and the entries that share a bt with its first bt fit (R419). -/
def linkNodeOk (m : Mod) (s j : Nat) (l : List NodeEntry) (x : NodeEntry) : Bool :=
  let at_ := l.filter (fun y => decide (y.record = x.record) && decide (y.start ≤ x.start) && decide (x.start ≤ y.last))
  let toPort := fun (y : NodeEntry) => decide (y.dest / 2 ^ 14 = 2)
  (if toPort x then decide (x.dest % 2 ^ 14 = j) && decide (x.lane + x.lanes ≤ 20)
   else decide (x.dest / 2 ^ 14 = 1) && decide (x.dest % 2 ^ 14 = 0x36 ∨ x.dest % 2 ^ 14 = 0x37)) &&
  decide (x.last < m.recDuration s x.record) && decide (at_.length ≤ 4) && decide (((at_.filter toPort).map (·.lanes)).sum ≤ 20)

/-- The checks over the loaded tables. -/
def planChecks (m : Mod) (s : Nat) (l : List Section) : W16 :=
  let ports := (upto 6).filter (fun j => l.any (fun x => decide (x.ty = 8) && decide (x.target = j)))
  if !(upto 1024).all (fun n => m.crossOk s n) then 0x0C05
  else if ports.any (fun j => let es := (m.linkNodes j).map (·.2); !es.all (fun x => m.linkNodeOk s j es x)) then 0x0C06
  else 0

/-- A plan applied to a slot: the code, the sections whose destinations were written, the module. -/
def applyPlan (m : Mod) (s : Nat) (b : List Byte) : W16 × List Section × Mod :=
  let l := planSections b
  let f := m.planForm s b
  if f ≠ 0 then (f, [], m)
  else
    let x := m.loadSections s l 0
    let c := if x.1 ≠ 0 then x.1 else x.2.2.planChecks s l
    (c, l.take x.2.1, x.2.2)

/-- PLAN_VALID. -/
def planValid (m : Mod) (s : Nat) : Bool := m.flag (PART_STATUS s) 22

/-- The hash of a plan of a locked slot is not in the manifest's list (R483). -/
def planRefused (m : Mod) (s : Nat) (hash : List Byte) : Bool := m.locked s && !(m.kdie bridgeDie).plans.contains (s, hash)

/-- A plan becomes the slot's plan (R508). -/
def acceptPlan (m : Mod) (s : Nat) (hash : List Byte) : Mod :=
  let m := m.setKslot s { m.kslot s with refusedPlan := false }
  (m.setFlag (PART_STATUS s) 22 true).putRegs (PART_PLAN_HASH s) 4 hash

/-- PLAN_LOAD. -/
def planLoad (m : Mod) (s : Nat) (b : List Byte) : CmdResult :=
  if m.jobRuns s then .refuse m 0x0105
  else if (m.kslot s).domain = 0 then .refuse m 0x010B
  else
    let hash := sha256 b
    let x := m.applyPlan s b
    let bad := m.planRefused s hash
    let c : W16 := if x.1 ≠ 0 then x.1 else if bad then 0x0F0E else 0
    if c = 0 then .done 0 b.length hash (x.2.2.acceptPlan s hash)
    else
      let m := x.2.1.foldl (fun m y => m.unload s y) x.2.2
      let m := if bad then m.setKslot s { m.kslot s with refusedPlan := true } else m
      .refuse (m.setFlag (PART_STATUS s) 22 false) c

/-! ## Program loads (R128 to R130, R482, R509) -/

/-- The header of an image is ill-formed. -/
def imageBad (b : List Byte) : Bool :=
  decide (num b 0 4 ≠ 0x5058_4454) || decide (num b 4 2 ≠ 1) || decide (num b 6 2 ≠ 0x80) || decide (15 < num b 0xB 1) || !zeros b 0x26 90
def imageLen (b : List Byte) : Nat := num b 0xC 4
/-- The header and text of an image. -/
def imageBytes (b : List Byte) : List Byte := b.take (128 + 8 * imageLen b)

/-- The checks of a load into tile `t`. -/
def progCode (m : Mod) (t : Nat) (b : List Byte) : W16 :=
  let d := num b 0xA 1
  if m.tileEnabled t then 0x0201
  else if !m.dowelValid t d || decide (m.dowelMode t d ≠ 2) then 0x0301
  else if imageLen b = 0 ∨ 128 * m.dowelRows t d < imageLen b then 0x0304
  else 0

/-- The text and the header values of an image reach tile `t` (R129).  Header bits beyond a field's width are dropped: entries and restart modulo 2^20, the buoy modulo 2^13 (DESIGN CHOICE: the spec does not say what they do, log entry 98). -/
def putProgram (m : Mod) (t : Nat) (b : List Byte) : Mod :=
  let buoy := num b 0x24 2
  let m := m.stDowelWords t (num b 0xA 1) 0 (ceilDiv (8 * imageLen b) 32) ((imageBytes b).drop 128)
  let entry := fun n => num b (0x10 + 4 * n) 4 % 2 ^ 20
  let m := m.wr (SEQ_PROG t) (BitVec.ofNat 64 (num b 0xA 1 + num b 0xB 1 * 2 ^ 12 + imageLen b * 2 ^ 32))
  let m := (m.wr (SEQ_ENTRY01 t) (BitVec.ofNat 64 (entry 0 + entry 1 * 2 ^ 32))).wr (SEQ_ENTRY23 t) (BitVec.ofNat 64 (entry 2 + entry 3 * 2 ^ 32))
  let m := m.wr (SEQ_RESTART t) (BitVec.ofNat 64 (num b 0x20 4 % 2 ^ 20 + (if buoy = 0xFFFF then 0 else buoy % 8192 * 2 ^ 32 + 2 ^ 45)))
  m.modTile t (fun x => { x with accepted := true })

/-- The die zeroes the lines of an image that the manifest does not list. -/
def zeroText (m : Mod) (t : Nat) (b : List Byte) : Mod :=
  let lines := ceilDiv (8 * imageLen b) 1024
  let m := m.stDowelWords t (num b 0xA 1) 0 (32 * lines) (List.replicate (1024 * lines) 0)
  m.modTile t (fun x => { x with accepted := false })

/-- Loads one tile. -/
def loadTile (m : Mod) (s t : Nat) (b : List Byte) : W16 × Mod :=
  let c := m.progCode t b
  if m.scrubbing t then (0x020F, m)
  else if c ≠ 0 then (c, m)
  else if m.locked s && !(m.kdie (dieOfTile t)).images.contains (s, sha256 (imageBytes b)) then (0x0F0E, m.zeroText t b)
  else (0, m.putProgram t b)

/-- PROG_LOAD. -/
def progLoad (m : Mod) (s first count : Nat) (b : List Byte) : CmdResult :=
  let name := num b 8 2
  let tiles := (upto count).map (fun i => 160 * s + first + i)
  if 160 * (m.diesOf s).length < first + count then .refuse m 0x0E01
  else if imageBad b then .refuse m 0x0306
  else if name ≠ 0xFFFF ∧ ¬ (count = 1 ∧ name = 160 * s + first) then .refuse m 0x0307
  else if b.length < 128 + 8 * imageLen b then .refuse m 0x0E03
  else
    let c := if m.scrubbing (160 * s + first) then 0x020F else m.progCode (160 * s + first) b
    if c ≠ 0 then .refuse m c
    else
      let x := m.applyAll (fun m t => m.loadTile s t b) tiles
      if x.1 = 0 then .done 0 (128 + 8 * imageLen b) (sha256 (imageBytes b)) x.2
      else .refuse (forEach x.2 tiles (fun m t => m.setF (SEQ_PROG t) 32 21 0)) x.1

end Mod

/-! ## Meanings -/

/-- PLAN_LOAD (R508). -/
def execPlanLoad (via : Channel) (s : State) : Host.Outcome State Fault Refusal :=
  onModule s (fun m => m.serve via 0x20 (fun m c => m.planLoad (pkSlot c.packet) (m.ld (hostAt (pkBuf c.packet)) (pkLen c.packet))))
/-- PROG_LOAD (R509). -/
def execProgLoad (via : Channel) (s : State) : Host.Outcome State Fault Refusal :=
  onModule s (fun m => m.serve via 0x21 (fun m c =>
    m.progLoad (pkSlot c.packet) (pkPar c.packet 0 2) (pkPar c.packet 2 2) (m.ld (hostAt (pkBuf c.packet)) (pkLen c.packet))))

end Sys2Proof.Machine
end

