-- ==== Sys2Proof/Machine/Checkpoints.lean ====
section
/-! DEFINITION. Portable checkpoints and re-sharding (R360 to R367, R489): the chunks of a checkpoint, its export and import, the checks and the end of a RESHARD. -/

namespace Sys2Proof.Machine

/-- The bits of an element in a chunk: T2 takes 2, every other format as in memory (R364). -/
def chunkBits (fmt : Nat) : Nat := if fmt = 7 then 2 else fmtBits fmt
/-- Elements packed without gaps, lowest bits first. -/
def packElems (fmt : Nat) (l : List Nat) : List Byte := bytesOf (ceilDiv (l.length * chunkBits fmt) 8) (packSlots (chunkBits fmt) l)
/-- Pads with zeros to a multiple of `n` bytes. -/
def padTo (n : Nat) (b : List Byte) : List Byte := b ++ List.replicate (roundUp b.length n - b.length) 0
/-- A chunk (R364). -/
def chunkBytes (id kind fmt first count : Nat) (data : List Byte) : List Byte :=
  let d := padTo 32 data
  bytesOf 4 id ++ bytesOf 1 kind ++ bytesOf 1 fmt ++ bytesOf 2 0 ++ bytesOf 8 first ++ bytesOf 8 count ++ bytesOf 8 d.length ++ d

/-- A list cut into lists of `n` members; `k` bounds their number. -/
def groupsOf {α : Type} (n : Nat) : Nat → List α → List (List α)
  | 0, _ => []
  | k + 1, l => if l.isEmpty then [] else l.take n :: groupsOf n k (l.drop n)

/-- A chunk as it is read. -/
structure Chunk where
  id : Nat
  kind : Nat
  fmt : Nat
  first : Nat
  count : Nat
  data : List Byte
  deriving DecidableEq, Repr

/-- The data bytes of a chunk: 16 more for a version slot. -/
def chunkSize (kind fmt count : Nat) : Nat := roundUp ((if 3 ≤ kind then 16 else 0) + ceilDiv (count * chunkBits fmt) 8) 32

/-- Reads `n` chunks; none where one is ill-formed or cut short. -/
def readChunks : Nat → List Byte → Option (List Chunk)
  | 0, _ => some []
  | n + 1, b =>
    let c : Chunk := { id := num b 0 4, kind := num b 4 1, fmt := num b 5 1, first := num b 8 8, count := num b 16 8, data := (b.drop 32).take (num b 24 8) }
    if b.length < 32 + num b 24 8 ∨ 6 < c.kind ∨ 9 < c.fmt ∨ zeros b 6 2 = false ∨ num b 24 8 ≠ chunkSize c.kind c.fmt c.count then none
    else (readChunks n (b.drop (32 + num b 24 8))).map (c :: ·)

/-- Element `i` of a chunk. -/
def Chunk.elem (c : Chunk) (i : Nat) : Nat :=
  natOf (if 3 ≤ c.kind then c.data.drop 16 else c.data) / 2 ^ (chunkBits c.fmt * i) % 2 ^ chunkBits c.fmt

namespace Mod

/-! ## Settled jobs (R360, R365) -/

/-- Every shard of every plane of the partition is IDLE. -/
def shardsIdle (m : Mod) (s : Nat) : Bool :=
  (m.stacksOf s).all (fun k => (upto 256).all (fun e => decide (m.shardState k e = 0)) && (m.stack k).updating.isEmpty && (m.stack k).zeroing.isEmpty)
/-- A job stands stopped in the slot: PART_STATUS.CONTEXT names its LIVE context. -/
def stoppedJob (m : Mod) (s : Nat) : Bool := !m.jobRuns s && m.contextIs (m.fld (PART_STATUS s) 32 16) s false
/-- The job is settled: it stands stopped, its shards are IDLE, no RESHARD is under way, and the tile-resident updates of its last step have committed, which they have not when that step was lost (R512, R535). -/
def jobSettled (m : Mod) (s : Nat) : Bool :=
  m.stoppedJob s && m.shardsIdle s && !(m.part s).stepLost && !(m.part s).reshard && !(m.part s).reshardLost

/-! ## Elements by KIND (R364) -/

/-- The moments of a piece, as its plane's rule or its tile update code keeps them: BF16 or FP32, and whether there is a second one. -/
def momentsOf (m : Mod) (s : Nat) (p : Piece) (x : Tensor) : Bool × Bool :=
  if m.planeUpdates s p then (let r := m.plannedRule (pieceStack s p) p.shard; (r.bf16, decide (r.kind = 1))) else Config.tileRule x.id
/-- The kinds of chunk that a piece has, with their formats: weights, moments, version slots. -/
def pieceKinds (m : Mod) (s : Nat) (p : Piece) (x : Tensor) : List (Nat × Nat) :=
  let r := m.momentsOf s p x
  let f := if r.1 then 0 else 8
  (0, 8) :: (1, f) :: (if r.2 then [(2, f)] else []) ++ (upto x.depth).map (fun k => (3 + k, x.fmt))

/-- An element that the module has placed for tile update code and that no step has changed since. -/
def handedElem (m : Mod) (s id kind i : Nat) : Option W32 :=
  if (m.part s).handedAt ≠ (m.rd (STEP_NUM s)).toNat then none
  else ((m.part s).handed.find? (fun e => decide (e.id = id ∧ e.kind = kind ∧ e.index = i))).map (·.bits)
/-- Places an element for tile update code. -/
def handElem (m : Mod) (s id kind i v : Nat) : Mod :=
  let new : TileElem := { id := id, kind := kind, index := i, bits := BitVec.ofNat 32 v }
  m.modPart s (fun p => { p with handed := new :: p.handed.filter (fun e => !decide (e.id = id ∧ e.kind = kind ∧ e.index = i)) })
/-- The elements to be placed are those of the opening of step `t`: what was placed for another step is gone. -/
def beginHanding (m : Mod) (s t : Nat) : Mod :=
  m.modPart s (fun p => { p with handed := if p.handedAt = t then p.handed else [], handedAt := t })

/-- An element of a piece; one that tile code has updated is a free value. -/
def elemOf (m : Mod) (s : Nat) (p : Piece) (x : Tensor) (kind : Nat) (c : List Nat) : Nat :=
  if 3 ≤ kind then m.denseElem (verAt s p x (kind - 3) + 1024) p x c
  else if m.planeUpdates s p then
    let k := pieceStack s p
    let y := m.shardByte k p.shard (m.committedSlot k p.shard) kind (p.shardSpot x c)
    m.ldNat y.1 y.2
  else ((m.handedElem s x.id kind (x.index c)).getD (Config.tileWeight m.free x.id kind (x.index c))).toNat

/-- Zeros from byte `a` on, `n` times `size` bytes. -/
def zeroLanes (m : Mod) (a size n : Nat) : Mod := m.st a (List.replicate (size * n) 0)
/-- Places an element: into its version slot; into slot A of its shard, with zeros behind the last channel (R348); or for tile update code, the weight also at BASE in the tensor's format (R367). -/
def placeElem (m : Mod) (s : Nat) (p : Piece) (x : Tensor) (kind : Nat) (c : List Nat) (v : Nat) : Mod :=
  if 3 ≤ kind then m.setDenseElem (verAt s p x (kind - 3) + 1024) p x c v
  else if m.planeUpdates s p then
    let k := pieceStack s p
    let y := m.shardByte k p.shard (num (m.planned k p.shard) 0x18 8) kind (p.shardSpot x c)
    let m := m.stNat y.1 y.2 v
    if p.lastChan x c then m.zeroLanes (y.1 + y.2) y.2 (7 - (p.spot x 8 c).2) else m
  else
    let m := m.handElem s x.id kind (x.index c) v
    if kind = 0 then m.setPieceElem s p x c (convert x.fmt none (val32 (BitVec.ofNat 32 v))).code else m

/-! ## Export (R363 to R366, R489) -/

/-- The chunks of one KIND of a piece, one for each run of the last dimension. -/
def kindChunks (m : Mod) (s : Nat) (p : Piece) (x : Tensor) (kind fmt : Nat) : List (List Byte) :=
  (groupsOf (p.ext (x.rank - 1)) p.cells.length p.cells).map (fun run =>
    let head := if 3 ≤ kind then m.ld (verAt s p x (kind - 3)) 16 else []
    chunkBytes x.id kind fmt (x.index (run.getD 0 [])) run.length (head ++ packElems fmt (run.map (fun c => m.elemOf s p x kind c))))

/-- The pieces whose chunks this module writes: REPLICATED ones in replica 0, LOCAL ones everywhere. -/
def exported (m : Mod) (s : Nat) : List (Piece × Tensor) := (m.resting s).filter (fun y => decide (y.2.cls = 1) || decide (m.myReplica s = 0))

/-- The elements of a tensor that this module writes in chunks of a KIND (R366). -/
def exportedCount (m : Mod) (s : Nat) (x : Tensor) (kind : Nat) : Nat :=
  ((m.exported s).filter (fun y => decide (y.2.id = x.id) && (m.pieceKinds s y.1 y.2).any (fun k => decide (k.1 = kind)))).foldl (fun n y => n + y.1.count) 0
/-- This module alone writes the chunks of a tensor: the job has no other, or the tensor is REPLICATED and replica 0 is this module. -/
def exportsAlone (m : Mod) (s : Nat) (x : Tensor) : Bool :=
  decide (m.jobModules s = 1) || (decide (x.cls = 0) && decide (m.jobStages s = 1) && decide (m.myReplica s = 0))
/-- The element counts of a tensor equal its size, for the master weights and for every KIND that a piece has (R366). -/
def countsWhole (m : Mod) (s : Nat) (x : Tensor) : Bool :=
  (upto 7).all (fun k => let n := m.exportedCount s x k; decide (n = x.elems) || (decide (n = 0) && decide (k ≠ 0)))
/-- The sums of R366 over the job: this module's own where it exports alone, and what the other modules' counts add up to. -/
def countsOk (m : Mod) (s : Nat) (others : Bool) : Bool :=
  ((m.tensors s).filter (fun x => x.persistent && m.exportsAlone s x)).all (fun x => m.countsWhole s x) && (decide (m.jobModules s = 1) || others)

/-- The persistent entries of the tensor table. -/
def persistentEntries (m : Mod) (s : Nat) : List Byte := ((m.tensors s).filter (·.persistent)).flatMap (·.raw)

/-- The checkpoint that a module writes (R363): the last committed step is STEP_NUM − 1. -/
def checkpoint (m : Mod) (s : Nat) : List Byte :=
  let entries := m.persistentEntries s
  let chunks := (m.exported s).flatMap (fun y => (m.pieceKinds s y.1 y.2).flatMap (fun k => m.kindChunks s y.1 y.2 k.1 k.2))
  let versions := (m.exported s).any (fun y => decide (0 < y.2.depth))
  let b := bytesOf 4 0x4358_4454 ++ bytesOf 2 1 ++ bytesOf 2 (if versions then 1 else 0) ++ bytesOf 8 ((m.rd (STEP_NUM s)).toNat - 1) ++
    bytesOf 4 (entries.length / 32) ++ bytesOf 4 chunks.length ++ bytesOf 8 (m.rd (STEER_INDEX s)).toNat ++ sha256 entries ++ entries ++ chunks.flatten
  b ++ sha256 b

/-- The units of an enciphered stream (R487): 65,536 plaintext bytes each, with their tags. -/
def enciphered (key nonce plain : List Byte) : List Byte :=
  let units := groupsOf 65536 (plain.length / 65536 + 1) plain
  (upto units.length).flatMap (fun i => bytesIn _ (Config.encipher key (nonce ++ bytesOf 4 i) (units.getD i [])))

/-- A sealed export (R489): the segment header in clear and the units under the output key; the export record. -/
def sealExport (m : Mod) (s : Nat) (plain : List Byte) : List Byte × Mod :=
  let d := m.drawBytes 8
  let m := d.2
  let step := (plain.drop 8).take 8
  let head := bytesOf 4 0x4558_4454 ++ bytesOf 2 1 ++ bytesOf 2 0 ++ bytesOf 2 (m.kslot s).jobTag.toNat ++ bytesOf 2 m.moduleId ++ bytesOf 4 0 ++
    d.1 ++ step ++ bytesOf 8 plain.length ++ bytesOf 24 0
  let out := head ++ enciphered (m.keyAt (.context (2 * s + 1))) d.1 plain
  (out, m.setKslot s { m.kslot s with exportRec := d.1 ++ step ++ bytesOf 8 plain.length ++ sha256 plain ++ sha256 out })

/-- FLAGS of a slot's manifest (R475). -/
def manifestFlag (m : Mod) (s i : Nat) : Bool := decide (num (m.kslot s).manifest 0xD 1 / 2 ^ i % 2 = 1)

/-- EXPORT: the stream leaves by the egress flow; `others` says that the counts of a job of several modules add up (R366). -/
def exportCmd (m : Mod) (s flow : Nat) (others : Bool) : CmdResult :=
  if !m.jobSettled s then .refuse m 0x0A0E
  else if m.locked s && !m.manifestFlag s 0 then .refuse m 0x0F11
  else
    let plain := m.checkpoint s
    let ok := m.countsOk s others
    let x := if m.locked s then m.sealExport s plain else (plain, m)
    let m := { x.2.sendOut (.stream s flow x.1) with free := x.2.free + 1 }
    if ok then .done 0 x.1.length ((plain.drop 8).take 8) m
    else .refuse (m.raise { code := 0x0A23, slot := some s, kind := 8 }) 0x0A23

/-! ## Import (R367) -/

/-- A chunk fits the importing plan: its tensor, its format, its place. -/
def chunkOk (m : Mod) (s : Nat) (c : Chunk) : Bool :=
  match m.tensorOf s c.id with
  | none => false
  | some x =>
    let mine := (m.resting s).filter (fun y => decide (y.2.id = c.id))
    x.persistent && decide (c.first + c.count ≤ x.elems) &&
    (if c.kind = 0 then decide (c.fmt = 8)
     else if 3 ≤ c.kind then decide (c.fmt = x.fmt) && decide (c.kind - 3 < x.depth)
     else decide (c.fmt = 0 ∨ c.fmt = 8) && mine.all (fun y => decide (c.fmt = if (m.momentsOf s y.1 y.2).1 then 0 else 8)))

/-- The refusal of a checkpoint: 0x0A0B, 0x0A0C, or the error 0x0A24 of its trailer. -/
def importCode (m : Mod) (s : Nat) (b : List Byte) : W16 :=
  let chunks := readChunks (num b 20 4) (b.drop (64 + 32 * num b 16 4))
  if num b 0 4 ≠ 0x4358_4454 ∨ num b 4 2 ≠ 1 ∨ num b 8 8 < 3 ∨ (b.drop 32).take 32 ≠ sha256 (m.persistentEntries s) then 0x0A0B
  else if (match chunks with | some l => l.all (fun c => m.chunkOk s c) | none => false) = false then 0x0A0C
  else if b.drop (b.length - 32) ≠ sha256 (b.take (b.length - 32)) then 0x0A24
  else 0

/-- The chunks of a checkpoint. -/
def importChunks (b : List Byte) : List Chunk := (readChunks (num b 20 4) (b.drop (64 + 32 * num b 16 4))).getD []

/-- Places the elements of a chunk that this module's owner pieces cover; a version chunk also gives its slot's header. -/
def importChunk (m : Mod) (s : Nat) (c : Chunk) : Mod :=
  match m.tensorOf s c.id with
  | none => m
  | some x =>
    let own := (m.resting s).filter (fun y => decide (y.2.id = c.id))
    forEach m (upto c.count) (fun m i =>
      let at_ := x.coords (c.first + i)
      match own.find? (fun y => y.1.has at_) with
      | none => m
      | some y =>
        let m := m.placeElem s y.1 x c.kind at_ (c.elem i)
        if 3 ≤ c.kind then m.st (verAt s y.1 x (c.kind - 3)) (verHeader (num c.data 0 8) x (decide (num c.data 13 1 % 2 = 1)) (y.1.bytes x)) else m)
def importAll (m : Mod) (s : Nat) (b : List Byte) : Mod :=
  (importChunks b).foldl (fun m c => m.importChunk s c) (m.modPart s (fun p => { p with handed := [], handedAt := num b 8 8 + 1 }))

/-! ## Re-sharding (R360 to R362) -/

/-- The words of `n` bytes of a stack from a local offset on. -/
def stackWords (k off n : Nat) : List Nat := (upto (ceilDiv n 32)).map (fun i => hbmAt k (off + 32 * i))
/-- The words that the shard of a piece takes: staging, both slots, commit record (R322, R372). -/
def shardWords (m : Mod) (k e : Nat) : List Nat :=
  let b := m.planned k e
  let r := m.plannedRule k e
  let n := num b 0 4
  stackWords k (num b 0x10 8) (4 * n) ++ stackWords k (num b 0x18 8) (slotBytes r n) ++ stackWords k (num b 0x20 8) (slotBytes r n) ++ stackWords k (num b 0x28 8) 64
/-- The words of memory that a resting piece, its version ring and its shard take. -/
def restingWords (m : Mod) (s : Nat) (y : Piece × Tensor) : List Nat :=
  let p := y.1
  let x := y.2
  (upto (p.words x x.perWord)).map (fun a => if p.inHbm then hbmByte s (p.base + 32 * a) else scratchAt (160 * s + p.place) (m.dowelAddr (160 * s + p.place) p.dowel (p.base + a))) ++
  (upto (x.depth * verStride (p.bytes x) / 32)).map (fun i => hbmByte s (p.verBase + 32 * i)) ++
  (if m.planeUpdates s p then m.shardWords (pieceStack s p) p.shard else [])

/-- New persistent storage overlaps the old, beside pieces identical in both plans; `n` holds the new plan. -/
def reshardOverlaps (m n : Mod) (s : Nat) : Bool :=
  let old := m.resting s
  (n.resting s).any (fun y => !old.contains y &&
    (let w := n.restingWords s y; old.any (fun z => let v := m.restingWords s z; w.any (fun a => v.contains a))))

/-- The module IDs of a job table, as a set. -/
def jobIds (m : Mod) (s : Nat) : List Nat := (upto (m.jobModules s)).map (fun q => num (m.part s).layout.jobTable (8 + 2 * q) 2)

/-- The refusal of a RESHARD. -/
def reshardCode (m : Mod) (s : Nat) (b : List Byte) : W16 :=
  let x := m.applyPlan s b
  let n := x.2.2
  let a := m.jobIds s
  let c := n.jobIds s
  if m.jobRuns s then 0x0A06
  else if !m.jobSettled s then 0x0A07
  else if (m.kslot s).refusedPlan || m.planRefused s (sha256 b) then 0x0F0E
  else if x.1 ≠ 0 then x.1
  else if 64 < a.length || 64 < c.length || !a.all (fun i => c.contains i) || !c.all (fun i => a.contains i) then 0x0A08
  else if m.persistentEntries s ≠ n.persistentEntries s then 0x0A09
  else if m.reshardOverlaps n s then 0x0A0A
  else if !n.recordRunOk s then 0x0607
  else 0

/-- RESHARD: the reshard step begins, and the command waits for its end. -/
def reshardCmd (m : Mod) (s : Nat) (b : List Byte) : CmdResult :=
  let c := m.reshardCode s b
  if c ≠ 0 then .refuse m c else .wait (m.modPart s (fun p => { p with newPlan := b, reshard := true }))

/-- The records of the reshard step have moved an element to its new place: from the piece of the old plan that holds it, or from another module (R361). -/
def moveElem (m n : Mod) (s : Nat) (y : Piece × Tensor) (kind : Nat) (c : List Nat) : Mod :=
  match (m.resting s).find? (fun z => decide (z.2.id = y.2.id) && z.1.has c) with
  | some z =>
    if kind = 0 ∧ m.planeUpdates s z.1 = false ∧ n.planeUpdates s y.1 = false then
      (n.handElem s y.2.id kind (y.2.index c) (m.elemOf s z.1 z.2 kind c)).setPieceElem s y.1 y.2 c (m.pieceElem s z.1 z.2 c)
    else n.placeElem s y.1 y.2 kind c (m.elemOf s z.1 z.2 kind c)
  | none => n.placeElem s y.1 y.2 kind c (Config.movedElem m.free y.2.id kind (y.2.index c)).toNat

/-- The key KT of the tally of the state committed by step `t` (R543). -/
def tallyKey (m : Mod) (s t : Nat) : W128 :=
  BitVec.ofNat 128 (num (m.ldHbm s (m.tallyBase s + 8) 8) 0 8 + t % 2 ^ 32 * 2 ^ 64 + 0xFFFF_FFFF * 2 ^ 96)
/-- The term of an element (R543). -/
def tallyTerm (key : W128) (x : Tensor) (kind : Nat) (c : List Nat) (v : Nat) : W128 :=
  genBlock key (BitVec.ofNat 128 (x.index c % 2 ^ 56 + kind * 2 ^ 56 + v % 2 ^ 32 * 2 ^ 64 + x.id * 2 ^ 96))
/-- The digest of the persistent elements of a class that rest in this module: the XOR of their terms (R543). -/
def tallyOf (m : Mod) (s cls : Nat) (key : W128) : W128 :=
  ((m.resting s).filter (fun y => decide (y.2.cls = cls))).foldl (fun d y =>
    ((m.pieceKinds s y.1 y.2).filter (fun k => decide (k.1 < 3))).foldl (fun d k =>
      y.1.cells.foldl (fun d c => d ^^^ tallyTerm key y.2 k.1 c (m.elemOf s y.1 y.2 k.1 c)) d) d) 0
/-- Old and new tallies agree as far as this module alone holds what they cover: the REPLICATED elements of a replica of one module, and the LOCAL ones of a job of one module (R361). -/
def talliesAgree (m n : Mod) (s : Nat) : Bool :=
  let key := m.tallyKey s ((m.rd (STEP_NUM s)).toNat - 1)
  (decide (m.jobStages s ≠ 1 ∨ n.jobStages s ≠ 1) || decide (m.tallyOf s 0 key = n.tallyOf s 0 key)) &&
  (decide (m.jobModules s ≠ 1) || decide (m.tallyOf s 1 key = n.tallyOf s 1 key))

/-- The commit record that a start, an import or a move leaves for the shard of a piece: SLOT 0, the step before `t0` (R374). -/
def startRecord (m : Mod) (k e id t0 : Nat) : Mod :=
  let b := m.planned k e
  m.st (hbmAt k (num b 0x28 8)) (commitBytes { slot := 0, step := t0 - 1, tensor := id, elems := num b 0 4, prev := t0 - 1 })

/-- The new placement of one resting piece, version headers and the value of VER_BUOY included; the moved weights stand in slot A under a record of the last committed step (R361). -/
def movePiece (m n : Mod) (s : Nat) (y : Piece × Tensor) : Mod :=
  let n := if n.planeUpdates s y.1 then n.startRecord (pieceStack s y.1) y.1.shard y.2.id (m.rd (STEP_NUM s)).toNat else n
  let n := (n.pieceKinds s y.1 y.2).foldl (fun n k => y.1.cells.foldl (fun n c => m.moveElem n s y k.1 c) n) n
  let head := (m.resting s).find? (fun z => decide (z.2.id = y.2.id))
  let n := n.buoySetBy y.1.buoy (match head with | some z => (m.buoy z.1.buoy).value | none => BitVec.ofNat 32 ((m.rd (STEP_NUM s)).toNat - 1)) 0
  forEach n (upto y.2.depth) (fun n k =>
    let h := match head with | some z => m.ld (verAt s z.1 z.2 k) 16 | none => bytesOf 8 (2 ^ 64 - 1) ++ bytesOf 8 0
    n.st (verAt s y.1 y.2 k) (verHeader (num h 0 8) y.2 (decide (num h 13 1 % 2 = 1)) (y.1.bytes y.2)))

/-- The new placement: the new plan's, with what its records have moved (R361). -/
def reshardPlaced (m : Mod) (s : Nat) : Mod :=
  let n := ((m.applyPlan s (m.part s).newPlan).2.2).beginHanding s (m.rd (STEP_NUM s)).toNat
  let old := m.resting s
  ((n.resting s).filter (fun y => !old.contains y)).foldl (fun n y => m.movePiece n s y) n
/-- The RESHARD is over: nothing of it is left. -/
def clearReshard (m : Mod) (s : Nat) : Mod := m.modPart s (fun p => { p with newPlan := [], reshard := false, reshardLost := false })

/-- The reshard step has ended: with agreeing tallies the new plan is current and the job goes on with the next step; otherwise 0x0A22 and the old plan stands (R361).  `others` says that the tallies agree in what other modules hold.  Where an error has abandoned the RESHARD, its command completes (R362). -/
def reshardEnd (m : Mod) (s : Nat) (others : Bool) : Mod :=
  let b := (m.part s).newPlan
  if (m.part s).reshardLost then (m.clearReshard s).finishCmd s 0x25 0x0A22 b.length []
  else if !(m.part s).reshard then m
  else
    let n := m.reshardPlaced s
    if m.talliesAgree n s && (decide (m.jobModules s = 1) || others) then
      let n := (({ n with free := n.free + 1 }).clearReshard s).acceptPlan s (sha256 b)
      (n.modPart s (fun p => { p with job := some {} })).finishCmd s 0x25 0 b.length (sha256 b)
    else ((m.clearReshard s).raise { code := 0x0A22, slot := some s, kind := 0x0B, unit := s }).finishCmd s 0x25 0x0A22 b.length []

end Mod

/-! ## Meanings -/

/-- EXPORT (R365, R366). -/
def execExportCheckpoint (via : Channel) (countsOk : Bool) (s : State) : Host.Outcome State Fault Refusal :=
  onModule s (fun m => if m.halted then m else m.serve via 0x26 (fun m c => m.exportCmd (pkSlot c.packet) (pkPar c.packet 0 2 % 4096) countsOk))
/-- RESHARD (R360). -/
def execReshard (via : Channel) (s : State) : Host.Outcome State Fault Refusal :=
  onModule s (fun m => m.serve via 0x25 (fun m c => m.reshardCmd (pkSlot c.packet) (m.ld (hostAt (pkBuf c.packet)) (pkLen c.packet))))
/-- RESHARD_STEP_END (R361, R362). -/
def execReshardStepEnd (slot : Nat) (agree : Bool) (s : State) : Host.Outcome State Fault Refusal := onSlot s slot (fun m => m.reshardEnd slot agree)

end Sys2Proof.Machine
end

