-- ==== Sys2Proof/Machine/Jobs.lean ====
section
/-! DEFINITION. Jobs and contexts (R368, R369, R374, R400, R487, R488, R510 to R515): start, stop, context numbers, the save stream and its restore. -/

namespace Sys2Proof.Machine

namespace Mod

/-! ## JOB_START (R400, R511) -/

/-- A VALID XLIST entry or a piece record names a tile without a program. -/
def programMissing (m : Mod) (s : Nat) : Bool :=
  (m.tilesOf s).any (fun t => decide (m.textLen t = 0) &&
    ((upto 1024).any (fun e => m.xlValid t e) || (m.pieces s).any (fun p => !p.inHbm && decide (160 * s + p.place = t))))

/-- The step configuration is invalid at a job start (R400). -/
def stepCfgBad (m : Mod) (s : Nat) : Bool :=
  let buoys := [m.flagBuoy s, m.repGateBuoy s, m.locGateBuoy s, m.settleBuoy s, m.finalBuoy s, m.steerPendBuoy s, m.steerBuoy s]
  let depth := m.fld (STEER_BASE s) 48 4
  buoys.any (fun b => decide (m.slotOfBuoy b ≠ some s)) || decide (buoys.eraseDups.length ≠ 7) ||
  !m.recValid s (m.vote1Record s) || (decide (1 < m.jobModules s) && !m.recCross s (m.vote1Record s)) || decide (depth < 4) ||
  !m.hbmRange s (m.steerBase s) (2048 * (1 + m.logEntries s) + 0x60 + 32 * m.jobReplicas s) 2048

/-- The refusal of a JOB_START before its import. -/
def jobCode (m : Mod) (s c first : Nat) (resume imp : Bool) : W16 :=
  if m.jobRuns s then 0x0105
  else if (m.kslot s).domain = 0 then 0x010B
  else if (m.kslot s).refusedPlan then 0x0F0E
  else if !m.planValid s || m.programMissing s then 0x0108
  else if !m.contextIs c s false || (resume && !((m.context c).any (·.restored))) then 0x0109
  else if m.stepCfgBad s then 0x0B02
  else if !m.recordRunOk s then 0x0607
  else if !resume && !imp && decide (first < 4) then 0x0E01
  else 0

/-- The plane shards of a slot that have, or are staged to have, a VALID entry. -/
def plannedShards (m : Mod) (s : Nat) : List (Nat × Nat) :=
  (m.stacksOf s).flatMap (fun k => ((upto 256).filter (fun e => decide (128 ≤ num (m.planned k e) 7 1))).map (fun e => (k, e)))
/-- The tensor of the piece that names a shard. -/
def shardTensor (m : Mod) (s k e : Nat) : Nat := match (m.resting s).find? (fun y => y.1.inHbm && decide (pieceStack s y.1 = k) && decide (y.1.shard = e)) with
  | some y => y.2.id
  | none => 0

/-- STEP_NUM, the commit records and the version slots of a start with first step `t0` (R357, R374); `versions` when a checkpoint has given the slots. -/
def startData (m : Mod) (s t0 : Nat) (versions : Bool) : Mod :=
  let m := m.wr (STEP_NUM s) (BitVec.ofNat 64 t0)
  let m := (m.plannedShards s).foldl (fun m p => m.startRecord p.1 p.2 (m.shardTensor s p.1 p.2) t0) m
  (m.resting s).foldl (fun m y => if versions then m.buoySetBy y.1.buoy (BitVec.ofNat 32 (t0 - 1)) 0 else m.startVersions s t0 y) m

/-- The job counts as running from here on (R512). -/
def acceptJob (m : Mod) (s c : Nat) (resume : Bool) : Mod :=
  let m := m.setF (PART_STATUS s) 32 16 c
  let m := match m.context c with | some x => m.setContext c { x with restored := false } | none => m
  m.modPart s (fun p => { p with job := some { resume := resume }, rollbacks := 0, afterHalt := false, stepLost := false, lampist := {} })

/-- JOB_START; `stream` is the checkpoint that IMPORT reads from its ingress flow. -/
def jobStartCmd (m : Mod) (s c first : Nat) (resume imp : Bool) (stream : List Byte) : CmdResult :=
  let code := m.jobCode s c first resume imp
  if code ≠ 0 then .refuse m code
  else if imp then
    let x := m.importCode s stream
    if x = 0x0A24 then .refuse (m.raise { code := x, slot := some s, kind := 8 }) x
    else if x ≠ 0 then .refuse m x
    else .wait (((m.importAll s stream).startData s (num stream 8 8 + 1) (decide (num stream 6 2 % 2 = 1))).acceptJob s c false)
  else if resume then .wait (m.acceptJob s c true)
  else .wait ((m.startData s first false).acceptJob s c false)

/-! ## JOB_STOP (R512) -/

/-- The shards that are not DONE are DISCARDed. -/
def discardShards (m : Mod) (s : Nat) : Mod :=
  (m.plannedShards s).foldl (fun m p =>
    if m.shardValid p.1 p.2 = true ∧ m.shardState p.1 p.2 ≠ 4 then (m.dropUpdate p.1 p.2).startZeroing p.1 p.2 none false true else m) m

/-- A MODE 1 stop of a job that has begun. -/
def abortJob (m : Mod) (s : Nat) : Mod :=
  let m := forEach m (m.tilesOf s) (fun m t => m.stopTile t)
  let m := (m.resetContext s (m.fld (PART_STATUS s) 32 16)).discardShards s
  let m := if m.handling s = 1 then m.endHandling s else m
  (m.modPart s (fun p => { p with stepLost := true })).endJob s

/-- JOB_STOP. -/
def jobStopCmd (m : Mod) (s mode : Nat) (via : Channel) : CmdResult :=
  match (m.part s).job with
  | none => .refuse m 0x0107
  | some j =>
    if mode = 0 then .wait ((m.modPart s (fun p => { p with job := some { j with stopMode0 := some via } })).setPartState s 3)
    else if j.started then (let m := m.abortJob s; .done 0 0 (m.stopDetail s (m.fld (STEP_STATUS s) 4 4)) m)
    else .wait ((m.resetContext s (m.fld (PART_STATUS s) 32 16)).stopUnstarted s)

/-! ## Contexts (R510, R513) -/

/-- CTX_NEW. -/
def newContext (m : Mod) (s : Nat) : CmdResult :=
  if 0xFFFF < m.nextContext then .refuse m 0x010C
  else .done 0 0 (bytesOf 2 m.nextContext) { m.setContext m.nextContext { slot := s } with nextContext := m.nextContext + 1 }
/-- CTX_RESET. -/
def resetCmd (m : Mod) (s c : Nat) : CmdResult := if m.contextIs c s false then .ok (m.resetContext s c) else .refuse m 0x0109
/-- The rings of a context that a pre-emption saved. -/
def savedRings (m : Mod) (s c : Nat) : List Nat := (m.ringsOfContext s c).filter (fun r => decide (m.ringState r = 6))
/-- CTX_DISCARD. -/
def discardCmd (m : Mod) (s c : Nat) : CmdResult :=
  if !m.contextIs c s true then .refuse m 0x0109
  else
    let m := m.breakAll (m.buoysOfContext s c)
    let m := forEach m (m.savedRings s c) (fun m r => m.stopRingNow r)
    .ok { m with contexts := Sparse.erase c m.contexts }

/-! ## CTX_SAVE (R487, R514) -/

/-- CTX_SAVE: a running job is saved at its next step boundary mark, a stopped one at once. -/
def saveCmd (m : Mod) (s c : Nat) (via : Channel) (preempt : Bool) : CmdResult :=
  if !m.contextIs c s false || decide (m.fld (PART_STATUS s) 32 16 ≠ c) then .refuse m 0x0109
  else if m.locked s && !m.manifestFlag s 1 then .refuse m 0x0F11
  else match (m.part s).job with
    | some j => .wait (m.modPart s (fun p => { p with job := some { j with save := some (via, preempt) } }))
    | none => .wait (m.modPart s (fun p => { p with saving := true }))

/-- What a thread waits for, as the 16 bytes of its record (R131). -/
def waitBytes : WaitRec → List Byte
  | .none => bytesOf 16 0
  | .buoy b c v k => bytesOf 2 b ++ bytesOf 2 c.toNat ++ bytesOf 4 v.toNat ++ bytesOf 4 k.toNat ++ bytesOf 4 0
  | .mark n => bytesOf 8 n.toNat ++ bytesOf 8 0
  | .ring r => bytesOf 2 r ++ bytesOf 14 0
  | .fence k => bytesOf 4 0 ++ bytesOf 4 k.toNat ++ bytesOf 8 0
  | .jig k => bytesOf 4 0 ++ bytesOf 4 k.toNat ++ bytesOf 8 0
  | .exchange e => bytesOf 2 e ++ bytesOf 14 0
  | .queue u => bytesOf 2 (unitNo u) ++ bytesOf 14 0
  | .memory a d v => bytesOf 4 a ++ bytesOf 1 (d.getD 0) ++ bytesOf 3 (if d.isSome then 1 else 0) ++ bytesOf 4 v.toNat ++ bytesOf 4 0
  | .fetch => bytesOf 16 0
  | .remote b d cas => bytesOf 2 b ++ bytesOf 1 d ++ bytesOf 1 (if cas.isSome then 1 else 0) ++
      (match cas with | some p => bytesOf 4 p.1.toNat ++ bytesOf 4 p.2.toNat | none => bytesOf 8 0) ++ bytesOf 4 0

def unitOf : Nat → TileUnit
  | 0 => .array | 1 => .output | 2 => .vector | 3 => .quantiser | _ => .random

/-- The wait that a record's reason code and bytes name. -/
def waitOf (code : Nat) (b : List Byte) : WaitRec :=
  let n := num b 0 2
  match code with
  | 1 => .buoy n (BitVec.ofNat 3 (num b 2 1)) (BitVec.ofNat 32 (num b 4 4)) (BitVec.ofNat 32 (num b 8 4))
  | 2 => .mark (BitVec.ofNat 64 (num b 0 8))
  | 3 => .ring n
  | 4 => .fence (BitVec.ofNat 8 (num b 4 1))
  | 5 => .jig (BitVec.ofNat 6 (num b 4 1))
  | 6 => .exchange n
  | 7 => .queue (unitOf n)
  | 8 => .memory (num b 0 4) (if num b 5 1 = 1 then some (num b 4 1) else none) (BitVec.ofNat 32 (num b 8 4))
  | 9 => .fetch
  | 10 => .remote n (num b 2 1) (if num b 3 1 = 1 then some (BitVec.ofNat 32 (num b 4 4), BitVec.ofNat 32 (num b 8 4)) else none)
  | _ => .none

/-- A thread record (R131). -/
def threadBytes (x : Thread) : List Byte :=
  let lc := fun i => let l := x.loop i; bytesOf 4 l.count.toNat ++ bytesOf 4 l.first.toNat ++ bytesOf 4 l.last.toNat ++ bytesOf 4 (if l.active then 1 else 0)
  bytesOf 4 x.pc.toNat ++ bytesOf 4 (x.st.code + x.waitOn.code * 16 + x.stack.length * 256) ++ bytesOf 4 (x.layer.toNat + x.role.toNat * 1024) ++ bytesOf 4 0 ++
  waitBytes x.waitOn ++ (upto 32).flatMap (fun i => bytesOf 4 (x.gReg i).toNat) ++ (upto 16).flatMap (fun i => bytesOf 8 (x.aReg i).toNat) ++
  (upto 4).flatMap lc ++ (upto 16).flatMap (fun i => bytesOf 4 ((x.stack.reverse.getD i 0).toNat)) ++ bytesOf 96 0

/-- The thread that a record describes. -/
def readThread (b : List Byte) : Thread :=
  let w := num b 4 4
  let st : ThState := match w % 16 with
    | 0 => .off | 1 => .ready | 2 => .wait | 3 => .ended | 4 => .trapped | 5 => .stopped | _ => .debug
  let x : Thread := { pc := BitVec.ofNat 20 (num b 0 4), st := st, waitOn := waitOf (w / 16 % 16) ((b.drop 0x10).take 16)
                      layer := BitVec.ofNat 10 (num b 8 4), role := BitVec.ofNat 2 (num b 8 4 / 1024)
                      stack := ((upto (w / 256 % 32)).map (fun i => BitVec.ofNat 20 (num b (0x160 + 4 * i) 4))).reverse }
  let x := (upto 32).foldl (fun (x : Thread) i => x.setG i (BitVec.ofNat 32 (num b (0x20 + 4 * i) 4))) x
  let x := (upto 16).foldl (fun (x : Thread) i => x.setA i (BitVec.ofNat 40 (num b (0xA0 + 8 * i) 8))) x
  (upto 4).foldl (fun (x : Thread) i =>
    let o := 0x120 + 16 * i
    x.setLoop i { count := BitVec.ofNat 32 (num b o 4), first := BitVec.ofNat 20 (num b (o + 4) 4), last := BitVec.ofNat 20 (num b (o + 8) 4), active := decide (num b (o + 12) 4 % 2 = 1) }) x

/-- The identity of a waiting unit in a saved buoy: 1 and thread 4t + i, or 2 and ring. -/
def waiterId : Waiter → Nat
  | .thread t th => 2 ^ 28 + 4 * t + th
  | .ringHead r => 2 ^ 29 + r
def waiterFrom (n : Nat) : Waiter := if n / 2 ^ 28 = 1 then .thread (n % 2 ^ 28 / 4) (n % 4) else .ringHead (n % 2 ^ 16)

/-- A buoy of a context: one 32-byte record for each waiter entry, or one when there is none. -/
def buoyRecords (m : Mod) (b : Nat) : List Byte :=
  let x := m.buoy b
  let head := fun (n : Nat) => bytesOf 2 b ++ bytesOf 1 x.st.code ++ bytesOf 1 n ++ bytesOf 4 (if x.st = .saved then x.savedValue else x.value).toNat
  let ws := x.waiters ++ x.savedWaiters
  if ws.isEmpty then head 0 ++ bytesOf 24 0
  else ws.flatMap (fun w => head 1 ++ bytesOf 4 (waiterId w.who) ++ bytesOf 4 w.value.toNat ++ bytesOf 4 w.mask.toNat ++ bytesOf 1 w.cond.toNat ++ bytesOf 11 0)

/-- A section of a save stream: a 32-byte header, and the data padded to 64 bytes. -/
def saveSection (ty index : Nat) (data : List Byte) : List Byte :=
  bytesOf 2 ty ++ bytesOf 2 index ++ bytesOf 4 0 ++ bytesOf 8 data.length ++ bytesOf 16 0 ++ padTo 64 data

/-- The words of a tile's window as a save reads them, with views. -/
def tileWindow (m : Mod) (t : Nat) : List Byte :=
  (upto 0xA000).flatMap (fun i => bytesOf 8 (match m.readTile t (8 * i) with | .ok v => v.toNat | .error _ => 0))
/-- The generator states of a tile (R202). -/
def generatorBytes (m : Mod) (t : Nat) : List Byte :=
  (upto 4).flatMap (fun n => m.getRegWords (genReg t n 8) 4 ++ bytesOf 1 (m.fld (GEN_CTL t n) 0 1) ++ bytesOf 31 0)

/-- The sections of a save, in the order of R514. -/
def saveSections (m : Mod) (s c : Nat) : List (List Byte) :=
  let tiles := m.tilesOf s
  let memories := m.stacksOf s
  let at_ := fun (f : Nat → List Byte) (ty base : Nat) (l : List Nat) => l.map (fun u => saveSection ty (u - base) (f u))
  at_ (fun t => m.ld (scratchAt t 0) (2 ^ 25)) 1 (160 * s) tiles ++ at_ (fun t => m.tileWindow t) 2 (160 * s) tiles ++
  at_ (fun t => (upto 4).flatMap (fun n => threadBytes (m.thread t n))) 3 (160 * s) tiles ++ at_ (fun t => m.generatorBytes t) 4 (160 * s) tiles ++
  at_ (fun d => ((m.buoysOfContext s c).filter (fun b => decide (dieOfBuoy b = d))).flatMap (fun b => m.buoyRecords b)) 5 s (m.diesOf s) ++
  [saveSection 6 0 ((m.ringsOfContext s c).flatMap (fun r => m.getRegWords (ringReg r 0) 3 ++ bytesOf 8 r ++ m.getRegWords (ringReg r 0x20) 4))] ++
  [saveSection 7 0 (m.getRegWords (partReg s 0x2000) 0xA00)] ++
  at_ (fun k => m.getRegWords (SHARD k 0 0) 2048 ++ m.getRegWords (RULE k 0 0) 64 ++ m.getRegWords (PSTATE k 0) 256) 8 (4 * s) memories ++
  at_ (fun k => m.ld (hbmAt k 0) 0xF_8000_0000) 9 (4 * s) memories

/-- The save stream of a context (R514): header, geometry record, sections. -/
def saveStream (m : Mod) (s c : Nat) : List Byte :=
  let l := m.saveSections s c
  bytesOf 4 0x5258_4454 ++ bytesOf 2 1 ++ bytesOf 2 c ++ bytesOf 1 s ++ bytesOf 7 0 ++ bytesOf 8 (m.rd (STEP_NUM s)).toNat ++ bytesOf 4 l.length ++ bytesOf 36 0 ++
    m.geometry s ++ l.flatten

/-- The saved form of a sealed context (R487): the header with a drawn SAVE_SALT, and the units. -/
def sealSave (m : Mod) (s : Nat) (plain : List Byte) : List Byte × Mod :=
  let d := m.drawBytes 32
  let m := d.2
  let key := hkdfExpand (m.keyAt (.context (2 * s))) (ascii "save" ++ d.1) 32
  (bytesOf 4 0x4B58_4454 ++ bytesOf 2 1 ++ bytesOf 2 0 ++ bytesOf 2 (m.kslot s).jobTag.toNat ++ bytesOf 2 m.moduleId ++ bytesOf 1 s ++ bytesOf 3 0 ++
    bytesOf 8 plain.length ++ d.1 ++ bytesOf 8 0 ++ enciphered key (bytesOf 8 0) plain, m)

/-- The context's buoys and rings are pre-empted; its threads leave their tiles, and their waits on the SAVED buoys go with the context (R286, R514). -/
def preemptContext (m : Mod) (s c : Nat) : Mod :=
  let m := forEach m ((m.buoysOfContext s c).filter (fun b => m.buoyLive b)) (fun m b => m.preemptBuoy b)
  let m := forEach m ((m.buoysOfContext s c).filter (fun b => decide ((m.buoy b).st = .saved))) (fun m b => m.setBuoy b { m.buoy b with away := true })
  let m := forEach m (m.ringsOfContext s c) (fun m r => m.setRingState r 6)
  match m.context c with
  | some x => (m.setContext c { x with saved := true, restored := false }).setF (PART_STATUS s) 32 16 0
  | none => m

/-- CTX_SAVE_WRITTEN: the stream has left; the tiles' enables are cleared and their waits withdrawn, or the context is pre-empted (R514). -/
def saveWritten (m : Mod) (s : Nat) : Mod :=
  if !(m.part s).saving then m
  else match m.cmdOf s 0x30 with
    | none => m
    | some c =>
      let ctx := pkPar c.packet 0 2
      let plain := m.saveStream s ctx
      let x := if m.locked s then m.sealSave s plain else (plain, m)
      let m := x.2.sendOut (.stream s (pkPar c.packet 2 2 % 4096) x.1)
      let m := if pkPar c.packet 4 1 % 2 = 1 then m.preemptContext s ctx else m
      let m := forEach m (m.tilesOf s) (fun m t => (m.stopTile t).modTile t (fun y => { y with heldSave := false }))
      (m.modPart s (fun p => { p with saving := false })).completeCmd c 0 x.1.length (bytesOf 8 (m.rd (STEP_NUM s)).toNat)

/-! ## CTX_RESTORE (R488, R515) -/

/-- A section as it is read. -/
structure SavedSection where
  ty : Nat
  index : Nat
  data : List Byte
  deriving DecidableEq, Repr

/-- Reads `n` sections. -/
def readSections : Nat → List Byte → List SavedSection
  | 0, _ => []
  | n + 1, b =>
    let len := num b 8 8
    { ty := num b 0 2, index := num b 2 2, data := (b.drop 32).take len } :: readSections n (b.drop (32 + roundUp len 64))

/-- The offsets of a tile's window that hold state of the tile and nothing else: not the identity, enable, status, domain, and the views. -/
def restorable (t o : Nat) : Bool := decide (0x20 ≤ o) && decide (o ≠ 0x1_0020) && (tileSpec t o).isSome &&
  !(decide (0x1_1000 ≤ o) && decide (o < 0x1_2000)) && !(decide (0x2_4000 ≤ o) && decide (o < 0x2_A000)) && !(decide (0x3_5000 ≤ o) && decide (o < 0x3_6000))

/-- A tile's window comes back: registers, latch, accumulators, shadow. -/
def restoreWindow (m : Mod) (t : Nat) (b : List Byte) : Mod :=
  let m := forEach m ((upto 0xA000).filter (fun i => restorable t (8 * i))) (fun m i => m.wr (tileReg t (8 * i)) (wordAt b i))
  let cells := fun (lo n : Nat) => (upto n).foldl (fun (l : List (Nat × W32)) k => Sparse.put (fun _ => 0) l k (BitVec.ofNat 32 (num b (lo + 4 * k) 4))) []
  let latch := (upto 256).foldl (fun (l : List (Nat × W256)) k => Sparse.put (fun _ => 0) l k (BitVec.ofNat 256 (num b (0x2_4000 + 32 * k) 32))) []
  m.modTile t (fun x => { x with latch := latch, accs := cells 0x2_8000 2048, shadow := cells 0x3_5000 1024 })

/-- The waiter entries of a buoy among the records of a section. -/
def savedWaiters (b : Nat) (l : List (List Byte)) : List WaitEntry :=
  (l.filter (fun r => decide (num r 0 2 = b) && decide (num r 3 1 = 1))).map (fun r =>
    { who := waiterFrom (num r 8 4), cond := BitVec.ofNat 3 (num r 20 1), value := BitVec.ofNat 32 (num r 12 4), mask := BitVec.ofNat 32 (num r 16 4) })

/-- The buoys of a section become LIVE again in the same slot, BROKEN in another (R274, R515): those that are SAVED with this context, and for a context that was not pre-empted here, those that are FREE or LIVE as its own. -/
def restoreBuoys (m : Mod) (s c : Nat) (same : Bool) (b : List Byte) : Mod :=
  let l := recordsOf 32 b
  let buoys := (l.map (fun r => num r 0 2 % 8192)).eraseDups
  forEach m buoys (fun m n =>
    let own := decide ((m.buoy n).owner = BitVec.ofNat 16 c)
    if (m.buoy n).st = .saved then (if !own then m else if same then m.restoreBuoy n else m.breakBuoy n)
    else if !same || decide (m.slotOfBuoy n ≠ some s) || !(decide ((m.buoy n).st = .free) || (decide ((m.buoy n).st = .live) && own)) then m
    else
      let v := match l.find? (fun r => decide (num r 0 2 = n)) with | some r => BitVec.ofNat 32 (num r 4 4) | none => 0
      (m.setBuoy n { m.buoy n with st := .live, value := v, owner := BitVec.ofNat 16 c, waiters := savedWaiters n l }).evalBuoy n)

/-- A ring descriptor comes back as it was, with its context; a ring that was enabled runs again, and a head that waited at its buoy waits on. -/
def restoreRing (m : Mod) (c : Nat) (same : Bool) (b : List Byte) : Mod :=
  let r := num b 0x18 2
  if !same then m
  else
    let m := (m.putRegWords (ringReg r 0) (b.take 24) 3).putRegWords (ringReg r 0x20) (b.drop 32) 4
    let waits := decide (num b 0 1 / 2 % 8 = 3)
    let release := (m.ringOf r).headRelease
    let m := m.setF (RING_CTL r) 48 16 c
    let head := entryWaitBuoy (m.ringEntryBytes r (m.ringHead r))
    let m := m.setRing r (if waits then { waitOn := some head, headRelease := release } else {})
    if m.ringEnabled r then (m.setRingState r 1).settleRing r else m.setRingState r 0

/-- A section comes back. -/
def restoreSection (m : Mod) (s c : Nat) (same : Bool) (x : SavedSection) : Mod :=
  let t := 160 * s + x.index
  let k := 4 * s + x.index
  match x.ty with
  | 1 => m.st (scratchAt t 0) (x.data.take (2 ^ 25))
  | 2 => m.restoreWindow t x.data
  | 3 => forEach m (upto 4) (fun m n => m.setThread t n (readThread ((x.data.drop (512 * n)).take 512)))
  | 4 => forEach m (upto 4) (fun m n => (m.putRegWords (genReg t n 8) ((x.data.drop (64 * n)).take 32) 4).setF (GEN_CTL t n) 0 1 (num x.data (64 * n + 32) 1))
  | 5 => m.restoreBuoys s c same x.data
  | 6 => (recordsOf 64 x.data).foldl (fun m b => m.restoreRing c same b) m
  | 7 => forEach m ((upto 0xA00).filter (fun i => (partSpec (0x2000 + 8 * i)).isSome)) (fun m i => m.wr (partReg s (0x2000 + 8 * i)) (wordAt x.data i))
  | 8 =>
    let m := (m.putRegWords (SHARD k 0 0) x.data 2048).putRegWords (RULE k 0 0) (x.data.drop 16384) 64
    let m := m.putRegWords (PSTATE k 0) (x.data.drop 16896) 256
    forEach m ((upto 256).filter (fun e => decide (m.shardState k e = 3))) (fun m e => m.setShardState k e 2)
  | 9 => m.st (hbmAt k 0) (x.data.take 0xF_8000_0000)
  | _ => m

/-- A fresh context number for the slot (R510). -/
def freshContext (m : Mod) (s : Nat) : Option (Nat × Mod) :=
  if 0xFFFF < m.nextContext then none
  else some (m.nextContext, { m.setContext m.nextContext { slot := s, restored := true } with nextContext := m.nextContext + 1 })

/-- The context that a stream restores: the number it names where that context is in this slot or SAVED in another, else a fresh one. -/
def restoreContext (m : Mod) (s c : Nat) : Option (Nat × Mod) :=
  match m.context c with
  | some x => if x.slot = s ∨ x.saved = true then some (c, m.setContext c { slot := s, restored := true }) else m.freshContext s
  | none => m.freshContext s

/-- A restore of a sealed stream that fails scrubs the tiles and stacks again (R488). -/
def scrubAgain (m : Mod) (s : Nat) : Mod :=
  let m := forEach m (m.tilesOf s) (fun m t => m.keeperDomain t (m.kslot s).domain true)
  forEach m (m.stacksOf s) (fun m k => m.startStackScrub k)

/-- CTX_RESTORE of a stream; `ok` says that every unit of a sealed one carries its tag. -/
def restoreCmd (m : Mod) (s : Nat) (ok : Bool) (b : List Byte) : CmdResult :=
  if m.jobRuns s then .refuse m 0x0105
  else if m.locked s && !ok then .refuse (m.scrubAgain s) 0x0F11
  else if num b 0 4 ≠ 0x5258_4454 ∨ num b 4 2 ≠ 1 ∨ (b.drop 64).take 32 ≠ m.geometry s then .refuse m 0x0A0D
  else match m.restoreContext s (num b 6 2) with
    | none => .refuse m 0x010C
    | some x =>
      let c := x.1
      let m := (readSections (num b 0x18 4) (b.drop 96)).foldl (fun m y => m.restoreSection s c (decide (num b 8 1 = s)) y) x.2
      let m := (m.setF (PART_STATUS s) 32 16 c).modPart s (fun p => { p with stepLost := false, handed := [] })
      .done 0 b.length (bytesOf 2 c ++ bytesOf 6 0 ++ bytesOf 8 (m.rd (STEP_NUM s)).toNat) m

end Mod

/-! ## Meanings -/

/-- CTX_NEW (R510). -/
def execCtxNew (via : Channel) (s : State) : Host.Outcome State Fault Refusal :=
  onModule s (fun m => m.serve via 0x22 (fun m c => m.newContext (pkSlot c.packet)))
/-- JOB_START (R511). -/
def execJobStart (via : Channel) (stream : List Byte) (s : State) : Host.Outcome State Fault Refusal :=
  onModule s (fun m => m.serve via 0x23 (fun m c =>
    m.jobStartCmd (pkSlot c.packet) (pkPar c.packet 0 2) (pkPar c.packet 8 8) (decide (pkPar c.packet 2 2 % 2 = 1)) (decide (pkPar c.packet 2 2 / 2 % 2 = 1)) stream))
/-- JOB_STOP (R512). -/
def execJobStop (via : Channel) (s : State) : Host.Outcome State Fault Refusal :=
  onModule s (fun m => m.serve via 0x24 (fun m c => m.jobStopCmd (pkSlot c.packet) (pkPar c.packet 0 1) via))
/-- CTX_SAVE (R514). -/
def execCtxSave (via : Channel) (s : State) : Host.Outcome State Fault Refusal :=
  onModule s (fun m => m.serve via 0x30 (fun m c => m.saveCmd (pkSlot c.packet) (pkPar c.packet 0 2) via (decide (pkPar c.packet 4 1 % 2 = 1))))
/-- CTX_SAVE_WRITTEN (R514). -/
def execCtxSaveWritten (slot : Nat) (s : State) : Host.Outcome State Fault Refusal := onSlot s slot (fun m => if m.halted then m else m.saveWritten slot)
/-- CTX_RESTORE (R515); it does not go on while the module is HALTED (R503). -/
def execCtxRestore (via : Channel) (tagsOk : Bool) (stream : List Byte) (s : State) : Host.Outcome State Fault Refusal :=
  onModule s (fun m => if m.halted then m else m.serve via 0x31 (fun m c => m.restoreCmd (pkSlot c.packet) tagsOk stream))
/-- CTX_RESET (R513). -/
def execCtxReset (via : Channel) (s : State) : Host.Outcome State Fault Refusal :=
  onModule s (fun m => m.serve via 0x32 (fun m c => m.resetCmd (pkSlot c.packet) (pkPar c.packet 0 2)))
/-- CTX_DISCARD (R513). -/
def execCtxDiscard (via : Channel) (s : State) : Host.Outcome State Fault Refusal :=
  onModule s (fun m => m.serve via 0x33 (fun m c => m.discardCmd (pkSlot c.packet) (pkPar c.packet 0 2)))

end Sys2Proof.Machine
end

