-- ==== Sys2Proof/Machine/Escalate.lean ====
section
/-! DEFINITION. The ends and deadlines of error handling (R535, R536, R538, R539, R575). -/

namespace Sys2Proof.Machine

namespace Mod

/-- The commands on a slot's job that wait for a mark complete with the code of the error that took the partition away. -/
def dropJobCmds (m : Mod) (s : Nat) (code : W16) : Mod :=
  (m.cmds.filter (fun c => decide (pkSlot c.packet = s) && [0x23, 0x24, 0x25, 0x30].contains (pkOp c.packet))).foldl (fun m c => m.completeCmd c code 0 []) m

/-- FAULT is reached: the planes have stopped at an element boundary and the rings with what they had in progress; the partition-fatal handling ends, and with it the job and the commands on it (R535, R538). -/
def faultReached (m : Mod) (s : Nat) : Mod :=
  if m.handling s ≠ 2 then m
  else
    let f := m.first s
    let lost := m.jobRuns s
    let m := if lost then m.endJob s else m
    let m := forEach m (m.stacksOf s) (fun m k => m.setStack k { m.stack k with updating := [], zeroing := [] })
    let m := forEach m (m.ringsOf s) (fun m r => if (m.ringOf r).stopping then (m.setRing r { m.ringOf r with prog := [] }).stopRingNow r else m)
    let m := m.modPart s (fun p => { p with saving := false, reshard := false, reshardLost := false, newPlan := [], stepLost := p.stepLost || lost })
    ((m.dropJobCmds s (if f.escCode = 0 then f.code else f.escCode)).endHandling s).setPartState s 4

/-- The handling of slot `s` passes its deadline: 0x1029, one level up (R539).  Deadlines pause while the module is HALTED. -/
def missDeadline (m : Mod) (s : Nat) : Mod :=
  let h := m.handling s
  if (h ≠ 1 ∧ h ≠ 2) ∨ m.halted = true ∨ m.fatalStopped = true ∨ m.count.toNat < (m.first s).deadline.toNat then m
  else
    let e : ErrIn := { code := 0x1029, slot := some s, kind := 0x0B, unit := s }
    let scope := if h = 2 then none else some s
    let m := (m.noteCode e.code e.slot).countErr (h + 1)
    let r := m.mkRec e scope (h + 1)
    let m := { m with errSeq := m.errSeq + 1 }
    if h = 1 then m.raisePart s e r
    else
      let f := m.first s
      let m := ((m.setFirst s { f with escCode := e.code, flags := f.flags ||| 1 }).addCnt CNT_ESCALATED 1).setHandling s 3
      m.raiseModule e r

/-- The rails of a compute die go off in a module-fatal handling: nothing on it is kept (R575). -/
def dieOff (m : Mod) (d : Nat) : Mod :=
  forEach (m.dieDown d) ((upto 4).map (fun i => 4 * d + i)) (fun m k => m.clearMem (hbmAt k 0) (hbmAt k (2 ^ 36)))

/-- Every die that is present has answered ZEROISE. -/
def allZeroised (m : Mod) : Bool := busDies.all (fun d => !m.flag MOD_DIES d || (m.kdie d).zeroised)

/-- The ZEROISE round is complete: the module enters DARK (R536). -/
def zeroiseDone (m : Mod) : Mod := if m.zeroising && !m.keeperBad && m.allZeroised then m.enterDark false else m

/-- The Keeper has not begun ZEROISE 1,000 bt after the error (while the count stands still the event alone says so): every rail is removed, the Keeper's too, and the module is DARK (R536, R575). -/
def zeroiseLate (m : Mod) : Mod :=
  if m.zeroising && !m.zeroiseBegun && (!m.running || decide (m.fatalAt.toNat + 1000 ≤ m.count.toNat)) then m.loseMain.enterDark true else m

/-- The module-fatal handling passes its deadline: the rails of the dies that have not answered are removed, or every rail where the Keeper has not begun; the module is DARK (R539). -/
def missFatalDeadline (m : Mod) : Mod :=
  if m.handling 8 ≠ 3 ∨ (m.running = true ∧ m.count.toNat < (m.first 8).deadline.toNat) then m
  else if !m.zeroiseBegun then m.loseMain.enterDark true
  else (forEach m ((upto 8).filter (fun d => m.flag MOD_DIES d && !(m.kdie d).zeroised)) (fun m d => m.dieOff d)).enterDark false

end Mod

/-! ## Meanings -/

/-- HANDLING_DEADLINE (R539). -/
def execHandlingDeadline (slot : Nat) (s : State) : Host.Outcome State Fault Refusal := onSlot s slot (fun m => m.missDeadline slot)
/-- MODULE_FATAL_DEADLINE (R539). -/
def execModuleFatalDeadline (s : State) : Host.Outcome State Fault Refusal := onModule s (fun m => m.missFatalDeadline)
/-- ZEROISE_START_TIMEOUT (R536). -/
def execZeroiseStartTimeout (s : State) : Host.Outcome State Fault Refusal := onModule s (fun m => m.zeroiseLate)
/-- ZEROISE_ROUND_DONE (R536). -/
def execZeroiseRoundDone (s : State) : Host.Outcome State Fault Refusal := onModule s (fun m => m.zeroiseDone)
/-- PARTITION_FAULT_REACHED (R535). -/
def execPartitionFaultReached (slot : Nat) (s : State) : Host.Outcome State Fault Refusal := onSlot s slot (fun m => m.faultReached slot)

end Sys2Proof.Machine
end

