-- ==== Sys2Proof/Machine/HostLink.lean ====
section
/-! DEFINITION. The PCIe attachment (R492 to R494, R527, R572): link, Function Level Reset, PERST_N, IDE streams. -/

namespace Sys2Proof.Machine

namespace Mod

/-- A completion ring whose records go to host memory (R294 COMPL, LOC 0x2). -/
def hostCompletion (m : Mod) (r : Nat) : Bool := m.flag (RING_CTL r) 19 && decide (m.ringLoc r = 2)

/-- IDE_ACTIVE shows whether a stream is secure. -/
def setIde (m : Mod) (l : List Nat) : Mod := { m with ide := l }.setFlag HI_STATUS 16 (!l.isEmpty)

/-- The effects of a Function Level Reset (R494): HOST_CMD rings and host completion rings stop, HI_MCMD is IDLE and its command forgotten, the MSI-X table, the apertures and the IDE streams are clear. -/
def functionReset (m : Mod) : Mod :=
  let rings := (m.ringKeys.filter (fun r => m.ringEnabled r && (decide (r < 4096) || m.hostCompletion r)))
  let m := forEach m rings (fun m r => m.stopRing r)
  let m := { m with cmds := m.cmds.filter (fun c => decide (c.ch ≠ Channel.mcmd)), msix := [], msixPending := [] }
  (forEach (m.wr HI_MCMD_STATUS 0) (upto 4) (fun m n => m.wr (HI_APER n) 0)).setIde []

/-- The link has trained: RATE is one of the six rates and WIDTH ×1, ×2 or ×4, free values within that (R492, R522). -/
def trained (m : Mod) : Mod :=
  let r := m.draw 8
  let w := r.2.draw 8
  { (w.2.setF HI_STATUS 12 4 (1 + r.1.toNat % 6)).setF HI_STATUS 8 4 (2 ^ (w.1.toNat % 3)) with linkUp := true }

/-- An IDE stream loses its secure state (R527). -/
def ideFails (m : Mod) (k : Nat) : Mod := if m.ide.contains k then ((m.setIde (m.ide.erase k)).addCnt CNT_PCIE_ERR 1).raise { code := 0x0E22, kind := 8 } else m

/-- What a request through the DOE mailbox does: Gallery answers; keys make a stream secure or end it (R492, R493). -/
def doe (m : Mod) (q : DoeRequest) : Mod :=
  match q with
  | .spdm _ => m.answer 0
  | .ideKeySet k => if k < 4 then (m.setIde (k :: m.ide.erase k)).answer 0 else m
  | .ideKeyStop k => (m.setIde (m.ide.erase k)).answer 0
  | .ideIntegrityFail k => m.ideFails k

end Mod

/-! ## Meanings -/

/-- PERST_N_ASSERT (R572). -/
def execPerstNAssert (s : State) : Host.Outcome State Fault Refusal :=
  onWhen s (decide (s.m.modState ≠ 0)) (fun m => let m := m.functionReset; { m with linkUp := false, board := { m.board with perstLow := true } })
/-- PERST_N_DEASSERT: link training begins (R572). -/
def execPerstNDeassert (s : State) : Host.Outcome State Fault Refusal :=
  onWhen s (decide (s.m.modState ≠ 0)) (fun m => { m with board := { m.board with perstLow := false } })
/-- FUNCTION_LEVEL_RESET (R494). -/
def execFunctionLevelReset (s : State) : Host.Outcome State Fault Refusal := onWhen s s.m.linkUp (fun m => m.functionReset)
/-- PCIE_LINK_DOWN: rings hold until the link returns (R527). -/
def execPcieLinkDown (s : State) : Host.Outcome State Fault Refusal :=
  onWhen s s.m.linkUp (fun m => { m with linkUp := false }.raise { code := 0x0E24, kind := 8 })
/-- PCIE_LINK_UP (R492). -/
def execPcieLinkUp (s : State) : Host.Outcome State Fault Refusal :=
  onWhen s (decide (s.m.modState ≠ 0) && !s.m.linkUp && !s.m.board.perstLow) (fun m => m.trained)
/-- DOE_REQUEST (R493). -/
def execDoeRequest (q : DoeRequest) (s : State) : Host.Outcome State Fault Refusal :=
  onWhen s (s.m.linkUp && s.m.hostServed) (fun m => m.doe q)

end Sys2Proof.Machine
end

