-- ==== Sys2Proof/Machine/Protection.lean ====
section
/-! DEFINITION. What the checks of stores and paths report (R51, R106, R502, R528).  The table gives ECC_CORRECTION_WRITE the row; the other faults of R528, which have no row of their own, are operands of it (log entry 10). -/

namespace Sys2Proof.Machine

/-- The code of a fault of a tile (R528). -/
def checkCode : TileCheck → W16
  | .word => 0x0222
  | .data => 0x0225
  | .veneerTag => 0x0226
  | .registers => 0x0325
  | .operands => 0x0421
  | .generator => 0x0524
  | .vector => 0x0525
  | .exchange => 0x0628

/-- The code of a fault of the Keeper die (R473). -/
def keeperFaultCode : KeeperFault → W16
  | .core => 0x0F28
  | .entropy => 0x0F29
  | .replay => 0x0F27

namespace Mod

/-- A correctable error of a scratchpad word is counted, raised, and the corrected word, which the memory of the model holds all along, is written back (R51). -/
def eccCorrected (m : Mod) (t a : Nat) : Mod := (m.addCnt (CNT_ECC_CORR t) 1).raiseTile t 0x0221 a

/-- The unit queue and the instruction in progress that a parity error of a kind belongs to (R163, R209). -/
def faultyEntry (m : Mod) (t : Nat) (k : TileCheck) : Option (Nat × QEntry) :=
  let units : List Nat := match k with
    | .operands => [0, 1]
    | .vector => [2, 3]
    | .generator => [1, 2, 3, 4]
    | _ => []
  units.findSome? (fun u => ((m.queue t u).find? (fun e => e.started && (decide (k ≠ .generator) || e.gen.isSome))).map (fun e => (u, e)))

/-- A fault of a tile.  One that an instruction in progress meets makes the thread that issued it trap, and the instruction leaves its queue (R125, R163, R209; log entry 26); one of a thread's registers traps that thread, `loc` its number (log entry 10); one of the exchange port, router or node is raised for the router's place in its half (R541). -/
def tileCheckFails (m : Mod) (t : Nat) (k : TileCheck) (loc : Nat) : Mod :=
  if k = .exchange then m.raise { code := checkCode k, slot := m.slotOfTile t, kind := 5, unit := halfOfTile t, loc := m.physTile t % 88 }
  else if k = .registers then
    (let x := m.thread t (loc % 4)
     if x.st = .ready ∨ x.st = .wait then m.trapThread t (loc % 4) x.pc (checkCode k) 0 else m.raiseTile t (checkCode k) loc)
  else match m.faultyEntry t k with
    | some (u, e) => (m.setQueue t u ((m.queue t u).erase e)).trapThread t e.th e.pc (checkCode k) 0
    | none => m.raiseTile t (checkCode k) loc

/-- An instruction cache line with a parity error is refetched; the thread sees a delay only (R106). -/
def cacheParity (m : Mod) (t : Nat) : Mod := (m.addCnt (CNT_IC_PARITY t) 1).raiseTile t 0x032E 0

/-- A PLAN_LOAD that stops after `n` sections (R502, R508): what they wrote returns to its reset value. -/
def stopPlan (m : Mod) (s n : Nat) (b : List Byte) : CmdResult :=
  if m.jobRuns s then .refuse m 0x0105
  else if (m.kslot s).domain = 0 then .refuse m 0x010B
  else
    let l := if m.planForm s b = 0 then (planSections b).take n else []
    let x := m.loadSections s l 0
    let m := (l.take x.2.1).foldl (fun m y => m.unload s y) x.2.2
    .refuse (m.setFlag (PART_STATUS s) 22 false) 0x0E21

/-- A PROG_LOAD that stops after `n` tiles (R502, R509): every tile of its range has TEXT_LEN 0 once it has begun. -/
def stopProg (m : Mod) (s first count n : Nat) (b : List Byte) : CmdResult :=
  let tiles := (upto count).map (fun i => 160 * s + first + i)
  if 160 * (m.diesOf s).length < first + count then .refuse m 0x0E01
  else if n = 0 then .refuse m 0x0E21
  else
    let x := m.applyAll (fun m t => m.loadTile s t b) (tiles.take n)
    .refuse (forEach x.2 tiles (fun m t => m.setF (SEQ_PROG t) 32 21 0)) 0x0E21

/-- A host memory access of a command fails: the command stops with 0x0E21 (R502). -/
def stopCommand (m : Mod) (c : HostCmd) (n : Nat) : CmdResult :=
  let b := m.ld (hostAt (pkBuf c.packet)) (pkLen c.packet)
  let m := (m.addCnt CNT_PCIE_ERR 1).raise { code := 0x0E21, kind := 8 }
  if pkOp c.packet = 0x20 then m.stopPlan (pkSlot c.packet) n b
  else if pkOp c.packet = 0x21 then m.stopProg (pkSlot c.packet) (pkPar c.packet 0 2) (pkPar c.packet 2 2) n b
  else .refuse m 0x0E21

/-- A fault of the host's memory, or of a buffer of the host interface, fails the command that a channel offers (R502, R527); a command without a buffer makes no access. -/
def hostFault (m : Mod) (via : Channel) (own : Bool) (n : Nat) : Mod := match m.offered via with
  | none => m
  | some b =>
    if own then m.serve via (pkOp b) (fun m _ => .refuse (m.raise { code := 0x0E25, kind := 8 }) 0x0E25)
    else if bufNeed b = 0 then m
    else m.serve via (pkOp b) (fun m c => m.stopCommand c n)

/-- A link die or a Feed interface works for every partition that runs a job (R531). -/
def feedCheckFails (m : Mod) (e : Nat) : Mod :=
  (m.setF (FD_STATUS e) 48 16 0x0D24).raiseIn (m.slots.filter (fun s => m.jobRuns s)) { code := 0x0D24, kind := 7, unit := e }

end Mod

/-- ECC_CORRECTION_WRITE (R51), and the other reports of the module's checks (R106, R502, R528). -/
def execEccCorrectionWrite (f : StoreFault) (s : State) : Host.Outcome State Fault Refusal :=
  match f with
  | .corrected t a => onTile s t (fun m => m.eccCorrected t a)
  | .tile t k loc => onTile s t (fun m => m.tileCheckFails t k loc)
  | .cacheLine t => onTile s t (fun m => m.cacheParity t)
  | .beacon die => onMain s (fun m => m.raise { code := 0x0727, slot := m.slotOfDie die, kind := 9, unit := 0xFFFF })
  | .buoy b => onBuoy s b (fun m => m.raise { code := 0x0821, slot := m.slotOfBuoy b, kind := 3, unit := dieOfBuoy b, loc := b })
  | .ring r => onRing s r (fun m => m.raiseRing r 0x0825 (m.ringHead r))
  | .plane k e => onStack s k (fun m => (m.raisePlane k 0x0923 (e % 256)).setF (PLANE_STATUS k) 0 4 2)
  | .port j => onPort s j (fun m => m.raisePort j 0x0C29 0)
  | .feed e => onFeed s e (fun m => m.feedCheckFails e)
  | .host via own n => onModule s (fun m => m.hostFault via own n)
  | .errorBlock => onModule s (fun m => m.raise { code := 0x102A })
  | .keeper f => onWhen s (decide (s.m.modState ≠ 0) && !s.m.board.keeperDown) (fun m => m.raiseKeeper (keeperFaultCode f) 31 0 none)

end Sys2Proof.Machine
end

