-- ==== Sys2Proof/Machine/Dispatch.lean ====
section
/-! DEFINITION. The dispatch: one arm per command, each one call of its meaning. -/

namespace Sys2Proof.Machine

def exec (i : Instr) (s : State) : Host.Outcome State Fault Refusal :=
  match i with
  | .powerOn maddr => Sys2Proof.Machine.execPowerOn maddr s
  | .standbyRailsGood => Sys2Proof.Machine.execStandbyRailsGood s
  | .keeperBootComplete o => Sys2Proof.Machine.execKeeperBootComplete o s
  | .mainRailsRamped => Sys2Proof.Machine.execMainRailsRamped s
  | .tileSelfTestDone o => Sys2Proof.Machine.execTileSelfTestDone o s
  | .hbmTrainingDone failed => Sys2Proof.Machine.execHbmTrainingDone failed s
  | .jicenTrainingPhaseDone => Sys2Proof.Machine.execJicenTrainingPhaseDone s
  | .beaconLockPhaseEnd => Sys2Proof.Machine.execBeaconLockPhaseEnd s
  | .powerLoss => Sys2Proof.Machine.execPowerLoss s
  | .inputOvervoltage => Sys2Proof.Machine.execInputOvervoltage s
  | .thermNAssert => Sys2Proof.Machine.execThermNAssert s
  | .thermNDeassert => Sys2Proof.Machine.execThermNDeassert s
  | .modRstNAssert => Sys2Proof.Machine.execModRstNAssert s
  | .modRstNRelease => Sys2Proof.Machine.execModRstNRelease s
  | .throttleUpdate p => Sys2Proof.Machine.execThrottleUpdate p s
  | .headroomUpdate p16 => Sys2Proof.Machine.execHeadroomUpdate p16 s
  | .overpowerDetect p => Sys2Proof.Machine.execOverpowerDetect p s
  | .thermRelease => Sys2Proof.Machine.execThermRelease s
  | .sensorSample readings => Sys2Proof.Machine.execSensorSample readings s
  | .railSettled ix => Sys2Proof.Machine.execRailSettled ix s
  | .railFault die => Sys2Proof.Machine.execRailFault die s
  | .darkMainRailRemoval => Sys2Proof.Machine.execDarkMainRailRemoval s
  | .partitionPowerUpDone slot ok => Sys2Proof.Machine.execPartitionPowerUpDone slot ok s
  | .clearFaults => Sys2Proof.Machine.execClearFaults s
  | .capability => Sys2Proof.Machine.execCapability s
  | .statusWord => Sys2Proof.Machine.execStatusWord s
  | .statusInput => Sys2Proof.Machine.execStatusInput s
  | .statusTemperature => Sys2Proof.Machine.execStatusTemperature s
  | .readVin => Sys2Proof.Machine.execReadVin s
  | .readIin => Sys2Proof.Machine.execReadIin s
  | .readPin => Sys2Proof.Machine.execReadPin s
  | .readTemperature1 => Sys2Proof.Machine.execReadTemperature1 s
  | .readTemperature2 => Sys2Proof.Machine.execReadTemperature2 s
  | .readTemperature3 => Sys2Proof.Machine.execReadTemperature3 s
  | .pmbusRevision => Sys2Proof.Machine.execPmbusRevision s
  | .mfrId => Sys2Proof.Machine.execMfrId s
  | .mfrModel => Sys2Proof.Machine.execMfrModel s
  | .mfrSerial => Sys2Proof.Machine.execMfrSerial s
  | .mfrPowerCap write => Sys2Proof.Machine.execMfrPowerCap write s
  | .pmbusUnsupportedCode code => Sys2Proof.Machine.execPmbusUnsupportedCode code s
  | .fruRead off len => Sys2Proof.Machine.execFruRead off len s
  | .bypass => Sys2Proof.Machine.execBypass s
  | .idcode => Sys2Proof.Machine.execIdcode s
  | .samplePreload => Sys2Proof.Machine.execSamplePreload s
  | .extest => Sys2Proof.Machine.execExtest s
  | .perstNAssert => Sys2Proof.Machine.execPerstNAssert s
  | .perstNDeassert => Sys2Proof.Machine.execPerstNDeassert s
  | .functionLevelReset => Sys2Proof.Machine.execFunctionLevelReset s
  | .pcieLinkDown => Sys2Proof.Machine.execPcieLinkDown s
  | .mark => Sys2Proof.Machine.execMark s
  | .stepBoundaryMark slot => Sys2Proof.Machine.execStepBoundaryMark slot s
  | .beaconCheckWord die count => Sys2Proof.Machine.execBeaconCheckWord die count s
  | .bcnCmdAlign who => Sys2Proof.Machine.execBcnCmdAlign who s
  | .bcnCmdRecal who => Sys2Proof.Machine.execBcnCmdRecal who s
  | .bcnCtlWrite who v => Sys2Proof.Machine.execBcnCtlWrite who v s
  | .halfClkWrite who ix v => Sys2Proof.Machine.execHalfClkWrite who ix v s
  | .halfPllLocked ix => Sys2Proof.Machine.execHalfPllLocked ix s
  | .halfClockSwitchDone ix => Sys2Proof.Machine.execHalfClockSwitchDone ix s
  | .halfPllLockLoss ix => Sys2Proof.Machine.execHalfPllLockLoss ix s
  | .modulePllLocked => Sys2Proof.Machine.execModulePllLocked s
  | .beaconAligned resid => Sys2Proof.Machine.execBeaconAligned resid s
  | .modulePllLockLoss => Sys2Proof.Machine.execModulePllLockLoss s
  | .holdoverEntry altValid => Sys2Proof.Machine.execHoldoverEntry altValid s
  | .holdoverLimit => Sys2Proof.Machine.execHoldoverLimit s
  | .beaconSteer resid => Sys2Proof.Machine.execBeaconSteer resid s
  | .trimRecalibration die trim => Sys2Proof.Machine.execTrimRecalibration die trim s
  | .ppsInEdge => Sys2Proof.Machine.execPpsInEdge s
  | .ppsOutRise => Sys2Proof.Machine.execPpsOutRise s
  | .ppsOutFall => Sys2Proof.Machine.execPpsOutFall s
  | .tileEnable who t => Sys2Proof.Machine.execTileEnable who t s
  | .tileDisable who t => Sys2Proof.Machine.execTileDisable who t s
  | .dowelValidSet who t d v => Sys2Proof.Machine.execDowelValidSet who t d v s
  | .dowelValidClear who t d => Sys2Proof.Machine.execDowelValidClear who t d s
  | .jigEnable who t j v => Sys2Proof.Machine.execJigEnable who t j v s
  | .jigDisable who t j => Sys2Proof.Machine.execJigDisable who t j s
  | .veneerCtlWrite who t v => Sys2Proof.Machine.execVeneerCtlWrite who t v s
  | .veneerFlushDone t => Sys2Proof.Machine.execVeneerFlushDone t s
  | .veneerLineFill t q h ok => Sys2Proof.Machine.execVeneerLineFill t q h ok s
  | .eccCorrectionWrite f => Sys2Proof.Machine.execEccCorrectionWrite f s
  | .mitreDone t => Sys2Proof.Machine.execMitreDone t s
  | .tileScrubDone t verified => Sys2Proof.Machine.execTileScrubDone t verified s
  | .scratchpadApertureAccess who t off write => Sys2Proof.Machine.execScratchpadApertureAccess who t off write s
  | .numCtlWrite who t v => Sys2Proof.Machine.execNumCtlWrite who t v s
  | .seqDbgResume who t => Sys2Proof.Machine.execSeqDbgResume who t s
  | .illegalInstruction t th w => Sys2Proof.Machine.execIllegalInstruction t th w s
  | .nop t th f => Sys2Proof.Machine.execNop t th f s
  | .br t th f => Sys2Proof.Machine.execBr t th f s
  | .jr t th f => Sys2Proof.Machine.execJr t th f s
  | .call t th f => Sys2Proof.Machine.execCall t th f s
  | .ret t th f => Sys2Proof.Machine.execRet t th f s
  | .loop t th f => Sys2Proof.Machine.execLoop t th f s
  | .loopi t th f => Sys2Proof.Machine.execLoopi t th f s
  | .tstart t th f => Sys2Proof.Machine.execTstart t th f s
  | .endThread t th f => Sys2Proof.Machine.execEndThread t th f s
  | .fence t th f => Sys2Proof.Machine.execFence t th f s
  | .lend t th f => Sys2Proof.Machine.execLend t th f s
  | .add t th f => Sys2Proof.Machine.execAdd t th f s
  | .sub t th f => Sys2Proof.Machine.execSub t th f s
  | .mul t th f => Sys2Proof.Machine.execMul t th f s
  | .mulhs t th f => Sys2Proof.Machine.execMulhs t th f s
  | .mulhu t th f => Sys2Proof.Machine.execMulhu t th f s
  | .andI t th f => Sys2Proof.Machine.execAndI t th f s
  | .orI t th f => Sys2Proof.Machine.execOrI t th f s
  | .xorI t th f => Sys2Proof.Machine.execXorI t th f s
  | .shl t th f => Sys2Proof.Machine.execShl t th f s
  | .shr t th f => Sys2Proof.Machine.execShr t th f s
  | .sra t th f => Sys2Proof.Machine.execSra t th f s
  | .minI t th f => Sys2Proof.Machine.execMinI t th f s
  | .maxI t th f => Sys2Proof.Machine.execMaxI t th f s
  | .slt t th f => Sys2Proof.Machine.execSlt t th f s
  | .sltu t th f => Sys2Proof.Machine.execSltu t th f s
  | .movi t th f => Sys2Proof.Machine.execMovi t th f s
  | .aadd t th f => Sys2Proof.Machine.execAadd t th f s
  | .amov t th f => Sys2Proof.Machine.execAmov t th f s
  | .aget t th f => Sys2Proof.Machine.execAget t th f s
  | .lcget t th f => Sys2Proof.Machine.execLcget t th f s
  | .ldw t th f => Sys2Proof.Machine.execLdw t th f s
  | .stw t th f => Sys2Proof.Machine.execStw t th f s
  | .csrr t th f => Sys2Proof.Machine.execCsrr t th f s
  | .csrw t th f => Sys2Proof.Machine.execCsrw t th f s
  | .bcnt t th f => Sys2Proof.Machine.execBcnt t th f s
  | .jctl t th f => Sys2Proof.Machine.execJctl t th f s
  | .jfill t th f => Sys2Proof.Machine.execJfill t th f s
  | .jbase t th f => Sys2Proof.Machine.execJbase t th f s
  | .jdim t th f => Sys2Proof.Machine.execJdim t th f s
  | .jdax t th f => Sys2Proof.Machine.execJdax t th f s
  | .jaxis t th f => Sys2Proof.Machine.execJaxis t th f s
  | .jen t th f => Sys2Proof.Machine.execJen t th f s
  | .jdis t th f => Sys2Proof.Machine.execJdis t th f s
  | .jwait t th f => Sys2Proof.Machine.execJwait t th f s
  | .mitre t th f => Sys2Proof.Machine.execMitre t th f s
  | .mma t th f => Sys2Proof.Machine.execMma t th f s
  | .mlatch t th f => Sys2Proof.Machine.execMlatch t th f s
  | .ocfg t th f => Sys2Proof.Machine.execOcfg t th f s
  | .ovec t th f => Sys2Proof.Machine.execOvec t th f s
  | .oclamp t th f => Sys2Proof.Machine.execOclamp t th f s
  | .odrain t th f => Sys2Proof.Machine.execOdrain t th f s
  | .vop t th f => Sys2Proof.Machine.execVop t th f s
  | .vred t th f => Sys2Proof.Machine.execVred t th f s
  | .quant t th f => Sys2Proof.Machine.execQuant t th f s
  | .rkey t th f => Sys2Proof.Machine.execRkey t th f s
  | .rctr t th f => Sys2Proof.Machine.execRctr t th f s
  | .rand t th f => Sys2Proof.Machine.execRand t th f s
  | .sample t th f => Sys2Proof.Machine.execSample t th f s
  | .bsig t th f => Sys2Proof.Machine.execBsig t th f s
  | .bcas t th f => Sys2Proof.Machine.execBcas t th f s
  | .bwait t th f => Sys2Proof.Machine.execBwait t th f s
  | .bread t th f => Sys2Proof.Machine.execBread t th f s
  | .rpush t th f => Sys2Proof.Machine.execRpush t th f s
  | .xarm t th f => Sys2Proof.Machine.execXarm t th f s
  | .xwait t th f => Sys2Proof.Machine.execXwait t th f s
  | .mwait t th f => Sys2Proof.Machine.execMwait t th f s
  | .pref t th f => Sys2Proof.Machine.execPref t th f s
  | .stag t th f => Sys2Proof.Machine.execStag t th f s
  | .trapI t th f => Sys2Proof.Machine.execTrapI t th f s
  | .brk t th f => Sys2Proof.Machine.execBrk t th f s
  | .icLineFill t th => Sys2Proof.Machine.execIcLineFill t th s
  | .seqClockGate t => Sys2Proof.Machine.execSeqClockGate t s
  | .threadWake t th => Sys2Proof.Machine.execThreadWake t th s
  | .tileDoneSignal t => Sys2Proof.Machine.execTileDoneSignal t s
  | .buoyRefusalArrival t => Sys2Proof.Machine.execBuoyRefusalArrival t s
  | .numTableUpdate t => Sys2Proof.Machine.execNumTableUpdate t s
  | .xchRecordWrite who slot n word v => Sys2Proof.Machine.execXchRecordWrite who slot n word v s
  | .launchVote slot => Sys2Proof.Machine.execLaunchVote slot s
  | .phaseLaunch slot => Sys2Proof.Machine.execPhaseLaunch slot s
  | .phaseEnd slot => Sys2Proof.Machine.execPhaseEnd slot s
  | .kerfEnd slot => Sys2Proof.Machine.execKerfEnd slot s
  | .xchSendWord t desc n => Sys2Proof.Machine.execXchSendWord t desc n s
  | .xchRecvWord t a => Sys2Proof.Machine.execXchRecvWord t a s
  | .nodeWordCombine node a => Sys2Proof.Machine.execNodeWordCombine node a s
  | .buoyAdd src b x => Sys2Proof.Machine.execBuoyAdd src b x s
  | .buoySet src b x => Sys2Proof.Machine.execBuoySet src b x s
  | .buoyCas src b cmp x => Sys2Proof.Machine.execBuoyCas src b cmp x s
  | .buoyRead src b => Sys2Proof.Machine.execBuoyRead src b s
  | .buoyWaitRequest w b => Sys2Proof.Machine.execBuoyWaitRequest w b s
  | .watchRegistration who b w => Sys2Proof.Machine.execWatchRegistration who b w s
  | .watchTimeout b n => Sys2Proof.Machine.execWatchTimeout b n s
  | .watchCancel b target cookie => Sys2Proof.Machine.execWatchCancel b target cookie s
  | .gateSubscribe k b => Sys2Proof.Machine.execGateSubscribe k b s
  | .buoyOwnerReset b => Sys2Proof.Machine.execBuoyOwnerReset b s
  | .buoyPreempt b => Sys2Proof.Machine.execBuoyPreempt b s
  | .buoyOpAdd who b x => Sys2Proof.Machine.execBuoyOpAdd who b x s
  | .buoyOpSet who b x => Sys2Proof.Machine.execBuoyOpSet who b x s
  | .ringEnable who r v => Sys2Proof.Machine.execRingEnable who r v s
  | .ringDisable who r => Sys2Proof.Machine.execRingDisable who r s
  | .ringStopped r => Sys2Proof.Machine.execRingStopped r s
  | .ringDoorbell who r tail => Sys2Proof.Machine.execRingDoorbell who r tail s
  | .completionDoorbell who r head => Sys2Proof.Machine.execCompletionDoorbell who r head s
  | .ringEntryStart r fetchOk => Sys2Proof.Machine.execRingEntryStart r fetchOk s
  | .ringHeadRelease r => Sys2Proof.Machine.execRingHeadRelease r s
  | .ringEntryComplete r writeOk => Sys2Proof.Machine.execRingEntryComplete r writeOk s
  | .ringSignalAnswer r writeOk => Sys2Proof.Machine.execRingSignalAnswer r writeOk s
  | .ringStallRelease r => Sys2Proof.Machine.execRingStallRelease r s
  | .dmaLoad r => Sys2Proof.Machine.execDmaLoad r s
  | .dmaStore r => Sys2Proof.Machine.execDmaStore r s
  | .dmaCopy r => Sys2Proof.Machine.execDmaCopy r s
  | .dmaMitre r => Sys2Proof.Machine.execDmaMitre r s
  | .dmaSync r => Sys2Proof.Machine.execDmaSync r s
  | .arbiterGrant k q reqs => Sys2Proof.Machine.execArbiterGrant k q reqs s
  | .hbmAccessComplete k a => Sys2Proof.Machine.execHbmAccessComplete k a s
  | .refresh k q => Sys2Proof.Machine.execRefresh k q s
  | .hbmScrubDone k => Sys2Proof.Machine.execHbmScrubDone k s
  | .arbCtlWrite who k v => Sys2Proof.Machine.execArbCtlWrite who k v s
  | .pcRetire who k q => Sys2Proof.Machine.execPcRetire who k q s
  | .pcReturn who k q => Sys2Proof.Machine.execPcReturn who k q s
  | .pcSparingCopyDone k q => Sys2Proof.Machine.execPcSparingCopyDone k q s
  | .pcReturnDone k q ok => Sys2Proof.Machine.execPcReturnDone k q ok s
  | .grad r => Sys2Proof.Machine.execGrad r s
  | .discard r => Sys2Proof.Machine.execDiscard r s
  | .redo r => Sys2Proof.Machine.execRedo r s
  | .setRule r => Sys2Proof.Machine.execSetRule r s
  | .setShard r => Sys2Proof.Machine.execSetShard r s
  | .gateMessage k b status value => Sys2Proof.Machine.execGateMessage k b status value s
  | .planeUpdatePassEnd k e ok => Sys2Proof.Machine.execPlaneUpdatePassEnd k e ok s
  | .planeZeroingDone k e => Sys2Proof.Machine.execPlaneZeroingDone k e s
  | .stepDecision1 slot => Sys2Proof.Machine.execStepDecision1 slot s
  | .stepSettle slot => Sys2Proof.Machine.execStepSettle slot s
  | .stepDecision2 slot => Sys2Proof.Machine.execStepDecision2 slot s
  | .stepRollback slot => Sys2Proof.Machine.execStepRollback slot s
  | .voteTimeout slot => Sys2Proof.Machine.execVoteTimeout slot s
  | .settleTimeout slot => Sys2Proof.Machine.execSettleTimeout slot s
  | .steerEntryCheck slot => Sys2Proof.Machine.execSteerEntryCheck slot s
  | .steerPush who slot => Sys2Proof.Machine.execSteerPush who slot s
  | .reshardStepEnd slot agree => Sys2Proof.Machine.execReshardStepEnd slot agree s
  | .jicenPortEnable who j v => Sys2Proof.Machine.execJicenPortEnable who j v s
  | .jicenPortDisable who j => Sys2Proof.Machine.execJicenPortDisable who j s
  | .jicenTrainingDone j => Sys2Proof.Machine.execJicenTrainingDone j s
  | .jicenTrainingTimeout j => Sys2Proof.Machine.execJicenTrainingTimeout j s
  | .neighbourIdentity j n => Sys2Proof.Machine.execNeighbourIdentity j n s
  | .portAdmit j markCount => Sys2Proof.Machine.execPortAdmit j markCount s
  | .portAdmissionMark j => Sys2Proof.Machine.execPortAdmissionMark j s
  | .jcCmdRetrain who j => Sys2Proof.Machine.execJcCmdRetrain who j s
  | .jcCmdSwap who j lane => Sys2Proof.Machine.execJcCmdSwap who j lane s
  | .jicenSlot j => Sys2Proof.Machine.execJicenSlot j s
  | .compiledFrame j a => Sys2Proof.Machine.execCompiledFrame j a s
  | .put j x => Sys2Proof.Machine.execPut j x s
  | .putAck j x => Sys2Proof.Machine.execPutAck j x s
  | .get j x => Sys2Proof.Machine.execGet j x s
  | .getData j x => Sys2Proof.Machine.execGetData j x s
  | .buoyMessage j x => Sys2Proof.Machine.execBuoyMessage j x s
  | .buoyRsp j x => Sys2Proof.Machine.execBuoyRsp j x s
  | .vote j v => Sys2Proof.Machine.execVote j v s
  | .laneSwap j lane spare markCount => Sys2Proof.Machine.execLaneSwap j lane spare markCount s
  | .laneSwitch j lane => Sys2Proof.Machine.execLaneSwitch j lane s
  | .laneDuplicationEnd j lane => Sys2Proof.Machine.execLaneDuplicationEnd j lane s
  | .laneFault j lane symbols lost => Sys2Proof.Machine.execLaneFault j lane symbols lost s
  | .ackBlock j a => Sys2Proof.Machine.execAckBlock j a s
  | .time j w => Sys2Proof.Machine.execTime j w s
  | .calReq j tag => Sys2Proof.Machine.execCalReq j tag s
  | .calRsp j c => Sys2Proof.Machine.execCalRsp j c s
  | .reservedControlBlock j ty crcOk => Sys2Proof.Machine.execReservedControlBlock j ty crcOk s
  | .replayTimeout j => Sys2Proof.Machine.execReplayTimeout j s
  | .jicenEntryPut r => Sys2Proof.Machine.execJicenEntryPut r s
  | .jicenEntryGet r => Sys2Proof.Machine.execJicenEntryGet r s
  | .jicenEntryBuoy r => Sys2Proof.Machine.execJicenEntryBuoy r s
  | .rwaitPoll j n => Sys2Proof.Machine.execRwaitPoll j n s
  | .rwaitTimeout j n => Sys2Proof.Machine.execRwaitTimeout j n s
  | .feedData e x => Sys2Proof.Machine.execFeedData e x s
  | .feedAck e x => Sys2Proof.Machine.execFeedAck e x s
  | .nonFeedFrame e x => Sys2Proof.Machine.execNonFeedFrame e x s
  | .pfcPauseFrame e xoff => Sys2Proof.Machine.execPfcPauseFrame e xoff s
  | .feedXon e => Sys2Proof.Machine.execFeedXon e s
  | .feedAckTimer e k => Sys2Proof.Machine.execFeedAckTimer e k s
  | .feedRtoExpiry e k seq => Sys2Proof.Machine.execFeedRtoExpiry e k seq s
  | .feedIdleTimeout e k => Sys2Proof.Machine.execFeedIdleTimeout e k s
  | .feedRecv r => Sys2Proof.Machine.execFeedRecv r s
  | .feedSend r => Sys2Proof.Machine.execFeedSend r s
  | .ethernetLinkDown e => Sys2Proof.Machine.execEthernetLinkDown e s
  | .ethernetLinkUp e => Sys2Proof.Machine.execEthernetLinkUp e s
  | .keyLoad die => Sys2Proof.Machine.execKeyLoad die s
  | .keyClear die => Sys2Proof.Machine.execKeyClear die s
  | .domain die => Sys2Proof.Machine.execDomain die s
  | .lock die => Sys2Proof.Machine.execLock die s
  | .unlock die => Sys2Proof.Machine.execUnlock die s
  | .measureReq die => Sys2Proof.Machine.execMeasureReq die s
  | .measureRsp die => Sys2Proof.Machine.execMeasureRsp die s
  | .zeroiseMessage die => Sys2Proof.Machine.execZeroiseMessage die s
  | .keeperBusAck die nak => Sys2Proof.Machine.execKeeperBusAck die nak s
  | .debugGate die => Sys2Proof.Machine.execDebugGate die s
  | .keeperBusTimeout die => Sys2Proof.Machine.execKeeperBusTimeout die s
  | .periodicMeasure => Sys2Proof.Machine.execPeriodicMeasure s
  | .mbGo who ch => Sys2Proof.Machine.execMbGo who ch s
  | .mbAck who ch => Sys2Proof.Machine.execMbAck who ch s
  | .getStatus => Sys2Proof.Machine.execGetStatus s
  | .getIdentity => Sys2Proof.Machine.execGetIdentity s
  | .getMeasurements => Sys2Proof.Machine.execGetMeasurements s
  | .attest => Sys2Proof.Machine.execAttest s
  | .deliverJobKey tagOk => Sys2Proof.Machine.execDeliverJobKey tagOk s
  | .sealingConfirm slot => Sys2Proof.Machine.execSealingConfirm slot s
  | .loadFeedEpoch => Sys2Proof.Machine.execLoadFeedEpoch s
  | .sealExport => Sys2Proof.Machine.execSealExport s
  | .teardown => Sys2Proof.Machine.execTeardown s
  | .teardownScrubDone slot => Sys2Proof.Machine.execTeardownScrubDone slot s
  | .kemKeyExpiry slot => Sys2Proof.Machine.execKemKeyExpiry slot s
  | .openDomain => Sys2Proof.Machine.execOpenDomain s
  | .scrubPartition => Sys2Proof.Machine.execScrubPartition s
  | .flashWrite => Sys2Proof.Machine.execFlashWrite s
  | .flashCommit v => Sys2Proof.Machine.execFlashCommit v s
  | .advanceSvn => Sys2Proof.Machine.execAdvanceSvn s
  | .galleryRestart v => Sys2Proof.Machine.execGalleryRestart v s
  | .debugEnable => Sys2Proof.Machine.execDebugEnable s
  | .debugDisable => Sys2Proof.Machine.execDebugDisable s
  | .zeroise => Sys2Proof.Machine.execZeroise s
  | .hiMcmdGo who => Sys2Proof.Machine.execHiMcmdGo who s
  | .hiMcmdAck who => Sys2Proof.Machine.execHiMcmdAck who s
  | .hostNop via => Sys2Proof.Machine.execHostNop via s
  | .modQuery via => Sys2Proof.Machine.execModQuery via s
  | .modHalt via => Sys2Proof.Machine.execModHalt via s
  | .modResume via => Sys2Proof.Machine.execModResume via s
  | .modStandby via => Sys2Proof.Machine.execModStandby via s
  | .modWake via => Sys2Proof.Machine.execModWake via s
  | .partCreate via => Sys2Proof.Machine.execPartCreate via s
  | .partDelete via => Sys2Proof.Machine.execPartDelete via s
  | .partPower via => Sys2Proof.Machine.execPartPower via s
  | .planLoad via => Sys2Proof.Machine.execPlanLoad via s
  | .progLoad via => Sys2Proof.Machine.execProgLoad via s
  | .ctxNew via => Sys2Proof.Machine.execCtxNew via s
  | .jobStart via stream => Sys2Proof.Machine.execJobStart via stream s
  | .jobStop via => Sys2Proof.Machine.execJobStop via s
  | .reshard via => Sys2Proof.Machine.execReshard via s
  | .exportCheckpoint via countsOk => Sys2Proof.Machine.execExportCheckpoint via countsOk s
  | .ctxSave via => Sys2Proof.Machine.execCtxSave via s
  | .ctxSaveWritten slot => Sys2Proof.Machine.execCtxSaveWritten slot s
  | .ctxRestore via tagsOk stream => Sys2Proof.Machine.execCtxRestore via tagsOk stream s
  | .ctxReset via => Sys2Proof.Machine.execCtxReset via s
  | .ctxDiscard via => Sys2Proof.Machine.execCtxDiscard via s
  | .buoyAlloc via => Sys2Proof.Machine.execBuoyAlloc via s
  | .buoyRelease via => Sys2Proof.Machine.execBuoyRelease via s
  | .buoyWatch via => Sys2Proof.Machine.execBuoyWatch via s
  | .buoyWatchCancel via => Sys2Proof.Machine.execBuoyWatchCancel via s
  | .csrRead via => Sys2Proof.Machine.execCsrRead via s
  | .csrWrite via => Sys2Proof.Machine.execCsrWrite via s
  | .telemRead via => Sys2Proof.Machine.execTelemRead via s
  | .lampTest via => Sys2Proof.Machine.execLampTest via s
  | .lampTestEnd o => Sys2Proof.Machine.execLampTestEnd o s
  | .registerWrite who space addr wide v => Sys2Proof.Machine.execRegisterWrite who space addr wide v s
  | .errFeValidWrite who v => Sys2Proof.Machine.execErrFeValidWrite who v s
  | .handlingDeadline slot => Sys2Proof.Machine.execHandlingDeadline slot s
  | .moduleFatalDeadline => Sys2Proof.Machine.execModuleFatalDeadline s
  | .zeroiseStartTimeout => Sys2Proof.Machine.execZeroiseStartTimeout s
  | .zeroiseRoundDone => Sys2Proof.Machine.execZeroiseRoundDone s
  | .partitionFaultReached slot => Sys2Proof.Machine.execPartitionFaultReached slot s
  | .pcieLinkUp => Sys2Proof.Machine.execPcieLinkUp s
  | .transitFrame j x => Sys2Proof.Machine.execTransitFrame j x s
  | .unitInstructionDone t u => Sys2Proof.Machine.execUnitInstructionDone t u s
  | .doeRequest q => Sys2Proof.Machine.execDoeRequest q s
  | .partitionPowerDownDone slot => Sys2Proof.Machine.execPartitionPowerDownDone slot s
  | .modStandbyDone => Sys2Proof.Machine.execModStandbyDone s

end Sys2Proof.Machine
end

