-- ==== Sys2Proof/Machine/Step.lean ====
section
/-! DEFINITION. The step of the block: the command at the front of the queue, or one beacon strobe when no command waits (log entry 7). -/

namespace Sys2Proof.Machine

/-- An idle step is one beacon strobe: the count advances by one while it runs, but a mark is reached only by the MARK command (R249, R250; log entry 7). -/
def idle (s : State) : State :=
  { s with m := if s.m.running ∧ (s.m.count.toNat + 1) % s.m.markPeriod ≠ 0 then s.m.advance 1 else s.m }

/-- One step: the command at the front of the queue runs with the queue's rest. -/
def step (s : State) : Host.Outcome State Fault Refusal :=
  match s.pending with
  | [] => .next (idle s)
  | c :: r => exec c { s with pending := r }

/-- No word spells a command (the table gives no bits): the state is unchanged. -/
def State.withFetchWord (s : State) (nbits w : Nat) : State :=
  match decodeTableWord nbits w with
  | some c => { s with pending := c :: s.pending }
  | none => s

end Sys2Proof.Machine
end

