-- ==== Sys2Proof/Safety.lean ====
section
/-! DEFINITION. The words in which the statements are made: what completes, who may reach a tile's registers, when a thread can issue and what its completion leaves; the canonical form of memory and registers. -/

namespace Sys2Proof.Safety

open Sys2Proof.Machine

/-- The state's memory and register tables are in canonical form. -/
def Canonical (s : State) : Prop :=
  Memory.wf s.m.mem = true ∧ Sparse.wf regReset s.m.regs = true

/-- Command `c` completes in state `s`: it answers a next state whose queue is that of `s` and whose module is `m'`. -/
def Does (c : Instr) (s : State) (m' : Mod) : Prop := exec c s = .next { s with m := m' }

/-- A write of tile `t`'s window by `who` reaches its registers: the rails are up, the lock is open, no scrub runs, the tile has power (R85, R90, R468). -/
def TileOpen (m : Mod) (who : Requester) (t : Nat) : Prop :=
  m.modState ≠ 0 ∧ m.mainUp = true ∧ t < 1280 ∧ m.shut who (m.slotOfTile t) = false ∧ m.scrubbing t = false ∧ m.tileState t ≠ 0

/-- Thread `th` of tile `t` can issue an instruction that names the g registers `regs`, and the fetch finds it in the program and the cache (R101, R105, R106). -/
def CanRun (m : Mod) (t th : Nat) (regs : List Nat) : Prop :=
  m.canIssue t th regs = true ∧ (m.thread t th).pc.toNat < m.textLen t ∧ m.icHas t (Mod.icLine (m.thread t th).pc) = true

/-- The module after thread `th` of tile `t` completes an instruction of effect `f` in sequential flow: the fetched line is the most recently used, CNT_ISSUE counts, the round robin goes on, the thread goes on; `late` when its result comes after the next issue (R101, R105, R111). -/
def Retired (m : Mod) (t th : Nat) (f : Mod → Mod) (late : Bool := false) : Mod :=
  ((f (m.icTouch t (Mod.icLine (m.thread t th).pc))).issued t th late).modThread t th Mod.retire

/-- The module after the thread's instruction of effect `f` jumps to `pc`. -/
def Jumped (m : Mod) (t th : Nat) (f : Mod → Mod) (pc : W20) : Mod :=
  ((f (m.icTouch t (Mod.icLine (m.thread t th).pc))).issued t th true).modThread t th (fun x => { x with pc := pc })

/-- The module after the thread's instruction issues and waits for `w` (R107). -/
def Waits (m : Mod) (t th : Nat) (w : WaitRec) : Mod :=
  ((m.icTouch t (Mod.icLine (m.thread t th).pc)).issued t th false).enterWait t th w

/-- The module with the fetched line of the thread's instruction the most recently used (R105). -/
def Fetched (m : Mod) (t th : Nat) : Mod := m.icTouch t (Mod.icLine (m.thread t th).pc)

/-- The module after the thread's instruction joins queue `u` of its tile as the entry `e` (R102). -/
def Queued (m : Mod) (t th u : Nat) (e : QEntry) : Mod :=
  Retired m t th (fun k => (k.modTile t (fun y => { y with issueSeq := y.issueSeq + 1 })).setQueue t u (k.queue t u ++ [e]))

/-- The queue entry of a unit instruction that the thread issues now: opcode, fields, tag, operands read, issue number, generator (R102, R124, R200). -/
def entryOf (m : Mod) (t th : Nat) (op : Byte) (f : BitVec 56) (args : List W32) (gen : Option Nat) : QEntry :=
  let x := m.thread t th
  { op := op, f := f, th := th, pc := x.pc, layer := x.layer, role := x.role, args := args, seq := (m.tile t).issueSeq, gen := gen }

/-- In `m'` the entry of index `i` of ring `r` is done with success and the bytes it moved, and the ring's other entries in progress are those of `m` (R302). -/
def Finished (r : Nat) (i : W32) (bytes : Nat) (m m' : Mod) : Prop :=
  (m'.ringOf r).prog = (m.ringOf r).prog.map (fun e => if e.index = i then { e with done := true, status := 0, bytes := bytes, detail := [] } else e)

/-- Frame `x` is what port `j` takes next as message `msg` for this module, under a job whose tag it carries: an ACTIVE port, a good CRC, the next sequence, a verified tag (R409, R412, R416). -/
def Fresh (m : Mod) (j : Nat) (x : Frame) (msg : Nat) : Prop :=
  m.mainUp = true ∧ j < 6 ∧ m.portActive j = true ∧ x.crcOk = true ∧ x.seq = (m.port j).rxSeq ∧ x.dst.toNat = m.moduleId ∧ x.msg.toNat = msg ∧
  x.rsp = decide (msg % 2 = 0) ∧ x.tagOk = true

/-- The module once port `j` has taken frame `x`: its sequence is the last good one, RX_FRAMES counts, an ACK block returns one credit (R415, R416, R427). -/
def Taken (m : Mod) (j : Nat) (x : Frame) : Mod :=
  ((m.setPort j { m.port j with rxSeq := (m.port j).rxSeq + 1 }).addCnt (JC_CNT j 1) 1).sendAck j false (some (Mod.creditOf x))

/-- The dialogue `d` at the head of the Keeper's queue asks for `op` with a request that is well formed and that the Keeper's state permits (R460, R462, R463). -/
def Asked (m : Mod) (op : Nat) (d : Dialogue) : Prop :=
  m.modState ≠ 0 ∧ m.board.keeperDown = false ∧ (∃ r, m.dialogues = d :: r) ∧ d.begun = false ∧ d.ch ≠ none ∧ d.op = op ∧
  (m.keeperState ≠ 3 ∨ op = 1) ∧ Mod.requestOk d = true ∧ m.keeperAllows op = true

/-- Message `x` is on the wire to a die of the keeper bus, not answered, and both ends have rails (R446, R447). -/
def OnWire (m : Mod) (die : Nat) (x : KMsg) : Prop :=
  die < 31 ∧ m.modState ≠ 0 ∧ m.board.keeperDown = false ∧ (∃ r, (m.kdie die).out = x :: r) ∧ (m.kdie die).answers = []

/-- The command that packet `b` of channel `ch` becomes (R498 to R500). -/
def commandOf (m : Mod) (ch : Channel) (b : List Byte) : HostCmd :=
  { ch := ch, packet := b, index := match ch with | .ring r => BitVec.ofNat 32 (m.nextIndex r) | .mcmd => 0 }

/-- The module once Gallery has taken packet `b` of channel `ch`: the command is in progress, and its ring entry begun. -/
def Taking (m : Mod) (ch : Channel) (b : List Byte) : Mod :=
  let n := match ch with
    | .ring r => { m.addEntry r { index := (commandOf m ch b).index, image := b, begun := true } with hostLast := r }
    | .mcmd => m
  { n with cmds := n.cmds ++ [commandOf m ch b] }

/-- Channel `ch` offers packet `b` of opcode `op`, and Gallery takes it: it serves, the packet is well formed, no command of its slot is in its way (R498 to R501). -/
def Offers (m : Mod) (ch : Channel) (op : Nat) (b : List Byte) : Prop :=
  m.offered ch = some b ∧ m.hostServed = true ∧ packetOk b = true ∧ pkOp b = op ∧ m.slotBusy b = false

/-- And the checks common to every opcode pass (R503, R504). -/
def Serves (m : Mod) (ch : Channel) (op : Nat) (b : List Byte) : Prop :=
  Offers m ch op b ∧ (Taking m ch b).commonCode ch b = 0

end Sys2Proof.Safety
end

