-- ==== Sys2Proof/Certificates/Slice0/Obligations.lean ====
section
/-! DEFINITION. The statements for the provers, each a proposition about the model that follows the rules of the spec. -/

open Sys2Proof Sys2Proof.Machine Sys2Proof.Machine.Mod Sys2Proof.Safety

/-! ## The block: queue, reset, memory, registers -/

/-- The command at the front of the queue runs as `exec` of it on the state with the queue's rest. -/
def Obligations.StepRunsFront : Prop :=
  ∀ (c : Instr) (r : List Instr) (m : Mod), step { pending := c :: r, m := m } = exec c { pending := r, m := m }

/-- With no command waiting a step is one beacon strobe (the model's choice, log entry 7): the count advances by one while it runs, and stays where it would come to a mark (R249, R250). Every command, in every state, answers a next state whose queue is the one it was given. -/
def Obligations.EveryStepAnswersNext : Prop :=
  (∀ s : State, s.pending = [] → s.m.halted = false → s.m.bcnState ≠ 4 →
    ((s.m.running = true ∧ (s.m.count.toNat + 1) % s.m.markPeriod ≠ 0 → step s = .next { s with m := { s.m with count := s.m.count + 1 } }) ∧
     (s.m.running = false ∨ (s.m.count.toNat + 1) % s.m.markPeriod = 0 → step s = .next s))) ∧
  (∀ (c : Instr) (s : State), ∃ t, exec c s = .next t ∧ t.pending = s.pending)

/-- After reset every register of the module global window holds the reset value of R36, and the module is in STANDBY with START_PHASE 0x0. -/
def Obligations.ResetModuleWindow : Prop :=
  State.reset.pending = [] ∧ State.reset.m.rd 0x0000 = 0x3233_4A43_5657_0100 ∧ State.reset.m.rd 0x0008 = 0x0000_0620_060B_0A08 ∧
  State.reset.m.rd MOD_STATE = 1 ∧ State.reset.m.rd MOD_DIES = 0xC000_0000 ∧ State.reset.m.rd MOD_PART_MAP = 0 ∧
  State.reset.m.modState = 1 ∧ State.reset.m.startPhase = 0 ∧ State.reset.m.count = 0 ∧ State.reset.m.running = false

/-- Memory is in canonical form after reset. -/
def Obligations.ResetCanonical : Prop :=
  Canonical State.reset

/-- A store of bytes keeps the canonical form, reads back, and leaves every other byte alone (R5: little-endian, bytes upward). A write of a register field reads back, leaves the other fields of the word and every other register, keeps the canonical form, and leaves memory alone. A counter adds, and saturates at all ones (R88). -/
def Obligations.StoresAndRegisterFields : Prop :=
  (∀ (m : Mod) (a n v : Nat), Memory.wf m.mem = true →
    Memory.wf (m.stNat a n v).mem = true ∧ (m.stNat a n v).ldNat a n = v % 2 ^ (8 * n) ∧
    (∀ b, b < a ∨ a + n ≤ b → (m.stNat a n v).ldByte b = m.ldByte b) ∧ (m.stNat a n v).regs = m.regs) ∧
  (∀ (m : Mod) (a lo len v : Nat), lo + len ≤ 64 →
    (m.setF a lo len v).fld a lo len = v % 2 ^ len ∧
    (∀ p q, p + q ≤ 64 → p + q ≤ lo ∨ lo + len ≤ p → (m.setF a lo len v).fld a p q = m.fld a p q) ∧
    (∀ b, b ≠ a → (m.setF a lo len v).rd b = m.rd b) ∧ (m.setF a lo len v).mem = m.mem ∧
    (Sparse.wf regReset m.regs = true → Sparse.wf regReset (m.setF a lo len v).regs = true)) ∧
  (∀ (m : Mod) (a n : Nat),
    ((m.rd a).toNat + n < 2 ^ 64 → ((m.addCnt a n).rd a).toNat = (m.rd a).toNat + n) ∧
    (2 ^ 64 ≤ (m.rd a).toNat + n → (m.addCnt a n).rd a = BitVec.allOnes 64) ∧
    (∀ b, b ≠ a → (m.addCnt a n).rd b = m.rd b))

/-! ## Power, start-up and the board -/

/-- The start-up chain (R37, R570): each phase ends into the next. Keeper boot with every check passed brings the Keeper to RUN and Gallery up from the boot bank; a failed ROM, PUF, entropy or replay check raises its error (R459). The supply and module-reset events (R37, R556, R573, R574). -/
def Obligations.StartUpAndSupply : Prop :=
  (∀ s : State,
    (∀ a, s.m.modState = 0 → Does (.powerOn a) s { s.m with board := { s.m.board with pwrEn := true, maddr := a } }) ∧
    (s.m.board.pwrEn = true → s.m.board.pwrGood = false → s.m.board.modRstLow = false → (s.m.modState = 0 ∨ s.m.modState = 1 ∧ s.m.startPhase = 0) →
      Does .standbyRailsGood s (({ s.m.goState 1 1 with board := { s.m.board with pwrGood := true } }).setFlag PWR_STATUS 0 true)) ∧
    (s.m.modState = 1 → s.m.startPhase = 2 → s.m.startHeld = false → s.m.fld KPR_STATUS 0 4 = 2 →
      Does .mainRailsRamped s (({ s.m.goState 1 3 with board := { s.m.board with wake := false } }).setFlag PWR_STATUS 1 true)) ∧
    (∀ o, s.m.modState = 1 → s.m.startPhase = 3 → s.m.startHeld = false →
      Does (.tileSelfTestDone o) s (s.m.selfTest o) ∧ (s.m.selfTest o).modState = 1 ∧ (s.m.selfTest o).startPhase = 4) ∧
    (∀ f, s.m.modState = 1 → s.m.startPhase = 4 → s.m.startHeld = false →
      Does (.hbmTrainingDone f) s (s.m.trainHbm f) ∧ (s.m.trainHbm f).modState = 1 ∧ (s.m.trainHbm f).startPhase = 5) ∧
    (s.m.modState = 1 → s.m.startPhase = 5 → s.m.startHeld = false →
      Does .jicenTrainingPhaseDone s (((s.m.goState 1 6).setF BCN_STATUS 0 4 1).setF BCN_STATUS 8 5 31)) ∧
    (s.m.modState = 1 → s.m.startPhase = 6 → s.m.startHeld = false → s.m.cmds = [] →
      Does .beaconLockPhaseEnd s (s.m.goState 2 0))) ∧
  (∀ (s : State) (o : BootChecks), s.m.modState = 1 → s.m.startPhase = 1 → s.m.startHeld = false → s.m.keeperState = 0 → s.m.fatalStopped = false →
    Does (.keeperBootComplete o) s (s.m.bootKeeper o) ∧
    (o.romOk = false → s.m.bootKeeper o = s.m.raiseKeeper 0x0F28 31 0 none) ∧
    (o.romOk = true → o.pufOk = false → s.m.bootKeeper o = s.m.raiseKeeper 0x0F23 31 0 none) ∧
    (o.romOk = true → o.pufOk = true → o.entropyOk = false → s.m.bootKeeper o = s.m.raiseKeeper 0x0F29 31 0 none) ∧
    (o.romOk = true → o.pufOk = true → o.entropyOk = true → o.replayOk = false → s.m.bootKeeper o = s.m.raiseKeeper 0x0F27 31 0 none)) ∧
  (∀ s : State,
    (∃ t, exec .powerLoss s = .next t ∧ t.m.modState = 0 ∧ t.m.board.pwrEn = false ∧ t.m.board.pwrGood = false ∧ t.m.cmds = [] ∧ t.m.keys = [] ∧
      (∀ a, a < flashAt 0 → t.m.ldByte a = 0) ∧ (∀ a, flashAt 0 ≤ a → a < stagingAt 0 0 → t.m.ldByte a = s.m.ldByte a)) ∧
    (s.m.modState ≠ 0 → Does .inputOvervoltage s ((s.m.noteStatus 0).raisePower 0x1124 0 none)) ∧
    (s.m.modState ≠ 0 → s.m.modState ≠ 5 →
      Does .modRstNAssert s ({ s.m with board := { s.m.board with modRstLow := true } }.raisePower 0x1128 0 none)) ∧
    (s.m.modState = 5 → s.m.board.modRstLow = true →
      ∃ t, exec .modRstNRelease s = .next t ∧ t.m.modState = 1 ∧ t.m.startPhase = 1 ∧ t.m.board.pwrGood = true ∧ t.m.board.modRstLow = false ∧ t.m.keys = []) ∧
    (s.m.modState = 5 → ∃ t, exec .darkMainRailRemoval s = .next t ∧ t.m.tiles = [] ∧ t.m.hbmStacks = [] ∧ t.m.ports = [] ∧
      t.m.flag PWR_STATUS 1 = false ∧ (∀ a, galleryAt 0 ≤ a → t.m.ldByte a = s.m.ldByte a)) ∧
    (∀ d, s.m.modState ≠ 0 → d < 24 → Does (.railFault d) s (s.m.raisePower 0x1126 d (s.m.slotOfDie (computeDieOf d)))) ∧
    (∀ d, s.m.modState ≠ 0 → 24 ≤ d → d < 32 → Does (.railFault d) s (s.m.raisePower 0x1127 d none)) ∧
    (∀ i, s.m.mainUp = true → i < 16 → (s.m.half i).target.isSome = true →
      Does (.railSettled i) s (s.m.setHalf i { s.m.half i with railSettled := true })))

/-- THERM_N (R569): a new low level is counted and halts READY and RUN; the release of the board shows in PWR_STATUS. Throttling and capping (R563 to R566, R568): the level rises by one above the cap, falls by one below 98 % of it, and T 8 above the cap is 0x1122. The throttle level stays within 0 to 8 and moves by at most one (R563). -/
def Obligations.ThermalAndPower : Prop :=
  (∀ s : State,
    (s.m.modState = 2 ∨ s.m.modState = 3 → s.m.thermLow = false →
      ∃ t, exec .thermNAssert s = .next t ∧ t.m.board.boardTherm = true ∧ t.m.modState = 4 ∧ t.m.wasState = s.m.modState ∧ t.m.flag PWR_STATUS 11 = true) ∧
    (s.m.board.thermSrc = [] → ∃ t, exec .thermNDeassert s = .next t ∧ t.m.board.boardTherm = false ∧ t.m.flag PWR_STATUS 11 = false ∧ t.m.modState = s.m.modState)) ∧
  (∀ s : State,
    (∀ p, s.m.modState ≠ 0 →
      ∃ t, exec (.throttleUpdate p) s = .next t ∧
        (¬ (nextThrottle s.m.throttle p.watts s.m.capW = 8 ∧ s.m.capW < p.watts) →
          t.m.throttle = nextThrottle s.m.throttle p.watts s.m.capW ∧ t.m.fld PWR_IN 0 16 = p.watts % 65536 ∧ t.m.mem = s.m.mem)) ∧
    (∀ p, s.m.modState ≠ 0 → Does (.headroomUpdate p) s (s.m.setF PWR_HEADROOM 0 16 (headroomOf s.m.capW p).toNat)) ∧
    (∀ p, s.m.mainUp = true → s.m.throttle = 8 → 105 * s.m.powerMax < 100 * p →
      Does (.overpowerDetect p) s ((((s.m.addCnt CNT_OVERPOWER 1).noteStatus 2).raisePower 0x1123 0 none).driveTherm overpowerSrc)) ∧
    (s.m.board.thermSrc = [overpowerSrc] → s.m.board.boardTherm = false →
      ∃ t, exec .thermRelease s = .next t ∧ t.m.board.thermSrc = [] ∧ t.m.flag PWR_STATUS 10 = false ∧ t.m.modState = s.m.modState) ∧
    (∀ n v, s.m.modState ≠ 0 → n < 16 → s.m.board.thermSrc.contains n = false → hotter v 95 = false → atLeast v 105 = false → atLeast v 115 = false →
      Does (.sensorSample [{ n := n, temp := v, failed := false }]) s
        ({ s.m with temps := Sparse.put (fun _ => 0) s.m.temps n v }.setF (TEMP n) 0 16 v.toNat))) ∧
  (∀ t p cap : Nat, t ≤ 8 →
    nextThrottle t p cap ≤ 8 ∧ nextThrottle t p cap ≤ t + 1 ∧ t ≤ nextThrottle t p cap + 1 ∧
    (cap < p → t < 8 → nextThrottle t p cap = t + 1) ∧ (100 * p < 98 * cap → 0 < t → nextThrottle t p cap = t - 1) ∧
    (98 * cap ≤ 100 * p → p ≤ cap → nextThrottle t p cap = t))

/-- The PMBus reads answer the words and bytes of R578 and change nothing but the answer. The other transactions of the management buses (R578, R577, R469): status is cleared, the power cap is written only within its range, an unlisted code is answered with NACK, FRU data are free values, and boundary scan needs the debug TAP. The PCIe events (R492 to R494, R527, R572): a reset of the function forgets what R494 lists, the link trains to a listed rate and width. -/
def Obligations.BoardInterfaces : Prop :=
  (∀ s : State, s.m.modState ≠ 0 →
    Does .capability s (s.m.answerBytes [0xD0]) ∧ Does .pmbusRevision s (s.m.answerBytes [0x44]) ∧
    Does .statusWord s (s.m.answerWord s.m.statusWordBits) ∧ Does .statusInput s (s.m.answerBytes [s.m.statusInputByte]) ∧
    Does .statusTemperature s (s.m.answerBytes [s.m.statusTempByte]) ∧
    Does .readVin s (s.m.answerWord (linear11 false (s.m.fld PWR_IN 16 16) 100)) ∧
    Does .readIin s (s.m.answerWord (linear11 false (s.m.fld PWR_IN 32 16) 10)) ∧
    Does .readPin s (s.m.answerWord (linear11 false (s.m.fld PWR_IN 0 16) 1)) ∧
    Does .readTemperature1 s (s.m.answerWord (tempLinear s.m.hottest)) ∧
    Does .readTemperature2 s (s.m.answerWord (tempLinear (s.m.temp 56))) ∧
    Does .readTemperature3 s (s.m.answerWord (tempLinear (s.m.temp 57))) ∧
    Does .mfrId s (s.m.answerBytes [0x56, 0x57, 0x4B]) ∧
    Does .mfrModel s (s.m.answerBytes [0x56, 0x57, 0x4B, 0x2D, 0x43, 0x4A, 0x33, 0x32, 0x2D, 0x41]) ∧
    Does .mfrSerial s (s.m.answerBytes (s.m.ld (flashAt 0x1_0110) 16))) ∧
  (∀ s : State, s.m.modState ≠ 0 →
    Does .clearFaults s ({ s.m with board := { s.m.board with statusBits := 0 } }.answer 0) ∧
    Does (.mfrPowerCap none) s (s.m.answerWord (linear11 false s.m.capW 1)) ∧
    (∀ w, 2000 ≤ fromLinear11 w → fromLinear11 w ≤ s.m.powerMax →
      Does (.mfrPowerCap (some w)) s ((s.m.setF PWR_CAP 0 16 (fromLinear11 w)).answer 0)) ∧
    (∀ w, fromLinear11 w < 2000 ∨ s.m.powerMax < fromLinear11 w → Does (.mfrPowerCap (some w)) s (s.m.noteRange 0x1101 none).nackBus) ∧
    Does (.pmbusUnsupportedCode 0x00) s s.m.nackBus ∧
    (∀ o n, Does (.fruRead o n) s (s.m.answerBytes ((upto n).map (fun i => Config.fru (o + i))))) ∧
    Does .bypass s (loadTap s.m 0 0) ∧ Does .idcode s (loadTap s.m 1 0x1C13_20B5) ∧
    Does .samplePreload s (loadTap s.m (if s.m.debugOn then 2 else 0) 0) ∧ Does .extest s (loadTap s.m (if s.m.debugOn then 3 else 0) 0)) ∧
  (∀ s : State,
    (s.m.modState ≠ 0 → ∃ t, exec .perstNAssert s = .next t ∧ t.m.linkUp = false ∧ t.m.board.perstLow = true ∧ t.m.msix = [] ∧ t.m.ide = [] ∧
      (∀ c, c ∈ t.m.cmds → c.ch ≠ Channel.mcmd)) ∧
    (s.m.modState ≠ 0 → Does .perstNDeassert s { s.m with board := { s.m.board with perstLow := false } }) ∧
    (s.m.linkUp = true → ∃ t, exec .functionLevelReset s = .next t ∧ t.m.msix = [] ∧ t.m.msixPending = [] ∧ t.m.ide = [] ∧
      (∀ c, c ∈ t.m.cmds → c.ch ≠ Channel.mcmd)) ∧
    (s.m.linkUp = true → Does .pcieLinkDown s ({ s.m with linkUp := false }.raise { code := 0x0E24, kind := 8 })) ∧
    (s.m.modState ≠ 0 → s.m.linkUp = false → s.m.board.perstLow = false →
      ∃ t, exec .pcieLinkUp s = .next t ∧ t.m.linkUp = true ∧ 1 ≤ t.m.fld HI_STATUS 12 4 ∧ t.m.fld HI_STATUS 12 4 ≤ 6 ∧
        (t.m.fld HI_STATUS 8 4 = 1 ∨ t.m.fld HI_STATUS 8 4 = 2 ∨ t.m.fld HI_STATUS 8 4 = 4)) ∧
    (s.m.linkUp = true → s.m.hostServed = true →
      (∀ b, Does (.doeRequest (.spdm b)) s (s.m.answer 0)) ∧
      (∀ k, k < 4 → Does (.doeRequest (.ideKeySet k)) s ((s.m.setIde (k :: s.m.ide.erase k)).answer 0)) ∧
      (∀ k, Does (.doeRequest (.ideKeyStop k)) s ((s.m.setIde (s.m.ide.erase k)).answer 0))))

/-! ## The Beacon and the marks -/

/-- The Beacon's registers (R254, R255, R262, R269): an alignment or measurement command is accepted outside RUN and with no partition, a legal BCN_CTL is written outside RUN, and a frequency within its range is staged for the mark and the idle PLL sent for it. The Beacon's states (R253, R254, R256, R258): a REF_MASTER starts its count at 0 and is LOCKED at once, a follower aligns to SRC_PORT and is LOCKED by a residual below 0.25 bt; the loss of the PLL is 0x0725, the loss of the source HOLDOVER with 0x0721. BCN_1PPS (R267). -/
def Obligations.BeaconStatesAndWrites : Prop :=
  (∀ (s : State) (who : Requester), s.m.modState ≠ 0 →
    (s.m.modState ≠ 3 → s.m.rd MOD_PART_MAP = 0 → Does (.bcnCmdAlign who) s (s.m.enterAligning.answer 0)) ∧
    (s.m.modState = 3 ∨ s.m.rd MOD_PART_MAP ≠ 0 → who ≠ .host → Does (.bcnCmdAlign who) s (s.m.answer 0x0704)) ∧
    Does (.bcnCmdRecal who) s (s.m.recalibrate.answer 0) ∧
    (∀ v w, s.m.modState ≠ 3 → w = merge 0x1F_0777 (s.m.rd BCN_CTL) v → w ≠ s.m.rd BCN_CTL → bcnCtlOk w = true →
      Does (.bcnCtlWrite who v) s ((s.m.wr BCN_CTL w).answer 0)) ∧
    (∀ i v w, i < 16 → s.m.halfSealedSteering i = false → w = merge 0xFF_00FF (s.m.stagedWord (HALF_CLK i)) v →
      s.m.freqOk (bf w 0 8) = true → s.m.freqOk (bf w 16 8) = true →
      Does (.halfClkWrite who i v) s (((s.m.stage (HALF_CLK i) w).retarget i).answer 0))) ∧
  (∀ s : State,
    (s.m.bcnState = 1 → s.m.bcnSource = 0 → ∃ t, exec .modulePllLocked s = .next t ∧ t.m.bcnState = 3 ∧ t.m.count = 0 ∧ t.m.running = true ∧
      t.m.fld BCN_STATUS 8 5 = 0 ∧ t.m.srcActive = 7 ∧ t.m.mem = s.m.mem) ∧
    (s.m.bcnState = 1 → s.m.bcnSource ≠ 0 → ∃ t, exec .modulePllLocked s = .next t ∧ t.m.bcnState = 2 ∧ t.m.count = s.m.count ∧ t.m.srcActive = s.m.srcPort ∧ t.m.fld BCN_STATUS 8 5 = 31 ∧ t.m.aligned = false) ∧
    (∀ r, s.m.bcnState = 2 → s.m.aligned = true → residNear r = true →
      ∃ t, exec (.beaconAligned r) s = .next t ∧ t.m.bcnState = 3 ∧ t.m.fld BCN_STATUS 32 16 = r.toNat ∧ t.m.count = s.m.count) ∧
    (1 ≤ s.m.bcnState → Does .modulePllLockLoss s ((((s.m.setBcnState 0).setF BCN_STATUS 8 5 31).setF BCN_STATUS 4 3 7).raise { code := 0x0725, kind := 9, unit := 0xFFFF })) ∧
    (s.m.bcnState = 3 → s.m.bcnSource ≠ 0 →
      Does (.holdoverEntry false) s ({ s.m.setBcnState 4 with holdoverBt := 0, badTimes := 0 }.raise { code := 0x0721, kind := 9, unit := 0xFFFF })) ∧
    (s.m.bcnState = 4 → 1_000_000 ≤ s.m.holdoverBt → s.m.crossLost = false →
      Does .holdoverLimit s { s.m.raise { code := 0x0722, kind := 9, unit := 0xFFFF } with crossLost := true }) ∧
    (∀ r, s.m.bcnSource ≠ 0 → s.m.bcnState = 3 → residFar r = false →
      Does (.beaconSteer r) s { (s.m.addCnt CNT_STEER 1).setF BCN_STATUS 32 16 r.toNat with crossLost := false }) ∧
    (∀ r, s.m.bcnSource ≠ 0 → s.m.bcnState = 3 → residFar r = true →
      Does (.beaconSteer r) s { ((s.m.addCnt CNT_STEER 1).setF BCN_STATUS 32 16 r.toNat).raise { code := 0x0723, kind := 9, unit := 0xFFFF } with crossLost := true })) ∧
  (∀ s : State,
    (s.m.flag BCN_PPS_CTL 1 = true → Does .ppsInEdge s ((s.m.wr BCN_PPS_CAPTURE s.m.count).addCnt CNT_PPS_IN 1)) ∧
    (s.m.flag BCN_PPS_CTL 1 = false → Does .ppsInEdge s s.m) ∧
    (s.m.flag BCN_PPS_CTL 0 = true → s.m.running = true → s.m.count.toNat % 1_250_000_000 = 0 →
      Does .ppsOutRise s { s.m with board := { s.m.board with ppsOut := true } }) ∧
    (s.m.board.ppsOut = true → 125_000 ≤ s.m.count.toNat % 1_250_000_000 →
      Does .ppsOutFall s { s.m with board := { s.m.board with ppsOut := false } }))

/-- The half clocks' own events (R263, R264, R272) and the trim of a die (R257). A mark comes at the first multiple of the mark period above the count; the count stands there when the staged fields take effect (R250, R519). A step boundary mark of a slot opens the first step of its job, or ends a step that may end (R388, R389, R511); without a job, off a mark or while HALTED it changes nothing. -/
def Obligations.MarksAndBoundaries : Prop :=
  (∀ (s : State) (i : Nat),
    (s.m.mainUp = true → i < 16 → (s.m.half i).target.isSome = true →
      Does (.halfPllLocked i) s (s.m.setHalf i { s.m.half i with pllLocked := true })) ∧
    (s.m.mainUp = true → i < 16 → Does (.halfClockSwitchDone i) s (forEach (s.m.setHalf i { s.m.half i with switching := false }) (upto 80) (fun m k => m.settlePort (80 * i + k)))) ∧
    (s.m.mainUp = true → i < 16 → Does (.halfPllLockLoss i) s
      ((s.m.setHalf i { s.m.half i with activeLost := true }).raise { code := 0x0726, slot := s.m.slotOfDie (i / 2), kind := 9, unit := i })) ∧
    (∀ v, s.m.running = true → i < 32 → Does (.trimRecalibration i v) s { s.m with trims := Sparse.put (fun _ => 0) s.m.trims i v }) ∧
    (∀ c, s.m.running = true → i < 32 → c ≠ s.m.count →
      Does (.beaconCheckWord i c) s ({ s.m with dieCounts := Sparse.put (fun _ => 0) s.m.dieCounts i (c - s.m.count) }.raise
        { code := 0x0724, slot := s.m.slotOfDie (computeDieOf i), kind := 9, unit := 0xFFFF })) ∧
    (s.m.running = true → i < 32 → ∃ t, exec (.beaconCheckWord i s.m.count) s = .next t ∧ Sparse.get (fun _ => 0) t.m.dieCounts i = 0 ∧ t.m.regs = s.m.regs ∧ t.m.ring = s.m.ring)) ∧
  (∀ s : State, s.m.running = true →
    Does .mark s (s.m.advance (s.m.nextMark - s.m.count.toNat)).markIdle ∧
    s.m.nextMark % s.m.markPeriod = 0 ∧ s.m.count.toNat < s.m.nextMark ∧ s.m.nextMark ≤ s.m.count.toNat + s.m.markPeriod ∧
    (s.m.advance (s.m.nextMark - s.m.count.toNat)).count = BitVec.ofNat 64 s.m.nextMark) ∧
  (∀ (s : State) (p : Nat), s.m.mainUp = true → p < 8 →
    (∀ j, (s.m.part p).job = some j → s.m.atMark = true → s.m.halted = false → s.m.handling p < 2 → s.m.fatalStopped = false →
      (j.started = false → Does (.stepBoundaryMark p) s (s.m.firstMark p)) ∧
      (j.started = true → s.m.stepEnds p = true → Does (.stepBoundaryMark p) s (s.m.endStep p j)) ∧
      (j.started = true → s.m.stepEnds p = false → Does (.stepBoundaryMark p) s s.m)) ∧
    ((s.m.part p).job = none ∨ s.m.atMark = false ∨ s.m.halted = true → Does (.stepBoundaryMark p) s s.m))

/-! ## Tiles -/

/-- Tile control (R97 to R99, R126): the enable that passes R97's checks starts the tile, the disable stops it, RESUME needs the debug gate. Dowels and jigs (R54, R55, R69, R70): VALID is set where R54's checks pass on the fields as written and cleared where nothing uses the dowel; a jig's ENABLE is set where R69's pass, and cleared at any time. The staged registers of a tile and its memory window (R72, R73, R89, R207): a legal VENEER_CTL or NUM_CTL is staged for the mark, and the aperture reads and writes the 8 bytes it selects. -/
def Obligations.TileControlAndDowels : Prop :=
  (∀ (s : State) (who : Requester) (t : Nat), TileOpen s.m who t →
    (s.m.tileEnabled t = false → s.m.lockedOwner (s.m.slotOfTile t) = false → s.m.enableCheck t = 0 →
      Does (.tileEnable who t) s ((s.m.startTile t).answer 0)) ∧
    (s.m.tileEnabled t = false → s.m.lockedOwner (s.m.slotOfTile t) = false → s.m.enableCheck t ≠ 0 → who ≠ .host →
      Does (.tileEnable who t) s (s.m.answer (s.m.enableCheck t))) ∧
    Does (.tileDisable who t) s ((s.m.stopTile t).answer 0) ∧
    (s.m.gateOpen t = true → Does (.seqDbgResume who t) s ((s.m.resumeDebug t).answer 0)) ∧
    (s.m.gateOpen t = false → who ≠ .host → Does (.seqDbgResume who t) s (s.m.answer 0x0309))) ∧
  (∀ (s : State) (who : Requester) (t : Nat), TileOpen s.m who t →
    (∀ d v w, d < 256 → s.m.dowelValid t d = false → w = merge 0xF803_FF00_3FFF_1FFF (s.m.rd (DOWEL0 t d)) (setBit v 63 true) →
      (s.m.wr (DOWEL0 t d) (setBit w 63 false)).dowelCheck t d = 0 →
      Does (.dowelValidSet who t d v) s (((s.m.wr (DOWEL0 t d) (setBit w 63 false)).setFlag (DOWEL0 t d) 63 true).answer 0)) ∧
    (∀ d, d < 256 → s.m.dowelValid t d = true → s.m.dowelInUse t d = false →
      Does (.dowelValidClear who t d) s ((s.m.setFlag (DOWEL0 t d) 63 false).answer 0)) ∧
    (∀ d, d < 256 → s.m.dowelValid t d = true → s.m.dowelInUse t d = true → who ≠ .host →
      Does (.dowelValidClear who t d) s (s.m.answer 0x020B)) ∧
    (∀ j v w, j < 6 → s.m.jigOn t j = false → w = merge 0xFFFC_0001 (s.m.rd (JIG_CTL t j)) (setBit v 0 true) →
      ((s.m.wr (JIG_CTL t j) (setBit w 0 false)).enableJig t j).1 = 0 →
      Does (.jigEnable who t j v) s (((s.m.wr (JIG_CTL t j) (setBit w 0 false)).enableJig t j).2.answer 0)) ∧
    (∀ j, j < 6 → s.m.jigOn t j = true → Does (.jigDisable who t j) s ((s.m.disableJig t j).answer 0))) ∧
  (∀ (s : State) (who : Requester) (t : Nat), TileOpen s.m who t →
    (∀ v w, w = merge 0xF (s.m.rd (VENEER_CTL t)) v → (s.m.writeVeneerCtl t w).1 = 0 →
      Does (.veneerCtlWrite who t v) s ((s.m.writeVeneerCtl t w).2.answer 0)) ∧
    (∀ v w, w = merge 0xFFFF_000F_0FFF_FF01 (s.m.rd (NUM_CTL t)) v → bf w 16 12 ≤ 1024 → (bf w 32 4 = 15 ∨ bf w 48 16 < 2 ^ bf w 32 4) →
      Does (.numCtlWrite who t v) s ((s.m.stage (NUM_CTL t) w).answer 0)) ∧
    (∀ o v x, o < 0x8_0000 → o % 8 = 0 → s.m.apertureAddr t o = .ok x →
      Does (.scratchpadApertureAccess who t o (some v)) s ((s.m.stNat (scratchAt t x) 8 v.toNat).answer 0) ∧
      Does (.scratchpadApertureAccess who t o none) s (s.m.answerValue (BitVec.ofNat 64 (s.m.ldNat (scratchAt t x) 8)))))

/-- The events of a tile's memory (R51, R73, R74, R76, R84): a veneer flush ends, a prefetched line arrives, a corrected word is counted (R51), an uncorrectable word or a parity error of the tile is raised (R528), and traps the thread whose instruction meets it (R163, R209), an instruction cache line with a parity error is counted and refetched (R106), a mitre copy and a scrub end. The checks of the other stores and paths (R528, R531, R541) raise their code in their scope: the exchange port of a tile, a thread's registers, a Beacon die, a buoy's bank, a ring's storage, a plane, a Jicen port, a Feed interface, the error block, the Keeper; a host command whose buffer access fails completes with the code (R502). After a scrub every byte of the tile's scratchpad reads 0 and the tile holds no thread, queue, line or accumulator (R84). -/
def Obligations.TileMemory : Prop :=
  (∀ (s : State) (t : Nat), s.m.mainUp = true → t < 1280 →
    (s.m.tileClocked t = true → s.m.flushing t = true → Does (.veneerFlushDone t) s ((s.m.endFlush t).startUnits t)) ∧
    (∀ q h n, n = s.m.modTile t (fun x => { x with prefetch := x.prefetch.erase (q, h) }) → s.m.tileClocked t = true → (s.m.tile t).prefetch.contains (q, h) = true → s.m.flushing t = false →
      n.veneerMode t q = true → n.venFind t q h = none →
      Does (.veneerLineFill t q h true) s ((n.venInstall t q h false).2.venTouch t (n.venInstall t q h false).1 false)) ∧
    (∀ a, Does (.eccCorrectionWrite (.corrected t a)) s ((s.m.addCnt (CNT_ECC_CORR t) 1).raiseTile t 0x0221 a)) ∧
    (∀ k loc, k ≠ .exchange → k ≠ .registers → s.m.faultyEntry t k = none → Does (.eccCorrectionWrite (.tile t k loc)) s (s.m.raiseTile t (checkCode k) loc)) ∧
    (∀ k loc u e, k ≠ .exchange → k ≠ .registers → s.m.faultyEntry t k = some (u, e) →
      Does (.eccCorrectionWrite (.tile t k loc)) s ((s.m.setQueue t u ((s.m.queue t u).erase e)).trapThread t e.th e.pc (checkCode k) 0)) ∧
    Does (.eccCorrectionWrite (.cacheLine t)) s ((s.m.addCnt (CNT_IC_PARITY t) 1).raiseTile t 0x032E 0) ∧
    (∀ x r, s.m.tileClocked t = true → (s.m.tile t).mitre = x :: r → Does (.mitreDone t) s (s.m.endMitre t)) ∧
    (∀ ok, s.m.scrubbing t = true → s.m.halted = false → Does (.tileScrubDone t ok) s ((s.m.endScrub t ok).keeperGoesOn.lampGoesOn.powerGoesOn (s.m.slotOfTile t)))) ∧
  (∀ (s : State), s.m.modState ≠ 0 →
    (s.m.mainUp = true →
      (∀ t loc, t < 1280 → Does (.eccCorrectionWrite (.tile t .exchange loc)) s
        (s.m.raise { code := 0x0628, slot := s.m.slotOfTile t, kind := 5, unit := halfOfTile t, loc := s.m.physTile t % 88 })) ∧
      (∀ t th, t < 1280 → th < 4 →
        ((s.m.thread t th).st = .ready ∨ (s.m.thread t th).st = .wait →
          Does (.eccCorrectionWrite (.tile t .registers th)) s (s.m.trapThread t th (s.m.thread t th).pc 0x0325 0)) ∧
        ((s.m.thread t th).st ≠ .ready → (s.m.thread t th).st ≠ .wait → Does (.eccCorrectionWrite (.tile t .registers th)) s (s.m.raiseTile t 0x0325 th))) ∧
      (∀ die, Does (.eccCorrectionWrite (.beacon die)) s (s.m.raise { code := 0x0727, slot := s.m.slotOfDie die, kind := 9, unit := 0xFFFF })) ∧
      (∀ b, b < 8192 → Does (.eccCorrectionWrite (.buoy b)) s (s.m.raise { code := 0x0821, slot := s.m.slotOfBuoy b, kind := 3, unit := dieOfBuoy b, loc := b })) ∧
      (∀ r, r < 65536 → Does (.eccCorrectionWrite (.ring r)) s (s.m.raiseRing r 0x0825 (s.m.ringHead r))) ∧
      (∀ k e, k < 32 → e < 256 → Does (.eccCorrectionWrite (.plane k e)) s ((s.m.raisePlane k 0x0923 e).setF (PLANE_STATUS k) 0 4 2)) ∧
      (∀ j, j < 6 → Does (.eccCorrectionWrite (.port j)) s (s.m.raisePort j 0x0C29 0)) ∧
      (∀ e, e < 2 → Does (.eccCorrectionWrite (.feed e)) s
        ((s.m.setF (FD_STATUS e) 48 16 0x0D24).raiseIn (s.m.slots.filter (fun p => s.m.jobRuns p)) { code := 0x0D24, kind := 7, unit := e }))) ∧
    (∀ via own n, (s.m.offered via = none → Does (.eccCorrectionWrite (.host via own n)) s s.m) ∧
      (∀ b op, Serves s.m via op b →
        Does (.eccCorrectionWrite (.host via true n)) s (((Taking s.m via b).raise { code := 0x0E25, kind := 8 }).completeCmd (commandOf s.m via b) 0x0E25 0 []) ∧
        (op ≠ 0x20 → op ≠ 0x21 → bufNeed b ≠ 0 → Does (.eccCorrectionWrite (.host via false n)) s
          ((((Taking s.m via b).addCnt CNT_PCIE_ERR 1).raise { code := 0x0E21, kind := 8 }).completeCmd (commandOf s.m via b) 0x0E21 0 [])) ∧
        (op = 0x20 ∨ op = 0x21 → Does (.eccCorrectionWrite (.host via false n)) s
          (endCmd (commandOf s.m via b) ((Taking s.m via b).stopCommand (commandOf s.m via b) n))))) ∧
    Does (.eccCorrectionWrite .errorBlock) s (s.m.raise { code := 0x102A }) ∧
    (∀ f, s.m.board.keeperDown = false → Does (.eccCorrectionWrite (.keeper f)) s (s.m.raiseKeeper (keeperFaultCode f) 31 0 none))) ∧
  (∀ (m : Mod) (t : Nat), t < 1280 →
    (∀ o, o < 2 ^ 25 → (m.scrubTile t).ldByte (scratchAt t o) = 0) ∧
    (∀ a, a < scratchAt t 0 ∨ scratchAt (t + 1) 0 ≤ a → (m.scrubTile t).ldByte a = m.ldByte a) ∧
    ((m.scrubTile t).tile t).threads = [] ∧ ((m.scrubTile t).tile t).queues = [] ∧ ((m.scrubTile t).tile t).icache = [] ∧
    ((m.scrubTile t).tile t).accs = [] ∧ ((m.scrubTile t).tile t).latch = [] ∧ ((m.scrubTile t).tile t).veneer = [] ∧
    ((m.scrubTile t).tile t).scrub = none ∧ (∀ u, u ≠ t → (m.scrubTile t).tile u = m.tile u))

/-! ## Writes, locks and the error block -/

/-- Writes by address (R7, R214, R496): a misaligned write is refused, a register of plain bits takes the bits its map lets a write change, a read-only one none, and an exchange record is written while no job of its slot runs, else it is 0x0602. A write to a physical tile that carries no logical tile is refused with 0x0211 (R92). Writes through BAR0 (R495): the host window, a doorbell, the fixed map and an aperture are writes of module space, an entry of the MSI-X table takes the word and lets a pending vector go, and a reserved offset is refused with 0x0E08. The locks of a sealed slot (R467, R468): what Gallery or the host writes to its tiles is refused with 0x0F01 and changes nothing, but for a disable; the Keeper's writes pass. -/
def Obligations.RegisterWritesAndLocks : Prop :=
  (∀ (s : State) (who : Requester), s.m.modState ≠ 0 →
    (∀ (a : W40) w v, a.toNat % (if w then 8 else 4) ≠ 0 → who ≠ .host → Does (.registerWrite who .module a w v) s (s.m.answer 0x0E08)) ∧
    (∀ p o v, p < 1408 → o < 0x10_0000 → o % 8 = 0 → s.m.shut who (s.m.slotOfDie (p / 176)) = false → s.m.logicalOf p = none → who ≠ .host →
      Does (.registerWrite who .module (BitVec.ofNat 40 (physBase p + o)) true v) s (s.m.answer 0x0211)) ∧
    (∀ v, Does (.registerWrite who .module (BitVec.ofNat 40 HI_ERR_VEC) true v) s ((s.m.wr HI_ERR_VEC (merge 0x1_07FF (s.m.rd HI_ERR_VEC) v)).answer 0)) ∧
    (∀ v, Does (.registerWrite who .module (BitVec.ofNat 40 MOD_STATE) true v) s (s.m.answer 0)) ∧
    (∀ p n v, p < 8 → n < 1024 → s.m.shut who (some p) = false → s.m.jobRuns p = false → s.m.recValid p n = false →
      v ≠ s.m.rd (XCH_RECORD p n 0) →
      Does (.xchRecordWrite who p n false v) s ((s.m.wr (XCH_RECORD p n 0) v).answer 0)) ∧
    (∀ p n v, p < 8 → n < 1024 → s.m.shut who (some p) = false → s.m.jobRuns p = true → who ≠ .host → v ≠ s.m.rd (XCH_RECORD p n 0) →
      Does (.xchRecordWrite who p n false v) s (s.m.answer 0x0602))) ∧
  (∀ (s : State), s.m.modState ≠ 0 →
    (∀ (a : W40) w v, (0x18_0000 ≤ a.toNat ∧ a.toNat < 0x20_0000) ∨ (0x20_8100 ≤ a.toNat ∧ a.toNat < 0x100_0000) ∨ (0x240_0000 ≤ a.toNat ∧ a.toNat < 0x300_0000) →
      Does (.registerWrite .host .bar0 a w v) s (s.m.finishAccess .host a.toNat true 0x0E08)) ∧
    (∀ o w v, o < 0x10_0000 →
      exec (.registerWrite .host .bar0 (BitVec.ofNat 40 o) w v) s = exec (.registerWrite .host .module (BitVec.ofNat 40 (hostReg o)) w v) s) ∧
    (∀ r v, r < 65536 →
      exec (.registerWrite .host .bar0 (BitVec.ofNat 40 (0x10_0000 + 8 * r)) true v) s = exec (.registerWrite .host .module (BitVec.ofNat 40 (ringReg r 0x18)) true v) s) ∧
    (∀ o w v, o < 0x140_0000 →
      exec (.registerWrite .host .bar0 (BitVec.ofNat 40 (0x100_0000 + o)) w v) s = exec (.registerWrite .host .module (BitVec.ofNat 40 o) w v) s) ∧
    (∀ n o w v, n < 4 → o < 0x40_0000 →
      exec (.registerWrite .host .bar0 (BitVec.ofNat 40 (0x300_0000 + n * 0x40_0000 + o)) w v) s =
        exec (.registerWrite .host .module (BitVec.ofNat 40 (s.m.fld (HI_APER n) 22 18 * 0x40_0000 + o)) w v) s) ∧
    (∀ n v, n < 2048 → ∃ t, exec (.registerWrite .host .bar0 (BitVec.ofNat 40 (0x20_0008 + 16 * n)) true v) s = .next t ∧ t.m.reply.code = 0 ∧
      t.m.msixMasked n = bit v 32 ∧ t.m.regs = s.m.regs ∧
      (s.m.msixPending.contains n = true → bit v 32 = false → t.m.outbox = s.m.outbox ++ [.msix n] ∧ t.m.msixPending = s.m.msixPending.erase n) ∧
      (s.m.msixPending.contains n = false ∨ bit v 32 = true → t.m.outbox = s.m.outbox ∧ t.m.msixPending = s.m.msixPending))) ∧
  (∀ (s : State) (p t : Nat), s.m.modState ≠ 0 → s.m.mainUp = true → t < 1280 → s.m.slotOfTile t = some p → s.m.lockedOwner (some p) = true →
    s.m.shut .host (some p) = true ∧ s.m.shut .keeper (some p) = false ∧
    Does (.tileEnable .gallery t) s (s.m.answer 0x0F01) ∧ (∀ v, Does (.numCtlWrite .gallery t v) s (s.m.answer 0x0F01)) ∧
    (∀ v, Does (.veneerCtlWrite .gallery t v) s (s.m.answer 0x0F01)) ∧ (∀ d v, d < 256 → Does (.dowelValidSet .gallery t d v) s (s.m.answer 0x0F01)) ∧
    (∀ j v, j < 6 → Does (.jigEnable .gallery t j v) s (s.m.answer 0x0F01)))

/-- R552: a write of 1 to a VALID bit of a scope that is being handled is refused with 0x1001, a ROLLBACK_MAX of 0 and a deadline below 0x0001_0000 with 0x1002, none with an effect; a VALID bit that is cleared zeroes its record (its HANDLING reads 4 on in DARK, R538), which then captures the next error, and the other records stay. -/
def Obligations.ErrorBlockWrites : Prop :=
  ∀ (s : State) (who : Requester) (v : W64), s.m.modState ≠ 0 →
    ((∃ k, k < 9 ∧ bit v k = true ∧ 1 ≤ s.m.handling k ∧ s.m.handling k ≤ 3) →
      ∃ t, exec (.errFeValidWrite who v) s = .next t ∧ t.m.reply.code = 0x1001 ∧ t.m.firsts = s.m.firsts ∧ t.m.rd ERR_FE_VALID = s.m.rd ERR_FE_VALID) ∧
    (∀ w, v.toNat / 2 % 8 = 0 →
      ∃ t, exec (.registerWrite who .module (BitVec.ofNat 40 ERR_CTL) w v) s = .next t ∧ t.m.reply.code = 0x1002 ∧ t.m.rd ERR_CTL = s.m.rd ERR_CTL) ∧
    (∀ w a, a = ERR_DL_STEP ∨ a = ERR_DL_PART → v.toNat % 2 ^ 32 < 0x1_0000 →
      ∃ t, exec (.registerWrite who .module (BitVec.ofNat 40 a) w v) s = .next t ∧ t.m.reply.code = 0x1002 ∧ t.m.rd a = s.m.rd a ∧ t.m.staged = s.m.staged) ∧
    ((∀ k, k < 9 → bit v k = true → s.m.handling k = 0 ∨ s.m.handling k = 4) →
      ∃ t, exec (.errFeValidWrite who v) s = .next t ∧ t.m.reply.code = 0 ∧
        ∀ k, k < 9 →
          (bit v k = true → t.m.feValid k = false ∧ t.m.first k = { handling := s.m.handling k } ∧
            ∀ r, ((t.m.capture k r).first k).code = r.code ∧ ((t.m.capture k r).first k).seq = r.seq ∧ (t.m.capture k r).feValid k = true) ∧
          (bit v k = false → t.m.feValid k = s.m.feValid k ∧ t.m.first k = s.m.first k))

/-! ## Tile instructions -/

/-- What the completion of an instruction that writes one g register changes: that register of that thread, its pc and loop counters (R111), the cache order, the turn of the round robin (R101) and CNT_ISSUE; no other register, thread, tile, register word or byte of memory. -/
def Obligations.ScalarFrame : Prop :=
  ∀ (m : Mod) (t th d : Nat) (v : W32), let n := Retired m t th (fun k => k.modThread t th (fun y => y.setG d v))
    n.thread t th = retire { (m.thread t th).setG d v with late := false } ∧ (n.tile t).lastIssue = th ∧ (n.thread t th).gReg d = v ∧
    (∀ e, e ≠ d → (n.thread t th).gReg e = (m.thread t th).gReg e) ∧ (∀ e, (n.thread t th).aReg e = (m.thread t th).aReg e) ∧
    (loopAt (m.thread t th) (m.thread t th).pc = none → (n.thread t th).pc = (m.thread t th).pc + 1) ∧
    (∀ u k, ¬ (u = t ∧ k = th) → n.thread u k = m.thread u k) ∧ (∀ u, u ≠ t → n.tile u = m.tile u) ∧
    (∀ a, a ≠ CNT_ISSUE t → n.rd a = m.rd a) ∧ n.mem = m.mem ∧ n = { m with tiles := n.tiles, regs := n.regs }

/-- The arithmetic instructions write g[S1] op operand 2 to g[D] and go on (R116). The instructions that move words between the register files (R113, R116). -/
def Obligations.ScalarResults : Prop :=
  (∀ (s : State) (t th : Nat) (f : BitVec 56), CanRun s.m t th (fD f :: aluRegs f) → only mAlu f = true →
    ∀ x a b, x = s.m.thread t th → a = x.gReg (fS1 f) → b = operand2 x.gReg f →
    let put := fun v => Retired s.m t th (fun k => k.modThread t th (fun y => y.setG (fD f) v))
    let slow := fun v => Retired s.m t th (fun k => k.modThread t th (fun y => y.setG (fD f) v)) true
    Does (.add t th f) s (put (a + b)) ∧ Does (.sub t th f) s (put (a - b)) ∧ Does (.mul t th f) s (slow (a * b)) ∧
    Does (.mulhs t th f) s (slow (BitVec.ofInt 32 (a.toInt * b.toInt / 2 ^ 32))) ∧
    Does (.mulhu t th f) s (slow (BitVec.ofNat 32 (a.toNat * b.toNat / 2 ^ 32))) ∧
    Does (.andI t th f) s (put (a &&& b)) ∧ Does (.orI t th f) s (put (a ||| b)) ∧ Does (.xorI t th f) s (put (a ^^^ b)) ∧
    Does (.shl t th f) s (put (a <<< (b.toNat % 32))) ∧ Does (.shr t th f) s (put (a >>> (b.toNat % 32))) ∧
    Does (.sra t th f) s (put (a.sshiftRight (b.toNat % 32))) ∧
    Does (.minI t th f) s (put (if b.toInt < a.toInt then b else a)) ∧ Does (.maxI t th f) s (put (if a.toInt < b.toInt then b else a)) ∧
    Does (.slt t th f) s (put (if a.toInt < b.toInt then 1 else 0)) ∧ Does (.sltu t th f) s (put (if a.toNat < b.toNat then 1 else 0))) ∧
  (∀ (s : State) (t th : Nat) (f : BitVec 56) (x : Thread), x = s.m.thread t th →
    let put := fun d v => Retired s.m t th (fun k => k.modThread t th (fun y => y.setG d v))
    let putA := fun d v => Retired s.m t th (fun k => k.modThread t th (fun y => y.setA d v))
    (CanRun s.m t th [fD f] → only (mD ||| mImm) f = true → Does (.movi t th f) s (put (fD f) (fImm f))) ∧
    (CanRun s.m t th (if fI f then [] else [fS2 f]) → only mAlu f = true → fD f < 16 → fS1 f < 16 →
      Does (.aadd t th f) s (putA (fD f) (x.aReg (fS1 f) + (operand2 x.gReg f).signExtend 40))) ∧
    (CanRun s.m t th [fS1 f, fS2 f] → only (mD ||| mS1 ||| mS2) f = true → fD f < 16 →
      Does (.amov t th f) s (putA (fD f) (BitVec.ofNat 40 ((x.gReg (fS2 f)).toNat % 256 * 2 ^ 32 + (x.gReg (fS1 f)).toNat)))) ∧
    (CanRun s.m t th [fD f] → only (mD ||| mS1) f = true → fS1 f < 16 →
      Does (.aget t th f) s (put (fD f) (BitVec.ofNat 32 (x.aReg (fS1 f)).toNat))) ∧
    (CanRun s.m t th [fD f] → only (mD ||| mS1) f = true → fS1 f < 4 → Does (.lcget t th f) s (put (fD f) (x.loop (fS1 f)).count)) ∧
    (CanRun s.m t th [fD f, fD f + 1] → only mD f = true → fD f % 2 = 0 →
      Does (.bcnt t th f) s (Retired s.m t th (fun k => k.modThread t th (fun y =>
        (y.setG (fD f) (BitVec.ofNat 32 s.m.count.toNat)).setG (fD f + 1) (BitVec.ofNat 32 (s.m.count.toNat / 2 ^ 32)))) true)) ∧
    (CanRun s.m t th [] → only (fm 46 10 ||| fm 44 2) f = true →
      Does (.stag t th f) s (Retired s.m t th (fun k => k.modThread t th (fun y =>
        { y with layer := BitVec.ofNat 10 (bf f 46 10), role := BitVec.ofNat 2 (bf f 44 2) })))))

/-- Control flow (R111, R112): a branch that is taken, a jump, a call and a return go where they say; a branch not taken, NOP and LEND of an active counter go on. -/
def Obligations.ControlFlow : Prop :=
  ∀ (s : State) (t th : Nat) (f : BitVec 56) (x : Thread), x = s.m.thread t th →
    (CanRun s.m t th [] → f = 0 → Does (.nop t th f) s (Retired s.m t th id)) ∧
    (∀ a b, a = x.gReg (bf f 51 5) → b = x.gReg (bf f 46 5) → CanRun s.m t th [bf f 51 5, bf f 46 5] →
      only (fm 51 5 ||| fm 46 5 ||| fm 43 3 ||| mOff) f = true → bf f 43 3 ≠ 7 →
      (branchTaken (bf f 43 3) a b = true → Does (.br t th f) s (Jumped s.m t th id (x.pc + BitVec.ofInt 20 (fOff f)))) ∧
      (branchTaken (bf f 43 3) a b = false → Does (.br t th f) s (Retired s.m t th id))) ∧
    (CanRun s.m t th [bf f 51 5] → only (fm 51 5) f = true → Does (.jr t th f) s (Jumped s.m t th id (BitVec.ofNat 20 (x.gReg (bf f 51 5)).toNat))) ∧
    (CanRun s.m t th [] → only mOff f = true → x.stack.length < 16 →
      Does (.call t th f) s (Jumped s.m t th (fun k => k.modThread t th (fun y => { y with stack := (y.pc + 1) :: y.stack })) (x.pc + BitVec.ofInt 20 (fOff f)))) ∧
    (∀ p r, CanRun s.m t th [] → f = 0 → x.stack = p :: r →
      Does (.ret t th f) s (Jumped s.m t th (fun k => k.modThread t th (fun y => { y with stack := r })) p)) ∧
    (CanRun s.m t th [] → only (fm 40 3) f = true → bf f 40 3 < 4 → (x.loop (bf f 40 3)).active = true →
      Does (.lend t th f) s (Retired s.m t th (fun k => k.modThread t th (fun y => y.setLoop (bf f 40 3) { y.loop (bf f 40 3) with active := false }))))

/-- Loops (R111): a count of 0 goes past the body, another starts the counter; the last instruction of the body returns to the first while the count is above 1, and then leaves the loop. The return of a loop (R111): at the last instruction of an active counter's body the thread goes to the first one and the count falls by one while it is above 1; otherwise the counter ends and the thread goes on. -/
def Obligations.Loops : Prop :=
  (∀ (s : State) (t th : Nat) (f : BitVec 56) (x : Thread) (c : Nat), x = s.m.thread t th → c = bf f 40 3 → c < 4 →
    (x.loop c).active = false → 1 ≤ fOff f →
    (∀ n, n < 4 → n ≠ c → (x.loop n).active = true → (x.loop n).last ≠ x.pc + BitVec.ofInt 20 (fOff f)) →
    (let start := fun n => Retired s.m t th (fun k => k.modThread t th (fun y =>
        y.setLoop c { count := n, first := x.pc + 1, last := x.pc + BitVec.ofInt 20 (fOff f), active := true }))
     let past := Jumped s.m t th id (x.pc + BitVec.ofInt 20 (fOff f) + 1)
     (CanRun s.m t th [bf f 51 5] → only (fm 51 5 ||| fm 40 3 ||| mOff) f = true →
       (x.gReg (bf f 51 5) ≠ 0 → Does (.loop t th f) s (start (x.gReg (bf f 51 5)))) ∧ (x.gReg (bf f 51 5) = 0 → Does (.loop t th f) s past)) ∧
     (CanRun s.m t th [] → only (fm 40 3 ||| fm 24 16 ||| mOff) f = true →
       (bf f 24 16 ≠ 0 → Does (.loopi t th f) s (start (BitVec.ofNat 32 (bf f 24 16)))) ∧ (bf f 24 16 = 0 → Does (.loopi t th f) s past)))) ∧
  (∀ (x : Thread) (n : Nat), loopAt x x.pc = some n →
    (1 < (x.loop n).count.toNat → (retire x).pc = (x.loop n).first ∧ ((retire x).loop n).count = (x.loop n).count - 1 ∧ ((retire x).loop n).active = true) ∧
    ((x.loop n).count.toNat ≤ 1 → (retire x).pc = x.pc + 1 ∧ ((retire x).loop n).active = false ∧ ((retire x).loop n).count = 0) ∧
    (∀ k, k ≠ n → (retire x).loop k = x.loop k) ∧ (retire x).g = x.g ∧ (retire x).a = x.a ∧ (retire x).stack = x.stack ∧ (retire x).st = x.st)

/-- Scalar memory (R107, R118): LDW and STW wait with reason MEMORY for the access at the address that their dowel gives, and an address that the dowel does not give traps with 0x0327; at its wake the load reads the 4 bytes there into its register, and the store writes the 4 bytes and no other. -/
def Obligations.ScalarMemory : Prop :=
  (∀ (s : State) (t th : Nat) (f : BitVec 56) (x : Thread) (l : Mod), x = s.m.thread t th → l = s.m.icTouch t (icLine x.pc) → fS1 f < 16 →
    (CanRun s.m t th [fD f] → only (mD ||| mS1 ||| mImm) f = true →
      (∀ k, s.m.scalarAt t (ldstDowel f) (ldstAddr x.aReg f) [0, 1] = some k →
        Does (.ldw t th f) s (Waits s.m t th (.memory k (some (fD f)) 0))) ∧
      (s.m.scalarAt t (ldstDowel f) (ldstAddr x.aReg f) [0, 1] = none → Does (.ldw t th f) s (l.trapThread t th x.pc 0x0327 0))) ∧
    (CanRun s.m t th [fS2 f] → only (mS1 ||| mS2 ||| mImm) f = true →
      (∀ k, s.m.scalarAt t (ldstDowel f) (ldstAddr x.aReg f) [0] = some k →
        Does (.stw t th f) s (Waits s.m t th (.memory k none (x.gReg (fS2 f))))) ∧
      (s.m.scalarAt t (ldstDowel f) (ldstAddr x.aReg f) [0] = none → Does (.stw t th f) s (l.trapThread t th x.pc 0x0327 0)))) ∧
  (∀ (s : State) (t th k : Nat) (v : W32), s.m.tileRuns t = true → th < 4 → (s.m.thread t th).st = .wait →
    (∀ d, (s.m.thread t th).waitOn = .memory k (some d) v →
      Does (.threadWake t th) s (s.m.wakeDone t th (fun x => x.setG d (BitVec.ofNat 32 (s.m.ldNat (scratchAt t k) 4))))) ∧
    ((s.m.thread t th).waitOn = .memory k none v →
      ∃ u, exec (.threadWake t th) s = .next u ∧ u.m = (s.m.stNat (scratchAt t k) 4 v.toNat).wakeDone t th id ∧
        u.m.ldNat (scratchAt t k) 4 = v.toNat ∧ (∀ a, a < scratchAt t k ∨ scratchAt t k + 4 ≤ a → u.m.ldByte a = s.m.ldByte a)))

/-- A trap (R125, R132): the thread is TRAPPED at its instruction, the other running threads of the tile are STOPPED, SEQ_TRAP holds code, reason, thread and pc, and the error is raised. -/
def Obligations.TrapStops : Prop :=
  ∀ (m : Mod) (t th : Nat) (pc : W20) (code reason : W16), th < 4 → ∃ n : Mod,
    m.trapThread t th pc code reason = n.raiseTile t code th (BitVec.ofNat 128 (trapWord code reason th pc).toNat) ∧
    (n.thread t th).st = .trapped ∧ (n.thread t th).pc = pc ∧ (n.thread t th).waitOn = .none ∧
    (∀ k, k < 4 → k ≠ th → ((m.thread t k).st = .ready ∨ (m.thread t k).st = .wait) → (n.thread t k).st = .stopped ∧ (n.thread t k).waitOn = .none) ∧
    (∀ k, k < 4 → k ≠ th → (m.thread t k).st ≠ .ready → (m.thread t k).st ≠ .wait → n.thread t k = m.thread t k) ∧
    n.rd (SEQ_TRAP t) = trapWord code reason th pc ∧ (∀ u, u ≠ t → n.tile u = m.tile u) ∧ n.mem = m.mem ∧ (∀ a, a ≠ SEQ_TRAP t → n.rd a = m.rd a)

/-- A tile's own register accesses (R117, R119): CSRR reads a half of the word, CSRW writes a half that has a field to write, and a jig setup instruction writes the jig's register. A register of a disabled jig takes the word written; of an enabled one only the value it holds, and another is refused with 0x0201 (R90). -/
def Obligations.TileRegisterInstructions : Prop :=
  (∀ (s : State) (t th : Nat) (f : BitVec 56) (x : Thread) (l : Mod), x = s.m.thread t th → l = Fetched s.m t th →
    (∀ v, CanRun s.m t th [fD f] → only (mD ||| mImm) f = true → csrOff f < 0x5_0000 → l.readTile t (csrOff f) = .ok v →
      Does (.csrr t th f) s (Retired s.m t th (fun k => k.modThread t th (fun y => y.setG (fD f) (v.extractLsb' (if csrHigh f then 32 else 0) 32))) true)) ∧
    (∀ sp w mask, CanRun s.m t th [fS2 f] → only (mS2 ||| mImm) f = true → csrOff f < 0x5_0000 → mask = fieldMask 64 (if csrHigh f then 32 else 0) 32 →
      csrWritable t (csrOff f) mask = true → tileSpec t (csrOff f) = some sp →
      w = l.written (tileReg t (csrOff f)) sp mask (BitVec.ofNat 64 ((x.gReg (fS2 f)).toNat * 2 ^ (if csrHigh f then 32 else 0))) →
      (l.writeTile t (csrOff f) w).1 = 0 → Does (.csrw t th f) s (Retired s.m t th (fun k => (k.writeTile t (csrOff f) w).2))) ∧
    (CanRun s.m t th [] → fJig f < 6 → s.m.jigOn t (fJig f) = false →
      (only (fm 53 3 ||| fm 45 8 ||| fm 42 3 ||| fm 40 2 ||| fm 39 1) f = true → bf f 42 3 < 5 →
        Does (.jctl t th f) s (Retired s.m t th (fun k => k.wr (JIG_CTL t (fJig f))
          (setBit (BitVec.ofNat 64 (bf f 45 8 * 2 ^ 24 + bf f 42 3 * 2 ^ 21 + bf f 40 2 * 2 ^ 19 + bf f 39 1 * 2 ^ 18)) 0 false)))) ∧
      (only (fm 53 3 ||| mImm) f = true →
        Does (.jfill t th f) s (Retired s.m t th (fun k => (k.writeJigReg t (fJig f) (JIG_FILL t (fJig f)) (BitVec.ofNat 64 (fImm f).toNat)).2))) ∧
      (∀ b, b = (x.aReg (bf f 49 4)).toInt + fOff f → -(2 ^ 23) ≤ b → b < 2 ^ 23 → only (fm 53 3 ||| fm 49 4 ||| mOff) f = true →
        Does (.jbase t th f) s (Retired s.m t th (fun k => (k.writeJigReg t (fJig f) (JIG_BASE t (fJig f)) (BitVec.ofNat 64 (b % 2 ^ 24).toNat)).2))) ∧
      (bf f 50 3 < 6 → only (fm 53 3 ||| fm 50 3 ||| fm 30 20 ||| fm 0 16) f = true →
        Does (.jdim t th f) s (Retired s.m t th (fun k => (k.writeJigReg t (fJig f) (DIM_A t (fJig f) (bf f 50 3)) (BitVec.ofNat 64 (bf f 30 20 * 2 ^ 32 + bf f 0 16))).2))) ∧
      (bf f 50 3 < 6 → bf f 32 3 ≠ 6 → only (fm 53 3 ||| fm 50 3 ||| fm 32 3 ||| fm 0 16) f = true →
        Does (.jdax t th f) s (Retired s.m t th (fun k => (k.writeJigReg t (fJig f) (DIM_B t (fJig f) (bf f 50 3)) (BitVec.ofNat 64 (bf f 32 3 * 2 ^ 32 + bf f 0 16))).2))) ∧
      (bf f 50 3 < 6 → only (fm 53 3 ||| fm 50 3 ||| fm 28 20 ||| fm 0 20) f = true →
        Does (.jaxis t th f) s (Retired s.m t th (fun k => (k.writeJigReg t (fJig f) (AXIS t (fJig f) (bf f 50 3)) (BitVec.ofNat 64 (bf f 28 20 * 2 ^ 32 + bf f 0 20))).2))))) ∧
  (∀ (m : Mod) (t j a : Nat) (w : W64),
    (m.jigOn t j = false → (m.writeJigReg t j a w).1 = 0 ∧ (m.writeJigReg t j a w).2.rd a = w ∧
      (∀ b, b ≠ a → (m.writeJigReg t j a w).2.rd b = m.rd b) ∧ (m.writeJigReg t j a w).2.mem = m.mem) ∧
    (m.jigOn t j = true → w ≠ m.rd a → m.writeJigReg t j a w = (0x0201, m)) ∧ (w = m.rd a → m.writeJigReg t j a w = (0, m)))

/-- The instructions on jigs and the mitre copy (R76, R117): JEN enables a jig that R69 accepts, JDIS disables, JWAIT waits while a jig of its mask is active, MITRE starts a copy that R80 accepts. PREF drops a request that its dowel does not hold and queues the lines that the veneer does not have (R123). -/
def Obligations.JigsAndPrefetch : Prop :=
  (∀ (s : State) (t th : Nat) (f : BitVec 56) (x : Thread) (l : Mod), x = s.m.thread t th → l = Fetched s.m t th →
    (CanRun s.m t th [] → only (fm 50 6) f = true →
      (∀ j, jigMask f = [j] → l.jigOn t j = false → (l.enableJig t j).1 = 0 → Does (.jen t th f) s (Retired s.m t th (fun k => (k.enableJig t j).2))) ∧
      Does (.jdis t th f) s (Retired s.m t th (fun k => forEach k (jigMask f) (fun m j => m.disableJig t j))) ∧
      (l.jigsDone t (jigMask f) = true → Does (.jwait t th f) s (Retired s.m t th id)) ∧
      (l.jigsDone t (jigMask f) = false → Does (.jwait t th f) s (Waits s.m t th (.jig (BitVec.ofNat 6 (bf f 50 6)))))) ∧
    (∀ c n, n = bf f 51 5 → n ≤ 28 → c = { w0 := x.gReg n, w1 := x.gReg (n + 1), w2 := x.gReg (n + 2), w3 := x.gReg (n + 3), ring := none } →
      CanRun s.m t th (run4 n) → only (fm 51 5) f = true → l.mitreCheck t c = 0 →
      Does (.mitre t th f) s (Retired s.m t th (fun k => k.startMitre t c)))) ∧
  (∀ (s : State) (t th : Nat) (f : BitVec 56) (l : Mod) (d n : Nat) (a : Int), l = Fetched s.m t th → d = bf f 48 8 → n = bf f 24 8 + 1 →
    a = ((s.m.thread t th).aReg (bf f 44 4)).toInt + fOff f → CanRun s.m t th [] → only (fm 48 8 ||| fm 44 4 ||| fm 24 8 ||| mOff) f = true →
    (l.dowelValid t d = false ∨ l.dowelMode t d ≠ 3 ∨ a < 0 ∨ l.dowelRows t d < a.toNat / 32 + n →
      Does (.pref t th f) s (Retired s.m t th (fun k => k.addCnt (CNT_PREF_DROP t) 1))) ∧
    (l.dowelValid t d = true → l.dowelMode t d = 3 → 0 ≤ a → a.toNat / 32 + n ≤ l.dowelRows t d →
      Does (.pref t th f) s (Retired s.m t th (fun k => k.modTile t (fun y => { y with prefetch := y.prefetch ++
        ((((upto n).map (fun i => l.dowelHbmLine t d + a.toNat / 32 + i)).filter (fun h =>
          (l.venFind t (l.dowelQuarter t d) h).isNone && !(l.tile t).prefetch.contains (l.dowelQuarter t d, h))).map (fun h => (l.dowelQuarter t d, h))) })))))

/-- Threads start, end, wait and stop (R107, R116, R122, R126): TSTART makes an OFF or ENDED thread READY, END ends, FENCE and MWAIT go on when their condition has come and wait for it otherwise, TRAP and an illegal word trap, BRK is a NOP unless debug is enabled. The instructions on buoys, rings and the exchange (R120, R220, R223, R276): BSIG sends its operation and goes on, BCAS, BREAD and BWAIT wait for the home, RPUSH writes the entry or waits for room, XARM arms an entry that R220 accepts, XWAIT waits for the release of its entry. -/
def Obligations.ThreadsBuoysRingsExchange : Prop :=
  (∀ (s : State) (t th : Nat) (f : BitVec 56) (x : Thread) (l : Mod), x = s.m.thread t th → l = Fetched s.m t th →
    (CanRun s.m t th [] →
      (only (fm 54 2 ||| mOff) f = true → ((l.thread t (bf f 54 2)).st = .off ∨ (l.thread t (bf f 54 2)).st = .ended) →
        Does (.tstart t th f) s (Retired s.m t th (fun k => k.setThread t (bf f 54 2)
          (freshThread (k.thread t (bf f 54 2)) (x.pc + BitVec.ofInt 20 (fOff f)).toNat)))) ∧
      (f = 0 → Does (.endThread t th f) s ((l.modThread t th (fun y => { y with st := .ended })).issued t th false)) ∧
      (only (fm 48 8) f = true →
        (l.fenceDone t (BitVec.ofNat 8 (bf f 48 8)) = true → Does (.fence t th f) s (Retired s.m t th id)) ∧
        (l.fenceDone t (BitVec.ofNat 8 (bf f 48 8)) = false → Does (.fence t th f) s (Waits s.m t th (.fence (BitVec.ofNat 8 (bf f 48 8)))))) ∧
      (only (fm 0 16) f = true → bf f 0 16 ≠ 0x1025 → Does (.trapI t th f) s (l.trapThread t th x.pc 0x032A (BitVec.ofNat 16 (bf f 0 16)))) ∧
      (f = 0 → l.gateOpen t = false → Does (.brk t th f) s (Retired s.m t th id)) ∧
      (f = 0 → l.gateOpen t = true → th < 4 → ∃ u, exec (.brk t th f) s = .next u ∧ (u.m.thread t th).st = .debug ∧ (u.m.thread t th).held = .ready ∧
        (∀ k, k < 4 → k ≠ th → (x.st = .ready) → ((s.m.thread t k).st = .ready ∨ (s.m.thread t k).st = .wait) →
          (u.m.thread t k).st = .stopped ∧ (u.m.thread t k).held = (s.m.thread t k).st)) ∧
      (∀ w, Does (.illegalInstruction t th w) s (l.trapThread t th x.pc 0x0321 0))) ∧
    (∀ c, bf f 46 5 % 2 = 0 → c = pair32 (x.gReg (bf f 46 5)) (x.gReg (bf f 46 5 + 1)) → CanRun s.m t th [bf f 46 5, bf f 46 5 + 1] → only (fm 46 5) f = true →
      (l.markPassed c = true → Does (.mwait t th f) s (Retired s.m t th id)) ∧
      (l.markPassed c = false → Does (.mwait t th f) s (Waits s.m t th (.mark c))))) ∧
  (∀ (s : State) (t th : Nat) (f : BitVec 56) (x : Thread) (l : Mod), x = s.m.thread t th → l = Fetched s.m t th →
    (CanRun s.m t th (if bit f 40 then [] else [bf f 35 5]) → only (fm 54 2 ||| fm 41 13 ||| fm 40 1 ||| fm 35 5 ||| mImm) f = true → bf f 54 2 < 2 →
      l.ownBuoy t (bf f 41 13) = true →
      Does (.bsig t th f) s (Retired s.m t th (fun k => k.modTile t (fun y => { y with sent := y.sent ++ [{ th := th, pc := x.pc, b := bf f 41 13, isSet := decide (bf f 54 2 = 1), x := (if bit f 40 then fImm f else x.gReg (bf f 35 5)), refused := false }] })))) ∧
    (CanRun s.m t th [fD f, fS1 f, fS2 f] → only (mD ||| mS1 ||| mS2 ||| fm 28 13) f = true → l.ownBuoy t (bf f 28 13) = true →
      Does (.bcas t th f) s (Waits s.m t th (.remote (bf f 28 13) (fD f) (some (x.gReg (fS1 f), x.gReg (fS2 f)))))) ∧
    (CanRun s.m t th (if bf f 53 3 = 3 then [bf f 35 5] else []) → only (fm 53 3 ||| fm 40 13 ||| fm 35 5 ||| mImm) f = true → bf f 53 3 < 4 →
      l.ownBuoy t (bf f 40 13) = true → Does (.bwait t th f) s (Waits s.m t th (.buoy (bf f 40 13) (BitVec.ofNat 3 (bf f 53 3)) (fImm f) (x.gReg (bf f 35 5))))) ∧
    (CanRun s.m t th [fD f] → only (mD ||| fm 38 13) f = true → l.ownBuoy t (bf f 38 13) = true →
      Does (.bread t th f) s (Waits s.m t th (.remote (bf f 38 13) (fD f) none))) ∧
    (∀ r d, r = bf f 40 16 → d = bf f 32 8 → CanRun s.m t th [] → only (fm 40 16 ||| fm 32 8 ||| mOff) f = true → bf f 0 24 % 2 = 0 → l.ownRing t r = true →
      l.dowelHolds t d [0, 1] (bf f 0 24) 2 = true →
      (l.ringFill r = l.ringCap r → Does (.rpush t th f) s (l.enterWait t th (.ring r))) ∧
      (∀ n, n = (l.setRingEntryBytes r (l.ringTail r) (l.ldDowelWords t d (bf f 0 24) 2)) → l.ringFill r ≠ l.ringCap r →
        ((n.setRingTail r ((n.ringTail r + 1) % 2 ^ 32)).ringState r ≠ 1 →
          Does (.rpush t th f) s (((n.setRingTail r ((n.ringTail r + 1) % 2 ^ 32)).issued t th false).modThread t th retire)) ∧
        ((n.setRingTail r ((n.ringTail r + 1) % 2 ^ 32)).ringState r = 1 →
          Does (.rpush t th f) s ((((n.setRingTail r ((n.ringTail r + 1) % 2 ^ 32)).setRingState r 2).issued t th false).modThread t th retire)))) ∧
    (∀ e, e = bf f 40 16 → CanRun s.m t th [] → only (fm 40 16) f = true → e < 1024 →
      (l.armCheck t e = 0 → Does (.xarm t th f) s (Retired s.m t th (fun k => k.arm t e))) ∧
      (l.armCheck t e ≠ 0 → Does (.xarm t th f) s (l.trapThread t th x.pc 0x032F (l.armCheck t e))) ∧
      ((l.tile t).xDone.contains e = true → Does (.xwait t th f) s (Retired s.m t th id)) ∧
      ((l.tile t).xDone.contains e = false → Does (.xwait t th f) s (Waits s.m t th (.exchange e)))))

/-- The events of the sequencer (R100, R105, R107 to R110, R278): a line arrives and the thread issues again, a condition comes and its thread goes on, the clock gates, the tile signals that it is done, a refused signal traps its thread. -/
def Obligations.SequencerEvents : Prop :=
  ∀ (s : State) (t th : Nat), s.m.tileRuns t = true → th < 4 →
    ((s.m.thread t th).st = .wait →
      ((s.m.thread t th).waitOn = .fetch → Does (.icLineFill t th) s ((s.m.icInstall t (icLine (s.m.thread t th).pc)).wakeAgain t th)) ∧
      ((∃ b c v k, (s.m.thread t th).waitOn = .buoy b c v k) → (s.m.thread t th).release = .met → Does (.threadWake t th) s (s.m.wakeDone t th id)) ∧
      ((∃ b c v k, (s.m.thread t th).waitOn = .buoy b c v k) → (s.m.thread t th).release = .broken →
        Does (.threadWake t th) s (s.m.trapThread t th (s.m.thread t th).pc 0x0328 0)) ∧
      (∀ c, (s.m.thread t th).waitOn = .mark c → s.m.markPassed c = true → Does (.threadWake t th) s (s.m.wakeDone t th id)) ∧
      (∀ r, (s.m.thread t th).waitOn = .ring r → s.m.ringRoom r = true → Does (.threadWake t th) s (s.m.wakeAgain t th)) ∧
      (∀ k, (s.m.thread t th).waitOn = .fence k → s.m.fenceDone t k = true → Does (.threadWake t th) s (s.m.wakeDone t th id)) ∧
      (∀ k, (s.m.thread t th).waitOn = .jig k → s.m.jigsDone t ((upto 6).filter (fun j => bit k j)) = true → Does (.threadWake t th) s (s.m.wakeDone t th id)) ∧
      (∀ e, (s.m.thread t th).waitOn = .exchange e → (s.m.tile t).xDone.contains e = true → Does (.threadWake t th) s (s.m.wakeDone t th id)) ∧
      (∀ u, (s.m.thread t th).waitOn = .queue u → (s.m.queue t (unitNo u)).length < 4 → Does (.threadWake t th) s (s.m.wakeAgain t th)) ∧
      (∀ b d c v, (s.m.thread t th).waitOn = .remote b d c → (s.m.thread t th).release = .reply v →
        Does (.threadWake t th) s (s.m.wakeDone t th (fun x => x.setG d v))) ∧
      (((∃ b c v k, (s.m.thread t th).waitOn = .buoy b c v k) ∨ (∃ b d c, (s.m.thread t th).waitOn = .remote b d c)) → (s.m.thread t th).release = .refused →
        Does (.threadWake t th) s (s.m.trapThread t th (s.m.thread t th).pc 0x0823 0))) ∧
    ((∀ n, n < 4 → (s.m.thread t n).st ≠ .ready) → s.m.allQueuesEmpty t = true → Does (.seqClockGate t) s (s.m.setFlag (SEQ_STATUS t) 32 true)) ∧
    (s.m.doneValid t = true → (s.m.tile t).doneSent = false → (∀ n, n < 4 → s.m.inMask t n = true → (s.m.thread t n).st = .ended) → s.m.allQueuesEmpty t = true →
      Does (.tileDoneSignal t) s (s.m.modTile t (fun x => { x with doneSent := true, doneFlight := true }))) ∧
    (∀ o r n, (s.m.tile t).sent = o :: r → o.refused = true → o.live = true → n = s.m.modTile t (fun x => { x with sent := x.sent.erase o }) → n.tileEnabled t = true →
      (n.thread t o.th).st ≠ .trapped → (n.thread t o.th).st ≠ .off → Does (.buoyRefusalArrival t) s (n.trapForSignal t o.th o.pc)) ∧
    (∀ o r, (s.m.tile t).sent = o :: r → o.refused = true → (o.live = false ∨ (s.m.thread t o.th).st = .trapped ∨ (s.m.thread t o.th).st = .off) →
      Does (.buoyRefusalArrival t) s ((s.m.modTile t (fun x => { x with sent := x.sent.erase o })).raiseTile t 0x0823 o.th))

/-- A unit instruction that its unit's queue has room for joins it with its opcode, fields, tag, operands and generator, the thread goes on, and what can start starts (R102, R124, R136, R142, R153, R178, R183, R196, R201, R204). A unit instruction that finds its queue full waits for it and changes nothing else of the queue (R102). -/
def Obligations.UnitInstructions : Prop :=
  (∀ (s : State) (t th : Nat) (f : BitVec 56) (x : Thread) (l : Mod), x = s.m.thread t th → l = Fetched s.m t th →
    let joins := fun u op args gen => (Queued s.m t th u (entryOf s.m t th op f args gen)).startUnits t
    (CanRun s.m t th [] →
      ((s.m.queue t 0).length < 4 → mmaOk f = true → Does (.mma t th f) s (joins 0 0x40 [] none)) ∧
      ((s.m.queue t 0).length < 4 → mlatchOk f = true → Does (.mlatch t th f) s (joins 0 0x41 [] none)) ∧
      ((s.m.queue t 1).length < 4 → ocfgOk f = true → Does (.ocfg t th f) s (joins 1 0x48 [] none)) ∧
      ((s.m.queue t 1).length < 4 → only (fm 54 2 ||| fm 46 8 ||| mOff) f = true → bf f 54 2 < 3 → s.m.dowelValid t (bf f 46 8) = true →
        s.m.dowelMode t (bf f 46 8) ≠ 2 → s.m.dowelMode t (bf f 46 8) ≠ 3 → Does (.ovec t th f) s (joins 1 0x49 [] none)) ∧
      ((s.m.queue t 1).length < 4 → only (fm 44 1) f = true → s.m.flag (tileReg t 0x3_0010) 0 = false → Does (.odrain t th f) s (joins 1 0x4B [] (l.drainGen t))) ∧
      ((s.m.queue t 1).length < 4 → only (fm 44 1) f = true → s.m.flag (tileReg t 0x3_0010) 0 = true → Does (.odrain t th f) s
        ((Retired s.m t th (fun k => ((k.setFlag (tileReg t 0x3_0010) 0 false).modTile t (fun y => { y with issueSeq := y.issueSeq + 1 })).setQueue t 1
          (k.queue t 1 ++ [{ entryOf s.m t th 0x4B f [] (l.drainGen t) with reference := true }]))).startUnits t)) ∧
      ((s.m.queue t 2).length < 4 → vopOk f = true → Does (.vop t th f) s (joins 2 0x50 [] none)) ∧
      ((s.m.queue t 4).length < 4 → randOk f = true → Does (.rand t th f) s (joins 4 0x62 [] (some (bf f 54 2))))) ∧
    (CanRun s.m t th (if vredRf f = 0 then [fD f] else [fD f, fD f + 1]) → (s.m.queue t 2).length < 4 → vredOk f = true →
      Does (.vred t th f) s (joins 2 0x51 [] none)) ∧
    (CanRun s.m t th [bf f 40 5] → (s.m.queue t 3).length < 4 → quantOk f = true →
      Does (.quant t th f) s (joins 3 0x58 [x.gReg (bf f 40 5)] (if bit f 50 then some (bf f 48 2) else none))) ∧
    (CanRun s.m t th [fS1 f, fS2 f] → (s.m.queue t 1).length < 4 → only (mS1 ||| mS2) f = true →
      (val32 (x.gReg (fS1 f))).isNan = false → (val32 (x.gReg (fS2 f))).isNan = false →
      (Val.less (val32 (x.gReg (fS2 f))) (val32 (x.gReg (fS1 f))) = true → (val32 (x.gReg (fS1 f))).isZero = true ∧ (val32 (x.gReg (fS2 f))).isZero = true) →
      Does (.oclamp t th f) s (joins 1 0x4A [x.gReg (fS1 f), x.gReg (fS2 f)] none)) ∧
    (CanRun s.m t th (run4 (fS1 f)) → (s.m.queue t 4).length < 4 → fS1 f ≤ 28 →
      (only (fm 54 2 ||| fm 53 1 ||| mS1) f = true → Does (.rkey t th f) s (joins 4 0x60 ((run4 (fS1 f)).map x.gReg) (some (bf f 54 2)))) ∧
      (only (fm 54 2 ||| mS1) f = true → Does (.rctr t th f) s (joins 4 0x61 ((run4 (fS1 f)).map x.gReg) (some (bf f 54 2))))) ∧
    (CanRun s.m t th [fD f, fS1 f, fS1 f + 1] → (s.m.queue t 2).length < 4 → sampleOk f = true →
      Does (.sample t th f) s (joins 2 0x63 [x.gReg (fS1 f), x.gReg (fS1 f + 1)] (some (bf f 44 2))))) ∧
  (∀ (s : State) (t th : Nat) (f : BitVec 56) (x : Thread), x = s.m.thread t th →
    let waits := fun u => ((Fetched s.m t th).enterWait t th (.queue u)).startUnits t
    (CanRun s.m t th [] →
      (4 ≤ (s.m.queue t 0).length → (mmaOk f = true → Does (.mma t th f) s (waits .array)) ∧ (mlatchOk f = true → Does (.mlatch t th f) s (waits .array))) ∧
      (4 ≤ (s.m.queue t 1).length → (ocfgOk f = true → Does (.ocfg t th f) s (waits .output)) ∧ (only (fm 44 1) f = true → Does (.odrain t th f) s (waits .output)) ∧
        (only (fm 54 2 ||| fm 46 8 ||| mOff) f = true → bf f 54 2 < 3 → s.m.dowelValid t (bf f 46 8) = true →
          s.m.dowelMode t (bf f 46 8) ≠ 2 → s.m.dowelMode t (bf f 46 8) ≠ 3 → Does (.ovec t th f) s (waits .output))) ∧
      (4 ≤ (s.m.queue t 2).length → vopOk f = true → Does (.vop t th f) s (waits .vector)) ∧
      (4 ≤ (s.m.queue t 4).length → randOk f = true → Does (.rand t th f) s (waits .random))) ∧
    (CanRun s.m t th (if vredRf f = 0 then [fD f] else [fD f, fD f + 1]) → 4 ≤ (s.m.queue t 2).length → vredOk f = true → Does (.vred t th f) s (waits .vector)) ∧
    (CanRun s.m t th [bf f 40 5] → 4 ≤ (s.m.queue t 3).length → quantOk f = true → Does (.quant t th f) s (waits .quantiser)) ∧
    (CanRun s.m t th [fS1 f, fS2 f] → 4 ≤ (s.m.queue t 1).length → only (mS1 ||| mS2) f = true →
      (val32 (x.gReg (fS1 f))).isNan = false → (val32 (x.gReg (fS2 f))).isNan = false →
      (Val.less (val32 (x.gReg (fS2 f))) (val32 (x.gReg (fS1 f))) = true → (val32 (x.gReg (fS1 f))).isZero = true ∧ (val32 (x.gReg (fS2 f))).isZero = true) →
      Does (.oclamp t th f) s (waits .output)) ∧
    (CanRun s.m t th (run4 (fS1 f)) → 4 ≤ (s.m.queue t 4).length → fS1 f ≤ 28 →
      (only (fm 54 2 ||| fm 53 1 ||| mS1) f = true → Does (.rkey t th f) s (waits .random)) ∧
      (only (fm 54 2 ||| mS1) f = true → Does (.rctr t th f) s (waits .random))) ∧
    (CanRun s.m t th [fD f, fS1 f, fS1 f + 1] → 4 ≤ (s.m.queue t 2).length → sampleOk f = true → Does (.sample t th f) s (waits .vector)))

/-- A started head leaves its queue when it completes: its results go to the g registers, its counts to the tile's counters and the numeric table (R102, R187 to R190), and the next may start. The oldest counts reach the numeric table, or mark it faulty where it is no longer usable (R189, R190). -/
def Obligations.UnitCompletions : Prop :=
  (∀ (s : State) (t : Nat) (u : TileUnit) (e : QEntry) (r : List QEntry), s.m.tileRuns t = true → s.m.queue t (unitNo u) = e :: r → e.started = true →
    Does (.unitInstructionDone t u) s
      (((e.counts.foldl (fun m c => m.countConv t c)
        ((fun m => if e.op = 0x4B then m.addCnt (CNT_DRAIN t) 1 else m)
          (e.results.foldl (fun m p => m.modThread t e.th (fun x => x.setG p.1 p.2)) (s.m.setQueue t (unitNo u) r)))).startUnits t).settlePort t)) ∧
  (∀ (s : State) (t : Nat) (x : TableUpd) (r : List TableUpd) (n : Mod), s.m.mainUp = true → t < 1280 → s.m.tileClocked t = true → (s.m.tile t).tableQ = x :: r →
    n = s.m.modTile t (fun y => { y with tableQ := r }) → n.tableActive t = true →
    (n.tableUsable t = true → Does (.numTableUpdate t) s (n.tableAdd t x)) ∧ (n.tableUsable t = false → Does (.numTableUpdate t) s (n.tableFault t)))

/-! ## The exchange -/

/-- The phases of a partition's exchange (R210, R223, R229 to R232, R235): a vote that is due is taken, a ready vote launches its record, the phase ends after its duration and the kerf after it, when an armed tile drains its receive buffer and is released once it is empty; a tile with words left stays armed. Words at a tile's ports and at the nodes (R219, R221 to R223, R226 to R228, R236, R239): a word leaves at its bt from the send buffer and takes its lanes along the row, along the column and over the Dovetail, or is 0x0621 when the buffer does not hold it; a lane that another word has is 0x0623; a word comes at most 2 bt before its due count; one that comes in its window goes to the receive buffer and from there to its place, one that no receive stream awaits or that comes in no phase is 0x0624, one that finds 512 words in the buffer 0x0622; a node combines. What a node answers (R236, R237, R240): a passing entry gives its word three bt later, an entry of two inputs holds the first operand and combines it with the second within 16 bt, a word that no entry of the record names is an offence. -/
def Obligations.Exchange : Prop :=
  (∀ (s : State) (p n : Nat), s.m.mainUp = true → p < 8 →
    (s.m.voteDue p = true → Does (.launchVote p) s (s.m.launchVote p)) ∧
    (∀ v k, n = s.m.nextRecord p → v = s.m.voteOf p 1 (s.m.count.truncate 32) → k = s.m.setVoteOf p 1 (s.m.count.truncate 32) {} →
      s.m.jobRuns p = true → s.m.atMark = true → s.m.halted = false → s.m.recordPending p = true → v.sent = true →
      k.recCross p n = false → v.count = 1 →
      (bit v.flags 0 = true → k.xchState p = 1 → k.stepFatal p = false → k.fatalStopped = false → Does (.phaseLaunch p) s (k.beginPhase p n)) ∧
      (bit v.flags 0 = false → Does (.phaseLaunch p) s (k.failVote p n))) ∧
    (n = s.m.xchRecord p → s.m.xchState p = 2 → s.m.recDuration p n ≤ s.m.phaseBt p →
      Does (.phaseEnd p) s (forEach (s.m.setXch p 3 n) (s.m.tilesOf p) (fun m t =>
        if m.armedFor t n && decide (m.fld (XP_STATUS t) 0 4 = 2) then m.setXp t 3 else m))) ∧
    (n = s.m.xchRecord p → s.m.xchState p = 3 → s.m.recDuration p n + s.m.recKerf p n + s.m.fld (XCH_CTL p) 0 12 ≤ s.m.phaseBt p →
      ∃ k, k = (if s.m.recLast p n then s.m.setXch p 0 0 else s.m.setXch p 1 (n + 1)) ∧
        Does (.kerfEnd p) s (forEach k (s.m.tilesOf p) (fun m t => if m.armedFor t n then
          (m.drainRecv t).overKerf t ((s.m.rd (XCH_LAUNCH p)).toNat + (s.m.recDuration p n + s.m.recKerf p n + s.m.fld (XCH_CTL p) 0 12)) else m)))) ∧
  (∀ (m : Mod) (t c e : Nat), (m.tile t).xEntry = some e →
    ((m.tile t).xIn = [] → ((m.overKerf t c).tile t).xEntry = none ∧ e ∈ ((m.overKerf t c).tile t).xDone) ∧
    ((m.tile t).xIn ≠ [] → ((m.overKerf t c).tile t).xEntry = some e ∧ ((m.overKerf t c).tile t).xOver = some c ∧ (m.overKerf t c).mem = m.mem)) ∧
  (∀ s : State, s.m.mainUp = true →
    (∀ t d n e p k j l, t < 1280 → (s.m.tile t).xEntry = some e → s.m.slotOfTile t = some p → s.m.tileInPhase t = true → s.m.armedFor t (s.m.xchRecord p) = true →
      (s.m.xlSends t e).contains d = true → n < s.m.dWords t d → streamWords (s.m.tile t).xSend d = n → s.m.dStart t d + n / s.m.dLanes t d = s.m.phaseBt p →
      k = s.m.fillSend t →
      j = k.modTile t (fun x => { x with xSend := bumpStream x.xSend d, xBuf := x.xBuf.filter (fun y => !(decide (y.desc = d) && decide (y.num = n))) }) →
      l = j.dLane t d + n % j.dLanes t d →
      (∀ w, (k.tile t).xBuf.find? (fun x => decide (x.desc = d) && decide (x.num = n)) = some w →
        Does (.xchSendWord t d n) s ((j.addCnt (CNT_XSENT t) 1).startWord p
          (j.route p (j.xchRecord p) (halfOfTile t) (j.physTile t % 88 / 8) (t % 8) l (j.count.toNat + 2) (j.dDest t d) (j.dStream t d)) (BitVec.ofNat 16 (j.dStream t d)) l w.word)) ∧
      ((k.tile t).xBuf.find? (fun x => decide (x.desc = d) && decide (x.num = n)) = none →
        Does (.xchSendWord t d n) s (j.tileFault t 0 0x0621 (j.dStream t d) (j.dowelAddr t (j.dDowel t d) (j.dBase t d + n))))) ∧
    (∀ t p v, t < 1280 → s.m.slotOfTile t = some p →
      (s.m.takeWord p (fun w => w.isFor (.tile t) v && !s.m.toNode p t w) = none → Does (.xchRecvWord t v) s s.m) ∧
      (∀ a k, s.m.takeWord p (fun w => w.isFor (.tile t) v && !s.m.toNode p t w) = some (a, k) →
        (∀ e d i, (k.tile t).xEntry = some e → k.tileInPhase t = true → k.armedFor t (k.xchRecord p) = true →
          (k.xlRecvs t e).find? (fun d => decide (k.dStream t d = a.stream.toNat)) = some d → i = streamWords (k.tile t).xRecv d →
          k.dStart t d ≤ a.bt → a.bt ≤ k.dLast t d → i < k.dWords t d →
          ∃ j, j = (k.modTile t (fun x => { x with xRecv := bumpStream x.xRecv d })).drainRecv t ∧
            ((j.tile t).xIn.length < 512 →
              Does (.xchRecvWord t v) s (((j.addCnt (CNT_XRECV t) 1).modTile t (fun x => { x with xIn := x.xIn ++ [{ desc := d, num := i, word := a.word }] })).drainRecv t)) ∧
            (512 ≤ (j.tile t).xIn.length → Does (.xchRecvWord t v) s (j.tileFault t 0 0x0622 a.stream.toNat (j.dowelAddr t (j.dDowel t d) (j.dBase t d + i))))) ∧
        ((k.tile t).xEntry = none ∨ k.tileInPhase t = false → Does (.xchRecvWord t v) s (k.tileFault t 0 0x0624 a.stream.toNat 0))) ∧
      (∀ a k, s.m.takeWord p (fun w => w.isFor (.tile t) v && s.m.toNode p t w) = some (a, k) → Does (.nodeWordCombine (.tile t) v) s (k.tileNodeWord p t false a)) ∧
      (∀ a k, s.m.takeWord p (fun w => w.isFor (.edge t) v) = some (a, k) → Does (.nodeWordCombine (.edge t) v) s (k.tileNodeWord p t true a))) ∧
    (∀ j v a k, j < 6 → s.m.takeWord (s.m.fld (JC_CTL j) 2 3) (fun w => w.isFor (.link j) v) = some (a, k) → Does (.nodeWordCombine (.link j) v) s (k.linkNodeWord j a))) ∧
  (∀ (m : Mod) (p st : Nat) (c : LaneClaim) (r : List LaneClaim),
    ((m.part p).claims.contains c = true → m.claimLanes p st (c :: r) = (false, m.claimFault p c st)) ∧
    (∀ f w, (m.part p).words.find? f = some w → (m.takeWord p f).isSome = decide (w.due ≤ m.count.toNat + 2))) ∧
  (∀ h r c r2 c2 lane at_ : Nat,
    (meshRun h r c r2 c2 lane at_).2 = at_ + 2 * ((max c c2 - min c c2) + (max r r2 - min r r2)) ∧
    (dovetailRun h r c c2 lane at_ true).2 = at_ + 2 * ((max c c2 - min c c2) + r) + 4 ∧
    (∀ x ∈ (meshRun h r c r2 c2 lane at_).1, x.lane = lane ∧ at_ ≤ x.at_ ∧ x.at_ + 2 ≤ (meshRun h r c r2 c2 lane at_).2)) ∧
  (∀ (x : NodeEntry) (k n : Nat) (a b : WordArrival), x.record = n → x.words = 1 →
    (x.op = 0 → x.inA = a.stream.toNat → x.start ≤ a.bt → a.bt ≤ x.last →
      (nodeWord [(k, x)] n [] [] a).1 = .output x 0 (a.bt + 3) a.word) ∧
    (x.op ≠ 0 → x.inA = a.stream.toNat → x.inB = b.stream.toNat → a.stream ≠ b.stream → x.start ≤ a.bt → a.bt ≤ b.bt → b.bt ≤ a.bt + 16 → b.bt ≤ x.last →
      (nodeWord [(k, x)] n [] [] a).1 = .held ∧
      (nodeWord [(k, x)] n (nodeWord [(k, x)] n [] [] a).2.1 (nodeWord [(k, x)] n [] [] a).2.2 b).1 = .output x 0 (b.bt + 3) (nodeCombine x a.word b.word)) ∧
    (x.names a.stream.toNat = false → (nodeWord [(k, x)] n [] [] a).1 = .offence 0x0624))

/-! ## Buoys and rings -/

/-- An add, a set and a compare-and-set on a buoy (R275, R277, R281): the value, the signaller and the time are written, the waiters and watches whose condition now holds leave it, the others stay; a compare-and-set that fails changes nothing; no other buoy and no byte of memory changes. The four operations as they reach a LIVE home (R275 to R278): from a register write, from the Keeper, a Gallery core, a plane of the buoy's partition, a Jicen message that reaches it, a tile's signals, a ring's, and from a waiting thread, which gets the prior value; a home that is not LIVE refuses with 0x0806, and an operation that the source has no right to is refused with 0x0804 (R276). -/
def Obligations.BuoyOperations : Prop :=
  (∀ (m : Mod) (b : Nat) (x src : W32),
    (∀ n v, (n = m.buoyAddOp b x src ∧ v = (m.buoy b).value + x) ∨ (n = m.buoySetOp b x src ∧ v = x) →
      (n.buoy b).value = v ∧ (n.buoy b).lastSrc = src ∧ (n.buoy b).lastTime = m.count ∧ (n.buoy b).st = (m.buoy b).st ∧
      (n.buoy b).waiters = (m.buoy b).waiters.filter (fun w => !condHolds w.cond v w.value w.mask) ∧
      (n.buoy b).watches = (m.buoy b).watches.filter (fun w => !condHolds w.cond v w.value w.mask) ∧
      (∀ k, k ≠ b → n.buoy k = m.buoy k) ∧ n.mem = m.mem) ∧
    (∀ c, (m.buoy b).value ≠ c → m.buoyCasOp b c x src = m) ∧ (∀ c, (m.buoy b).value = c → m.buoyCasOp b c x src = m.buoySetOp b x src)) ∧
  (∀ (s : State) (b : Nat), s.m.mainUp = true → b < 8192 →
    (s.m.buoyLive b = true → ∀ x,
      (∀ who, s.m.shut who (s.m.slotOfBuoy b) = false →
        Does (.buoyOpAdd who b x) s ((s.m.buoyAddOp b x (Source.id (Requester.source who))).answer 0) ∧
        Does (.buoyOpSet who b x) s ((s.m.buoySetOp b x (Source.id (Requester.source who))).answer 0)) ∧
      Does (.buoyAdd .keeper b x) s ((s.m.buoyAddOp b x (Source.id .keeper)).answer 0) ∧
      Does (.buoySet .keeper b x) s ((s.m.buoySetOp b x (Source.id .keeper)).answer 0) ∧
      (∀ src, ((∃ c, src = Source.gallery c ∧ s.m.shut .gallery (s.m.slotOfBuoy b) = false) ∨
          (∃ k, src = Source.plane k ∧ s.m.slotOfStack k ≠ none ∧ s.m.slotOfBuoy b = s.m.slotOfStack k) ∨ (∃ n, src = Source.jicen n ∧ s.m.jicenReaches b = true)) →
        Does (.buoyAdd src b x) s ((s.m.buoyAddOp b x (Source.id src)).answer 0) ∧ Does (.buoySet src b x) s ((s.m.buoySetOp b x (Source.id src)).answer 0)) ∧
      (∀ n c, s.m.jicenReaches b = true →
        Does (.buoyCas (.jicen n) b c x) s ((s.m.buoyCasOp b c x (Source.id (.jicen n))).answerValue ((s.m.buoy b).value.zeroExtend 64))) ∧
      (∀ t th o r n, (s.m.tile t).sent = o :: r → o.refused = false → o.th = th → o.b = b → n = s.m.modTile t (fun y => { y with sent := y.sent.erase o }) →
        (o.isSet = false → Does (.buoyAdd (.thread t th) b o.x) s (n.buoyAddOp b o.x (Source.id (.thread t th)))) ∧
        (o.isSet = true → Does (.buoySet (.thread t th) b o.x) s (n.buoySetOp b o.x (Source.id (.thread t th))))) ∧
      (∀ t, (s.m.tile t).doneFlight = true → s.m.doneBuoy t = b →
        Does (.buoyAdd (.done t) b 1) s ((s.m.modTile t (fun y => { y with doneFlight := false })).buoyAddOp b 1 (Source.id (.done t)))) ∧
      (∀ r e q isSet, (s.m.ringOf r).prog = e :: q → e.signalled = true → e.answered = false → num e.image 6 2 % 8192 = b →
        isSet = decide (num e.image 6 2 / 8192 % 4 = 1) → num e.image 0x10 4 = x.toNat →
        ∃ n, n = s.m.setRing r { s.m.ringOf r with prog := { e with answered := true, refusedSig := false } :: q } ∧
          (isSet = false → Does (.buoyAdd (.ring r) b x) s (n.buoyAddOp b x (Source.id (.ring r)))) ∧
          (isSet = true → Does (.buoySet (.ring r) b x) s (n.buoySetOp b x (Source.id (.ring r))))) ∧
      (∀ t th d c, (s.m.thread t th).st = .wait → (s.m.thread t th).release = .none →
        ((s.m.thread t th).waitOn = .remote b d (some (c, x)) →
          Does (.buoyCas (.thread t th) b c x) s ((s.m.buoyCasOp b c x (Source.id (.thread t th))).sendRelease (.thread t th) (.reply (s.m.buoy b).value))) ∧
        ((s.m.thread t th).waitOn = .remote b d none →
          Does (.buoyRead (.thread t th) b) s (s.m.sendRelease (.thread t th) (.reply (s.m.buoy b).value))))) ∧
    (s.m.buoyLive b = false → ∀ x who, s.m.shut who (s.m.slotOfBuoy b) = false → who ≠ .host →
      Does (.buoyOpAdd who b x) s (s.m.answer 0x0806) ∧ Does (.buoyOpSet who b x) s (s.m.answer 0x0806)) ∧
    (∀ x c k, (s.m.slotOfBuoy b ≠ s.m.slotOfStack k → Does (.buoyAdd (.plane k) b x) s (s.m.answer 0x0804) ∧ Does (.buoySet (.plane k) b x) s (s.m.answer 0x0804)) ∧
      Does (.buoyCas (.plane k) b c x) s (s.m.answer 0x0804) ∧ Does (.buoyRead (.plane k) b) s (s.m.answer 0x0804) ∧
      Does (.buoyCas .keeper b c x) s (s.m.answer 0x0804) ∧ Does (.buoyRead .keeper b) s (s.m.answer 0x0804)))

/-- R275 on a LIVE buoy: an add adds modulo 2^32, a set replaces, a compare-and-set replaces an equal value and leaves any other; a BCAS and a BREAD give the prior value back to their thread, and a read changes no buoy, no register and no byte of memory. -/
def Obligations.BuoyArithmetic : Prop :=
  ∀ (s : State) (b t th d : Nat) (x c v : W32), s.m.mainUp = true → b < 8192 → s.m.buoyLive b = true → v = (s.m.buoy b).value →
    (∃ u, exec (.buoyAdd .keeper b x) s = .next u ∧ (u.m.buoy b).value.toNat = (v.toNat + x.toNat) % 2 ^ 32) ∧
    (∃ u, exec (.buoySet .keeper b x) s = .next u ∧ (u.m.buoy b).value = x) ∧
    (t < 1280 → th < 4 → (s.m.thread t th).st = .wait → (s.m.thread t th).release = .none →
      ((s.m.thread t th).waitOn = .remote b d (some (c, x)) →
        ∃ u, exec (.buoyCas (.thread t th) b c x) s = .next u ∧ (u.m.buoy b).value = (if v = c then x else v) ∧ (u.m.thread t th).release = .reply v) ∧
      ((s.m.thread t th).waitOn = .remote b d none →
        ∃ u, exec (.buoyRead (.thread t th) b) s = .next u ∧ (u.m.thread t th).release = .reply v ∧
          (∀ k, u.m.buoy k = s.m.buoy k) ∧ u.m.regs = s.m.regs ∧ u.m.mem = s.m.mem))

/-- R279 as a buoy home uses it: a waiter that is listed leaves the list when a set gives the buoy a value that meets its condition under its code, and stays otherwise. -/
def Obligations.WaitConditions : Prop :=
  ∀ (m : Mod) (b : Nat) (v src : W32) (e : WaitEntry), e ∈ (m.buoy b).waiters →
    (e.cond = 0 → (e ∈ ((m.buoySetOp b v src).buoy b).waiters ↔ ¬ e.value.toNat ≤ v.toNat)) ∧
    (e.cond = 1 → (e ∈ ((m.buoySetOp b v src).buoy b).waiters ↔ ¬ v = e.value)) ∧
    (e.cond = 2 → (e ∈ ((m.buoySetOp b v src).buoy b).waiters ↔ ¬ v ≠ e.value)) ∧
    (e.cond = 3 → (e ∈ ((m.buoySetOp b v src).buoy b).waiters ↔ ¬ v &&& e.mask = e.value &&& e.mask))

/-- Waits, watches, subscriptions and the loss of an owner (R279 to R286): a wait whose condition holds is released at once and one whose does not is listed, a BROKEN home answers a thread with BROKEN and refuses a ring head, a FREE or SAVED one refuses; a watch is listed or answered, ends by its deadline or its registrant, a gate subscription is answered or noted. -/
def Obligations.BuoyWaits : Prop :=
  ∀ (s : State) (b : Nat), s.m.mainUp = true → b < 8192 →
    (∀ w e, s.m.waitSent w b = some e →
      ((s.m.buoy b).st = .live → condHolds e.cond (s.m.buoy b).value e.value e.mask = true → Does (.buoyWaitRequest w b) s (s.m.sendRelease e.who .met)) ∧
      ((s.m.buoy b).st = .live → condHolds e.cond (s.m.buoy b).value e.value e.mask = false →
        Does (.buoyWaitRequest w b) s (s.m.setBuoy b { s.m.buoy b with waiters := (s.m.buoy b).waiters ++ [e] })) ∧
      (∀ t th, w = .thread t th → (s.m.buoy b).st = .broken → Does (.buoyWaitRequest w b) s (s.m.sendRelease w .broken)) ∧
      (∀ r, w = .ringHead r → (s.m.buoy b).st = .broken → Does (.buoyWaitRequest w b) s (s.m.sendRelease w .refused)) ∧
      ((s.m.buoy b).st = .free ∨ (s.m.buoy b).st = .saved → Does (.buoyWaitRequest w b) s (s.m.sendRelease w .refused))) ∧
    (∀ who w, s.m.shut who (s.m.slotOfBuoy b) = false → w.cond.toNat < 4 → targetOk w.target = true → (s.m.buoy b).st = .live →
      (condHolds w.cond (s.m.buoy b).value w.value w.mask = true → Does (.watchRegistration who b w) s ((s.m.sendWatch b w 0 (s.m.buoy b).value).answer 0)) ∧
      (condHolds w.cond (s.m.buoy b).value w.value w.mask = false → (s.m.buoy b).watches.length < 4 →
        Does (.watchRegistration who b w) s ((s.m.setBuoy b { s.m.buoy b with watches := (s.m.buoy b).watches ++ [w] }).answer 0)) ∧
      (condHolds w.cond (s.m.buoy b).value w.value w.mask = false → 4 ≤ (s.m.buoy b).watches.length → Does (.watchRegistration who b w) s (s.m.answer 0x080A))) ∧
    (∀ n w, (s.m.buoy b).watches[n]? = some w → w.deadline ≠ 0 → w.deadline.toNat ≤ s.m.count.toNat →
      Does (.watchTimeout b n) s ((s.m.setBuoy b { s.m.buoy b with watches := (s.m.buoy b).watches.eraseIdx n }).sendWatch b w 2 0)) ∧
    (∀ g c n, s.m.watchAt b g c = some n → Does (.watchCancel b g c) s (s.m.endWatch b n 3)) ∧
    (∀ k, k < 32 → (s.m.buoy b).st = .live → s.m.gatedShards k b ≠ [] → bit (s.m.buoy b).subs k = false →
      ((s.m.buoy b).value ≠ 0 → Does (.gateSubscribe k b) s (s.m.sendGates b (BitVec.ofNat 32 (2 ^ k)) 0 (s.m.buoy b).value)) ∧
      ((s.m.buoy b).value = 0 → Does (.gateSubscribe k b) s (s.m.setBuoy b { s.m.buoy b with subs := (s.m.buoy b).subs ||| BitVec.ofNat 32 (2 ^ k) }))) ∧
    ((s.m.buoy b).st = .live ∨ (s.m.buoy b).st = .saved → Does (.buoyOwnerReset b) s (s.m.breakBuoy b)) ∧
    ((s.m.buoy b).st = .live → Does (.buoyPreempt b) s (s.m.preemptBuoy b))

/-- A buoy that goes BROKEN keeps no waiter, watch or subscription, and one that is saved and restored has the value and the waiters it had (R274, R285, R286). -/
def Obligations.BuoyBreakAndRestore : Prop :=
  ∀ (m : Mod) (b : Nat),
    ((m.breakBuoy b).buoy b).st = .broken ∧ ((m.breakBuoy b).buoy b).waiters = [] ∧ ((m.breakBuoy b).buoy b).watches = [] ∧ ((m.breakBuoy b).buoy b).subs = 0 ∧
    (∀ k, k ≠ b → (m.breakBuoy b).buoy k = m.buoy k) ∧
    ((m.preemptBuoy b).buoy b).st = .saved ∧ (((m.preemptBuoy b).restoreBuoy b).buoy b).st = .live ∧
    (((m.preemptBuoy b).restoreBuoy b).buoy b).value = (m.buoy b).value ∧
    (∀ e, e ∈ (((m.preemptBuoy b).restoreBuoy b).buoy b).waiters ↔ e ∈ (m.buoy b).waiters ∧ condHolds e.cond (m.buoy b).value e.value e.mask = false)

/-- Control of a ring (R294 to R298): an enable that R295 accepts empties the pointers and makes the ring IDLE, and opens the flow of a FEED ring, one that R295 or R431 refuses writes the other fields and leaves the ring disabled, a disable stops it, a doorbell within the capacity moves TAIL and makes an IDLE ring ACTIVE, a completion doorbell moves HEAD, others are counted and ignored. -/
def Obligations.RingControl : Prop :=
  ∀ (s : State) (r : Nat), s.m.mainUp = true → r < 65536 →
    (∀ who v w n, s.m.ringEnabled r = false → s.m.isStaged (RING_CTL r) = false →
      w = merge 0xFFFF_FF1F_0F88_0001 (s.m.rd (RING_CTL r)) (v ||| 1) → n = s.m.wr (RING_CTL r) w → s.m.ringShut who r w = false →
      (n.ringEnableOk r = true → ringKind r ≠ 4 → Does (.ringEnable who r v) s ((((n.wr (RING_PTR r) 0).setRingState r 1).setRing r {}).answer 0)) ∧
      (n.ringEnableOk r = true → ringKind r = 4 → n.feedEnableOk r = true →
        Does (.ringEnable who r v) s (((((n.wr (RING_PTR r) 0).setRingState r 1).setRing r {}).setFlowState (ifaceOfRing r) (flowOfRing r) 1).answer 0)) ∧
      (who ≠ .host → n.ringEnableOk r = false → Does (.ringEnable who r v) s (((s.m.wr (RING_CTL r) (setBit w 0 false)).ringCode r 0x0802).answer 0x0802)) ∧
      (who ≠ .host → n.ringEnableOk r = true → ringKind r = 4 → n.feedEnableOk r = false →
        Does (.ringEnable who r v) s (((s.m.wr (RING_CTL r) (setBit w 0 false)).ringCode r 0x0D02).answer 0x0D02))) ∧
    (∀ who, s.m.ringEnabled r = true → Does (.ringDisable who r) s ((s.m.stopRing r).answer 0)) ∧
    ((s.m.ringOf r).stopping = true → (s.m.ringOf r).prog = [] → Does (.ringStopped r) s (s.m.stopRingNow r)) ∧
    (∀ who v, s.m.shut who (s.m.slotOfRing r) = false → s.m.ringState r ≠ 0 → s.m.ringState r ≠ 6 →
      (s.m.flag (RING_CTL r) 19 = false → s.m.mayPush who r = true →
        ((v.toNat + 2 ^ 32 - s.m.ringTail r) % 2 ^ 32 ≤ s.m.ringCap r - s.m.ringFill r →
          (s.m.ringState r ≠ 1 → Does (.ringDoorbell who r v) s ((s.m.setRingTail r v.toNat).answer 0)) ∧
          (s.m.ringState r = 1 → Does (.ringDoorbell who r v) s (((s.m.setRingTail r v.toNat).setRingState r 2).answer 0))) ∧
        (s.m.ringCap r - s.m.ringFill r < (v.toNat + 2 ^ 32 - s.m.ringTail r) % 2 ^ 32 →
          Does (.ringDoorbell who r v) s ((s.m.ignoreDoorbell r 0x0807).answer 0))) ∧
      (s.m.flag (RING_CTL r) 19 = false → s.m.mayPush who r = false → Does (.ringDoorbell who r v) s ((s.m.ignoreDoorbell r 0x0808).answer 0)) ∧
      (s.m.flag (RING_CTL r) 19 = true → (v.toNat + 2 ^ 32 - s.m.ringHead r) % 2 ^ 32 ≤ s.m.ringFill r →
        Does (.completionDoorbell who r v) s (((s.m.setRingHead r v.toNat).settleRing r).answer 0)))

/-- The life of an entry (R278, R280, R299, R302, R303): a head that is well formed waits for its buoy or starts, an ill-formed one completes with its code, a release starts it, the oldest entry's signal leaves when its work is done, and it ends with its record. The end of an entry that was performed or refused (R302 to R304): HEAD advances by one modulo 2^32, TAIL stays, the done count adds, the entry leaves those in progress, a refused entry leaves the ring in ERROR; memory stays. -/
def Obligations.RingEntries : Prop :=
  (∀ (s : State) (r : Nat) (b : List Byte), s.m.mainUp = true → r < 65536 → (ringKind r ≠ 1 ∨ s.m.tileClocked (tileOfRing r) = true) → b = s.m.ringEntryBytes r (s.m.nextIndex r) →
    (s.m.ringEnabled r = true → s.m.ringState r = 2 → (s.m.ringOf r).waitOn = none → (s.m.ringOf r).prog.length < s.m.ringFill r → s.m.consumerRuns r = true →
      Does (.ringEntryStart r false) s (s.m.failHead r b 0x0824) ∧
      (s.m.headCode r b ≠ 0 → Does (.ringEntryStart r true) s (s.m.refuseEntry r b (s.m.headCode r b))) ∧
      (s.m.headCode r b = 0 → ringKind r ≠ 0 → entryWaits (ringKind r) b = false → Does (.ringEntryStart r true) s (s.m.beginEntry r b)) ∧
      (s.m.headCode r b = 0 → ringKind r ≠ 0 → entryWaits (ringKind r) b = true → (s.m.ringOf r).headRelease = .none →
        Does (.ringEntryStart r true) s ((s.m.setRing r { s.m.ringOf r with waitOn := some (entryWaitBuoy b), headRelease := .none }).settleRing r))) ∧
    (∀ k, (s.m.ringOf r).waitOn = some k → s.m.ringState r ≠ 6 →
      ((s.m.ringOf r).headRelease = .met → ((s.m.setRing r { s.m.ringOf r with waitOn := none }).settleRing r).consumerRuns r = true →
        ((s.m.setRing r { s.m.ringOf r with waitOn := none }).settleRing r).ringState r ≠ 5 →
        Does (.ringHeadRelease r) s (((s.m.setRing r { s.m.ringOf r with waitOn := none }).settleRing r).beginEntry r b)) ∧
      ((s.m.ringOf r).headRelease = .broken → Does (.ringHeadRelease r) s (s.m.failHead r b 0x0822)) ∧
      ((s.m.ringOf r).headRelease = .refused → Does (.ringHeadRelease r) s (s.m.failHead r b 0x0823))) ∧
    (∀ e q ok, (s.m.ringOf r).prog = e :: q → s.m.ringState r ≠ 4 →
      (e.done = true → e.signalled = false → wantsSignal (ringKind r) e.image = true → e.refused = false →
        Does (.ringEntryComplete r ok) s (s.m.setRing r { s.m.ringOf r with prog := { e with signalled := true } :: q })) ∧
      (e.done = true → e.signalled = false → (wantsSignal (ringKind r) e.image = false ∨ e.refused = true) → Does (.ringEntryComplete r ok) s (s.m.finishEntry r e ok)) ∧
      (e.signalled = true → e.answered = true → Does (.ringSignalAnswer r ok) s (s.m.finishEntry r e ok))) ∧
    (∀ e q, (s.m.ringOf r).prog = e :: q → s.m.ringState r = 4 → Does (.ringStallRelease r) s (s.m.finishEntry r e true))) ∧
  (∀ (m : Mod) (r : Nat) (e : RingEntry) (q : List RingEntry), r < 65536 → (m.ringOf r).prog = e :: q → (e.refused = true ∨ e.refusedSig = false) →
    (m.closeEntry r e).ringHead r = (m.ringHead r + 1) % 2 ^ 32 ∧ (m.closeEntry r e).ringTail r = m.ringTail r ∧
    ((m.closeEntry r e).ringOf r).prog = q ∧ (e.refused = true → (m.closeEntry r e).ringState r = 5) ∧
    ((m.rd (RING_CNT_DONE r)).toNat + 1 < 2 ^ 64 → ((m.closeEntry r e).rd (RING_CNT_DONE r)).toNat = (m.rd (RING_CNT_DONE r)).toNat + 1) ∧
    (m.closeEntry r e).mem = m.mem)

/-- The entries of a tile's DMA engine (R76, R305, R307). With its tile clocked and no line of HBM marked uncorrectable, the oldest entry at work does its transfer and is marked done with success and the bytes moved: LOAD writes the HBM rows into the destination's words, where every row's stack has its key and does not scrub, STORE writes the source's words into the HBM rows, COPY moves words of the tile's scratchpad, SYNC moves nothing; MITRE starts the copy that MITRE_DONE ends. LOAD and COPY change no register outside the DMA jig, SYNC none. The jig that the engine configures walks the words of the address field in the dowel's word order (R67). -/
def Obligations.DmaEntries : Prop :=
  (∀ (s : State) (r : Nat) (e : RingEntry) (t slot n bytes : Nat), s.m.mainUp = true → r < 65536 → ringKind r = 1 → t = tileOfRing r → s.m.tileClocked t = true →
    (∀ k, (s.m.stack k).bad = []) → slot = (s.m.slotOfTile t).getD 0 → n = dmaRowWords e.image * dmaRows e.image → bytes = 32 * dmaRowWords e.image →
    (∃ q, s.m.working r = e :: q) →
    (∀ d src, entryOp e.image = 1 → d = num e.image 0x20 8 → src = num e.image 0x18 8 → (∀ a, a ∈ dmaHbmRows e.image src → s.m.hbmCode slot a = 0) →
      ∃ u, exec (.dmaLoad r) s = .next u ∧ u.pending = s.pending ∧ Finished r e.index (bytes * dmaRows e.image) s.m u.m ∧
        u.m.mem = (s.m.dmaWrite t d n ((dmaHbmRows e.image src).flatMap (fun a => s.m.ldHbm slot a bytes))).mem ∧
        (∀ a, a < JIG_CTL t 5 ∨ JIG_CTL t 6 ≤ a → u.m.rd a = s.m.rd a)) ∧
    (∀ d, entryOp e.image = 2 → d = num e.image 0x20 8 → (∀ a, a ∈ dmaHbmRows e.image d → s.m.hbmCode slot a = 0) →
      ∃ u, exec (.dmaStore r) s = .next u ∧ u.pending = s.pending ∧ Finished r e.index (bytes * dmaRows e.image) s.m u.m ∧ u.m.mem = (s.m.dmaStoreWork t e.image).2.mem) ∧
    (∀ d src, entryOp e.image = 3 → d = num e.image 0x20 8 → src = num e.image 0x18 8 →
      ∃ u, exec (.dmaCopy r) s = .next u ∧ u.pending = s.pending ∧ Finished r e.index (bytes * dmaRows e.image) s.m u.m ∧
        u.m.mem = ((s.m.dmaRead t src (dmaRowWords e.image)).2.dmaWrite t d (dmaRowWords e.image) (s.m.dmaRead t src (dmaRowWords e.image)).1).mem ∧
        (∀ a, a < JIG_CTL t 5 ∨ JIG_CTL t 6 ≤ a → u.m.rd a = s.m.rd a)) ∧
    (entryOp e.image = 4 → (s.m.tile t).mitre = [] →
      ∃ u, exec (.dmaMitre r) s = .next u ∧ u.pending = s.pending ∧ (u.m.tile t).mitre = [mitreOf e.image (some (r, e.index))] ∧ u.m.rd (MITRE_STATUS t) = 1 ∧
        u.m.mem = s.m.mem ∧ (u.m.ringOf r).prog = (s.m.ringOf r).prog ∧ (∀ a, a ≠ MITRE_STATUS t → u.m.rd a = s.m.rd a)) ∧
    (entryOp e.image = 5 →
      ∃ u, exec (.dmaSync r) s = .next u ∧ u.pending = s.pending ∧ Finished r e.index 0 s.m u.m ∧ u.m.mem = s.m.mem ∧ u.m.regs = s.m.regs)) ∧
  (∀ (m : Mod) (t v n : Nat) (w : Bool), t < 1280 → 0 < n → spWord v + n ≤ m.dowelWords t (spDowel v) → spWord v + n ≤ 2 ^ 20 →
    (m.setDmaJig t w v n).jigWalk t 5 = (upto n).map (fun i => spWord v + i))

/-! ## HBM and planes -/

/-- HBM accesses, refresh and scrub (R315 to R320): a granted write puts its bytes and a granted read answers them, and their grant ends; an access that is not granted does nothing, one of the debug port is refused with 0x0908 while a sealed partition exists, an access in a scrub is refused with 0x0909 and one without a key is 0x0926, a corrected access counts, a refresh of a granted pseudo-channel counts, a scrub ends with READY and zeros. Arbitration and pseudo-channels (R332, R333, R338): the NTH grant goes to the oldest request and any other to the highest priority, the loser's priority rises by one up to its class plus 3; ARB_CTL takes NTH of 4 to 64 at the next mark; sparing and return run one pseudo-channel of a stack at a time and end at a step boundary mark. -/
def Obligations.HbmAndSparing : Prop :=
  (∀ (s : State) (k : Nat), s.m.mainUp = true → k < 32 →
    (∀ a x, s.m.grantee k a = some x → a.debug = false → a.off % 1024 + a.size ≤ 1024 → a.off + a.size ≤ 0xF_8000_0000 → a.off % accessUnit x = 0 → a.size % accessUnit x = 0 →
      s.m.hbmState k ≠ 2 →
      (s.m.stackKeyed k = true → a.corrected = 0 → a.uncorrectable = false → (s.m.stack k).bad = [] →
        ∃ t, exec (.hbmAccessComplete k a) s = .next t ∧ t.pending = s.pending ∧ (∀ p, p ∈ s.m.hbmPlaces k a.off a.write.isSome → (t.m.arbOf k p.1).owner = none) ∧
          (a.write = none → t.m.reply.data = s.m.ld (hbmAt k a.off) a.len ∧ t.m.mem = s.m.mem ∧ t.m.regs = s.m.regs) ∧
          (∀ b, a.write = some b → t.m.mem = (s.m.st (hbmAt k a.off) b).mem ∧ t.m.reply.code = 0 ∧ (∀ c, c ≠ CNT_RMW k → t.m.rd c = s.m.rd c))) ∧
      (s.m.stackKeyed k = false → Does (.hbmAccessComplete k a) s ((s.m.raiseStack k 0x0926 a.off).answer 0x0926))) ∧
    (∀ a, s.m.hbmState k = 2 → Does (.hbmAccessComplete k a) s (s.m.answer 0x0909)) ∧
    (∀ a, s.m.hbmState k ≠ 2 →
      (a.debug = false → s.m.grantee k a = none → Does (.hbmAccessComplete k a) s s.m) ∧
      (a.debug = true → s.m.anySealed = true → Does (.hbmAccessComplete k a) s (s.m.answer 0x0908))) ∧
    (∀ q x, (s.m.arbOf k q).owner = some x → (s.m.stack k).selfRefresh = false → Does (.refresh k q) s (s.m.addCnt (CNT_REFRESH_PREEMPT k) 1)) ∧
    ((s.m.stack k).scrubbing = true → Does (.hbmScrubDone k) s (s.m.endStackScrub k).keeperGoesOn.lampGoesOn) ∧
    (s.m.endStackScrub k).hbmState k = 3 ∧ (∀ o, o < 2 ^ 36 → (s.m.endStackScrub k).ldByte (hbmAt k o) = 0) ∧
    (∀ o, o < hbmAt k 0 ∨ hbmAt (k + 1) 0 ≤ o → (s.m.endStackScrub k).ldByte o = s.m.ldByte o)) ∧
  (∀ (s : State) (k q : Nat), s.m.mainUp = true → k < 32 → q < 32 →
    (∀ x a y b, s.m.hbmState k = 3 → x < 105 → y < 105 → x ≠ y → ((s.m.arbOf k q).grants + 1) % s.m.fld (ARB_CTL k) 0 7 ≠ 0 →
      arbPrio (s.m.arbOf k q) y < arbPrio (s.m.arbOf k q) x →
      ∃ t, exec (.arbiterGrant k q [{ x := x, age := a }, { x := y, age := b }]) s = .next t ∧ (t.m.arbOf k q).owner = some x ∧
        (t.m.arbOf k q).grants = (s.m.arbOf k q).grants + 1 ∧ arbPrio (t.m.arbOf k q) x = classOf x ∧
        arbPrio (t.m.arbOf k q) y = min (arbPrio (s.m.arbOf k q) y + 1) (classOf y + 3) ∧ t.m.mem = s.m.mem) ∧
    (∀ x a y b, s.m.hbmState k = 3 → x ≠ y → ((s.m.arbOf k q).grants + 1) % s.m.fld (ARB_CTL k) 0 7 = 0 → b < a →
      ∃ t, exec (.arbiterGrant k q [{ x := y, age := b }, { x := x, age := a }]) s = .next t ∧ (t.m.arbOf k q).owner = some x ∧ (t.m.arbOf k q).rr = (s.m.arbOf k q).rr) ∧
    (∀ who v, (4 ≤ v.toNat % 128 → v.toNat % 128 ≤ 64 → Does (.arbCtlWrite who k v) s ((s.m.stage (ARB_CTL k) (v &&& 0x7F)).answer 0)) ∧
      (who ≠ .host → v.toNat % 128 < 4 ∨ 64 < v.toNat % 128 → Does (.arbCtlWrite who k v) s (s.m.answer 0x0907))) ∧
    (∀ who, (s.m.pcBusy k = false → Does (.pcRetire who k q) s ((s.m.startSparing k q).answer 0)) ∧
      (s.m.pcState k q = 2 → Does (.pcReturn who k q) s ((s.m.setPcState k q 3).answer 0)) ∧
      (who ≠ .host → s.m.pcBusy k = true → Does (.pcRetire who k q) s (s.m.answer 0x0906)) ∧
      (who ≠ .host → s.m.pcState k q ≠ 2 → Does (.pcReturn who k q) s (s.m.answer 0x0906))) ∧
    ((s.m.stack k).copying = some q → s.m.pcState k q = 1 →
      Does (.pcSparingCopyDone k q) s (s.m.setStack k { s.m.stack k with copying := none, moved := some (q, 2) })) ∧
    (s.m.pcState k q = 3 → Does (.pcReturnDone k q true) s (s.m.setStack k { s.m.stack k with moved := some (q, 0) }) ∧
      Does (.pcReturnDone k q false) s (s.m.raiseStackAt k 0x0925 q)))

/-- The entries of a plane's rings (R325, R326, R377): a GRAD that is accepted adds its contributions to the staging and counts, DISCARD starts a zeroing pass, REDO resumes as its commit record says, SET_RULE and SET_SHARD stage their block; a GRAD that cannot be applied is 0x0903. -/
def Obligations.PlaneEntries : Prop :=
  ∀ (s : State) (r k e : Nat) (x : RingEntry), s.m.mainUp = true → r < 65536 → ringKind r = 2 → k = stackOfRing r → e = num x.image 0x18 1 →
    (∃ q, s.m.working r = x :: q) → ((s.m.stack k).updating ++ (s.m.stack k).zeroing).any (fun p => decide (p.ring = some (r, x.index))) = false →
    (entryOp x.image = 1 → s.m.gradRefused k e x.image = true → Does (.grad r) s (s.m.refuseWork r x 0x0903)) ∧
    (∀ a b, entryOp x.image = 1 → s.m.gradRefused k e x.image = false → s.m.stackCode k = 0 → s.m.gradClocked x.image = true → (s.m.stack k).bad = [] →
      a = s.m.stageGrad k (s.m.shardStage k e + 4 * num x.image 0x1C 4) (s.m.gradElems k x.image) →
      b = ((((a.setF (PSTATE k e) 0 16 (a.shardCount k e + 1)).setShardState k e 1).addCnt (CNT_GRAD k) 1).settleCount k e) →
      Does (.grad r) s (b.doneEntry r x.index 0 (gradBytes x.image) (bytesOf 4 (b.shardState k e) ++ bytesOf 4 (b.shardCount k e)))) ∧
    (entryOp x.image = 2 → s.m.planeCode k x.image = 0 → Does (.discard r) s (s.m.startZeroing k e (some (r, x.index)) false true)) ∧
    (∀ c, entryOp x.image = 3 → s.m.planeCode k x.image = 0 → s.m.shardRecord k e = some c →
      (c.step = s.m.stackStep k → Does (.redo r) s (s.m.startZeroing k e (some (r, x.index)) false false)) ∧
      (c.step ≠ s.m.stackStep k → Does (.redo r) s (s.m.startUpdate k e (some (r, x.index)) false))) ∧
    (entryOp x.image = 4 → s.m.planeCode k x.image = 0 →
      Does (.setRule r) s ((s.m.stageBlock (RULE k e) ((x.image.drop 0x1C).take 0x24 ++ List.replicate 28 0)).endPlaneEntry k e (some (r, x.index)) 0)) ∧
    (entryOp x.image = 5 → s.m.planeCode k x.image = 0 → s.m.stackCode k = 0 → (s.m.stack k).bad = [] →
      Does (.setShard r) s ((s.m.stageBlock (SHARD k e) (s.m.ld (hbmAt k (num x.image 0x20 8)) 64)).endPlaneEntry k e (some (r, x.index)) 0))

/-- The passes and gates of a plane (R327 to R330, R376, R379): a gate of 1 updates the READY shards that wait for it, a gate of 2 skips them, any other answer is 0x0924; a pass that an uncorrectable burst cut in UPDATE records the error and runs again once and counts, a second error is 0x0B26, one outside UPDATE is raised, a commit record that does not read is 0x0B22; the end of a zeroing pass leaves zeros in the staging and the shard DONE, or IDLE for a DISCARD. -/
def Obligations.PlanePasses : Prop :=
  ∀ (s : State) (k e : Nat), s.m.mainUp = true → k < 32 → e < 256 →
    (∀ b, s.m.gatedShards k b ≠ [] →
      Does (.gateMessage k b 0 1) s (forEach s.m (s.m.gatedShards k b) (fun m i => m.startUpdate k i none false)) ∧
      Does (.gateMessage k b 0 2) s (forEach s.m (s.m.gatedShards k b) (fun m i => m.setShardState k i 6)) ∧
      (∀ st v, st ≠ 0 ∨ (v ≠ 1 ∧ v ≠ 2) → Does (.gateMessage k b st v) s (s.m.raisePlane k 0x0924 ((s.m.gatedShards k b).headD 0)))) ∧
    (∀ w, (s.m.stack k).updating.find? (fun p => decide (p.shard = e)) = some w → s.m.stackCode k = 0 →
      (∀ c, s.m.shardRecord k e = some c → (s.m.stack k).bad = [] →
        Does (.planeUpdatePassEnd k e true) s (s.m.updatePass k e w c) ∧
        (∀ p n now, now = s.m.shardSlot k e (decide (c.slot = 1)) → n = ((s.m.addCnt (CNT_HBM_UNCORR k) 1).dropUpdate k e).setShardState k e 2 →
          n.slotOfStack k = some p → now ≠ n.shardStage k e →
          (n.stepPhase p = 3 → w.again = false → Does (.planeUpdatePassEnd k e false) s
            ((((n.setF (HBM_STATUS k) 48 16 0x0922).recordError (n.stackErr k 0x0922 (n.hbmSpot k now))).addCnt (CNT_REDO p) 1).startUpdate k e w.ring true)) ∧
          (n.stepPhase p = 3 → w.again = true → Does (.planeUpdatePassEnd k e false) s
            ((((n.setF (HBM_STATUS k) 48 16 0x0922).recordError (n.stackErr k 0x0922 (n.hbmSpot k now))).endPlaneEntry k e w.ring 0x0B26).raiseStepBlock p 0x0B26)) ∧
          (n.stepPhase p ≠ 3 → Does (.planeUpdatePassEnd k e false) s ((n.endPlaneEntry k e w.ring 0x0922).raiseStack k 0x0922 now)))) ∧
      (s.m.shardRecord k e = none → ∀ ok, Does (.planeUpdatePassEnd k e ok) s
        ((((s.m.dropUpdate k e).setShardState k e 2).endPlaneEntry k e w.ring 0x0B22).badRecord k e))) ∧
    (∀ w, (s.m.stack k).zeroing = [w] → s.m.stackCode k = 0 → w.shard = e → w.again = false → s.m.shardStage k e + 4 * s.m.shardElems k e ≤ 2 ^ 36 →
      ∃ t, exec (.planeZeroingDone k e) s = .next t ∧ (t.m.stack k).zeroing = [] ∧
        t.m.shardState k e = (if w.toIdle then 0 else 4) ∧ (w.toIdle = true → t.m.shardCount k e = 0) ∧
        (∀ o, s.m.shardStage k e ≤ o → o < s.m.shardStage k e + 4 * s.m.shardElems k e → t.m.ldByte (hbmAt k o) = 0) ∧
        (∀ o, o < hbmAt k (s.m.shardStage k e) ∨ hbmAt k (s.m.shardStage k e + 4 * s.m.shardElems k e) ≤ o → t.m.ldByte o = s.m.ldByte o))

/-- A commit record that is written reads back as it was, and one with a wrong byte in its checked part's MAGIC does not read (R373, R375). -/
def Obligations.CommitRecordReadsBack : Prop :=
  ∀ c : CommitRecord, c.slot < 2 → c.step < 2 ^ 64 → c.tensor < 2 ^ 32 → c.elems < 2 ^ 32 → c.prev < 2 ^ 64 →
    readCommit (commitBytes c) = some c ∧ (commitBytes c).length = 64 ∧
    (∀ x : Byte, x ≠ 0x54 → readCommit (x :: (commitBytes c).drop 1) = none)

/-! ## The step block -/

/-- The decisions of a step (R383 to R387): decision 1 signals the gates 1, or 2 for a SKIP or a FATAL, and goes to UPDATE or to ROLLBACK; a partition that has settled counts what it withheld and votes again; decision 2 signals FINAL 1 and goes to FINAL, or 2 to ROLLBACK; a rollback reverts every VALID shard once the planes are idle. What ends a wait of the step block (R384): a vote of another module that does not come is 0x0B21, a partition that does not settle is 0x0B28 and votes FATAL. -/
def Obligations.StepDecisions : Prop :=
  (∀ (s : State) (p : Nat), s.m.mainUp = true → p < 8 → s.m.jobRuns p = true →
    (s.m.stepPhase p = 2 → s.m.voteComplete p 2 = true → s.m.repGateBuoy p ≠ s.m.locGateBuoy p →
      s.m.buoyLive (s.m.repGateBuoy p) = true → s.m.buoyLive (s.m.locGateBuoy p) = true →
      ∃ t, exec (.stepDecision1 p) s = .next t ∧ t.pending = s.pending ∧ t.m.mem = s.m.mem ∧
        t.m.stepPhase p = (if bit (s.m.part p).vote1.flags 1 then 6 else 3) ∧
        (t.m.buoy (s.m.repGateBuoy p)).value = (if bit (s.m.part p).vote1.flags 1 || bit (s.m.part p).vote1.flags 0 then 2 else 1) ∧
        (t.m.buoy (s.m.locGateBuoy p)).value = (if bit (s.m.part p).vote1.flags 1 then 2 else 1) ∧
        (t.m.part p).decision1At = s.m.pausedCount ∧ (∀ b, b ≠ s.m.repGateBuoy p → b ≠ s.m.locGateBuoy p → t.m.buoy b = s.m.buoy b)) ∧
    (∀ h a, s.m.stepPhase p = 3 → s.m.settled p = true →
      h = ((s.m.validShards p).filter (fun i => decide (s.m.shardState i.1 i.2 = 5))).length + (s.m.buoy (s.m.settleBuoy p)).value.toNat / 2 ^ 16 →
      a = ((s.m.setF (STEP_RESULT p) 16 16 (min h 0xFFFF)).addCnt (CNT_WITHHELD p) h).setStepPhase p 4 →
      Does (.stepSettle p) s ((a.followSteer p).takeVote2 p)) ∧
    (s.m.stepPhase p = 4 → s.m.voteComplete p 3 = true →
      (bit (s.m.part p).vote2.flags 1 = true → Does (.stepDecision2 p) s ((s.m.setStepBuoy (s.m.finalBuoy p) 2).setStepPhase p 6)) ∧
      (bit (s.m.part p).vote2.flags 1 = false → s.m.buoyLive (s.m.finalBuoy p) = true →
        ∃ t, exec (.stepDecision2 p) s = .next t ∧ t.m.stepPhase p = 5 ∧ (t.m.buoy (s.m.finalBuoy p)).value = 1 ∧
          (∀ b, b ≠ s.m.finalBuoy p → t.m.buoy b = s.m.buoy b) ∧ t.m.mem = s.m.mem)) ∧
    (s.m.stepPhase p = 6 → (s.m.part p).rollbackDone = false → s.m.planesIdle p = true →
      Does (.stepRollback p) s (((s.m.validShards p).foldl (fun m i => m.rollShard i.1 i.2) s.m).modPart p (fun x => { x with rollbackDone := true })))) ∧
  (∀ (s : State) (p : Nat), s.m.mainUp = true → p < 8 → s.m.jobRuns p = true → s.m.halted = false →
    (s.m.stepPhase p = 2 → (s.m.part p).vote1.sent = true → s.m.voteComplete p 2 = false →
      (s.m.part p).vote1.at_.toNat + s.m.fld (STEP_TIMING p) 0 32 ≤ s.m.count.toNat → Does (.voteTimeout p) s (s.m.raiseStepBlock p 0x0B21)) ∧
    (s.m.stepPhase p = 4 → (s.m.part p).vote2.sent = true → s.m.voteComplete p 3 = false →
      (s.m.part p).vote2.at_.toNat + s.m.fld (STEP_TIMING p) 0 32 ≤ s.m.count.toNat → Does (.voteTimeout p) s (s.m.raiseStepBlock p 0x0B21)) ∧
    (s.m.stepPhase p = 3 → s.m.settled p = false → (s.m.part p).decision1At.toNat + s.m.fld (STEP_TIMING p) 0 32 ≤ s.m.count.toNat →
      Does (.settleTimeout p) s (((((s.m.raiseStepBlock p 0x0B28).setFlag (STEP_STATUS p) 8 true).setStepPhase p 4).followSteer p).takeVote2 p)))

/-- Steering (R395, R398, R401): an entry that its checks accept stages KERF_MARGIN_BT and every FREQ it names, with its indication for the vote, and nothing else changes in registers and memory; one they refuse is 0x0B24 and stages nothing; a push writes the staged 2,048 bytes into the next log entry, changes no other byte, and signals it, and is closed under sealed steering.  The Lampist (R391, R393): what it decides for a layer keeps to FLOOR and CEIL and to the layers it steers, a FREQ it names is one the step block accepts, a margin it names fits its field, and the entry it leaves after step t opens step t + 2 under the next index (its place in time and its own readings are log entry 110). -/
def Obligations.SteeringEntries : Prop :=
  (∀ (s : State) (p : Nat), s.m.mainUp = true → p < 8 → s.m.jobRuns p = true →
    (∀ n i b, s.m.steerFollow p = false → s.m.buoyLive (s.m.steerPendBuoy p) = true → n = (s.m.rd (STEER_INDEX p)).toNat →
      i = n + ((s.m.buoy (s.m.steerPendBuoy p)).value - BitVec.ofNat 32 n).toNat → b = s.m.logEntry p i →
      (s.m.steerEntryOk p b = true →
        ∃ t, exec (.steerEntryCheck p) s = .next t ∧ t.pending = s.pending ∧ (t.m.part p).steerOk = true ∧ (t.m.part p).steerNew = some i ∧
          t.m.regs = s.m.regs ∧ t.m.mem = s.m.mem ∧
          bf (t.m.stagedWord (XCH_CTL p)) 0 12 = (if num b 0x12 2 = 0xFFFF then bf (s.m.stagedWord (XCH_CTL p)) 0 12 else num b 0x12 2) ∧
          (∀ h, h < 16 → bf (t.m.stagedWord (HALF_CLK h)) 0 8 = (if num b (0x20 + h) 1 = 0 then bf (s.m.stagedWord (HALF_CLK h)) 0 8 else num b (0x20 + h) 1))) ∧
      (s.m.steerEntryOk p b = false →
        ∃ t, exec (.steerEntryCheck p) s = .next t ∧ t.pending = s.pending ∧ (t.m.part p).steerNew = (s.m.part p).steerNew ∧
          t.m.staged = s.m.staged ∧ t.m.mem = s.m.mem ∧ t.m.fld (STEP_STATUS p) 48 16 = 0x0B24)) ∧
    (∀ who i at_, who = .keeper ∨ s.m.sealedSteering p = false → i = (s.m.rd (STEER_INDEX p)).toNat + 1 → at_ = hbmByte p (s.m.logAt p i) →
      s.m.buoyLive (s.m.steerPendBuoy p) = true →
      ∃ t, exec (.steerPush who p) s = .next t ∧ t.pending = s.pending ∧ t.m.reply.code = 0 ∧
        (∀ w, w < 256 → t.m.ldNat (at_ + 8 * w) 8 = (s.m.rd (STEER_STAGE p w)).toNat) ∧
        (∀ a, a < at_ ∨ at_ + 2048 ≤ a → t.m.ldByte a = s.m.ldByte a) ∧
        (t.m.buoy (s.m.steerPendBuoy p)).value = BitVec.ofNat 32 (i % 2 ^ 32) ∧ t.m.rd (STEER_INDEX p) = s.m.rd (STEER_INDEX p))) ∧
  (∀ (par : List Byte) (policy old quiet : Nat) (f : List RoleFigures), old < 8 → policy % 4 ≤ old % 4 → old % 4 ≤ policy / 4 % 4 →
    (lampLayer par policy old quiet f).1 < 8 ∧ policy % 4 ≤ (lampLayer par policy old quiet f).1 % 4 ∧ (lampLayer par policy old quiet f).1 % 4 ≤ policy / 4 % 4 ∧
    (policy / 32 % 2 = 0 → (lampLayer par policy old quiet f).1 = old) ∧
    ((lampLayer par policy old quiet f).1 / 4 % 2 = 0 → old / 4 % 2 = 0)) ∧
  (∀ h l freq cap, 50 ≤ freq → freq ≤ 140 → 50 ≤ cap → cap ≤ 140 → lampFreq h l freq cap = 0 ∨ (50 ≤ lampFreq h l freq cap ∧ lampFreq h l freq cap ≤ 140)) ∧
  (∀ par margin growth quiet, margin ≤ 4095 → (lampKerf par margin growth quiet).1 ≤ 4095 ∨ (lampKerf par margin growth quiet).1 = 0xFFFF) ∧
  (∀ (m : Mod) (p t : Nat) c, p < 8 → m.lampistRuns p = true → t + 2 < 2 ^ 64 → (m.rd (STEER_INDEX p)).toNat + 1 < 2 ^ 64 →
    (m.lampDecide p t c).1.length = 2048 ∧ ((m.lampist p t c).rd (STEER_STAGE p 0)).toNat = t + 2 ∧
    ((m.lampist p t c).rd (STEER_STAGE p 1)).toNat = (m.rd (STEER_INDEX p)).toNat + 1 ∧ (m.lampist p t c).mem = m.mem ∧
    (m.lampist p t c).tiles = m.tiles) ∧
  (∀ (s : State) (p : Nat), s.m.mainUp = true → p < 8 → s.m.jobRuns p = true →
    (∀ n i, s.m.steerFollow p = false → s.m.buoyLive (s.m.steerPendBuoy p) = true → n = (s.m.rd (STEER_INDEX p)).toNat →
      i = n + ((s.m.buoy (s.m.steerPendBuoy p)).value - BitVec.ofNat 32 n).toNat →
      (s.m.steerEntryOk p (s.m.logEntry p i) = true →
        Does (.steerEntryCheck p) s ((s.m.stageSteer p (s.m.logEntry p i)).modPart p (fun x => { x with steerOk := true, steerNew := some i }))) ∧
      (s.m.steerEntryOk p (s.m.logEntry p i) = false → Does (.steerEntryCheck p) s (s.m.raiseStepBlock p 0x0B24))) ∧
    (∀ who, who = .keeper ∨ s.m.sealedSteering p = false → Does (.steerPush who p) s ((s.m.pushSteer p).answer 0)) ∧
    (∀ who, who = .gallery → s.m.sealedSteering p = true → Does (.steerPush who p) s (s.m.answer 0x0F01)))

/-! ## Jicen -/

/-- The life of a port (R404, R405, R408, R427, R428): an enable starts training where the port is allowed, a disable makes it DOWN, training ends in ALIGNING (the first one sets the lane map, the model's choice of log entry 20) or in FAILED with 0x0C22, an identity that fits makes it WAITING and another is 0x0C25, the admission mark makes it ACTIVE with fresh sequences and the credit of R415; a retrain or a swap is taken in the states that allow it, else 0x0C03. Lanes (R427): a fault above the threshold swaps the lane onto the lowest spare, both directions switch at the announced mark, the old lane is FAILED one mark later, a lost lane without a spare is FAILED. -/
def Obligations.JicenPorts : Prop :=
  (∀ (s : State) (j : Nat), s.m.mainUp = true → j < 6 →
    (∀ who v n, s.m.flag (JC_CTL j) 0 = false → n = s.m.wr (JC_CTL j) (v &&& 0x1F ||| 1) →
      (n.portAllowed j = true → Does (.jicenPortEnable who j v) s ((n.movePort j 1).answer 0)) ∧
      (n.portAllowed j = false → Does (.jicenPortEnable who j v) s (n.answer 0))) ∧
    (∀ who, s.m.flag (JC_CTL j) 0 = true → Does (.jicenPortDisable who j) s (((s.m.setFlag (JC_CTL j) 0 false).movePort j 0).answer 0)) ∧
    (s.m.portState j = 1 → Does (.jicenTrainingDone j) s (((s.m.movePort j 2).firstMap j).showSpares j) ∧
      Does (.jicenTrainingTimeout j) s ((s.m.movePort j 5).raisePort j 0x0C22 0)) ∧
    (∀ x : Neighbour, s.m.portState j = 2 → (s.m.port j).badId = false →
      (x.id.toNat = s.m.facingId j → x.port.toNat = facingPort j → x.dims.toNat = s.m.fld JC_TOPO 12 12 → x.delay64.toNat ≤ 64 * s.m.fld JC_HOP_MAX 0 12 →
        ∃ t, exec (.neighbourIdentity j x) s = .next t ∧ t.m.portState j = 3 ∧ (t.m.rd (BCN_PORT_DELAY j)).toNat = x.delay64.toNat ∧
          t.m.fld (JC_LAT j) 0 16 = 104 + ceilDiv x.delay64.toNat 64) ∧
      (x.id.toNat ≠ s.m.facingId j → ∃ n : Mod, Does (.neighbourIdentity j x) s (n.raisePort j 0x0C25 0) ∧ n.portState j = 2 ∧ (n.port j).badId = true)) ∧
    (∀ k, s.m.portState j = 3 → s.m.sendsAdmit j = false → Does (.portAdmit j k) s (s.m.announce j k) ∧ (s.m.announce j k).rd (JC_ADMIT j) = k) ∧
    (s.m.portState j = 3 → (s.m.port j).admitted = true → s.m.atMark = true → s.m.rd (JC_ADMIT j) ≤ s.m.count →
      ∃ t, exec (.portAdmissionMark j) s = .next t ∧ t.m.portState j = 4 ∧ (t.m.port j).txSeq = 0 ∧ (t.m.port j).rxSeq = 0 ∧ (t.m.port j).replay = [] ∧
        t.m.creditLeft j 0 = 96 ∧ t.m.creditLeft j 1 = 96 ∧ t.m.creditLeft j 2 = 192 ∧ t.m.creditLeft j 3 = 192 ∧ t.m.mem = s.m.mem) ∧
    (∀ who, s.m.portState j = 2 ∨ s.m.portState j = 5 → Does (.jcCmdRetrain who j) s ((s.m.movePort j 1).answer 0)) ∧
    (∀ l, s.m.portTrained j = true → l < 40 → s.m.laneStatus j l = 0 → s.m.lanesWith j 1 ≠ [] → (s.m.port j).swap = none →
      ∀ who, Does (.jcCmdSwap who j l) s ((s.m.beginSwap j l).answer 0)) ∧
    (∀ l who, who ≠ .host → (s.m.portTrained j = false → Does (.jcCmdSwap who j l) s (s.m.answer 0x0C03)) ∧
      (s.m.portState j ≠ 2 → s.m.portState j ≠ 5 → Does (.jcCmdRetrain who j) s (s.m.answer 0x0C03)))) ∧
  (∀ (s : State) (j l : Nat), s.m.mainUp = true → j < 6 → l < 40 → s.m.portTrained j = true →
    (∀ x lost, lost = true ∨ s.m.fld (JC_LANE_THRESH j) 0 32 < x.toNat → s.m.laneStatus j l = 0 → s.m.lanesWith j 1 ≠ [] → (s.m.port j).swap = none →
      Does (.laneFault j l x lost) s (((s.m.setF (JC_LANE j l) 32 32 x.toNat).addCnt (JC_CNT j 5) x.toNat).beginSwap j l)) ∧
    (∀ x, x.toNat ≤ s.m.fld (JC_LANE_THRESH j) 0 32 → Does (.laneFault j l x false) s ((s.m.setF (JC_LANE j l) 32 32 x.toNat).addCnt (JC_CNT j 5) x.toNat)) ∧
    (∀ sp k, sp < 40 → Does (.laneSwap j l sp k) s (s.m.setPort j { s.m.port j with txSwap := some (l, sp, k) })) ∧
    (∀ sp k, sp < 40 → sp ≠ l → (s.m.port j).txSwap = none → (s.m.port j).swap = some (l, sp, k) → k ≤ s.m.count →
      ∃ n : Mod, Does (.laneSwitch j l) s (n.raisePort j 0x0C21 l) ∧ n.laneStatus j sp = 0 ∧ n.laneStatus j l = 2 ∧ (n.port j).swap = none ∧
        (n.port j).dup = some (l, s.m.markAhead 1) ∧ n.mem = s.m.mem) ∧
    (∀ sp k, (s.m.port j).swap = none → (s.m.port j).txSwap = some (l, sp, k) → k ≤ s.m.count →
      Does (.laneSwitch j l) s (s.m.setPort j { s.m.port j with txSwap := none, txMap := (l, sp) :: (s.m.port j).txMap.filter (fun p => decide (p.1 ≠ l)) })) ∧
    (∀ k, (s.m.port j).dup = some (l, k) → k ≤ s.m.count →
      Does (.laneDuplicationEnd j l) s ((((s.m.setF (JC_LANE j l) 0 3 3).setPort j { s.m.port j with dup := none }).showSpares j).checkLanes j)) ∧
    (8 < (s.m.lanesWith j 3).length → s.m.checkLanes j = (s.m.movePort j 5).raisePort j 0x0C22 0))

/-- A slot sends one control block and then what is due: nothing but it on a port that is not ACTIVE, the compiled words of the slot, or one credited frame; and the compiled words that arrive enter the link die's node, or are lost with 0x0627 (R407, R413, R415, R418, R242). Replay (R408, R416): an ACK block discards the frames that it covers and returns credit, a timeout sends the rest again in order, a frame that is damaged or out of sequence is answered with a NAK and changes nothing else, the eighth resend retrains the port. -/
def Obligations.JicenSlots : Prop :=
  (∀ (s : State) (j : Nat) (n : Mod), s.m.mainUp = true → j < 6 →
    n = (s.m.setPort j { s.m.port j with slotSent := s.m.count.toNat / 4 + 1 }).slotCtrl j →
    (s.m.running = true → 1 ≤ s.m.portState j → s.m.portState j ≤ 4 → (s.m.port j).slotSent ≠ s.m.count.toNat / 4 + 1 →
      (n.portActive j = false → Does (.jicenSlot j) s n) ∧
      (∀ k, n.portActive j = true → k = n.addCnt (JC_CNT j 8) (4 * (n.stalledRings j).length) →
        (k.slotWords j = [] → Does (.jicenSlot j) s (k.slotFrame j)) ∧
        (∀ i, k.slotWords j ≠ [] → k.keySlotOf (k.fld (JC_CTL j) 2 3) = some i →
          ∃ t, exec (.jicenSlot j) s = .next t ∧ (t.m.port j).outq = (n.port j).outq ∧ t.m.mem = s.m.mem ∧
            t.m.outbox = n.outbox ++ [.compiled j (BitVec.ofNat 12 (k.count.toNat / 4)) (BitVec.ofNat 16 (k.jobTagOf (k.fld (JC_CTL j) 2 3))) (k.nextCtr i).1 (k.slotWords j)]) ∧
        (k.slotWords j ≠ [] → k.keySlotOf (k.fld (JC_CTL j) 2 3) = none →
          ∃ t, exec (.jicenSlot j) s = .next t ∧ (t.m.port j).outq = (n.port j).outq ∧ t.m.mem = s.m.mem ∧ t.m.outbox = n.outbox))) ∧
    (∀ f q, (n.port j).outq = f :: q → f.ring = none → 0 < n.creditLeft j (creditOf f.frame) → (n.port j).replay.length < 256 → f.inPort = none →
      (n.slotFrame j).outbox = n.outbox ++ [.frame j { f.frame with seq := (n.port j).txSeq }] ∧ ((n.slotFrame j).port j).txSeq = (n.port j).txSeq + 1 ∧
      ((n.slotFrame j).port j).outq = q ∧ (n.slotFrame j).creditLeft j (creditOf f.frame) = n.creditLeft j (creditOf f.frame) - 1 ∧
      ((n.slotFrame j).port j).replay.length = (n.port j).replay.length + 1) ∧
    (∀ a, s.m.portActive j = true → s.m.flag (JC_CTL j) 1 = true →
      (a.ok = true → Does (.compiledFrame j a) s (a.words.foldl (fun m w => m.linkNodeWord j { stream := w.stream, lane := w.lane, bt := a.bt + w.b, word := w.word }) (s.m.addCnt (JC_CNT j 1) 1))) ∧
      (a.ok = false → ∃ k : Mod, Does (.compiledFrame j a) s (k.raise (k.portErr j 0x0627 (some (s.m.fld (JC_CTL j) 2 3)) 0)) ∧ k.fld (JC_STATUS j) 48 16 = 0x0627 ∧ k.mem = s.m.mem))) ∧
  (∀ (s : State) (j : Nat), s.m.mainUp = true → j < 6 → s.m.portActive j = true →
    (∀ a, a.nak = false →
      ∃ t, exec (.ackBlock j a) s = .next t ∧ (t.m.port j).replay = (s.m.port j).replay.filter (fun x => decide (2048 ≤ (a.ackSeq - x.seq).toNat)) ∧
        t.m.creditLeft j 0 = s.m.creditLeft j 0 + a.req0 ∧ t.m.creditLeft j 1 = s.m.creditLeft j 1 + a.req1 ∧
        t.m.creditLeft j 2 = s.m.creditLeft j 2 + a.rsp0 ∧ t.m.creditLeft j 3 = s.m.creditLeft j 3 + a.rsp1 ∧
        (∀ k, k ≠ j → t.m.port k = s.m.port k) ∧ t.m.mem = s.m.mem ∧ t.m.regs = s.m.regs) ∧
    ((s.m.port j).replay ≠ [] → s.m.ackOverdue j = true → Does (.replayTimeout j) s (s.m.resend j)) ∧
    (s.m.ackOverdue j = false → Does (.replayTimeout j) s s.m) ∧
    ((∀ x, x ∈ (s.m.port j).replay → x.resent < 7) →
      (s.m.resend j).outbox = s.m.outbox ++ (s.m.port j).replay.map (fun x => .frame j x.frame) ∧ (s.m.resend j).portState j = 4) ∧
    (∀ x, x ∈ (s.m.port j).replay → 7 ≤ x.resent → ∃ n : Mod, s.m.resend j = (n.movePort j 1).raisePort j 0x0C23 0) ∧
    (∀ x, x.dst.toNat = s.m.moduleId → x.msg = 1 → x.rsp = false → (x.crcOk = false ∨ x.seq ≠ (s.m.port j).rxSeq) →
      Does (.put j x) s (((if x.fecBad then s.m.addCnt (JC_CNT j 6) 1 else s.m).addCnt (JC_CNT j 4) 1).sendAck j true none)))

/-- Requests at their destination (R409 to R412, R425, R426): each goes to its job's partition, a PUT stores its words and is acknowledged, a GET answers the words, a BUOY operates and answers the prior value; a request with a remote wait is held until its buoy meets it or the timeout answers 0x0C27, one with a reserved condition is refused with 0x0C04; a frame for another module is forwarded. Entries of a JICEN ring and their answers (R425): an entry sends its messages with a token of its own and completes with 0x0C08 where its module cannot be reached, a PUT whose source its stack closes with that code; a PUT is done with its last acknowledgement, a GET with its last word, a BUOY with the prior value. -/
def Obligations.JicenRequests : Prop :=
  (∀ (s : State) (j : Nat) (x : Frame),
    (∀ p, (Taken s.m j x).slotOfJob x.job = some p →
      (Fresh s.m j x 1 → Does (.put j x) s ((Taken s.m j x).request j p x)) ∧ (Fresh s.m j x 3 → Does (.get j x) s ((Taken s.m j x).request j p x)) ∧
      (Fresh s.m j x 5 → Does (.buoyMessage j x) s ((Taken s.m j x).request j p x))) ∧
    (∀ (m : Mod) p, bit x.flags 1 = false → m.request j p x = m.performMsg p x) ∧
    (∀ (m : Mod) p, bit x.flags 1 = true → 4 ≤ bf x.wait 13 3 → m.request j p x = m.refuseMsg x 0x0C04) ∧
    (∀ (m : Mod) p, bit x.flags 1 = true → bf x.wait 13 3 < 4 → m.slotOfBuoy (bf x.wait 0 13) = some p → (m.port j).held.length < 256 →
      m.request j p x = m.setPort j { m.port j with held := (m.port j).held ++ [{ frame := x, since := m.count }] }) ∧
    (∀ (m : Mod) p, m.hbmRange p (bf x.addr 0 41) x.data.length 32 = true → m.hbmCode p (bf x.addr 0 41) = 0 → x.msg = 1 →
      (m.performMsg p x).mem = (m.stHbm p (bf x.addr 0 41) x.data).mem) ∧
    (∀ (m : Mod) p a, a = bf x.addr 0 41 → x.msg = 3 → m.hbmCode p a = 0 → m.hbmBad (hbmPlace p a).1 (hbmPlace p a).2 (bf x.arg 0 32) = false → (m.performMsg p x).mem = m.mem) ∧
    (∀ (m : Mod) p, x.msg = 5 → m.slotOfBuoy (msgBuoy x) = some p → m.buoyLive (msgBuoy x) = true → msgBop x = 0 →
      ((m.performMsg p x).buoy (msgBuoy x)).value = (m.buoy (msgBuoy x)).value + BitVec.ofNat 32 (bf x.arg 0 32) ∧ (m.performMsg p x).mem = m.mem) ∧
    (∀ n h p k, s.m.mainUp = true → j < 6 → (s.m.port j).held[n]? = some h → k = s.m.setPort j { s.m.port j with held := (s.m.port j).held.eraseIdx n } →
      (s.m.waitMet h.frame = true → k.slotOfJob h.frame.job = some p → Does (.rwaitPoll j n) s (k.performMsg p h.frame)) ∧
      (s.m.waitMet h.frame = false → Does (.rwaitPoll j n) s s.m) ∧
      ((s.m.rd JC_RWAIT_TIMEOUT).toNat ≤ (s.m.count - h.since).toNat →
        Does (.rwaitTimeout j n) s ((k.refuseMsg h.frame 0x0C27).raisePortIn j 0x0C27 (k.slotOfJob h.frame.job)))) ∧
    (s.m.mainUp = true → j < 6 → s.m.portActive j = true → x.crcOk = true → x.seq = (s.m.port j).rxSeq → x.dst.toNat ≠ s.m.moduleId →
      Does (.transitFrame j x) s (((s.m.setPort j { s.m.port j with rxSeq := (s.m.port j).rxSeq + 1 }).addCnt (JC_CNT j 1) 1).routeFrame { frame := x, inPort := some j, inVc := x.vc }))) ∧
  (∀ (s : State) (r : Nat) (e : RingEntry) (tok : W16) (n : Mod), s.m.mainUp = true → r < 65536 → ringKind r = 3 →
    (s.m.working r).find? (fun y => decide (y.token = 0)) = some e → tok = (if s.m.nextToken = 0 then 1 else s.m.nextToken) →
    n = ({ s.m with nextToken := tok + 1 }).setRing r { s.m.ringOf r with prog := (s.m.ringOf r).prog.map (fun (y : RingEntry) => if y.index = e.index then { e with token := tok } else y) } →
    (∀ p, p = (s.m.slotOfRing r).getD 0 →
      (∀ b w, entryOp e.image = 1 → n.hbmCode p (num e.image 0x20 8) = 0 → b = n.readHbm p (num e.image 0x20 8) (num e.image 0x1C 4) →
        w = b.2.sendPut r { e with token := tok } p (num e.image 0x28 8) (putFrames e.image) b.1 →
        (w.1 = 0 → Does (.jicenEntryPut r) s w.2) ∧
        (w.1 ≠ 0 → Does (.jicenEntryPut r) s (w.2.doneToken r tok (fun y => { y with done := true, status := w.1 })))) ∧
      (∀ c, entryOp e.image = 1 → c = n.hbmCode p (num e.image 0x20 8) → c ≠ 0 →
        Does (.jicenEntryPut r) s ((n.hbmFault p (num e.image 0x20 8)).doneToken r tok (fun y => { y with done := true, status := c }))) ∧
      (∀ w, entryOp e.image = 2 → w = n.entryMsg r { e with token := tok } p 3 (num e.image 0x28 8) (num e.image 0x1C 4 + num e.image 0x0C 4 * 2 ^ 32) [] true →
        (w.1 = true → Does (.jicenEntryGet r) s w.2) ∧
        (w.1 = false → Does (.jicenEntryGet r) s (w.2.doneToken r tok (fun y => { y with done := true, status := 0x0C08 })))) ∧
      (∀ w, entryOp e.image = 3 → w = n.entryMsg r { e with token := tok } p 5 (num e.image 0x1C 4 + num e.image 0x1B 1 * 2 ^ 13) (num e.image 0x28 8) [] true →
        (w.1 = true → Does (.jicenEntryBuoy r) s w.2) ∧
        (w.1 = false → Does (.jicenEntryBuoy r) s (w.2.doneToken r tok (fun y => { y with done := true, status := 0x0C08 }))))) ∧
    (∀ (j : Nat) (x : Frame) (k : Mod) (p i : Nat) (y : RingEntry), k = Taken s.m j x → k.slotOfJob x.job = some p → k.tokenEntry x.token = some (i, y) →
      (Fresh s.m j x 2 → Does (.putAck j x) s (k.doneToken i x.token (fun z => { z with acks := z.acks + 1, bytes := z.bytes + bf x.arg 0 32, status := if z.status = 0 then x.status else z.status, done := decide (putFrames z.image ≤ z.acks + 1) }))) ∧
      (Fresh s.m j x 4 → x.status ≠ 0 → Does (.getData j x) s (k.doneToken i x.token (fun z => { z with done := true, status := x.status }))) ∧
      (Fresh s.m j x 4 → x.status = 0 → k.hbmCode ((k.slotOfRing i).getD 0) (num y.image 0x20 8 + y.bytes) = 0 →
        ∃ t, exec (.getData j x) s = .next t ∧ t.m.mem = (k.stHbm ((k.slotOfRing i).getD 0) (num y.image 0x20 8 + y.bytes) x.data).mem) ∧
      (Fresh s.m j x 6 → Does (.buoyRsp j x) s (k.doneToken i x.token (fun z => { z with done := true, status := x.status, detail := bytesOf 4 (bf x.arg 0 32) ++ bytesOf 2 x.status.toNat })))))

/-- Votes and time on the control blocks (R254, R413, R422 to R424): a verified vote word of this dimension and step is kept once, a bad tag is 0x0C28 and another step's reference 0x0B27; a TIME block loads the count of a follower in ALIGNING once its port is calibrated, sixteen bad ones in a row from the source of a LOCKED follower are HOLDOVER with 0x0721 (R256), a calibration is answered and ends with the measured delay, a reserved block is dropped and counted. -/
def Obligations.VotesAndTime : Prop :=
  ∀ (s : State) (j : Nat), s.m.mainUp = true → j < 6 → s.m.portTrained j = true →
    (∀ v p, s.m.slotOfJob v.job = some p →
      (v.tagOk = false → Does (.vote j v) s (s.m.raisePortIn j 0x0C28 (some p))) ∧
      (v.tagOk = true → v.kind.toNat = 2 ∨ v.kind.toNat = 3 → v.phase.toNat = j / 2 → s.m.jobRuns p = true → v.refr ≠ (s.m.rd (STEP_NUM p)).truncate 32 →
        Does (.vote j v) s (s.m.raiseStepBlock p 0x0B27)) ∧
      (∀ w : VoteWord, v.tagOk = true → v.kind.toNat = 1 ∨ v.kind.toNat = 2 ∨ v.kind.toNat = 3 → v.phase.toNat = j / 2 → s.m.jobRuns p = true →
        v.kind.toNat = 1 ∨ v.refr = (s.m.rd (STEP_NUM p)).truncate 32 →
        w = { kind := v.kind.toNat, phase := v.phase.toNat, group := v.group.toNat, origin := v.origin.toNat, refr := v.refr, count := v.count.toNat, flags := v.flags } →
        s.m.votesHeld p w = [] → s.m.voteGoes p w.group w.phase v.hops.toNat (decide (j % 2 = 0)) = false → w.origin ≠ s.m.moduleId →
        Does (.vote j v) s (s.m.modPart p (fun x => { x with votes := x.votes ++ [w] })))) ∧
    (∀ w, w.ok = true → s.m.bcnSource ≠ 0 → s.m.srcActive = j → s.m.bcnState = 2 → s.m.calDone.contains j = true →
      ∃ t, exec (.time j w) s = .next t ∧ t.m.running = true ∧ t.m.countLoaded = true ∧ t.m.count = w.count + BitVec.ofNat 64 (s.m.fld (BCN_PORT_DELAY j) 0 32 / 64) ∧
        t.m.fld BCN_STATUS 8 5 = min (w.depth.toNat + 1) 31 ∧ t.m.master = w.master ∧ t.m.mem = s.m.mem) ∧
    (∀ w, w.ok = false → s.m.bcnSource = 0 ∨ s.m.srcActive ≠ j → Does (.time j w) s (s.m.addCnt (JC_CNT j 10) 1)) ∧
    (∀ w, w.ok = false → s.m.bcnSource ≠ 0 → s.m.srcActive = j → s.m.bcnState = 3 →
      (15 ≤ s.m.badTimes → Does (.time j w) s (s.m.addCnt (JC_CNT j 10) 1).enterHoldover) ∧
      (s.m.badTimes < 15 → Does (.time j w) s { s.m.addCnt (JC_CNT j 10) 1 with badTimes := s.m.badTimes + 1 })) ∧
    (∀ g, ∃ t b, exec (.calReq j g) s = .next t ∧ t.m = ({ s.m with free := s.m.free + 2 }).sendCtrl j 3 b ∧ b.head? = some g) ∧
    (∀ c, Does (.calRsp j c) s { (s.m.wr (BCN_PORT_DELAY j) (BitVec.ofNat 64 ((c.t4 - c.t1 - c.t3mt2) / 2 % 2 ^ 32))).wr (JC_LAT j) (BitVec.ofNat 64 ((104 + ceilDiv ((c.t4 - c.t1 - c.t3mt2) / 2) 64) % 65536)) with calDone := j :: s.m.calDone.erase j }) ∧
    (∀ (ty : Byte) ok, 8 ≤ ty.toNat ∨ ok = false → Does (.reservedControlBlock j ty ok) s (s.m.addCnt (JC_CNT j 10) 1)) ∧
    (∀ kind a b, combineFlags kind a b = combineFlags kind b a)

/-! ## Feed -/

/-- Records that arrive (R429, R433): a datagram for a flow that is open and a record above CUM with a good tag goes into its slot and counts; one beyond the window, one seen before, one of a wrong length, epoch or form, and one with a bad tag are dropped, each under its own count; one above the XOFF fill sends a pause first, one that the buffer has no room for is dropped; a frame that is no datagram goes to Gallery while there is room. The next record in order moves CUM past itself and past every record that stood above it without a gap; as many slots of the posted sequence fill as CUM moves (R433). -/
def Obligations.FeedIngress : Prop :=
  (∀ (s : State) (e : Nat) (x : FeedDatagram) (n : Mod), s.m.mainUp = true → e < 2 → s.m.feedOn e = true → s.m.feedLink e = true → n = s.m.feedCount e 0 →
    (s.m.flag (FD_CTL e) 1 = true → (s.m.feed e).xoff = false → 1024 * s.m.fld (FD_PFC e) 0 16 < x.fill → x.fill + 48 + x.len ≤ 2 ^ 22 →
      Does (.feedData e x) s ((((n.setFeed e { n.feed e with xoff := true }).feedCount e 6).sendOut (.pfc e true)).takeDatagram e x)) ∧
    (s.m.flag (FD_CTL e) 1 = false ∨ (s.m.feed e).xoff = true ∨ x.fill ≤ 1024 * s.m.fld (FD_PFC e) 0 16 → 2 ^ 22 < x.fill + 48 + x.len →
      Does (.feedData e x) s (n.feedCount e 5)) ∧
    (s.m.flag (FD_CTL e) 1 = false ∨ (s.m.feed e).xoff = true ∨ x.fill ≤ 1024 * s.m.fld (FD_PFC e) 0 16 → x.fill + 48 + x.len ≤ 2 ^ 22 →
      (x.formOk = false ∨ n.ingressOpen e x.flow = false ∨ n.epochLoaded e x.flow x.epoch = false → Does (.feedData e x) s (n.feedCount e 4)) ∧
      (x.formOk = true → n.ingressOpen e x.flow = true → n.epochLoaded e x.flow x.epoch = true →
        (n.windowEnd e x.flow ≤ x.seq.toNat → Does (.feedData e x) s (n.feedCount e 1)) ∧
        (x.seq.toNat < n.windowEnd e x.flow → (x.seq.toNat < (n.flow e x.flow).cum.toNat ∨ (n.flow e x.flow).above.contains x.seq.toNat = true) →
          Does (.feedData e x) s (n.feedCount e 2)) ∧
        (x.seq.toNat < n.windowEnd e x.flow → (n.flow e x.flow).cum.toNat ≤ x.seq.toNat → (n.flow e x.flow).above.contains x.seq.toNat = false →
          (x.len = 0 ∨ n.flowRecMax e x.flow < x.len → Does (.feedData e x) s (n.feedCount e 4)) ∧
          (0 < x.len → x.len ≤ n.flowRecMax e x.flow → x.tagOk = false → Does (.feedData e x) s (n.feedTagFail e x.flow)) ∧
          (∀ a, 0 < x.len → x.len ≤ n.flowRecMax e x.flow → x.tagOk = true →
            n.slotAddr e x.flow (n.postedOf e x.flow) ((n.flow e x.flow).used + (x.seq.toNat - (n.flow e x.flow).cum.toNat)) = some a →
            n.hbmCode ((n.slotOfRing (ringOfFlow e x.flow)).getD 0) a = 0 → Does (.feedData e x) s (n.acceptRecord e x a))))) ∧
    (∀ b, (s.m.feed e).gallery.length < 64 → Does (.nonFeedFrame e (.other b)) s (s.m.setFeed e { s.m.feed e with gallery := (s.m.feed e).gallery ++ [b] })) ∧
    (∀ b, 64 ≤ (s.m.feed e).gallery.length → Does (.nonFeedFrame e (.other b)) s (s.m.feedCount e 5)) ∧
    Does (.nonFeedFrame e .pauseAnnex31B) s (s.m.feedCount e 4) ∧ Does (.nonFeedFrame e .badUdpChecksum) s (s.m.feedCount e 4) ∧ Does (.nonFeedFrame e .ipFragment) s (s.m.feedCount e 4) ∧
    (∀ k, s.m.ingressOpen e k = true → Does (.feedAckTimer e k) s (s.m.sendFeedAck e k)) ∧
    (∀ k y q f, s.m.postedOf e k = y :: q → s.m.ingressOpen e k = true → f = s.m.flow e k → f.above = [] →
      Does (.feedIdleTimeout e k) s (((s.m.doneEntry (ringOfFlow e k) y.index 0 (f.used * s.m.flowStride e k) (feedDetail (f.cum.toNat - f.used) f.used)).setFlow e k { f with used := 0 }).showWindow e k))) ∧
  (∀ f : Flow, f.cum.toNat + f.above.length + 1 < 2 ^ 64 →
    (moveCum f (f.above.length + 1)).cum.toNat ≥ f.cum.toNat ∧
    (∀ q, f.cum.toNat ≤ q → q < (moveCum f (f.above.length + 1)).cum.toNat → q ∈ f.above) ∧
    (moveCum f (f.above.length + 1)).cum.toNat ∉ (moveCum f (f.above.length + 1)).above ∧
    (moveCum f (f.above.length + 1)).used + f.cum.toNat = f.used + (moveCum f (f.above.length + 1)).cum.toNat)

/-- Records that leave (R435, R440): a SEND numbers its records from NEXT_SEQ and sends what the window allows, an acknowledgement moves CUM and the window, a record without one is sent again byte for byte until RETRY_MAX, then the flow is in ERROR with 0x0D22; a pause and a lost link hold the flows, and a link that comes back lets them go on. -/
def Obligations.FeedEgress : Prop :=
  ∀ (s : State) (e k : Nat), s.m.mainUp = true → e < 2 → k < 2048 →
    (∀ (r : Nat) (x : RingEntry), r = ringOfFlow e k → (s.m.working r).find? (fun y => decide (y.token = 0)) = some x →
      (entryOp x.image = 1 → Does (.feedRecv r) s ((s.m.setRing r { s.m.ringOf r with prog := (s.m.ringOf r).prog.map (fun y => if y.index = x.index then { y with token := 1 } else y) }).showWindow e k)) ∧
      (∀ (n : Mod) a c, entryOp x.image = 2 → s.m.hbmCode ((s.m.slotOfRing r).getD 0) (num x.image 0x18 8) = 0 → a = (s.m.rd (flowReg e k 40)).toNat → c = ceilDiv (num x.image 0x20 4) (s.m.flowRecMax e k) →
        n = (s.m.setRing r { s.m.ringOf r with prog := (s.m.ringOf r).prog.map (fun y => if y.index = x.index then { y with token := 1, detail := feedDetail a c } else y) }).wr (flowReg e k 40) (BitVec.ofNat 64 (a + c)) →
        Does (.feedSend r) s (n.pump e k (n.waitingRecords e k)))) ∧
    (∀ x : FeedAck, s.m.feedOn e = true → s.m.feedLink e = true → x.flow = k → s.m.flowEgress e k = true → s.m.flowState e k = 1 → s.m.epochLoaded e k x.epoch = true → x.tagOk = true →
      x.sack = 0 → (s.m.flow e k).cum.toNat ≤ x.cum.toNat → s.m.postedOf e k = [] →
      ∃ t, exec (.feedAck e x) s = .next t ∧ (t.m.flow e k).cum = x.cum ∧ t.m.rd (flowReg e k 48) = x.cum ∧ t.m.mem = s.m.mem ∧
        (t.m.flow e k).sent = (s.m.flow e k).sent.filter (fun r => decide (x.cum.toNat ≤ r.seq.toNat)) ∧ t.m.outbox = s.m.outbox) ∧
    (∀ q, s.m.flowEgress e k = true → s.m.flowState e k = 1 → Does (.feedRtoExpiry e k q) s (s.m.resendRecord e k q.toNat)) ∧
    (∀ y : SentRecord, (s.m.flow e k).sent.find? (fun z => decide (z.seq.toNat = y.seq.toNat)) = some y →
      (s.m.egressOpen e k = false → s.m.resendRecord e k y.seq.toNat = s.m) ∧
      (s.m.flowRetryMax e k ≤ y.resent → s.m.egressOpen e k = true → s.m.resendRecord e k y.seq.toNat = s.m.failFlow e k y.seq.toNat) ∧
      (y.resent < s.m.flowRetryMax e k → s.m.egressOpen e k = true → (s.m.resendRecord e k y.seq.toNat).outbox = s.m.outbox ++ [.feedData e k y.seq y.bytes])) ∧
    (∀ on, s.m.feedOn e = true → s.m.flag (FD_CTL e) 1 = true → Does (.pfcPauseFrame e on) s ((s.m.setFeed e { s.m.feed e with paused := on }).pumpAll e)) ∧
    ((s.m.feed e).xoff = true → Does (.feedXon e) s ((s.m.setFeed e { s.m.feed e with xoff := false }).sendOut (.pfc e false))) ∧
    (s.m.feedLink e = true → Does (.ethernetLinkDown e) s ((s.m.setFlag (FD_STATUS e) 0 false).raiseFeed e 0x0D23 0 none)) ∧
    (s.m.feedEn e = true → Does (.ethernetLinkUp e) s ((s.m.setFlag (FD_STATUS e) 0 true).pumpAll e))

/-! ## The Keeper -/

/-- Messages on the keeper bus (R83, R410, R446 to R448, R467, R469, R481): the die does what the message says and acknowledges it with its number, a measurement answers what the die holds and how its tile scrubs ended (R85), the Keeper records what is acknowledged and goes on, and raises 0x0F2A for a difference. Answers on the keeper bus, and none (R447, R448, R536): an ACK ends its message, a NAK or a silence of 2 µs sends it again with 0x0F21, the fourth failure gives it up; a die in a module-fatal handling clears every key it holds; every sealed die is measured periodically. -/
def Obligations.KeeperBus : Prop :=
  (∀ (s : State) (die : Nat) (x : KMsg), OnWire s.m die x →
    (x.ty = 1 → Does (.keyLoad die) s ((s.m.takeKeyLoad die x).dieAnswers die 9 x.seq [0, 0])) ∧
    (∀ k, x.ty = 2 → placeOf die x.target = some k → Does (.keyClear die) s ((s.m.clearKey k).dieAnswers die 9 x.seq [0, 0])) ∧
    (x.ty = 3 → Does (.domain die) s ((s.m.takeDomain die x).dieAnswers die 9 x.seq [0, 0])) ∧
    (x.ty = 4 → Does (.lock die) s ((s.m.takeLock die x).dieAnswers die 9 x.seq [0, 0])) ∧
    (x.ty = 5 → Does (.unlock die) s ((s.m.takeUnlock die x).dieAnswers die 9 x.seq [0, 0])) ∧
    (x.ty = 6 → Does (.measureReq die) s (s.m.dieAnswers die 7 x.seq (s.m.measured die)) ∧
      (die < 8 → ∃ l, s.m.measured die = l ++ [if (upto 160).any (fun i => s.m.flag (TILE_STATUS (160 * die + i)) 4) then 1 else 0])) ∧
    (x.ty = 10 → Does (.debugGate die) s ((s.m.takeDebugGate die x).dieAnswers die 9 x.seq [0, 0])) ∧
    (∀ b, x.ty = 10 → x.payload = [b] → 8 ≤ die → ((s.m.takeDebugGate die x).kdie die).debug = decide (b ≠ 0)) ∧
    (x.ty = 4 → x.slot < 8 → bit ((s.m.takeLock die x).kdie die).lock x.slot = true) ∧
    (x.ty = 5 → x.slot < 8 → bit ((s.m.takeUnlock die x).kdie die).lock x.slot = false)) ∧
  (∀ (s : State) (die : Nat) (x : KMsg) (r : List KMsg), die < 31 → s.m.modState ≠ 0 → s.m.board.keeperDown = false → (s.m.kdie die).out = x :: r →
    (∀ y q, (s.m.kdie die).answers = y :: q → y.ty = 9 → Does (.keeperBusAck die false) s (((s.m.acked die x).answered die).settle)) ∧
    (∀ y q w n, (s.m.kdie die).answers = y :: q → x.ty = 6 → y.ty = 7 → w = s.m.expected die →
      n = (if die < 8 then (s.m.answered die).setKdie die { (s.m.answered die).kdie die with scrubFail := decide (num y.payload w.length 1 = 1) } else s.m.answered die) →
      (y.payload.take w.length = w → Does (.measureRsp die) s n.settle) ∧
      (y.payload.take w.length ≠ w → Does (.measureRsp die) s (n.raiseKeeper 0x0F2A die 7 none).settle)) ∧
    ((s.m.kdie die).resends < 3 → ∀ n : Mod, n = ((s.m.setKdie die { s.m.kdie die with resends := (s.m.kdie die).resends + 1, answers := [] }).addCnt CNT_BUS_RESEND 1).raiseKeeper 0x0F21 die x.ty none →
      Does (.keeperBusTimeout die) s n ∧ ((s.m.kdie die).answers = [] → Does (.keeperBusAck die true) s n)) ∧
    (s.m.zeroising = true → s.m.keeperBad = false → Does (.zeroiseMessage die) s (s.m.zeroiseDie die) ∧
      (∀ k, k.die = die → (s.m.zeroiseDie die).keys.any (fun p => decide (p.1 = k)) = false) ∧ (s.m.zeroiseDie die).mem = s.m.mem) ∧
    ((s.m.answered die).kdie die).out = r ∧
    (s.m.keeperState = 2 → s.m.anySealed = true →
      ∃ l : List Nat, bridgeDie ∈ l ∧ (∀ p d, s.m.slotOfDie d = some p → d < 8 → s.m.isSealed p = true → d ∈ l) ∧
        Does .periodicMeasure s (s.m.sendAll (l.map (fun d => (d, msgMeasure))))))

/-- The mailbox (R461 to R463): GO in IDLE queues the request with the channel BUSY and the Keeper goes on, ACK in DONE returns it to IDLE, a doorbell in another state is 0x0F04 and counted, one on the other's channel 0x0F03; a response leaves the channel DONE with its status. -/
def Obligations.Mailbox : Prop :=
  ∀ (s : State) (ch : Nat), s.m.modState ≠ 0 → ch < 2 →
    (∀ who, ownChannel who ch = true →
      (s.m.mbState ch = 0 → Does (.mbGo who ch) s (((({ s.m with dialogues := s.m.dialogues ++ [{ ch := some ch, req := s.m.mbRequest ch }] } : Mod).setF (MB_STATUS ch) 0 2 1).settle).answer 0)) ∧
      (s.m.mbState ch = 2 → Does (.mbAck who ch) s ((s.m.setF (MB_STATUS ch) 0 2 0).answer 0)) ∧
      (who ≠ .host → s.m.mbState ch ≠ 0 → Does (.mbGo who ch) s (((s.m.addCnt (CNT_MB_REFUSED ch) 1).setF (MB_STATUS ch) 48 16 0x0F04).answer 0x0F04)) ∧
      (who ≠ .host → s.m.mbState ch ≠ 2 → Does (.mbAck who ch) s (((s.m.addCnt (CNT_MB_REFUSED ch) 1).setF (MB_STATUS ch) 48 16 0x0F04).answer 0x0F04))) ∧
    (∀ who, who ≠ .host → ownChannel who ch = false → Does (.mbGo who ch) s (s.m.answer 0x0F03) ∧ Does (.mbAck who ch) s (s.m.answer 0x0F03)) ∧
    (∀ d r code b, s.m.dialogues = d :: r → d.ch = some ch → b.length ≤ 28640 →
      (s.m.endDialogue code b).mbState ch = 2 ∧ (s.m.endDialogue code b).dialogues = r ∧ (s.m.endDialogue code b).mem = s.m.mem)

/-- Dialogues that report or keep the flash (R458, R464, R465): each answers its body, a write goes to the staging copy alone, a commit moves the staged object to its region, a counter advances to the SVN in use or is refused with 0x0F0D. Dialogues that change the Keeper's doors (R451, R459, R469, R502): a restart runs the boot bank's image, debug opens every die's gate only with no sealed partition and closes it again, ZEROISE clears every key that the Keeper loaded. -/
def Obligations.KeeperDialogues : Prop :=
  (∀ (s : State) (d : Dialogue),
    (Asked s.m 0x01 d → Does .getStatus s (s.m.endDialogue 0 (s.m.getRegWords KPR_STATUS 3)).settle) ∧
    (Asked s.m 0x02 d → Does .getIdentity s (s.m.endDialogue 0 (s.m.ld (flashAt 0x1_0000) 30176)).settle) ∧
    (Asked s.m 0x03 d → Does .getMeasurements s (s.m.endDialogue 0 s.m.measurements).settle) ∧
    (∀ k o, Asked s.m 0x30 d → k = num d.data 0 1 → o = num d.data 4 4 → k < 4 → o + (d.data.drop 8).length ≤ targetSize k → s.m.stagings.contains k = true →
      Does .flashWrite s ((s.m.st (stagingAt k o) (d.data.drop 8)).endDialogue 0 []).settle) ∧
    (∀ k o, Asked s.m 0x30 d → k = num d.data 0 1 → o = num d.data 4 4 → targetSize k < o + (d.data.drop 8).length → Does .flashWrite s (s.m.endDialogue 0x0F0C []).settle) ∧
    (∀ v : SignatureCheck, Asked s.m 0x31 d → num d.data 0 1 = 1 → s.m.checkObject (stagingAt 1 0) (targetType 1) v.sigOk = 0 →
      ∃ n : Mod, Does (.flashCommit v) s (n.endDialogue 0 []).settle ∧ n.mem = (s.m.copyMem (stagingAt 1 0) (flashAt (targetBase 1)) (targetSize 1)).mem ∧
        n.stagings = s.m.stagings.erase 1 ∧ bit n.kboot 0 = true) ∧
    (∀ v : SignatureCheck, Asked s.m 0x31 d → num d.data 0 1 ≠ 3 → s.m.checkObject (stagingAt (num d.data 0 1) 0) (targetType (num d.data 0 1)) v.sigOk ≠ 0 →
      Does (.flashCommit v) s (s.m.endDialogue (s.m.checkObject (stagingAt (num d.data 0 1) 0) (targetType (num d.data 0 1)) v.sigOk) []).settle) ∧
    (Asked s.m 0x32 d → num d.data 0 1 = 0 →
      (num s.m.galHeader 0x10 4 ≤ s.m.svnOf 1 → Does .advanceSvn s (s.m.endDialogue 0x0F0D []).settle) ∧
      (s.m.svnOf 1 < num s.m.galHeader 0x10 4 →
        Does .advanceSvn s (((s.m.setF KPR_SVN0 0 32 (num s.m.galHeader 0x10 4)).writeReplay).endDialogue 0 (bytesOf 4 (num s.m.galHeader 0x10 4))).settle))) ∧
  (∀ (s : State) (d : Dialogue),
    (∀ (v : SignatureCheck) g, Asked s.m 0x33 d → s.m.abandonCmds.anySealed = false →
      (s.m.abandonCmds.goodBank [(s.m.bootBank, v.sigOk), (1 - s.m.bootBank, v.otherOk)] = some g → g = s.m.bootBank →
        Does (.galleryRestart v) s ((s.m.abandonCmds.runGallery g).endDialogue 0 []).settle) ∧
      (s.m.abandonCmds.goodBank [(s.m.bootBank, v.sigOk), (1 - s.m.bootBank, v.otherOk)] = none →
        Does (.galleryRestart v) s (((s.m.abandonCmds.raiseKeeper 0x0F24 31 0 none).recovery).endDialogue 0x0F05 []).settle)) ∧
    (Asked s.m 0x40 d → s.m.debugAllowed = true → s.m.anySealed = false → (∀ p, p < 8 → (s.m.kslot p).st ≠ .sealing) →
      Does .debugEnable s (((s.m.setFlag KPR_STATUS 4 true).setFlag KPR_STATUS 5 true).setPlan [.send (busDies.map (fun i => (i, msgDebug true)))]).settle) ∧
    (Asked s.m 0x40 d → s.m.anySealed = true → Does .debugEnable s (s.m.endDialogue 0x0F08 []).settle) ∧
    (Asked s.m 0x41 d → Does .debugDisable s ((s.m.setFlag KPR_STATUS 4 false).setPlan [.send (busDies.map (fun i => (i, msgDebug false)))]).settle) ∧
    (Asked s.m 0x50 d → Does .zeroise s (s.m.setPlan [.send (s.m.keysSet.map (fun k => msgClear k 0))]).settle))

/-- Attestation and keying of a slot (R474, R476 to R480, R484, R490, R491): ATTEST of an accepted manifest leaves the slot ATTESTED with fresh keys and answers the signed attestation, a delivery with a good tag begins the sealing and one with a bad tag ends the slot's attestation, sealing is confirmed by a measurement after its scrubs, and a teardown ends in its unlocks. -/
def Obligations.Sealings : Prop :=
  ∀ (s : State) (d : Dialogue) (p : Nat), p = d.slot →
    (∀ a man, Asked s.m 0x10 d → s.m.hasPart p = true → s.m.jobRuns p = false → (s.m.kslot p).st = .unsealed ∨ (s.m.kslot p).st = .attested → s.m.debugOn = false →
      s.m.domainsGone = false → man = d.data.drop 32 → s.m.manifestOk p man = true → a = ({ s.m with draws := s.m.draws + 2 }).attestation p (d.data.take 32) man (s.m.draws + 1) (s.m.draws + 2) →
      ∃ n : Mod, Does .attest s (n.endDialogue 0 (a ++ bytesIn 17088 (Config.sign 17088 0 a))).settle ∧ n.draws = s.m.draws + 2 ∧ n.mem = s.m.mem ∧
        (n.kslot p).st = .attested ∧ (n.kslot p).manifest = man ∧ (n.kslot p).manifestHash = sha256 man ∧ (n.kslot p).kemAt = some (s.m.draws + 1) ∧ (n.kslot p).sealKey = some (s.m.draws + 2)) ∧
    (Asked s.m 0x10 d → s.m.hasPart p = true → s.m.jobRuns p = false → (s.m.kslot p).st = .unsealed → s.m.debugOn = false → s.m.domainsGone = false → s.m.manifestOk p (d.data.drop 32) = false →
      Does .attest s (s.m.endDialogue 0x0F10 []).settle) ∧
    (∀ kem, Asked s.m 0x11 d → (s.m.kslot p).st = .attested → (s.m.kslot p).kemAt = some kem → s.m.debugOn = false → s.m.domainsGone = false → s.m.hasPart p = true → s.m.jobRuns p = false →
      Does (.deliverJobKey false) s ((s.m.dropAttest p).endDialogue 0x0F0A []).settle ∧ ((s.m.dropAttest p).kslot p).st = .unsealed ∧ ((s.m.dropAttest p).kslot p).kemAt = none ∧
      (∃ n : Mod, Does (.deliverJobKey true) s (n.setPlan (n.sealPlan p)).settle ∧ (n.kslot p).st = .sealing ∧ (n.kslot p).jk = bytesIn 32 (Config.unwrap kem d.data) ∧ (n.kslot p).kemAt = none ∧
        (n.kslot p).domain = BitVec.ofNat 16 s.m.nextDomain ∧ n.nextDomain = s.m.nextDomain + 1 ∧ n.mem = s.m.mem)) ∧
    (Asked s.m 0x11 d → (s.m.kslot p).st ≠ .attested → ∀ ok, Does (.deliverJobKey ok) s (s.m.endDialogue 0x0F0F []).settle) ∧
    (s.m.modState ≠ 0 → s.m.inService = some d → d.op = 0x11 → d.code = 0 → d.plan = [.event] → s.m.busQuiet = true → s.m.scrubsDone p = true →
      Does (.sealingConfirm p) s (s.m.setPlan [s.m.sendMeasure p]).settle) ∧
    (s.m.inService = some d → d.op = 0x11 → d.code = 0 →
      (s.m.scrubFailed p = false → ((s.m.finishDialogue d).kslot p).st = .sealed) ∧ (s.m.scrubFailed p = true → ((s.m.finishDialogue d).kslot p).st = .tearing)) ∧
    (∀ w e f, Asked s.m 0x12 d → w = num d.data 0 4 → f = w % 2048 → e = w / 2048 % 2 → s.m.isSealed p = true → s.m.slotOfRing (ringOfFlow e f) = some p →
      (manifestList (s.m.kslot p).manifest (0x120 + 32 * num (s.m.kslot p).manifest 0x12 2 + 2 * num (s.m.kslot p).manifest 0x14 2) (num (s.m.kslot p).manifest 0x16 2) 4).contains (w % 4096) = true →
      Does .loadFeedEpoch s (s.m.setPlan [.send [msgKey (.feed e f (w / 4096 % 2)) p (w / 65536 % 256) (s.m.feedKey p e f (w / 65536 % 256))]]).settle) ∧
    (∀ r, Asked s.m 0x13 d → s.m.dialogues = d :: r → s.m.isSealed p = true → num (s.m.kslot p).manifest 0xD 1 % 2 = 1 → (s.m.kslot p).exportRec ≠ [] → num d.data 0 2 < num d.data 2 2 →
      ∃ b, Does .sealExport s (({ s.m with dialogues := { d with body := b } :: r } : Mod).setPlan [.send [(bridgeDie, msgMeasure)]]).settle) ∧
    (Asked s.m 0x14 d → s.m.isSealed p = true → s.m.jobRuns p = false → Does .teardown s (s.m.beginTeardown p).settle) ∧
    (s.m.modState ≠ 0 → s.m.inService = some d → (s.m.kslot p).st = .tearing → d.plan = [.event] → s.m.busQuiet = true → s.m.scrubsDone p = true →
      Does (.teardownScrubDone p) s (s.m.endTeardown p).settle) ∧
    (p < 8 → (s.m.kslot p).st = .attested →
      ∃ t, exec (.kemKeyExpiry p) s = .next t ∧ (t.m.kslot p).st = .unsealed ∧ (t.m.kslot p).kemAt = none ∧ (t.m.kslot p).manifest = [] ∧ t.m.mem = s.m.mem ∧ (∀ q, q ≠ p → t.m.kslot q = s.m.kslot q)) ∧
    (Asked s.m 0x20 d → s.m.hasPart p = true → s.m.jobRuns p = false → (s.m.kslot p).st = .unsealed → s.m.domainsGone = false →
      ∃ n : Mod, Does .openDomain s (n.setPlan (n.openPlan p)).settle ∧ (n.kslot p).domain = BitVec.ofNat 16 s.m.nextDomain ∧ (n.kslot p).jk = (d.data.drop 8).take 32 ∧
        (n.kslot p).jobTag = BitVec.ofNat 16 (num d.data 0 2) ∧ n.nextDomain = s.m.nextDomain + 1 ∧ n.mem = s.m.mem) ∧
    (Asked s.m 0x21 d → s.m.hasPart p = true → s.m.jobRuns p = false → (s.m.kslot p).st = .unsealed → Does .scrubPartition s (s.m.beginScrub p).settle)

/-! ## Host commands -/

/-- The module command channel and the completion of a command (R498, R499, R503): GO in IDLE makes it BUSY, ACK in DONE makes it IDLE, either elsewhere is 0x0E04; a completion makes it DONE and forgets the command, a packet that a common check refuses completes with that code and does nothing else. Commands on the module (R504, R505, R518, R546, R562): a NOP completes, a query answers four registers, HALT and RESUME move between HALTED and the state before, STANDBY waits for the rails and WAKE starts the start-up, a lamp test marks its dies and waits for its end; each is refused in the states that do not allow it. -/
def Obligations.HostChannel : Prop :=
  (∀ s : State,
    (s.m.modState ≠ 0 → ∀ who,
      (s.m.mcmdState = 0 → packetOk (s.m.regBytes HI_MCMD_REQ 8) = true → Does (.hiMcmdGo who) s ((s.m.wr HI_MCMD_STATUS 1).answer 0)) ∧
      (s.m.mcmdState = 2 → Does (.hiMcmdAck who) s ((s.m.wr HI_MCMD_STATUS 0).answer 0)) ∧
      (who ≠ .host → s.m.mcmdState ≠ 0 → Does (.hiMcmdGo who) s (s.m.answer 0x0E04)) ∧
      (who ≠ .host → s.m.mcmdState ≠ 2 → Does (.hiMcmdAck who) s (s.m.answer 0x0E04))) ∧
    (∀ (m : Mod) (c : HostCmd) code n b, c.ch = .mcmd →
      (m.completeCmd c code n b).mcmdState = 2 ∧ (m.completeCmd c code n b).cmds = m.cmds.erase c ∧ (m.completeCmd c code n b).mem = m.mem) ∧
    (∀ ch b n, n = Taking s.m ch b → n.commonCode ch b ≠ 0 →
      (Offers s.m ch 0x02 b → Does (.modQuery ch) s (n.completeCmd (commandOf s.m ch b) (n.commonCode ch b) 0 [])) ∧
      (Offers s.m ch 0x23 b → ∀ x, Does (.jobStart ch x) s (n.completeCmd (commandOf s.m ch b) (n.commonCode ch b) 0 [])) ∧
      (Offers s.m ch 0x51 b → Does (.csrWrite ch) s (n.completeCmd (commandOf s.m ch b) (n.commonCode ch b) 0 [])))) ∧
  (∀ (s : State) (ch : Channel) (b : List Byte) (n : Mod) (c : HostCmd), n = Taking s.m ch b → c = commandOf s.m ch b →
    (Serves s.m ch 0x01 b → Does (.hostNop ch) s (n.completeCmd c 0 0 [])) ∧
    (Serves s.m ch 0x02 b → Does (.modQuery ch) s (n.completeCmd c 0 0 (bytesOf 8 (n.rd 0).toNat ++ bytesOf 8 (n.rd MOD_STATE).toNat ++ bytesOf 8 (n.rd MOD_DIES).toNat ++ bytesOf 8 (n.rd MOD_PART_MAP).toNat))) ∧
    (Serves s.m ch 0x03 b → n.halted = false → Does (.modHalt ch) s (n.enterHalted.completeCmd c 0 0 [])) ∧
    (Serves s.m ch 0x04 b → n.halted = true → (n.thermLow = false → Does (.modResume ch) s (n.resume.completeCmd c 0 0 [])) ∧
      (n.thermLow = true → Does (.modResume ch) s (n.completeCmd c 0x010A 0 []))) ∧
    (Serves s.m ch 0x05 b → (n.modState = 2 → n.rd MOD_PART_MAP = 0 → Does (.modStandby ch) s n) ∧ (n.modState = 3 → Does (.modStandby ch) s (n.completeCmd c 0x0106 0 []))) ∧
    (Serves s.m ch 0x06 b → n.modState = 1 → n.startPhase = 0 → Does (.modWake ch) s { n with board := { n.board with wake := true } }) ∧
    (∀ k, s.m.modState = 2 → s.m.cmds.find? (fun c => decide (pkOp c.packet = 0x05)) = some k → Does .modStandbyDone s ((s.m.loseMain.goState 1 0).completeCmd k 0 0 [])) ∧
    (∀ d, Serves s.m ch 0x60 b → d < 8 → pkPar c.packet 0 1 = 0 → pkPar c.packet 1 1 = 2 ^ d → n.slotOfDie d = none →
      ∃ t, exec (.lampTest ch) s = .next t ∧ t.m.fld LAMP_STATUS 0 8 = 2 ^ d ∧ t.m.fld LAMP_STATUS 8 4 = 1 ∧ t.m.mem = n.mem ∧ t.m.cmds = n.cmds) ∧
    (∀ p, Serves s.m ch 0x60 b → n.locked p = true → (∃ d, d < 8 ∧ pkPar c.packet 1 1 = 2 ^ d ∧ n.slotOfDie d = some p) → p < 8 →
      Does (.lampTest ch) s (n.completeCmd c 0x0F01 0 [])) ∧
    (∀ (o : LampOutcome) d, s.m.mainUp = true → s.m.cmds = [] → s.m.fld LAMP_STATUS 8 4 = 2 → s.m.lampDies.filter (fun d => !bit s.m.lampScrub d) = [d] → o.failedTiles = [] → bit o.badDies d = false →
      ∃ t, exec (.lampTestEnd o) s = .next t ∧ t.m.flag (LAMP_RESULT d) 24 = true ∧ t.m.mem = s.m.mem))

/-- Commands on partitions (R28, R506, R561): CREATE takes an allowed set of free dies in READY or RUN, the power-up of its dies completes it with the slot and state IDLE, a failed rail is 0x0121, and a slot with a domain has its tiles scrubbed first; POWER moves a slot between its states, DELETE of a slot without a domain frees its dies. -/
def Obligations.PartitionCommands : Prop :=
  ∀ (s : State) (ch : Channel) (b : List Byte) (n : Mod) (c : HostCmd), n = Taking s.m ch b → c = commandOf s.m ch b →
    (Serves s.m ch 0x10 b → (n.modState = 2 ∨ n.modState = 3) →
      (allowedSet (pkPar b 0 1) = false → Does (.partCreate ch) s (n.completeCmd c 0x0102 0 [])) ∧
      (allowedSet (pkPar b 0 1) = true → n.diesTaken (pkPar b 0 1) = true → Does (.partCreate ch) s (n.completeCmd c 0x0103 0 [])) ∧
      (allowedSet (pkPar b 0 1) = true → n.diesTaken (pkPar b 0 1) = false →
        Does (.partCreate ch) s (n.makePart (pkPar b 0 1)) ∧ (n.makePart (pkPar b 0 1)).slotOfDie (lowestDie (pkPar b 0 1)) = some (lowestDie (pkPar b 0 1)) ∧
        (∀ d, d < 8 → pkPar b 0 1 / 2 ^ d % 2 = 1 → (n.makePart (pkPar b 0 1)).slotOfDie d = some (lowestDie (pkPar b 0 1))) ∧
        (∀ d, d < 8 → pkPar b 0 1 / 2 ^ d % 2 = 0 → (n.makePart (pkPar b 0 1)).slotOfDie d = n.slotOfDie d))) ∧
    (∀ p x, s.m.mainUp = true → p < 8 → (s.m.part p).powering = true → (s.m.part p).m2 = true → s.m.powerCmd p = some x →
      (pkOp x.packet = 0x10 → (s.m.kslot p).domain = 0 → Does (.partitionPowerUpDone p true) s (((s.m.partUp p).setPartState p 1).completeCmd x 0 0 [BitVec.ofNat 8 p])) ∧
      ((s.m.kslot p).domain ≠ 0 → Does (.partitionPowerUpDone p true) s (s.m.partUp p) ∧ (∀ t, t < 1280 → s.m.slotOfTile t = some p → (s.m.partUp p).scrubbing t = true)) ∧
      Does (.partitionPowerUpDone p false) s (((s.m.modPart p (fun y => { y with powering := false })).raisePower 0x0121 p (some p)).completeCmd x 0x0121 0 [])) ∧
    (Serves s.m ch 0x11 b → n.jobRuns (pkSlot b) = false → (n.kslot (pkSlot b)).st = .unsealed → (n.kslot (pkSlot b)).domain = 0 →
      Does (.partDelete ch) s ((n.removePart (pkSlot b)).completeCmd c 0 0 [])) ∧
    (Serves s.m ch 0x11 b → n.jobRuns (pkSlot b) = true → Does (.partDelete ch) s (n.completeCmd c 0x0105 0 [])) ∧
    (Serves s.m ch 0x12 b → n.jobRuns (pkSlot b) = false →
      (pkPar b 0 1 = 0 → (n.part (pkSlot b)).m2 = true → Does (.partPower ch) s (n.modPart (pkSlot b) (fun y => { y with powering := true }))) ∧
      (pkPar b 0 1 = 2 → (n.part (pkSlot b)).m2 = false → Does (.partPower ch) s n)) ∧
    (∀ p x, s.m.mainUp = true → p < 8 → s.m.cmdOf p 0x12 = some x → pkPar x.packet 0 1 = 2 → (s.m.part p).m2 = false →
      Does (.partitionPowerDownDone p) s ((s.m.partDown p).completeCmd x 0 0 []))

/-- Plans, programs and jobs (R400, R508, R509, R511, R512): a plan or program that its checks accept is loaded and answers its hash, one that they refuse loads nothing that counts; a start that its checks accept counts as running and waits for its mark, a stop ends the job at the next mark or at once. -/
def Obligations.LoadsAndJobs : Prop :=
  ∀ (s : State) (ch : Channel) (b : List Byte) (n : Mod) (c : HostCmd) (p : Nat), n = Taking s.m ch b → c = commandOf s.m ch b → p = pkSlot b →
    (∀ i x, Serves s.m ch 0x20 b → i = n.ld (hostAt (pkBuf b)) (pkLen b) → x = n.applyPlan p i → n.jobRuns p = false → (n.kslot p).domain ≠ 0 →
      (x.1 = 0 → n.planRefused p (sha256 i) = false → Does (.planLoad ch) s ((x.2.2.acceptPlan p (sha256 i)).completeCmd c 0 i.length (sha256 i))) ∧
      (x.1 = 0 → n.planRefused p (sha256 i) = true → ∃ k : Mod, Does (.planLoad ch) s (k.completeCmd c 0x0F0E 0 []) ∧ k.planValid p = false) ∧
      (x.1 ≠ 0 → ∃ k : Mod, Does (.planLoad ch) s (k.completeCmd c x.1 0 []) ∧ k.planValid p = false)) ∧
    (Serves s.m ch 0x20 b → n.jobRuns p = true → Does (.planLoad ch) s (n.completeCmd c 0x0105 0 [])) ∧
    (∀ i t, Serves s.m ch 0x21 b → i = n.ld (hostAt (pkBuf b)) (pkLen b) → t = 160 * p + pkPar b 0 2 → pkPar b 2 2 = 1 → pkPar b 0 2 < 160 * (n.diesOf p).length → imageBad i = false →
      num i 8 2 = 0xFFFF → 128 + 8 * imageLen i ≤ i.length → n.progCode t i = 0 → n.locked p = false →
      Does (.progLoad ch) s ((n.putProgram t i).completeCmd c 0 (128 + 8 * imageLen i) (sha256 (imageBytes i)))) ∧
    (∀ x r, Serves s.m ch 0x23 b → pkPar b 2 2 / 2 % 2 = 0 → r = decide (pkPar b 2 2 % 2 = 1) →
      (n.jobCode p (pkPar b 0 2) (pkPar b 8 8) r false ≠ 0 → Does (.jobStart ch x) s (n.completeCmd c (n.jobCode p (pkPar b 0 2) (pkPar b 8 8) r false) 0 [])) ∧
      (n.jobCode p (pkPar b 0 2) (pkPar b 8 8) r false = 0 →
        Does (.jobStart ch x) s ((if r then n else n.startData p (pkPar b 8 8) false).acceptJob p (pkPar b 0 2) r) ∧
        ((if r then n else n.startData p (pkPar b 8 8) false).acceptJob p (pkPar b 0 2) r).jobRuns p = true)) ∧
    (Serves s.m ch 0x24 b →
      ((n.part p).job = none → Does (.jobStop ch) s (n.completeCmd c 0x0107 0 [])) ∧
      (∀ j, (n.part p).job = some j → pkPar b 0 1 = 0 → Does (.jobStop ch) s ((n.modPart p (fun y => { y with job := some { j with stopMode0 := some ch } })).setPartState p 3)) ∧
      (∀ j, (n.part p).job = some j → pkPar b 0 1 = 1 → j.started = true →
        Does (.jobStop ch) s ((n.abortJob p).completeCmd c 0 0 ((n.abortJob p).stopDetail p ((n.abortJob p).fld (STEP_STATUS p) 4 4)))))

/-- Contexts and checkpoints (R360, R361, R365, R366, R510, R513 to R515): CTX_NEW answers a fresh number, a reset or a discard of a context completes, a save waits for its stream and completes with its length, a restore answers its context; an export whose element counts add up answers its step; a RESHARD waits for its step, the new plan is current when the tallies agree, 0x0A22 is raised when they do not, and the command of an abandoned one completes with it. -/
def Obligations.ContextsAndCheckpoints : Prop :=
  ∀ (s : State) (ch : Channel) (b : List Byte) (n : Mod) (c : HostCmd) (p : Nat), n = Taking s.m ch b → c = commandOf s.m ch b → p = pkSlot b →
    (Serves s.m ch 0x22 b → n.nextContext ≤ 0xFFFF →
      Does (.ctxNew ch) s (({ n.setContext n.nextContext { slot := p } with nextContext := n.nextContext + 1 }).completeCmd c 0 0 (bytesOf 2 n.nextContext))) ∧
    (Serves s.m ch 0x22 b → 0xFFFF < n.nextContext → Does (.ctxNew ch) s (n.completeCmd c 0x010C 0 [])) ∧
    (Serves s.m ch 0x32 b → n.contextIs (pkPar b 0 2) p false = true → Does (.ctxReset ch) s ((n.resetContext p (pkPar b 0 2)).completeCmd c 0 0 [])) ∧
    (Serves s.m ch 0x33 b → n.contextIs (pkPar b 0 2) p true = true →
      ∃ k : Mod, Does (.ctxDiscard ch) s (k.completeCmd c 0 0 []) ∧ (k.context (pkPar b 0 2)).isNone = true) ∧
    (Serves s.m ch 0x30 b → n.contextIs (pkPar b 0 2) p false = true → n.fld (PART_STATUS p) 32 16 = pkPar b 0 2 → n.locked p = false →
      (∀ j, (n.part p).job = some j → Does (.ctxSave ch) s (n.modPart p (fun y => { y with job := some { j with save := some (ch, decide (pkPar b 4 1 % 2 = 1)) } }))) ∧
      ((n.part p).job = none → Does (.ctxSave ch) s (n.modPart p (fun y => { y with saving := true })))) ∧
    (∀ q x, s.m.mainUp = true → q < 8 → s.m.halted = false → (s.m.part q).saving = true → s.m.cmdOf q 0x30 = some x → s.m.locked q = false → pkPar x.packet 4 1 % 2 = 0 →
      ∃ k : Mod, Does (.ctxSaveWritten q) s (k.completeCmd x 0 (s.m.saveStream q (pkPar x.packet 0 2)).length (bytesOf 8 (k.rd (STEP_NUM q)).toNat)) ∧
        k.outbox = s.m.outbox ++ [.stream q (pkPar x.packet 2 2 % 4096) (s.m.saveStream q (pkPar x.packet 0 2))] ∧ (k.part q).saving = false ∧ k.mem = s.m.mem) ∧
    (∀ ok x, Serves s.m ch 0x31 b → s.m.halted = false → n.jobRuns p = false → (n.locked p = false ∨ ok = true) → num x 0 4 = 0x5258_4454 → num x 4 2 = 1 → (x.drop 64).take 32 = n.geometry p → num x 0x18 4 = 0 →
      (∀ i k, n.restoreContext p (num x 6 2) = some (i, k) →
        ∃ u : Mod, u = (k.setF (PART_STATUS p) 32 16 i).modPart p (fun y => { y with stepLost := false, handed := [] }) ∧
          Does (.ctxRestore ch ok x) s (u.completeCmd c 0 x.length (bytesOf 2 i ++ bytesOf 6 0 ++ bytesOf 8 (u.rd (STEP_NUM p)).toNat)))) ∧
    (∀ o, Serves s.m ch 0x26 b → s.m.halted = false → n.jobSettled p = true → n.locked p = false → n.countsOk p o = true →
      ∃ k : Mod, Does (.exportCheckpoint ch o) s (k.completeCmd c 0 (n.checkpoint p).length (((n.checkpoint p).drop 8).take 8)) ∧ k.mem = n.mem ∧
        k.outbox = n.outbox ++ [.stream p (pkPar b 0 2 % 4096) (n.checkpoint p)]) ∧
    (∀ i, Serves s.m ch 0x25 b → i = n.ld (hostAt (pkBuf b)) (pkLen b) →
      (n.reshardCode p i = 0 → Does (.reshard ch) s (n.modPart p (fun y => { y with newPlan := i, reshard := true }))) ∧
      (n.reshardCode p i ≠ 0 → Does (.reshard ch) s (n.completeCmd c (n.reshardCode p i) 0 []))) ∧
    (∀ q o agree, s.m.mainUp = true → q < 8 → agree = (s.m.talliesAgree (s.m.reshardPlaced q) q && (decide (s.m.jobModules q = 1) || o)) →
      ((s.m.part q).reshardLost = false → (s.m.part q).reshard = true → agree = false →
        Does (.reshardStepEnd q o) s (((s.m.clearReshard q).raise { code := 0x0A22, slot := some q, kind := 0x0B, unit := q }).finishCmd q 0x25 0x0A22 (s.m.part q).newPlan.length [])) ∧
      ((s.m.part q).reshardLost = false → (s.m.part q).reshard = true → agree = true →
        ∃ k : Mod, Does (.reshardStepEnd q o) s (k.finishCmd q 0x25 0 (s.m.part q).newPlan.length (sha256 (s.m.part q).newPlan)) ∧ (k.part q).reshard = false ∧ k.jobRuns q = true ∧ k.planValid q = true) ∧
      ((s.m.part q).reshardLost = true →
        Does (.reshardStepEnd q o) s ((s.m.clearReshard q).finishCmd q 0x25 0x0A22 (s.m.part q).newPlan.length [])))

/-- Commands on buoys and registers (R274, R516, R517): ALLOC makes a FREE buoy of the slot LIVE with its value and context, RELEASE frees or breaks it, WATCH and its cancel list and end a watch; register reads and writes go with the host's rights, word by word, until one is refused; telemetry answers each word with its code. -/
def Obligations.BuoyAndRegisterCommands : Prop :=
  ∀ (s : State) (ch : Channel) (b : List Byte) (n : Mod) (c : HostCmd) (p k : Nat), n = Taking s.m ch b → c = commandOf s.m ch b → p = pkSlot b → k = pkPar b 0 2 % 8192 →
    (Serves s.m ch 0x40 b → n.slotOfBuoy k = some p → n.contextIs (pkPar b 8 2) p false = true →
      ((n.buoy k).st = .free → Does (.buoyAlloc ch) s ((n.setBuoy k { pub := (n.buoy k).pub, st := .live, value := BitVec.ofNat 32 (pkPar b 4 4), owner := BitVec.ofNat 16 (pkPar b 8 2) }).completeCmd c 0 0 [])) ∧
      ((n.buoy k).st ≠ .free → Does (.buoyAlloc ch) s (n.completeCmd c 0x0805 0 []))) ∧
    (Serves s.m ch 0x41 b → n.slotOfBuoy k = some p → (n.buoy k).st = .live ∨ (n.buoy k).st = .broken →
      Does (.buoyRelease ch) s ((if n.freeable k then n.freeBuoy k else n.breakBuoy k).completeCmd c 0 0 [])) ∧
    (∀ w : Watch, Serves s.m ch 0x42 b → n.slotOfBuoy k = some p → w = { cond := BitVec.ofNat 3 (pkPar b 2 1), value := BitVec.ofNat 32 (pkPar b 4 4), mask := BitVec.ofNat 32 (pkPar b 8 4), deadline := BitVec.ofNat 64 (pkPar b 16 8), target := 0, cookie := BitVec.ofNat 32 (pkPar b 12 4) } →
      ((n.registerWatch .gallery k w).1 = 0 → Does (.buoyWatch ch) s (n.registerWatch .gallery k w).2) ∧
      ((n.registerWatch .gallery k w).1 ≠ 0 → Does (.buoyWatch ch) s (n.completeCmd c (n.registerWatch .gallery k w).1 0 []))) ∧
    (∀ w r, Serves s.m ch 0x43 b → n.slotOfBuoy k = some p → (n.buoy k).watches = w :: r → w.cookie = BitVec.ofNat 32 (pkPar b 4 4) →
      Does (.buoyWatchCancel ch) s ((n.endWatch k 0 3).completeCmd c 0 0 [])) ∧
    (Serves s.m ch 0x43 b → n.slotOfBuoy k = some p → (n.buoy k).watches = [] → Does (.buoyWatchCancel ch) s (n.completeCmd c 0x0E07 0 [])) ∧
    (∀ v, Serves s.m ch 0x50 b → pkPar b 8 4 = 1 → n.readReg .host (pkPar b 0 8) = .ok v → Does (.csrRead ch) s (n.completeCmd c 0 8 (bytesOf 8 v.toNat))) ∧
    (∀ e, Serves s.m ch 0x50 b → pkPar b 8 4 = 1 → n.readReg .host (pkPar b 0 8) = .error e → Does (.csrRead ch) s (n.completeCmd c e 0 [])) ∧
    (∀ w, Serves s.m ch 0x51 b → pkPar b 8 4 = 1 → w = n.writeReg .host (pkPar b 0 8) (BitVec.allOnes 64) (BitVec.ofNat 64 (num b 0x28 8)) →
      (w.1 = 0 → Does (.csrWrite ch) s (w.2.completeCmd c 0 8 [])) ∧ (w.1 ≠ 0 → Does (.csrWrite ch) s (w.2.completeCmd c w.1 0 []))) ∧
    (∀ v, Serves s.m ch 0x52 b → pkPar b 0 4 = 1 → n.ldNat (hostAt (pkBuf b)) 8 % 8 = 0 → n.readReg .host (n.ldNat (hostAt (pkBuf b)) 8) = .ok v →
      Does (.telemRead ch) s ((n.st (hostAt (pkBuf b) + 8) (bytesOf 8 v.toNat ++ bytesOf 8 0)).completeCmd c 0 24 (bytesOf 8 n.count.toNat ++ bytesOf 8 n.count.toNat)))

/-! ## Errors -/

/-- What an error leaves (R537, R538, R541): the first of a scope is captured with its number, time and step and its counter counts; in a scope that is being handled at its level or above it only counts as ALSO; a step-fatal one during a reshard step abandons the RESHARD (R362); a corrected error that is not logged shows its code and nothing else; no other scope's record changes. The ends of handlings (R535, R536, R538, R539, R575): a handling that passes its deadline goes one level up with 0x1029, a partition-fatal one ends in FAULT without its job, a module-fatal one in DARK, when every die has answered, when its deadline passes, or when the Keeper has not begun. -/
def Obligations.ErrorsAndHandlings : Prop :=
  (∀ (m : Mod) (e : ErrIn) (p : Nat), p < 8 → e.slot = some p → m.fatalStopped = false →
    (severityOf e.code true = 1 → m.handling p = 0 → m.jobRuns p = false → (m.part p).reshard = true →
      ((m.raise e).part p).reshard = false ∧ ((m.raise e).part p).reshardLost = true ∧ (m.raise e).errSeq = m.errSeq + 2 ∧ (m.raise e).mem = m.mem) ∧
    (severityOf e.code true = 1 → m.handling p = 0 → m.feValid p = false → m.jobRuns p = false → (m.part p).reshard = false →
      ((m.raise e).first p).code = e.code ∧ ((m.raise e).first p).severity = 1 ∧ ((m.raise e).first p).time = m.count ∧ ((m.raise e).first p).seq = BitVec.ofNat 32 m.errSeq ∧
      (m.raise e).feValid p = true ∧ (m.raise e).errSeq = m.errSeq + 1 ∧ (m.raise e).mem = m.mem ∧ (∀ k, k ≠ p → (m.raise e).first k = m.first k)) ∧
    (severityOf e.code true = 1 → 1 ≤ m.handling p →
      ((m.raise e).first p).also = (m.first p).also + 1 ∧ ((m.raise e).first p).code = (m.first p).code ∧ (m.raise e).handling p = m.handling p ∧ (m.raise e).mem = m.mem ∧
      (∀ k, k ≠ p → (m.raise e).first k = m.first k)) ∧
    (severityOf e.code true = 0 → m.flag ERR_CTL 0 = false → m.handling p = 0 →
      (m.raise e).firsts = m.firsts ∧ (m.raise e).ring = m.ring ∧ (m.raise e).mem = m.mem ∧ (m.raise e).fld ERR_STATUS 48 16 = e.code.toNat)) ∧
  (∀ (s : State) (p : Nat), s.m.mainUp = true → p < 8 →
    (s.m.handling p = 1 → s.m.halted = false → s.m.fatalStopped = false → (s.m.first p).deadline.toNat ≤ s.m.count.toNat →
      ∃ (n : Mod) (r : ErrRec), Does (.handlingDeadline p) s (n.raisePart p { code := 0x1029, slot := some p, kind := 0x0B, unit := p } r) ∧ r.code = 0x1029 ∧ r.severity = 2 ∧ n.errSeq = s.m.errSeq + 1) ∧
    (s.m.handling p = 2 → s.m.halted = false → s.m.fatalStopped = false → (s.m.first p).deadline.toNat ≤ s.m.count.toNat →
      ∃ (n : Mod) (r : ErrRec), Does (.handlingDeadline p) s (n.raiseModule { code := 0x1029, slot := some p, kind := 0x0B, unit := p } r) ∧ r.code = 0x1029 ∧ r.severity = 3 ∧ n.handling p = 3) ∧
    (s.m.count.toNat < (s.m.first p).deadline.toNat → Does (.handlingDeadline p) s s.m) ∧
    (s.m.handling p = 2 → s.m.jobRuns p = false → s.m.cmds = [] →
      ∃ t, exec (.partitionFaultReached p) s = .next t ∧ t.m.handling p = 0 ∧ t.m.fld (PART_STATUS p) 0 4 = 4 ∧ t.m.mem = s.m.mem ∧ t.m.tiles = s.m.tiles) ∧
    (s.m.handling 8 = 3 → (s.m.first 8).deadline.toNat ≤ s.m.count.toNat → s.m.zeroiseBegun = false → Does .moduleFatalDeadline s (s.m.loseMain.enterDark true)) ∧
    (s.m.zeroising = true → s.m.zeroiseBegun = false → s.m.fatalAt.toNat + 1000 ≤ s.m.count.toNat → Does .zeroiseStartTimeout s (s.m.loseMain.enterDark true)) ∧
    (s.m.zeroising = true → s.m.keeperBad = false → s.m.allZeroised = true → Does .zeroiseRoundDone s (s.m.enterDark false)) ∧
    (∀ (m : Mod) k, m.cmds = [] → m.dialogues = [] → (m.enterDark k).modState = 5 ∧ (m.enterDark k).keys = [] ∧ (m.enterDark k).keysSet = [] ∧ (m.enterDark k).keeperState = 3 ∧ (m.enterDark k).board.keeperDown = k))

/-! ## Words of the tile instructions; the canonical form -/

/-- Words written out from R113 and R116 decode to the instruction they stand for, with the fields they hold; a reserved opcode is an illegal instruction (R114). -/
def Obligations.TileWords : Prop :=
  ∀ t th : Nat,
    (∃ f, decodeTile t th 0x1018_4100_0000_0005 = .add t th f ∧ fD f = 3 ∧ fS1 f = 1 ∧ fI f = true ∧ fImm f = 5) ∧
    (∃ f, decodeTile t th 0x2500_8A00_0700_0010 = .stw t th f ∧ fS1 f = 2 ∧ fS2 f = 5 ∧ ldstDowel f = 7 ∧ ldstAddr (fun _ => 0x100) f = 0x110) ∧
    (∃ f, decodeTile t th 0x0108_9800_00FF_FFFE = .br t th f ∧ bf f 51 5 = 1 ∧ bf f 46 5 = 2 ∧ bf f 43 3 = 3 ∧ fOff f = -2) ∧
    (∃ f, decodeTile t th 0x4000_1800_1F00_0000 = .mma t th f ∧ mmaShape f = 0 ∧ mmaFA f = 0 ∧ mmaFB f = 0 ∧ mmaAcc f = 1 ∧ mmaClr f = true ∧ mmaOvf f = false ∧ fLines f = 32) ∧
    (∃ f, decodeTile t th 0x6A04_4500_0000_0006 = .bwait t th f ∧ bf f 53 3 = 0 ∧ bf f 40 13 = 0x445 ∧ bf f 0 32 = 6) ∧
    (∃ f, decodeTile t th 0xF000_0000_0000_0007 = .trapI t th f ∧ bf f 0 16 = 7) ∧
    decodeTile t th 0x0B00_0000_0000_0000 = .illegalInstruction t th 0x0B00_0000_0000_0000 ∧
    decodeTile t th 0xFF00_0000_0000_0001 = .illegalInstruction t th 0xFF00_0000_0000_0001

/-- The words of the tile instructions and the commands they stand for agree both ways (R113, R114, R116): the word of an instruction decodes to it, with every field at every value; what a word decodes to, if not an illegal instruction, has that word; two instructions of one thread with one word are the same; and a word of no instruction is illegal. -/
def Obligations.TileWordsRoundTrip : Prop :=
  (∀ (i : Instr) (w : W64), encodeTile i = some w → ∃ t th, decodeTile t th w = i) ∧
  (∀ (t th : Nat) (w : W64), encodeTile (decodeTile t th w) = some w ∨ decodeTile t th w = .illegalInstruction t th w) ∧
  (∀ (t th : Nat) (v w : W64), decodeTile t th v = decodeTile t th w → v = w) ∧
  (∀ (t th : Nat) (w : W64), (∀ i, encodeTile i ≠ some w) → decodeTile t th w = .illegalInstruction t th w)

/-- A step of a tile instruction keeps memory and registers in canonical form, whatever the state: keys strictly rising, no entry that equals what an unlisted key reads as. -/
def Obligations.InstructionsKeepCanonical : Prop :=
  ∀ (s t : State) (i : Instr) (r : List Instr), s.pending = i :: r → tileOpcode i ≠ none → Canonical s → step s = .next t → Canonical t ∧ t.pending = r
end

