-- ==== Sys2Proof/Laws/Bits.lean ====
section
/-! SUPPORT. The laws of bit fields and byte strings: a field reads back as it was written, fields that share no bit are left alone, bytes spell the number they come from. -/

namespace Sys2Proof

theorem getLsbD_fieldMask (n lo len i : Nat) : (fieldMask n lo len).getLsbD i = (decide (i < n) && decide (lo ≤ i) && decide (i < lo + len)) := by
  unfold fieldMask
  rw [BitVec.getLsbD_shiftLeft, BitVec.getLsbD_ofNat, Nat.testBit_two_pow_sub_one]
  by_cases h1 : i < n <;> by_cases h2 : lo ≤ i <;> by_cases h3 : i < lo + len <;> simp [h1, h2, h3] <;> omega

theorem getLsbD_setBf {n : Nat} (w : BitVec n) (lo len v i : Nat) (hi : i < n) :
    (setBf w lo len v).getLsbD i = if lo ≤ i ∧ i < lo + len then v.testBit (i - lo) else w.getLsbD i := by
  unfold setBf
  rw [BitVec.getLsbD_or, BitVec.getLsbD_and, BitVec.getLsbD_not, getLsbD_fieldMask, BitVec.getLsbD_shiftLeft, BitVec.getLsbD_ofNat, Nat.testBit_mod_two_pow]
  by_cases h2 : lo ≤ i
  · by_cases h3 : i < lo + len
    · simp [hi, h2, h3, show i - lo < len by omega, show i - lo < n by omega, show ¬ (i < lo) by omega]
    · simp [hi, h2, h3, show ¬ (i - lo < len) by omega]
  · simp [hi, h2, show i < lo by omega]

theorem testBit_bf {n : Nat} (w : BitVec n) (lo len i : Nat) : (bf w lo len).testBit i = (decide (i < len) && w.getLsbD (lo + i)) := by
  unfold bf
  rw [← BitVec.getLsbD, BitVec.getLsbD_extractLsb']

/-- A field reads back as it was written. -/
theorem bf_setBf {n : Nat} (w : BitVec n) (lo len v : Nat) (h : lo + len ≤ n) : bf (setBf w lo len v) lo len = v % 2 ^ len := by
  apply Nat.eq_of_testBit_eq
  intro i
  rw [testBit_bf, Nat.testBit_mod_two_pow]
  by_cases hi : i < len
  · rw [getLsbD_setBf _ _ _ _ _ (by omega)]; simp [hi]
  · simp [hi]

/-- A field that shares no bit with the written one keeps its value. -/
theorem bf_setBf_disjoint {n : Nat} (w : BitVec n) (lo len v a b : Nat) (h : a + b ≤ n) (hd : a + b ≤ lo ∨ lo + len ≤ a) :
    bf (setBf w lo len v) a b = bf w a b := by
  apply Nat.eq_of_testBit_eq
  intro i
  rw [testBit_bf, testBit_bf]
  by_cases hi : i < b
  · rw [getLsbD_setBf _ _ _ _ _ (by omega), if_neg (by omega)]
  · simp [hi]

/-- A bit outside the written field keeps its value. -/
theorem bit_setBf_outside {n : Nat} (w : BitVec n) (lo len v i : Nat) (hi : i < n) (hd : i < lo ∨ lo + len ≤ i) : bit (setBf w lo len v) i = bit w i := by
  unfold bit
  rw [getLsbD_setBf _ _ _ _ _ hi, if_neg (by omega)]

/-- A bit reads back as it was written. -/
theorem bit_setBit {n : Nat} (w : BitVec n) (i : Nat) (b : Bool) (hi : i < n) : bit (setBit w i b) i = b := by
  unfold bit setBit
  rw [getLsbD_setBf _ _ _ _ _ hi, if_pos (by omega)]
  cases b <;> simp

theorem bit_setBit_other {n : Nat} (w : BitVec n) (i j : Nat) (b : Bool) (hj : j < n) (h : j ≠ i) : bit (setBit w i b) j = bit w j := by
  unfold setBit
  exact bit_setBf_outside _ _ _ _ _ hj (by omega)

theorem bf_lt {n : Nat} (w : BitVec n) (lo len : Nat) : bf w lo len < 2 ^ len := (w.extractLsb' lo len).isLt

@[simp] theorem bytesOf_length (n v : Nat) : (bytesOf n v).length = n := by
  induction n generalizing v with
  | zero => rfl
  | succ n ih => simp [bytesOf, ih]

/-- The bytes of a number spell it. -/
theorem natOf_bytesOf (n v : Nat) : natOf (bytesOf n v) = v % 256 ^ n := by
  induction n generalizing v with
  | zero => simp [bytesOf, natOf, Nat.mod_one]
  | succ n ih =>
    simp only [bytesOf, natOf, ih, BitVec.toNat_ofNat]
    rw [show 256 ^ (n + 1) = 256 * 256 ^ n by rw [Nat.pow_succ, Nat.mul_comm], Nat.mod_mul]

end Sys2Proof
end

