-- ==== Sys2Proof/Laws/Sparse.lean ====
section
/-! SUPPORT. The laws of sparse tables: a read after a write, writes elsewhere, and that every operation keeps the canonical form. -/

namespace Sys2Proof.Sparse

variable {α : Type} {d : Nat → α}

@[simp] theorem get_nil (k : Nat) : get d [] k = d k := rfl

theorem get_erase (m : List (Nat × α)) (k j : Nat) : get d (erase k m) j = if j = k then d k else get d m j := by
  induction m with
  | nil => by_cases h : j = k <;> simp [erase, h]
  | cons p r ih =>
    obtain ⟨a, w⟩ := p
    by_cases hk : a = k <;> by_cases hj : j = k <;> simp_all [erase, get]
    · intro h; exact absurd h.symm hj

theorem get_insertAt (m : List (Nat × α)) (k j : Nat) (v : α) (h : ∀ x, (k, x) ∉ m) :
    get d (insertAt k v m) j = if j = k then v else get d m j := by
  induction m with
  | nil =>
    by_cases hj : j = k
    · simp [insertAt, get, hj]
    · simp [insertAt, get, hj, Ne.symm hj]
  | cons p r ih =>
    obtain ⟨a, w⟩ := p
    have ha : a ≠ k := fun e => h w (by simp [e])
    have hr : ∀ x, (k, x) ∉ r := fun x hx => h x (by simp [hx])
    by_cases hlt : k < a
    · by_cases hj : j = k
      · simp [insertAt, hlt, get, hj]
      · simp [insertAt, hlt, get, hj, Ne.symm hj]
    · by_cases hj : j = k
      · subst hj; simp [insertAt, hlt, get, ha, ih hr]
      · simp [insertAt, hlt, get, ih hr, hj]

theorem not_mem_erase (m : List (Nat × α)) (k : Nat) (x : α) : (k, x) ∉ erase k m := by
  induction m with
  | nil => simp [erase]
  | cons p r ih =>
    obtain ⟨a, w⟩ := p
    by_cases hk : a = k
    · simpa [erase, hk] using ih
    · simp only [erase, hk, if_false, List.mem_cons, not_or]
      exact ⟨fun e => hk (by simpa using (congrArg Prod.fst e).symm), ih⟩

variable [DecidableEq α]

theorem get_put (m : List (Nat × α)) (k j : Nat) (v : α) : get d (put d m k v) j = if j = k then v else get d m j := by
  unfold put
  by_cases hv : v = d k
  · simp only [hv, if_true, get_erase]
  · simp only [hv, if_false]
    rw [get_insertAt _ _ _ _ (not_mem_erase m k)]
    by_cases hj : j = k <;> simp [hj, get_erase]

@[simp] theorem get_put_same (m : List (Nat × α)) (k : Nat) (v : α) : get d (put d m k v) k = v := by simp [get_put]
theorem get_put_other (m : List (Nat × α)) {k j : Nat} (v : α) (h : j ≠ k) : get d (put d m k v) j = get d m j := by simp [get_put, h]

theorem wfFrom_mono {m : List (Nat × α)} {lo hi : Nat} (h : wfFrom d hi m = true) (hl : lo ≤ hi) : wfFrom d lo m = true := by
  cases m with
  | nil => rfl
  | cons p r =>
    obtain ⟨a, w⟩ := p
    simp only [wfFrom, Bool.and_eq_true, decide_eq_true_eq] at h ⊢
    exact ⟨⟨by omega, h.1.2⟩, h.2⟩

theorem wfFrom_erase {m : List (Nat × α)} {lo : Nat} (k : Nat) (h : wfFrom d lo m = true) : wfFrom d lo (erase k m) = true := by
  induction m generalizing lo with
  | nil => rfl
  | cons p r ih =>
    obtain ⟨a, w⟩ := p
    simp only [wfFrom, Bool.and_eq_true, decide_eq_true_eq] at h
    by_cases hk : a = k
    · simp only [erase, hk, if_true]
      exact ih (wfFrom_mono h.2 (by omega))
    · simp only [erase, hk, if_false, wfFrom, Bool.and_eq_true, decide_eq_true_eq]
      exact ⟨h.1, ih h.2⟩

theorem wfFrom_insertAt {m : List (Nat × α)} {lo k : Nat} {v : α} (h : wfFrom d lo m = true) (hk : lo ≤ k) (hv : v ≠ d k)
    (hn : ∀ x, (k, x) ∉ m) : wfFrom d lo (insertAt k v m) = true := by
  induction m generalizing lo with
  | nil => simp [insertAt, wfFrom, hk, hv]
  | cons p r ih =>
    obtain ⟨a, w⟩ := p
    simp only [wfFrom, Bool.and_eq_true, decide_eq_true_eq] at h
    have ha : a ≠ k := fun e => hn w (by simp [e])
    by_cases hlt : k < a
    · simp only [insertAt, hlt, if_true, wfFrom, Bool.and_eq_true, decide_eq_true_eq]
      exact ⟨⟨hk, hv⟩, ⟨⟨by omega, h.1.2⟩, h.2⟩⟩
    · simp only [insertAt, hlt, if_false, wfFrom, Bool.and_eq_true, decide_eq_true_eq]
      exact ⟨h.1, ih h.2 (by omega) (fun x hx => hn x (by simp [hx]))⟩

theorem wf_put {m : List (Nat × α)} (h : wf d m = true) (k : Nat) (v : α) : wf d (put d m k v) = true := by
  unfold put wf at *
  by_cases hv : v = d k
  · simp only [hv, if_true]; exact wfFrom_erase k h
  · simp only [hv, if_false]; exact wfFrom_insertAt (wfFrom_erase k h) (by omega) hv (not_mem_erase m k)

theorem wfFrom_filter {m : List (Nat × α)} {lo : Nat} (p : Nat × α → Bool) (h : wfFrom d lo m = true) : wfFrom d lo (m.filter p) = true := by
  induction m generalizing lo with
  | nil => rfl
  | cons x r ih =>
    obtain ⟨a, w⟩ := x
    simp only [wfFrom, Bool.and_eq_true, decide_eq_true_eq] at h
    by_cases hp : p (a, w) = true
    · simp only [List.filter_cons, hp, if_true, wfFrom, Bool.and_eq_true, decide_eq_true_eq]
      exact ⟨h.1, ih h.2⟩
    · simp only [List.filter_cons, hp]
      exact ih (wfFrom_mono h.2 (by omega))

theorem wf_filter {m : List (Nat × α)} (h : wf d m = true) (p : Nat × α → Bool) : wf d (m.filter p) = true := wfFrom_filter p h

end Sys2Proof.Sparse
end

