-- ==== Sys2Proof/Laws/Memory.lean ====
section
/-! SUPPORT. The laws of memory: bytes written read back, bytes elsewhere stay, and every operation keeps the canonical form. -/

namespace Sys2Proof.Machine

theorem Memory.write_wf {c : List Host.Cell} (h : Memory.wf c = true) (a : Nat) (b : List Byte) : Memory.wf (Memory.write c a b) = true := by
  induction b generalizing c a with
  | nil => exact h
  | cons x r ih => exact ih (Sparse.wf_put h a x) (a + 1)

theorem Memory.clear_wf {c : List Host.Cell} (h : Memory.wf c = true) (lo hi : Nat) : Memory.wf (Memory.clear c lo hi) = true := Sparse.wf_filter h _

theorem Memory.get_write (c : List Host.Cell) (a : Nat) (b : List Byte) (x : Nat) :
    Sparse.get memDefault (Memory.write c a b) x = if a ≤ x ∧ x < a + b.length then b.getD (x - a) 0 else Sparse.get memDefault c x := by
  induction b generalizing c a with
  | nil =>
    have h : ¬ (a ≤ x ∧ x < a + ([] : List Byte).length) := fun h => by have := h.2; rw [List.length_nil] at this; omega
    rw [if_neg h]; rfl
  | cons y r ih =>
    simp only [Memory.write, ih, Sparse.get_put, List.length_cons]
    by_cases h0 : x = a
    · subst h0; rw [if_neg (by omega), if_pos rfl, if_pos (by omega), Nat.sub_self]; rfl
    · by_cases h1 : a + 1 ≤ x ∧ x < a + 1 + r.length
      · have : x - a = (x - (a + 1)) + 1 := by omega
        rw [if_pos h1, if_pos (by omega), this]; simp
      · rw [if_neg h1, if_neg h0, if_neg (by omega)]

theorem Memory.read_length (c : List Host.Cell) (a n : Nat) : (Memory.read c a n).length = n := by
  induction n generalizing a with
  | zero => rfl
  | succ n ih => simp [Memory.read, ih]

/-- The bytes of a read, one by one. -/
theorem Memory.read_getElem? (c : List Host.Cell) (a n i : Nat) : (Memory.read c a n)[i]? = if i < n then some (Sparse.get memDefault c (a + i)) else none := by
  induction n generalizing a i with
  | zero => simp [Memory.read]
  | succ n ih =>
    cases i with
    | zero => simp [Memory.read]
    | succ i => simp [Memory.read, ih, Nat.add_assoc, Nat.add_comm 1 i]

namespace Mod

@[simp] theorem ld_length (m : Mod) (a n : Nat) : (m.ld a n).length = n := Memory.read_length _ _ _
theorem st_wf {m : Mod} (h : Memory.wf m.mem = true) (a : Nat) (b : List Byte) : Memory.wf (m.st a b).mem = true := Memory.write_wf h a b
theorem stNat_wf {m : Mod} (h : Memory.wf m.mem = true) (a n v : Nat) : Memory.wf (m.stNat a n v).mem = true := Memory.write_wf h a _
theorem clearMem_wf {m : Mod} (h : Memory.wf m.mem = true) (lo hi : Nat) : Memory.wf (m.clearMem lo hi).mem = true := Memory.clear_wf h lo hi

/-- A byte after a store: the stored byte inside the range, the old one outside. -/
theorem ldByte_st (m : Mod) (a : Nat) (b : List Byte) (x : Nat) :
    (m.st a b).ldByte x = if a ≤ x ∧ x < a + b.length then b.getD (x - a) 0 else m.ldByte x := Memory.get_write _ _ _ _

/-- A byte after a range is cleared reads as an unlisted one. -/
theorem ldByte_clearMem (m : Mod) (lo hi x : Nat) : (m.clearMem lo hi).ldByte x = if lo ≤ x ∧ x < hi then 0 else m.ldByte x := by
  unfold clearMem ldByte Memory.clear
  generalize m.mem = c
  induction c with
  | nil => by_cases h : lo ≤ x ∧ x < hi <;> simp [memDefault]
  | cons p r ih =>
    obtain ⟨a, w⟩ := p
    by_cases hk : lo ≤ a ∧ a < hi
    · have hb : (decide (a < lo) || decide (hi ≤ a)) = false := by simp; omega
      by_cases hx : a = x
      · subst hx; simp [hb, ih, hk]
      · simp [hb, ih, Sparse.get, hx]
    · have hb : (decide (a < lo) || decide (hi ≤ a)) = true := by simp; omega
      by_cases hx : a = x
      · subst hx; simp only [List.filter_cons, hb, if_true, Sparse.get]; rw [if_neg hk]
      · simp [hb, ih, Sparse.get, hx]

theorem ld_getElem? (m : Mod) (a n i : Nat) : (m.ld a n)[i]? = if i < n then some (m.ldByte (a + i)) else none := Memory.read_getElem? _ _ _ _

/-- A read inside the bytes of a store gives them. -/
theorem ld_st (m : Mod) (a o n : Nat) (b : List Byte) (h : o + n ≤ b.length) : (m.st a b).ld (a + o) n = (b.drop o).take n := by
  apply List.ext_getElem?
  intro i
  rw [ld_getElem?, ldByte_st]
  by_cases hi : i < n
  · rw [if_pos hi, if_pos (by omega), List.getElem?_take_of_lt hi, List.getElem?_drop, show a + o + i - a = o + i by omega]
    rw [List.getD_eq_getElem?_getD, List.getElem?_eq_getElem (by omega)]; rfl
  · rw [if_neg hi, List.getElem?_eq_none (by simp; omega)]

theorem ld_st_same (m : Mod) (a : Nat) (b : List Byte) : (m.st a b).ld a b.length = b := by
  have := ld_st m a 0 b.length b (by omega)
  simpa using this

/-- A number read back where it was written. -/
theorem ldNat_stNat (m : Mod) (a n v : Nat) : (m.stNat a n v).ldNat a n = v % 2 ^ (8 * n) := by
  have h := ld_st_same m a (bytesOf n v)
  rw [bytesOf_length] at h
  have e : (256 : Nat) ^ n = 2 ^ (8 * n) := by rw [Nat.pow_mul]
  simp only [ldNat, stNat, h, natOf_bytesOf, e]

end Mod

/-- One byte of a string as a number. -/
theorem num_one (b : List Byte) (o : Nat) : num b o 1 = (b[o]?.getD 0).toNat := by
  unfold num
  rcases h : b[o]? with _ | x
  · have : b.drop o = [] := by simpa using h
    simp [this, natOf]
  · have : b.drop o = x :: b.drop (o + 1) := by
      obtain ⟨hl, hx⟩ := List.getElem?_eq_some_iff.mp h
      rw [← hx]; exact List.drop_eq_getElem_cons hl
    simp [this, natOf]

theorem reset_mem_wf : Memory.wf State.reset.m.mem = true := rfl

end Sys2Proof.Machine
end

