-- ==== Sys2Proof/Laws/State.lean ====
section
/-! SUPPORT. The laws of the state: what each update leaves in each field, and what registers, fields and tables read after a write. -/

namespace Sys2Proof.Machine.Mod

variable (m : Mod)

/-! ## Reads after writes -/

theorem rd_wr (a b : Nat) (v : W64) : (m.wr a v).rd b = if b = a then v else m.rd b := Sparse.get_put _ _ _ _
@[simp] theorem rd_wr_same (a : Nat) (v : W64) : (m.wr a v).rd a = v := by simp [rd_wr]
theorem rd_wr_other {a b : Nat} (v : W64) (h : b ≠ a) : (m.wr a v).rd b = m.rd b := by simp [rd_wr, h]
@[simp] theorem fld_setF_same (a lo len v : Nat) (h : lo + len ≤ 64) : (m.setF a lo len v).fld a lo len = v % 2 ^ len := by simp [fld, setF, bf_setBf _ _ _ _ h]
theorem fld_setF_disjoint (a lo len v p q : Nat) (h : p + q ≤ 64) (hd : p + q ≤ lo ∨ lo + len ≤ p) : (m.setF a lo len v).fld a p q = m.fld a p q := by
  simp [fld, setF, bf_setBf_disjoint _ _ _ _ _ _ h hd]
theorem fld_setF_other {a b : Nat} (lo len v p q : Nat) (h : b ≠ a) : (m.setF a lo len v).fld b p q = m.fld b p q := by simp [fld, setF, rd_wr_other _ _ h]
theorem fld_wr_other {a b : Nat} (v : W64) (p q : Nat) (h : b ≠ a) : (m.wr a v).fld b p q = m.fld b p q := by simp [fld, rd_wr_other _ _ h]
theorem flag_wr_other {a b : Nat} (v : W64) (i : Nat) (h : b ≠ a) : (m.wr a v).flag b i = m.flag b i := by simp [flag, rd_wr_other _ _ h]
@[simp] theorem flag_setFlag_same (a i : Nat) (b : Bool) (h : i < 64) : (m.setFlag a i b).flag a i = b := by
  have e : (m.setFlag a i b).flag a i = bit (setBit (m.rd a) i b) i := by simp [flag, setFlag, setF, setBit]
  rw [e, bit_setBit _ _ _ h]
theorem flag_setFlag_other {a b : Nat} (i j : Nat) (x : Bool) (h : b ≠ a) : (m.setFlag a i x).flag b j = m.flag b j := by simp [flag, setFlag, setF, rd_wr_other _ _ h]
theorem regs_wf {m : Mod} (h : Sparse.wf regReset m.regs = true) (a : Nat) (v : W64) : Sparse.wf regReset (m.wr a v).regs = true := Sparse.wf_put h a v

theorem tile_setTile (t t' : Nat) (x : Tile) : (m.setTile t x).tile t' = if t' = t then x else m.tile t' := Sparse.get_put _ _ _ _
@[simp] theorem tile_setTile_same (t : Nat) (x : Tile) : (m.setTile t x).tile t = x := by simp [tile_setTile]
theorem buoy_setBuoy (b b' : Nat) (x : Buoy) : (m.setBuoy b x).buoy b' = if b' = b then x else m.buoy b' := Sparse.get_put _ _ _ _
@[simp] theorem buoy_setBuoy_same (b : Nat) (x : Buoy) : (m.setBuoy b x).buoy b = x := by simp [buoy_setBuoy]
theorem ringOf_setRing (r r' : Nat) (x : Ring) : (m.setRing r x).ringOf r' = if r' = r then x else m.ringOf r' := Sparse.get_put _ _ _ _
@[simp] theorem ringOf_setRing_same (r : Nat) (x : Ring) : (m.setRing r x).ringOf r = x := by simp [ringOf_setRing]
theorem stack_setStack (k k' : Nat) (x : Stack) : (m.setStack k x).stack k' = if k' = k then x else m.stack k' := Sparse.get_put _ _ _ _
@[simp] theorem stack_setStack_same (k : Nat) (x : Stack) : (m.setStack k x).stack k = x := by simp [stack_setStack]
theorem part_setPart (s s' : Nat) (x : Part) : (m.setPart s x).part s' = if s' = s then x else m.part s' := Sparse.get_put _ _ _ _
@[simp] theorem part_setPart_same (s : Nat) (x : Part) : (m.setPart s x).part s = x := by simp [part_setPart]
theorem port_setPort (j j' : Nat) (x : Port) : (m.setPort j x).port j' = if j' = j then x else m.port j' := Sparse.get_put _ _ _ _
@[simp] theorem port_setPort_same (j : Nat) (x : Port) : (m.setPort j x).port j = x := by simp [port_setPort]
theorem feed_setFeed (e e' : Nat) (x : Feed) : (m.setFeed e x).feed e' = if e' = e then x else m.feed e' := Sparse.get_put _ _ _ _
@[simp] theorem feed_setFeed_same (e : Nat) (x : Feed) : (m.setFeed e x).feed e = x := by simp [feed_setFeed]
theorem half_setHalf (i i' : Nat) (x : Half) : (m.setHalf i x).half i' = if i' = i then x else m.half i' := Sparse.get_put _ _ _ _
@[simp] theorem half_setHalf_same (i : Nat) (x : Half) : (m.setHalf i x).half i = x := by simp [half_setHalf]
theorem kdie_setKdie (d d' : Nat) (x : KDie) : (m.setKdie d x).kdie d' = if d' = d then x else m.kdie d' := Sparse.get_put _ _ _ _
@[simp] theorem kdie_setKdie_same (d : Nat) (x : KDie) : (m.setKdie d x).kdie d = x := by simp [kdie_setKdie]
theorem kslot_setKslot (s s' : Nat) (x : KSlot) : (m.setKslot s x).kslot s' = if s' = s then x else m.kslot s' := Sparse.get_put _ _ _ _
@[simp] theorem kslot_setKslot_same (s : Nat) (x : KSlot) : (m.setKslot s x).kslot s = x := by simp [kslot_setKslot]
theorem first_setFirst (k k' : Nat) (x : ErrRec) : (m.setFirst k x).first k' = if k' = k then x else m.first k' := Sparse.get_put _ _ _ _
@[simp] theorem first_setFirst_same (k : Nat) (x : ErrRec) : (m.setFirst k x).first k = x := by simp [first_setFirst]
@[simp] theorem thread_setThread_same (t th : Nat) (x : Thread) : (m.setThread t th x).thread t th = x := by simp [thread, setThread, modTile]
theorem thread_setThread (t th t' th' : Nat) (x : Thread) : (m.setThread t th x).thread t' th' = if t' = t ∧ th' = th then x else m.thread t' th' := by
  unfold thread setThread modTile
  rw [tile_setTile]
  by_cases h : t' = t
  · subst h; by_cases h2 : th' = th <;> simp [h2, Sparse.get_put]
  · simp [h]

/-! ## What each update leaves -/

@[simp] theorem staged_wr (a : Nat) (v : W64) : (m.wr a v).staged = m.staged := rfl
@[simp] theorem mem_wr (a : Nat) (v : W64) : (m.wr a v).mem = m.mem := rfl
@[simp] theorem tiles_wr (a : Nat) (v : W64) : (m.wr a v).tiles = m.tiles := rfl
@[simp] theorem buoys_wr (a : Nat) (v : W64) : (m.wr a v).buoys = m.buoys := rfl
@[simp] theorem rings_wr (a : Nat) (v : W64) : (m.wr a v).rings = m.rings := rfl
@[simp] theorem hbmStacks_wr (a : Nat) (v : W64) : (m.wr a v).hbmStacks = m.hbmStacks := rfl
@[simp] theorem parts_wr (a : Nat) (v : W64) : (m.wr a v).parts = m.parts := rfl
@[simp] theorem ports_wr (a : Nat) (v : W64) : (m.wr a v).ports = m.ports := rfl
@[simp] theorem flows_wr (a : Nat) (v : W64) : (m.wr a v).flows = m.flows := rfl
@[simp] theorem feeds_wr (a : Nat) (v : W64) : (m.wr a v).feeds = m.feeds := rfl
@[simp] theorem halves_wr (a : Nat) (v : W64) : (m.wr a v).halves = m.halves := rfl
@[simp] theorem kdies_wr (a : Nat) (v : W64) : (m.wr a v).kdies = m.kdies := rfl
@[simp] theorem kslots_wr (a : Nat) (v : W64) : (m.wr a v).kslots = m.kslots := rfl
@[simp] theorem keys_wr (a : Nat) (v : W64) : (m.wr a v).keys = m.keys := rfl
@[simp] theorem firsts_wr (a : Nat) (v : W64) : (m.wr a v).firsts = m.firsts := rfl
@[simp] theorem ring_wr (a : Nat) (v : W64) : (m.wr a v).ring = m.ring := rfl
@[simp] theorem cmds_wr (a : Nat) (v : W64) : (m.wr a v).cmds = m.cmds := rfl
@[simp] theorem contexts_wr (a : Nat) (v : W64) : (m.wr a v).contexts = m.contexts := rfl
@[simp] theorem dialogues_wr (a : Nat) (v : W64) : (m.wr a v).dialogues = m.dialogues := rfl
@[simp] theorem board_wr (a : Nat) (v : W64) : (m.wr a v).board = m.board := rfl
@[simp] theorem count_wr (a : Nat) (v : W64) : (m.wr a v).count = m.count := rfl
@[simp] theorem running_wr (a : Nat) (v : W64) : (m.wr a v).running = m.running := rfl
@[simp] theorem reply_wr (a : Nat) (v : W64) : (m.wr a v).reply = m.reply := rfl
@[simp] theorem outbox_wr (a : Nat) (v : W64) : (m.wr a v).outbox = m.outbox := rfl
@[simp] theorem free_wr (a : Nat) (v : W64) : (m.wr a v).free = m.free := rfl
@[simp] theorem draws_wr (a : Nat) (v : W64) : (m.wr a v).draws = m.draws := rfl
@[simp] theorem disabled_wr (a : Nat) (v : W64) : (m.wr a v).disabled = m.disabled := rfl
@[simp] theorem staged_setF (a lo len v : Nat) : (m.setF a lo len v).staged = m.staged := rfl
@[simp] theorem mem_setF (a lo len v : Nat) : (m.setF a lo len v).mem = m.mem := rfl
@[simp] theorem tiles_setF (a lo len v : Nat) : (m.setF a lo len v).tiles = m.tiles := rfl
@[simp] theorem buoys_setF (a lo len v : Nat) : (m.setF a lo len v).buoys = m.buoys := rfl
@[simp] theorem rings_setF (a lo len v : Nat) : (m.setF a lo len v).rings = m.rings := rfl
@[simp] theorem hbmStacks_setF (a lo len v : Nat) : (m.setF a lo len v).hbmStacks = m.hbmStacks := rfl
@[simp] theorem parts_setF (a lo len v : Nat) : (m.setF a lo len v).parts = m.parts := rfl
@[simp] theorem ports_setF (a lo len v : Nat) : (m.setF a lo len v).ports = m.ports := rfl
@[simp] theorem flows_setF (a lo len v : Nat) : (m.setF a lo len v).flows = m.flows := rfl
@[simp] theorem feeds_setF (a lo len v : Nat) : (m.setF a lo len v).feeds = m.feeds := rfl
@[simp] theorem halves_setF (a lo len v : Nat) : (m.setF a lo len v).halves = m.halves := rfl
@[simp] theorem kdies_setF (a lo len v : Nat) : (m.setF a lo len v).kdies = m.kdies := rfl
@[simp] theorem kslots_setF (a lo len v : Nat) : (m.setF a lo len v).kslots = m.kslots := rfl
@[simp] theorem keys_setF (a lo len v : Nat) : (m.setF a lo len v).keys = m.keys := rfl
@[simp] theorem firsts_setF (a lo len v : Nat) : (m.setF a lo len v).firsts = m.firsts := rfl
@[simp] theorem ring_setF (a lo len v : Nat) : (m.setF a lo len v).ring = m.ring := rfl
@[simp] theorem cmds_setF (a lo len v : Nat) : (m.setF a lo len v).cmds = m.cmds := rfl
@[simp] theorem contexts_setF (a lo len v : Nat) : (m.setF a lo len v).contexts = m.contexts := rfl
@[simp] theorem dialogues_setF (a lo len v : Nat) : (m.setF a lo len v).dialogues = m.dialogues := rfl
@[simp] theorem board_setF (a lo len v : Nat) : (m.setF a lo len v).board = m.board := rfl
@[simp] theorem count_setF (a lo len v : Nat) : (m.setF a lo len v).count = m.count := rfl
@[simp] theorem running_setF (a lo len v : Nat) : (m.setF a lo len v).running = m.running := rfl
@[simp] theorem reply_setF (a lo len v : Nat) : (m.setF a lo len v).reply = m.reply := rfl
@[simp] theorem outbox_setF (a lo len v : Nat) : (m.setF a lo len v).outbox = m.outbox := rfl
@[simp] theorem free_setF (a lo len v : Nat) : (m.setF a lo len v).free = m.free := rfl
@[simp] theorem draws_setF (a lo len v : Nat) : (m.setF a lo len v).draws = m.draws := rfl
@[simp] theorem disabled_setF (a lo len v : Nat) : (m.setF a lo len v).disabled = m.disabled := rfl
@[simp] theorem staged_setFlag (a i : Nat) (b : Bool) : (m.setFlag a i b).staged = m.staged := rfl
@[simp] theorem mem_setFlag (a i : Nat) (b : Bool) : (m.setFlag a i b).mem = m.mem := rfl
@[simp] theorem tiles_setFlag (a i : Nat) (b : Bool) : (m.setFlag a i b).tiles = m.tiles := rfl
@[simp] theorem buoys_setFlag (a i : Nat) (b : Bool) : (m.setFlag a i b).buoys = m.buoys := rfl
@[simp] theorem rings_setFlag (a i : Nat) (b : Bool) : (m.setFlag a i b).rings = m.rings := rfl
@[simp] theorem hbmStacks_setFlag (a i : Nat) (b : Bool) : (m.setFlag a i b).hbmStacks = m.hbmStacks := rfl
@[simp] theorem parts_setFlag (a i : Nat) (b : Bool) : (m.setFlag a i b).parts = m.parts := rfl
@[simp] theorem ports_setFlag (a i : Nat) (b : Bool) : (m.setFlag a i b).ports = m.ports := rfl
@[simp] theorem flows_setFlag (a i : Nat) (b : Bool) : (m.setFlag a i b).flows = m.flows := rfl
@[simp] theorem feeds_setFlag (a i : Nat) (b : Bool) : (m.setFlag a i b).feeds = m.feeds := rfl
@[simp] theorem halves_setFlag (a i : Nat) (b : Bool) : (m.setFlag a i b).halves = m.halves := rfl
@[simp] theorem kdies_setFlag (a i : Nat) (b : Bool) : (m.setFlag a i b).kdies = m.kdies := rfl
@[simp] theorem kslots_setFlag (a i : Nat) (b : Bool) : (m.setFlag a i b).kslots = m.kslots := rfl
@[simp] theorem keys_setFlag (a i : Nat) (b : Bool) : (m.setFlag a i b).keys = m.keys := rfl
@[simp] theorem firsts_setFlag (a i : Nat) (b : Bool) : (m.setFlag a i b).firsts = m.firsts := rfl
@[simp] theorem ring_setFlag (a i : Nat) (b : Bool) : (m.setFlag a i b).ring = m.ring := rfl
@[simp] theorem cmds_setFlag (a i : Nat) (b : Bool) : (m.setFlag a i b).cmds = m.cmds := rfl
@[simp] theorem contexts_setFlag (a i : Nat) (b : Bool) : (m.setFlag a i b).contexts = m.contexts := rfl
@[simp] theorem dialogues_setFlag (a i : Nat) (b : Bool) : (m.setFlag a i b).dialogues = m.dialogues := rfl
@[simp] theorem board_setFlag (a i : Nat) (b : Bool) : (m.setFlag a i b).board = m.board := rfl
@[simp] theorem count_setFlag (a i : Nat) (b : Bool) : (m.setFlag a i b).count = m.count := rfl
@[simp] theorem running_setFlag (a i : Nat) (b : Bool) : (m.setFlag a i b).running = m.running := rfl
@[simp] theorem reply_setFlag (a i : Nat) (b : Bool) : (m.setFlag a i b).reply = m.reply := rfl
@[simp] theorem outbox_setFlag (a i : Nat) (b : Bool) : (m.setFlag a i b).outbox = m.outbox := rfl
@[simp] theorem free_setFlag (a i : Nat) (b : Bool) : (m.setFlag a i b).free = m.free := rfl
@[simp] theorem draws_setFlag (a i : Nat) (b : Bool) : (m.setFlag a i b).draws = m.draws := rfl
@[simp] theorem disabled_setFlag (a i : Nat) (b : Bool) : (m.setFlag a i b).disabled = m.disabled := rfl
@[simp] theorem staged_addCnt (a n : Nat) : (m.addCnt a n).staged = m.staged := rfl
@[simp] theorem mem_addCnt (a n : Nat) : (m.addCnt a n).mem = m.mem := rfl
@[simp] theorem tiles_addCnt (a n : Nat) : (m.addCnt a n).tiles = m.tiles := rfl
@[simp] theorem buoys_addCnt (a n : Nat) : (m.addCnt a n).buoys = m.buoys := rfl
@[simp] theorem rings_addCnt (a n : Nat) : (m.addCnt a n).rings = m.rings := rfl
@[simp] theorem hbmStacks_addCnt (a n : Nat) : (m.addCnt a n).hbmStacks = m.hbmStacks := rfl
@[simp] theorem parts_addCnt (a n : Nat) : (m.addCnt a n).parts = m.parts := rfl
@[simp] theorem ports_addCnt (a n : Nat) : (m.addCnt a n).ports = m.ports := rfl
@[simp] theorem flows_addCnt (a n : Nat) : (m.addCnt a n).flows = m.flows := rfl
@[simp] theorem feeds_addCnt (a n : Nat) : (m.addCnt a n).feeds = m.feeds := rfl
@[simp] theorem halves_addCnt (a n : Nat) : (m.addCnt a n).halves = m.halves := rfl
@[simp] theorem kdies_addCnt (a n : Nat) : (m.addCnt a n).kdies = m.kdies := rfl
@[simp] theorem kslots_addCnt (a n : Nat) : (m.addCnt a n).kslots = m.kslots := rfl
@[simp] theorem keys_addCnt (a n : Nat) : (m.addCnt a n).keys = m.keys := rfl
@[simp] theorem firsts_addCnt (a n : Nat) : (m.addCnt a n).firsts = m.firsts := rfl
@[simp] theorem ring_addCnt (a n : Nat) : (m.addCnt a n).ring = m.ring := rfl
@[simp] theorem cmds_addCnt (a n : Nat) : (m.addCnt a n).cmds = m.cmds := rfl
@[simp] theorem contexts_addCnt (a n : Nat) : (m.addCnt a n).contexts = m.contexts := rfl
@[simp] theorem dialogues_addCnt (a n : Nat) : (m.addCnt a n).dialogues = m.dialogues := rfl
@[simp] theorem board_addCnt (a n : Nat) : (m.addCnt a n).board = m.board := rfl
@[simp] theorem count_addCnt (a n : Nat) : (m.addCnt a n).count = m.count := rfl
@[simp] theorem running_addCnt (a n : Nat) : (m.addCnt a n).running = m.running := rfl
@[simp] theorem reply_addCnt (a n : Nat) : (m.addCnt a n).reply = m.reply := rfl
@[simp] theorem outbox_addCnt (a n : Nat) : (m.addCnt a n).outbox = m.outbox := rfl
@[simp] theorem free_addCnt (a n : Nat) : (m.addCnt a n).free = m.free := rfl
@[simp] theorem draws_addCnt (a n : Nat) : (m.addCnt a n).draws = m.draws := rfl
@[simp] theorem disabled_addCnt (a n : Nat) : (m.addCnt a n).disabled = m.disabled := rfl
@[simp] theorem regs_stage (a : Nat) (v : W64) : (m.stage a v).regs = m.regs := rfl
@[simp] theorem mem_stage (a : Nat) (v : W64) : (m.stage a v).mem = m.mem := rfl
@[simp] theorem tiles_stage (a : Nat) (v : W64) : (m.stage a v).tiles = m.tiles := rfl
@[simp] theorem buoys_stage (a : Nat) (v : W64) : (m.stage a v).buoys = m.buoys := rfl
@[simp] theorem rings_stage (a : Nat) (v : W64) : (m.stage a v).rings = m.rings := rfl
@[simp] theorem hbmStacks_stage (a : Nat) (v : W64) : (m.stage a v).hbmStacks = m.hbmStacks := rfl
@[simp] theorem parts_stage (a : Nat) (v : W64) : (m.stage a v).parts = m.parts := rfl
@[simp] theorem ports_stage (a : Nat) (v : W64) : (m.stage a v).ports = m.ports := rfl
@[simp] theorem flows_stage (a : Nat) (v : W64) : (m.stage a v).flows = m.flows := rfl
@[simp] theorem feeds_stage (a : Nat) (v : W64) : (m.stage a v).feeds = m.feeds := rfl
@[simp] theorem halves_stage (a : Nat) (v : W64) : (m.stage a v).halves = m.halves := rfl
@[simp] theorem kdies_stage (a : Nat) (v : W64) : (m.stage a v).kdies = m.kdies := rfl
@[simp] theorem kslots_stage (a : Nat) (v : W64) : (m.stage a v).kslots = m.kslots := rfl
@[simp] theorem keys_stage (a : Nat) (v : W64) : (m.stage a v).keys = m.keys := rfl
@[simp] theorem firsts_stage (a : Nat) (v : W64) : (m.stage a v).firsts = m.firsts := rfl
@[simp] theorem ring_stage (a : Nat) (v : W64) : (m.stage a v).ring = m.ring := rfl
@[simp] theorem cmds_stage (a : Nat) (v : W64) : (m.stage a v).cmds = m.cmds := rfl
@[simp] theorem contexts_stage (a : Nat) (v : W64) : (m.stage a v).contexts = m.contexts := rfl
@[simp] theorem dialogues_stage (a : Nat) (v : W64) : (m.stage a v).dialogues = m.dialogues := rfl
@[simp] theorem board_stage (a : Nat) (v : W64) : (m.stage a v).board = m.board := rfl
@[simp] theorem count_stage (a : Nat) (v : W64) : (m.stage a v).count = m.count := rfl
@[simp] theorem running_stage (a : Nat) (v : W64) : (m.stage a v).running = m.running := rfl
@[simp] theorem reply_stage (a : Nat) (v : W64) : (m.stage a v).reply = m.reply := rfl
@[simp] theorem outbox_stage (a : Nat) (v : W64) : (m.stage a v).outbox = m.outbox := rfl
@[simp] theorem free_stage (a : Nat) (v : W64) : (m.stage a v).free = m.free := rfl
@[simp] theorem draws_stage (a : Nat) (v : W64) : (m.stage a v).draws = m.draws := rfl
@[simp] theorem disabled_stage (a : Nat) (v : W64) : (m.stage a v).disabled = m.disabled := rfl
@[simp] theorem regs_unstage (a : Nat) : (m.unstage a).regs = m.regs := rfl
@[simp] theorem mem_unstage (a : Nat) : (m.unstage a).mem = m.mem := rfl
@[simp] theorem tiles_unstage (a : Nat) : (m.unstage a).tiles = m.tiles := rfl
@[simp] theorem buoys_unstage (a : Nat) : (m.unstage a).buoys = m.buoys := rfl
@[simp] theorem rings_unstage (a : Nat) : (m.unstage a).rings = m.rings := rfl
@[simp] theorem hbmStacks_unstage (a : Nat) : (m.unstage a).hbmStacks = m.hbmStacks := rfl
@[simp] theorem parts_unstage (a : Nat) : (m.unstage a).parts = m.parts := rfl
@[simp] theorem ports_unstage (a : Nat) : (m.unstage a).ports = m.ports := rfl
@[simp] theorem flows_unstage (a : Nat) : (m.unstage a).flows = m.flows := rfl
@[simp] theorem feeds_unstage (a : Nat) : (m.unstage a).feeds = m.feeds := rfl
@[simp] theorem halves_unstage (a : Nat) : (m.unstage a).halves = m.halves := rfl
@[simp] theorem kdies_unstage (a : Nat) : (m.unstage a).kdies = m.kdies := rfl
@[simp] theorem kslots_unstage (a : Nat) : (m.unstage a).kslots = m.kslots := rfl
@[simp] theorem keys_unstage (a : Nat) : (m.unstage a).keys = m.keys := rfl
@[simp] theorem firsts_unstage (a : Nat) : (m.unstage a).firsts = m.firsts := rfl
@[simp] theorem ring_unstage (a : Nat) : (m.unstage a).ring = m.ring := rfl
@[simp] theorem cmds_unstage (a : Nat) : (m.unstage a).cmds = m.cmds := rfl
@[simp] theorem contexts_unstage (a : Nat) : (m.unstage a).contexts = m.contexts := rfl
@[simp] theorem dialogues_unstage (a : Nat) : (m.unstage a).dialogues = m.dialogues := rfl
@[simp] theorem board_unstage (a : Nat) : (m.unstage a).board = m.board := rfl
@[simp] theorem count_unstage (a : Nat) : (m.unstage a).count = m.count := rfl
@[simp] theorem running_unstage (a : Nat) : (m.unstage a).running = m.running := rfl
@[simp] theorem reply_unstage (a : Nat) : (m.unstage a).reply = m.reply := rfl
@[simp] theorem outbox_unstage (a : Nat) : (m.unstage a).outbox = m.outbox := rfl
@[simp] theorem free_unstage (a : Nat) : (m.unstage a).free = m.free := rfl
@[simp] theorem draws_unstage (a : Nat) : (m.unstage a).draws = m.draws := rfl
@[simp] theorem disabled_unstage (a : Nat) : (m.unstage a).disabled = m.disabled := rfl
@[simp] theorem regs_st (a : Nat) (b : List Byte) : (m.st a b).regs = m.regs := rfl
@[simp] theorem staged_st (a : Nat) (b : List Byte) : (m.st a b).staged = m.staged := rfl
@[simp] theorem tiles_st (a : Nat) (b : List Byte) : (m.st a b).tiles = m.tiles := rfl
@[simp] theorem buoys_st (a : Nat) (b : List Byte) : (m.st a b).buoys = m.buoys := rfl
@[simp] theorem rings_st (a : Nat) (b : List Byte) : (m.st a b).rings = m.rings := rfl
@[simp] theorem hbmStacks_st (a : Nat) (b : List Byte) : (m.st a b).hbmStacks = m.hbmStacks := rfl
@[simp] theorem parts_st (a : Nat) (b : List Byte) : (m.st a b).parts = m.parts := rfl
@[simp] theorem ports_st (a : Nat) (b : List Byte) : (m.st a b).ports = m.ports := rfl
@[simp] theorem flows_st (a : Nat) (b : List Byte) : (m.st a b).flows = m.flows := rfl
@[simp] theorem feeds_st (a : Nat) (b : List Byte) : (m.st a b).feeds = m.feeds := rfl
@[simp] theorem halves_st (a : Nat) (b : List Byte) : (m.st a b).halves = m.halves := rfl
@[simp] theorem kdies_st (a : Nat) (b : List Byte) : (m.st a b).kdies = m.kdies := rfl
@[simp] theorem kslots_st (a : Nat) (b : List Byte) : (m.st a b).kslots = m.kslots := rfl
@[simp] theorem keys_st (a : Nat) (b : List Byte) : (m.st a b).keys = m.keys := rfl
@[simp] theorem firsts_st (a : Nat) (b : List Byte) : (m.st a b).firsts = m.firsts := rfl
@[simp] theorem ring_st (a : Nat) (b : List Byte) : (m.st a b).ring = m.ring := rfl
@[simp] theorem cmds_st (a : Nat) (b : List Byte) : (m.st a b).cmds = m.cmds := rfl
@[simp] theorem contexts_st (a : Nat) (b : List Byte) : (m.st a b).contexts = m.contexts := rfl
@[simp] theorem dialogues_st (a : Nat) (b : List Byte) : (m.st a b).dialogues = m.dialogues := rfl
@[simp] theorem board_st (a : Nat) (b : List Byte) : (m.st a b).board = m.board := rfl
@[simp] theorem count_st (a : Nat) (b : List Byte) : (m.st a b).count = m.count := rfl
@[simp] theorem running_st (a : Nat) (b : List Byte) : (m.st a b).running = m.running := rfl
@[simp] theorem reply_st (a : Nat) (b : List Byte) : (m.st a b).reply = m.reply := rfl
@[simp] theorem outbox_st (a : Nat) (b : List Byte) : (m.st a b).outbox = m.outbox := rfl
@[simp] theorem free_st (a : Nat) (b : List Byte) : (m.st a b).free = m.free := rfl
@[simp] theorem draws_st (a : Nat) (b : List Byte) : (m.st a b).draws = m.draws := rfl
@[simp] theorem disabled_st (a : Nat) (b : List Byte) : (m.st a b).disabled = m.disabled := rfl
@[simp] theorem regs_stNat (a n v : Nat) : (m.stNat a n v).regs = m.regs := rfl
@[simp] theorem staged_stNat (a n v : Nat) : (m.stNat a n v).staged = m.staged := rfl
@[simp] theorem tiles_stNat (a n v : Nat) : (m.stNat a n v).tiles = m.tiles := rfl
@[simp] theorem buoys_stNat (a n v : Nat) : (m.stNat a n v).buoys = m.buoys := rfl
@[simp] theorem rings_stNat (a n v : Nat) : (m.stNat a n v).rings = m.rings := rfl
@[simp] theorem hbmStacks_stNat (a n v : Nat) : (m.stNat a n v).hbmStacks = m.hbmStacks := rfl
@[simp] theorem parts_stNat (a n v : Nat) : (m.stNat a n v).parts = m.parts := rfl
@[simp] theorem ports_stNat (a n v : Nat) : (m.stNat a n v).ports = m.ports := rfl
@[simp] theorem flows_stNat (a n v : Nat) : (m.stNat a n v).flows = m.flows := rfl
@[simp] theorem feeds_stNat (a n v : Nat) : (m.stNat a n v).feeds = m.feeds := rfl
@[simp] theorem halves_stNat (a n v : Nat) : (m.stNat a n v).halves = m.halves := rfl
@[simp] theorem kdies_stNat (a n v : Nat) : (m.stNat a n v).kdies = m.kdies := rfl
@[simp] theorem kslots_stNat (a n v : Nat) : (m.stNat a n v).kslots = m.kslots := rfl
@[simp] theorem keys_stNat (a n v : Nat) : (m.stNat a n v).keys = m.keys := rfl
@[simp] theorem firsts_stNat (a n v : Nat) : (m.stNat a n v).firsts = m.firsts := rfl
@[simp] theorem ring_stNat (a n v : Nat) : (m.stNat a n v).ring = m.ring := rfl
@[simp] theorem cmds_stNat (a n v : Nat) : (m.stNat a n v).cmds = m.cmds := rfl
@[simp] theorem contexts_stNat (a n v : Nat) : (m.stNat a n v).contexts = m.contexts := rfl
@[simp] theorem dialogues_stNat (a n v : Nat) : (m.stNat a n v).dialogues = m.dialogues := rfl
@[simp] theorem board_stNat (a n v : Nat) : (m.stNat a n v).board = m.board := rfl
@[simp] theorem count_stNat (a n v : Nat) : (m.stNat a n v).count = m.count := rfl
@[simp] theorem running_stNat (a n v : Nat) : (m.stNat a n v).running = m.running := rfl
@[simp] theorem reply_stNat (a n v : Nat) : (m.stNat a n v).reply = m.reply := rfl
@[simp] theorem outbox_stNat (a n v : Nat) : (m.stNat a n v).outbox = m.outbox := rfl
@[simp] theorem free_stNat (a n v : Nat) : (m.stNat a n v).free = m.free := rfl
@[simp] theorem draws_stNat (a n v : Nat) : (m.stNat a n v).draws = m.draws := rfl
@[simp] theorem disabled_stNat (a n v : Nat) : (m.stNat a n v).disabled = m.disabled := rfl
@[simp] theorem regs_clearMem (lo hi : Nat) : (m.clearMem lo hi).regs = m.regs := rfl
@[simp] theorem staged_clearMem (lo hi : Nat) : (m.clearMem lo hi).staged = m.staged := rfl
@[simp] theorem tiles_clearMem (lo hi : Nat) : (m.clearMem lo hi).tiles = m.tiles := rfl
@[simp] theorem buoys_clearMem (lo hi : Nat) : (m.clearMem lo hi).buoys = m.buoys := rfl
@[simp] theorem rings_clearMem (lo hi : Nat) : (m.clearMem lo hi).rings = m.rings := rfl
@[simp] theorem hbmStacks_clearMem (lo hi : Nat) : (m.clearMem lo hi).hbmStacks = m.hbmStacks := rfl
@[simp] theorem parts_clearMem (lo hi : Nat) : (m.clearMem lo hi).parts = m.parts := rfl
@[simp] theorem ports_clearMem (lo hi : Nat) : (m.clearMem lo hi).ports = m.ports := rfl
@[simp] theorem flows_clearMem (lo hi : Nat) : (m.clearMem lo hi).flows = m.flows := rfl
@[simp] theorem feeds_clearMem (lo hi : Nat) : (m.clearMem lo hi).feeds = m.feeds := rfl
@[simp] theorem halves_clearMem (lo hi : Nat) : (m.clearMem lo hi).halves = m.halves := rfl
@[simp] theorem kdies_clearMem (lo hi : Nat) : (m.clearMem lo hi).kdies = m.kdies := rfl
@[simp] theorem kslots_clearMem (lo hi : Nat) : (m.clearMem lo hi).kslots = m.kslots := rfl
@[simp] theorem keys_clearMem (lo hi : Nat) : (m.clearMem lo hi).keys = m.keys := rfl
@[simp] theorem firsts_clearMem (lo hi : Nat) : (m.clearMem lo hi).firsts = m.firsts := rfl
@[simp] theorem ring_clearMem (lo hi : Nat) : (m.clearMem lo hi).ring = m.ring := rfl
@[simp] theorem cmds_clearMem (lo hi : Nat) : (m.clearMem lo hi).cmds = m.cmds := rfl
@[simp] theorem contexts_clearMem (lo hi : Nat) : (m.clearMem lo hi).contexts = m.contexts := rfl
@[simp] theorem dialogues_clearMem (lo hi : Nat) : (m.clearMem lo hi).dialogues = m.dialogues := rfl
@[simp] theorem board_clearMem (lo hi : Nat) : (m.clearMem lo hi).board = m.board := rfl
@[simp] theorem count_clearMem (lo hi : Nat) : (m.clearMem lo hi).count = m.count := rfl
@[simp] theorem running_clearMem (lo hi : Nat) : (m.clearMem lo hi).running = m.running := rfl
@[simp] theorem reply_clearMem (lo hi : Nat) : (m.clearMem lo hi).reply = m.reply := rfl
@[simp] theorem outbox_clearMem (lo hi : Nat) : (m.clearMem lo hi).outbox = m.outbox := rfl
@[simp] theorem free_clearMem (lo hi : Nat) : (m.clearMem lo hi).free = m.free := rfl
@[simp] theorem draws_clearMem (lo hi : Nat) : (m.clearMem lo hi).draws = m.draws := rfl
@[simp] theorem disabled_clearMem (lo hi : Nat) : (m.clearMem lo hi).disabled = m.disabled := rfl
@[simp] theorem regs_setTile (t : Nat) (x : Tile) : (m.setTile t x).regs = m.regs := rfl
@[simp] theorem staged_setTile (t : Nat) (x : Tile) : (m.setTile t x).staged = m.staged := rfl
@[simp] theorem mem_setTile (t : Nat) (x : Tile) : (m.setTile t x).mem = m.mem := rfl
@[simp] theorem buoys_setTile (t : Nat) (x : Tile) : (m.setTile t x).buoys = m.buoys := rfl
@[simp] theorem rings_setTile (t : Nat) (x : Tile) : (m.setTile t x).rings = m.rings := rfl
@[simp] theorem hbmStacks_setTile (t : Nat) (x : Tile) : (m.setTile t x).hbmStacks = m.hbmStacks := rfl
@[simp] theorem parts_setTile (t : Nat) (x : Tile) : (m.setTile t x).parts = m.parts := rfl
@[simp] theorem ports_setTile (t : Nat) (x : Tile) : (m.setTile t x).ports = m.ports := rfl
@[simp] theorem flows_setTile (t : Nat) (x : Tile) : (m.setTile t x).flows = m.flows := rfl
@[simp] theorem feeds_setTile (t : Nat) (x : Tile) : (m.setTile t x).feeds = m.feeds := rfl
@[simp] theorem halves_setTile (t : Nat) (x : Tile) : (m.setTile t x).halves = m.halves := rfl
@[simp] theorem kdies_setTile (t : Nat) (x : Tile) : (m.setTile t x).kdies = m.kdies := rfl
@[simp] theorem kslots_setTile (t : Nat) (x : Tile) : (m.setTile t x).kslots = m.kslots := rfl
@[simp] theorem keys_setTile (t : Nat) (x : Tile) : (m.setTile t x).keys = m.keys := rfl
@[simp] theorem firsts_setTile (t : Nat) (x : Tile) : (m.setTile t x).firsts = m.firsts := rfl
@[simp] theorem ring_setTile (t : Nat) (x : Tile) : (m.setTile t x).ring = m.ring := rfl
@[simp] theorem cmds_setTile (t : Nat) (x : Tile) : (m.setTile t x).cmds = m.cmds := rfl
@[simp] theorem contexts_setTile (t : Nat) (x : Tile) : (m.setTile t x).contexts = m.contexts := rfl
@[simp] theorem dialogues_setTile (t : Nat) (x : Tile) : (m.setTile t x).dialogues = m.dialogues := rfl
@[simp] theorem board_setTile (t : Nat) (x : Tile) : (m.setTile t x).board = m.board := rfl
@[simp] theorem count_setTile (t : Nat) (x : Tile) : (m.setTile t x).count = m.count := rfl
@[simp] theorem running_setTile (t : Nat) (x : Tile) : (m.setTile t x).running = m.running := rfl
@[simp] theorem reply_setTile (t : Nat) (x : Tile) : (m.setTile t x).reply = m.reply := rfl
@[simp] theorem outbox_setTile (t : Nat) (x : Tile) : (m.setTile t x).outbox = m.outbox := rfl
@[simp] theorem free_setTile (t : Nat) (x : Tile) : (m.setTile t x).free = m.free := rfl
@[simp] theorem draws_setTile (t : Nat) (x : Tile) : (m.setTile t x).draws = m.draws := rfl
@[simp] theorem disabled_setTile (t : Nat) (x : Tile) : (m.setTile t x).disabled = m.disabled := rfl
@[simp] theorem regs_setThread (t th : Nat) (x : Thread) : (m.setThread t th x).regs = m.regs := rfl
@[simp] theorem staged_setThread (t th : Nat) (x : Thread) : (m.setThread t th x).staged = m.staged := rfl
@[simp] theorem mem_setThread (t th : Nat) (x : Thread) : (m.setThread t th x).mem = m.mem := rfl
@[simp] theorem buoys_setThread (t th : Nat) (x : Thread) : (m.setThread t th x).buoys = m.buoys := rfl
@[simp] theorem rings_setThread (t th : Nat) (x : Thread) : (m.setThread t th x).rings = m.rings := rfl
@[simp] theorem hbmStacks_setThread (t th : Nat) (x : Thread) : (m.setThread t th x).hbmStacks = m.hbmStacks := rfl
@[simp] theorem parts_setThread (t th : Nat) (x : Thread) : (m.setThread t th x).parts = m.parts := rfl
@[simp] theorem ports_setThread (t th : Nat) (x : Thread) : (m.setThread t th x).ports = m.ports := rfl
@[simp] theorem flows_setThread (t th : Nat) (x : Thread) : (m.setThread t th x).flows = m.flows := rfl
@[simp] theorem feeds_setThread (t th : Nat) (x : Thread) : (m.setThread t th x).feeds = m.feeds := rfl
@[simp] theorem halves_setThread (t th : Nat) (x : Thread) : (m.setThread t th x).halves = m.halves := rfl
@[simp] theorem kdies_setThread (t th : Nat) (x : Thread) : (m.setThread t th x).kdies = m.kdies := rfl
@[simp] theorem kslots_setThread (t th : Nat) (x : Thread) : (m.setThread t th x).kslots = m.kslots := rfl
@[simp] theorem keys_setThread (t th : Nat) (x : Thread) : (m.setThread t th x).keys = m.keys := rfl
@[simp] theorem firsts_setThread (t th : Nat) (x : Thread) : (m.setThread t th x).firsts = m.firsts := rfl
@[simp] theorem ring_setThread (t th : Nat) (x : Thread) : (m.setThread t th x).ring = m.ring := rfl
@[simp] theorem cmds_setThread (t th : Nat) (x : Thread) : (m.setThread t th x).cmds = m.cmds := rfl
@[simp] theorem contexts_setThread (t th : Nat) (x : Thread) : (m.setThread t th x).contexts = m.contexts := rfl
@[simp] theorem dialogues_setThread (t th : Nat) (x : Thread) : (m.setThread t th x).dialogues = m.dialogues := rfl
@[simp] theorem board_setThread (t th : Nat) (x : Thread) : (m.setThread t th x).board = m.board := rfl
@[simp] theorem count_setThread (t th : Nat) (x : Thread) : (m.setThread t th x).count = m.count := rfl
@[simp] theorem running_setThread (t th : Nat) (x : Thread) : (m.setThread t th x).running = m.running := rfl
@[simp] theorem reply_setThread (t th : Nat) (x : Thread) : (m.setThread t th x).reply = m.reply := rfl
@[simp] theorem outbox_setThread (t th : Nat) (x : Thread) : (m.setThread t th x).outbox = m.outbox := rfl
@[simp] theorem free_setThread (t th : Nat) (x : Thread) : (m.setThread t th x).free = m.free := rfl
@[simp] theorem draws_setThread (t th : Nat) (x : Thread) : (m.setThread t th x).draws = m.draws := rfl
@[simp] theorem disabled_setThread (t th : Nat) (x : Thread) : (m.setThread t th x).disabled = m.disabled := rfl
@[simp] theorem regs_setBuoy (b : Nat) (x : Buoy) : (m.setBuoy b x).regs = m.regs := rfl
@[simp] theorem staged_setBuoy (b : Nat) (x : Buoy) : (m.setBuoy b x).staged = m.staged := rfl
@[simp] theorem mem_setBuoy (b : Nat) (x : Buoy) : (m.setBuoy b x).mem = m.mem := rfl
@[simp] theorem tiles_setBuoy (b : Nat) (x : Buoy) : (m.setBuoy b x).tiles = m.tiles := rfl
@[simp] theorem rings_setBuoy (b : Nat) (x : Buoy) : (m.setBuoy b x).rings = m.rings := rfl
@[simp] theorem hbmStacks_setBuoy (b : Nat) (x : Buoy) : (m.setBuoy b x).hbmStacks = m.hbmStacks := rfl
@[simp] theorem parts_setBuoy (b : Nat) (x : Buoy) : (m.setBuoy b x).parts = m.parts := rfl
@[simp] theorem ports_setBuoy (b : Nat) (x : Buoy) : (m.setBuoy b x).ports = m.ports := rfl
@[simp] theorem flows_setBuoy (b : Nat) (x : Buoy) : (m.setBuoy b x).flows = m.flows := rfl
@[simp] theorem feeds_setBuoy (b : Nat) (x : Buoy) : (m.setBuoy b x).feeds = m.feeds := rfl
@[simp] theorem halves_setBuoy (b : Nat) (x : Buoy) : (m.setBuoy b x).halves = m.halves := rfl
@[simp] theorem kdies_setBuoy (b : Nat) (x : Buoy) : (m.setBuoy b x).kdies = m.kdies := rfl
@[simp] theorem kslots_setBuoy (b : Nat) (x : Buoy) : (m.setBuoy b x).kslots = m.kslots := rfl
@[simp] theorem keys_setBuoy (b : Nat) (x : Buoy) : (m.setBuoy b x).keys = m.keys := rfl
@[simp] theorem firsts_setBuoy (b : Nat) (x : Buoy) : (m.setBuoy b x).firsts = m.firsts := rfl
@[simp] theorem ring_setBuoy (b : Nat) (x : Buoy) : (m.setBuoy b x).ring = m.ring := rfl
@[simp] theorem cmds_setBuoy (b : Nat) (x : Buoy) : (m.setBuoy b x).cmds = m.cmds := rfl
@[simp] theorem contexts_setBuoy (b : Nat) (x : Buoy) : (m.setBuoy b x).contexts = m.contexts := rfl
@[simp] theorem dialogues_setBuoy (b : Nat) (x : Buoy) : (m.setBuoy b x).dialogues = m.dialogues := rfl
@[simp] theorem board_setBuoy (b : Nat) (x : Buoy) : (m.setBuoy b x).board = m.board := rfl
@[simp] theorem count_setBuoy (b : Nat) (x : Buoy) : (m.setBuoy b x).count = m.count := rfl
@[simp] theorem running_setBuoy (b : Nat) (x : Buoy) : (m.setBuoy b x).running = m.running := rfl
@[simp] theorem reply_setBuoy (b : Nat) (x : Buoy) : (m.setBuoy b x).reply = m.reply := rfl
@[simp] theorem outbox_setBuoy (b : Nat) (x : Buoy) : (m.setBuoy b x).outbox = m.outbox := rfl
@[simp] theorem free_setBuoy (b : Nat) (x : Buoy) : (m.setBuoy b x).free = m.free := rfl
@[simp] theorem draws_setBuoy (b : Nat) (x : Buoy) : (m.setBuoy b x).draws = m.draws := rfl
@[simp] theorem disabled_setBuoy (b : Nat) (x : Buoy) : (m.setBuoy b x).disabled = m.disabled := rfl
@[simp] theorem regs_setRing (r : Nat) (x : Ring) : (m.setRing r x).regs = m.regs := rfl
@[simp] theorem staged_setRing (r : Nat) (x : Ring) : (m.setRing r x).staged = m.staged := rfl
@[simp] theorem mem_setRing (r : Nat) (x : Ring) : (m.setRing r x).mem = m.mem := rfl
@[simp] theorem tiles_setRing (r : Nat) (x : Ring) : (m.setRing r x).tiles = m.tiles := rfl
@[simp] theorem buoys_setRing (r : Nat) (x : Ring) : (m.setRing r x).buoys = m.buoys := rfl
@[simp] theorem hbmStacks_setRing (r : Nat) (x : Ring) : (m.setRing r x).hbmStacks = m.hbmStacks := rfl
@[simp] theorem parts_setRing (r : Nat) (x : Ring) : (m.setRing r x).parts = m.parts := rfl
@[simp] theorem ports_setRing (r : Nat) (x : Ring) : (m.setRing r x).ports = m.ports := rfl
@[simp] theorem flows_setRing (r : Nat) (x : Ring) : (m.setRing r x).flows = m.flows := rfl
@[simp] theorem feeds_setRing (r : Nat) (x : Ring) : (m.setRing r x).feeds = m.feeds := rfl
@[simp] theorem halves_setRing (r : Nat) (x : Ring) : (m.setRing r x).halves = m.halves := rfl
@[simp] theorem kdies_setRing (r : Nat) (x : Ring) : (m.setRing r x).kdies = m.kdies := rfl
@[simp] theorem kslots_setRing (r : Nat) (x : Ring) : (m.setRing r x).kslots = m.kslots := rfl
@[simp] theorem keys_setRing (r : Nat) (x : Ring) : (m.setRing r x).keys = m.keys := rfl
@[simp] theorem firsts_setRing (r : Nat) (x : Ring) : (m.setRing r x).firsts = m.firsts := rfl
@[simp] theorem ring_setRing (r : Nat) (x : Ring) : (m.setRing r x).ring = m.ring := rfl
@[simp] theorem cmds_setRing (r : Nat) (x : Ring) : (m.setRing r x).cmds = m.cmds := rfl
@[simp] theorem contexts_setRing (r : Nat) (x : Ring) : (m.setRing r x).contexts = m.contexts := rfl
@[simp] theorem dialogues_setRing (r : Nat) (x : Ring) : (m.setRing r x).dialogues = m.dialogues := rfl
@[simp] theorem board_setRing (r : Nat) (x : Ring) : (m.setRing r x).board = m.board := rfl
@[simp] theorem count_setRing (r : Nat) (x : Ring) : (m.setRing r x).count = m.count := rfl
@[simp] theorem running_setRing (r : Nat) (x : Ring) : (m.setRing r x).running = m.running := rfl
@[simp] theorem reply_setRing (r : Nat) (x : Ring) : (m.setRing r x).reply = m.reply := rfl
@[simp] theorem outbox_setRing (r : Nat) (x : Ring) : (m.setRing r x).outbox = m.outbox := rfl
@[simp] theorem free_setRing (r : Nat) (x : Ring) : (m.setRing r x).free = m.free := rfl
@[simp] theorem draws_setRing (r : Nat) (x : Ring) : (m.setRing r x).draws = m.draws := rfl
@[simp] theorem disabled_setRing (r : Nat) (x : Ring) : (m.setRing r x).disabled = m.disabled := rfl
@[simp] theorem regs_setStack (k : Nat) (x : Stack) : (m.setStack k x).regs = m.regs := rfl
@[simp] theorem staged_setStack (k : Nat) (x : Stack) : (m.setStack k x).staged = m.staged := rfl
@[simp] theorem mem_setStack (k : Nat) (x : Stack) : (m.setStack k x).mem = m.mem := rfl
@[simp] theorem tiles_setStack (k : Nat) (x : Stack) : (m.setStack k x).tiles = m.tiles := rfl
@[simp] theorem buoys_setStack (k : Nat) (x : Stack) : (m.setStack k x).buoys = m.buoys := rfl
@[simp] theorem rings_setStack (k : Nat) (x : Stack) : (m.setStack k x).rings = m.rings := rfl
@[simp] theorem parts_setStack (k : Nat) (x : Stack) : (m.setStack k x).parts = m.parts := rfl
@[simp] theorem ports_setStack (k : Nat) (x : Stack) : (m.setStack k x).ports = m.ports := rfl
@[simp] theorem flows_setStack (k : Nat) (x : Stack) : (m.setStack k x).flows = m.flows := rfl
@[simp] theorem feeds_setStack (k : Nat) (x : Stack) : (m.setStack k x).feeds = m.feeds := rfl
@[simp] theorem halves_setStack (k : Nat) (x : Stack) : (m.setStack k x).halves = m.halves := rfl
@[simp] theorem kdies_setStack (k : Nat) (x : Stack) : (m.setStack k x).kdies = m.kdies := rfl
@[simp] theorem kslots_setStack (k : Nat) (x : Stack) : (m.setStack k x).kslots = m.kslots := rfl
@[simp] theorem keys_setStack (k : Nat) (x : Stack) : (m.setStack k x).keys = m.keys := rfl
@[simp] theorem firsts_setStack (k : Nat) (x : Stack) : (m.setStack k x).firsts = m.firsts := rfl
@[simp] theorem ring_setStack (k : Nat) (x : Stack) : (m.setStack k x).ring = m.ring := rfl
@[simp] theorem cmds_setStack (k : Nat) (x : Stack) : (m.setStack k x).cmds = m.cmds := rfl
@[simp] theorem contexts_setStack (k : Nat) (x : Stack) : (m.setStack k x).contexts = m.contexts := rfl
@[simp] theorem dialogues_setStack (k : Nat) (x : Stack) : (m.setStack k x).dialogues = m.dialogues := rfl
@[simp] theorem board_setStack (k : Nat) (x : Stack) : (m.setStack k x).board = m.board := rfl
@[simp] theorem count_setStack (k : Nat) (x : Stack) : (m.setStack k x).count = m.count := rfl
@[simp] theorem running_setStack (k : Nat) (x : Stack) : (m.setStack k x).running = m.running := rfl
@[simp] theorem reply_setStack (k : Nat) (x : Stack) : (m.setStack k x).reply = m.reply := rfl
@[simp] theorem outbox_setStack (k : Nat) (x : Stack) : (m.setStack k x).outbox = m.outbox := rfl
@[simp] theorem free_setStack (k : Nat) (x : Stack) : (m.setStack k x).free = m.free := rfl
@[simp] theorem draws_setStack (k : Nat) (x : Stack) : (m.setStack k x).draws = m.draws := rfl
@[simp] theorem disabled_setStack (k : Nat) (x : Stack) : (m.setStack k x).disabled = m.disabled := rfl
@[simp] theorem regs_setPart (s : Nat) (x : Part) : (m.setPart s x).regs = m.regs := rfl
@[simp] theorem staged_setPart (s : Nat) (x : Part) : (m.setPart s x).staged = m.staged := rfl
@[simp] theorem mem_setPart (s : Nat) (x : Part) : (m.setPart s x).mem = m.mem := rfl
@[simp] theorem tiles_setPart (s : Nat) (x : Part) : (m.setPart s x).tiles = m.tiles := rfl
@[simp] theorem buoys_setPart (s : Nat) (x : Part) : (m.setPart s x).buoys = m.buoys := rfl
@[simp] theorem rings_setPart (s : Nat) (x : Part) : (m.setPart s x).rings = m.rings := rfl
@[simp] theorem hbmStacks_setPart (s : Nat) (x : Part) : (m.setPart s x).hbmStacks = m.hbmStacks := rfl
@[simp] theorem ports_setPart (s : Nat) (x : Part) : (m.setPart s x).ports = m.ports := rfl
@[simp] theorem flows_setPart (s : Nat) (x : Part) : (m.setPart s x).flows = m.flows := rfl
@[simp] theorem feeds_setPart (s : Nat) (x : Part) : (m.setPart s x).feeds = m.feeds := rfl
@[simp] theorem halves_setPart (s : Nat) (x : Part) : (m.setPart s x).halves = m.halves := rfl
@[simp] theorem kdies_setPart (s : Nat) (x : Part) : (m.setPart s x).kdies = m.kdies := rfl
@[simp] theorem kslots_setPart (s : Nat) (x : Part) : (m.setPart s x).kslots = m.kslots := rfl
@[simp] theorem keys_setPart (s : Nat) (x : Part) : (m.setPart s x).keys = m.keys := rfl
@[simp] theorem firsts_setPart (s : Nat) (x : Part) : (m.setPart s x).firsts = m.firsts := rfl
@[simp] theorem ring_setPart (s : Nat) (x : Part) : (m.setPart s x).ring = m.ring := rfl
@[simp] theorem cmds_setPart (s : Nat) (x : Part) : (m.setPart s x).cmds = m.cmds := rfl
@[simp] theorem contexts_setPart (s : Nat) (x : Part) : (m.setPart s x).contexts = m.contexts := rfl
@[simp] theorem dialogues_setPart (s : Nat) (x : Part) : (m.setPart s x).dialogues = m.dialogues := rfl
@[simp] theorem board_setPart (s : Nat) (x : Part) : (m.setPart s x).board = m.board := rfl
@[simp] theorem count_setPart (s : Nat) (x : Part) : (m.setPart s x).count = m.count := rfl
@[simp] theorem running_setPart (s : Nat) (x : Part) : (m.setPart s x).running = m.running := rfl
@[simp] theorem reply_setPart (s : Nat) (x : Part) : (m.setPart s x).reply = m.reply := rfl
@[simp] theorem outbox_setPart (s : Nat) (x : Part) : (m.setPart s x).outbox = m.outbox := rfl
@[simp] theorem free_setPart (s : Nat) (x : Part) : (m.setPart s x).free = m.free := rfl
@[simp] theorem draws_setPart (s : Nat) (x : Part) : (m.setPart s x).draws = m.draws := rfl
@[simp] theorem disabled_setPart (s : Nat) (x : Part) : (m.setPart s x).disabled = m.disabled := rfl
@[simp] theorem regs_setPort (j : Nat) (x : Port) : (m.setPort j x).regs = m.regs := rfl
@[simp] theorem staged_setPort (j : Nat) (x : Port) : (m.setPort j x).staged = m.staged := rfl
@[simp] theorem mem_setPort (j : Nat) (x : Port) : (m.setPort j x).mem = m.mem := rfl
@[simp] theorem tiles_setPort (j : Nat) (x : Port) : (m.setPort j x).tiles = m.tiles := rfl
@[simp] theorem buoys_setPort (j : Nat) (x : Port) : (m.setPort j x).buoys = m.buoys := rfl
@[simp] theorem rings_setPort (j : Nat) (x : Port) : (m.setPort j x).rings = m.rings := rfl
@[simp] theorem hbmStacks_setPort (j : Nat) (x : Port) : (m.setPort j x).hbmStacks = m.hbmStacks := rfl
@[simp] theorem parts_setPort (j : Nat) (x : Port) : (m.setPort j x).parts = m.parts := rfl
@[simp] theorem flows_setPort (j : Nat) (x : Port) : (m.setPort j x).flows = m.flows := rfl
@[simp] theorem feeds_setPort (j : Nat) (x : Port) : (m.setPort j x).feeds = m.feeds := rfl
@[simp] theorem halves_setPort (j : Nat) (x : Port) : (m.setPort j x).halves = m.halves := rfl
@[simp] theorem kdies_setPort (j : Nat) (x : Port) : (m.setPort j x).kdies = m.kdies := rfl
@[simp] theorem kslots_setPort (j : Nat) (x : Port) : (m.setPort j x).kslots = m.kslots := rfl
@[simp] theorem keys_setPort (j : Nat) (x : Port) : (m.setPort j x).keys = m.keys := rfl
@[simp] theorem firsts_setPort (j : Nat) (x : Port) : (m.setPort j x).firsts = m.firsts := rfl
@[simp] theorem ring_setPort (j : Nat) (x : Port) : (m.setPort j x).ring = m.ring := rfl
@[simp] theorem cmds_setPort (j : Nat) (x : Port) : (m.setPort j x).cmds = m.cmds := rfl
@[simp] theorem contexts_setPort (j : Nat) (x : Port) : (m.setPort j x).contexts = m.contexts := rfl
@[simp] theorem dialogues_setPort (j : Nat) (x : Port) : (m.setPort j x).dialogues = m.dialogues := rfl
@[simp] theorem board_setPort (j : Nat) (x : Port) : (m.setPort j x).board = m.board := rfl
@[simp] theorem count_setPort (j : Nat) (x : Port) : (m.setPort j x).count = m.count := rfl
@[simp] theorem running_setPort (j : Nat) (x : Port) : (m.setPort j x).running = m.running := rfl
@[simp] theorem reply_setPort (j : Nat) (x : Port) : (m.setPort j x).reply = m.reply := rfl
@[simp] theorem outbox_setPort (j : Nat) (x : Port) : (m.setPort j x).outbox = m.outbox := rfl
@[simp] theorem free_setPort (j : Nat) (x : Port) : (m.setPort j x).free = m.free := rfl
@[simp] theorem draws_setPort (j : Nat) (x : Port) : (m.setPort j x).draws = m.draws := rfl
@[simp] theorem disabled_setPort (j : Nat) (x : Port) : (m.setPort j x).disabled = m.disabled := rfl
@[simp] theorem regs_setFlow (e k : Nat) (x : Flow) : (m.setFlow e k x).regs = m.regs := rfl
@[simp] theorem staged_setFlow (e k : Nat) (x : Flow) : (m.setFlow e k x).staged = m.staged := rfl
@[simp] theorem mem_setFlow (e k : Nat) (x : Flow) : (m.setFlow e k x).mem = m.mem := rfl
@[simp] theorem tiles_setFlow (e k : Nat) (x : Flow) : (m.setFlow e k x).tiles = m.tiles := rfl
@[simp] theorem buoys_setFlow (e k : Nat) (x : Flow) : (m.setFlow e k x).buoys = m.buoys := rfl
@[simp] theorem rings_setFlow (e k : Nat) (x : Flow) : (m.setFlow e k x).rings = m.rings := rfl
@[simp] theorem hbmStacks_setFlow (e k : Nat) (x : Flow) : (m.setFlow e k x).hbmStacks = m.hbmStacks := rfl
@[simp] theorem parts_setFlow (e k : Nat) (x : Flow) : (m.setFlow e k x).parts = m.parts := rfl
@[simp] theorem ports_setFlow (e k : Nat) (x : Flow) : (m.setFlow e k x).ports = m.ports := rfl
@[simp] theorem feeds_setFlow (e k : Nat) (x : Flow) : (m.setFlow e k x).feeds = m.feeds := rfl
@[simp] theorem halves_setFlow (e k : Nat) (x : Flow) : (m.setFlow e k x).halves = m.halves := rfl
@[simp] theorem kdies_setFlow (e k : Nat) (x : Flow) : (m.setFlow e k x).kdies = m.kdies := rfl
@[simp] theorem kslots_setFlow (e k : Nat) (x : Flow) : (m.setFlow e k x).kslots = m.kslots := rfl
@[simp] theorem keys_setFlow (e k : Nat) (x : Flow) : (m.setFlow e k x).keys = m.keys := rfl
@[simp] theorem firsts_setFlow (e k : Nat) (x : Flow) : (m.setFlow e k x).firsts = m.firsts := rfl
@[simp] theorem ring_setFlow (e k : Nat) (x : Flow) : (m.setFlow e k x).ring = m.ring := rfl
@[simp] theorem cmds_setFlow (e k : Nat) (x : Flow) : (m.setFlow e k x).cmds = m.cmds := rfl
@[simp] theorem contexts_setFlow (e k : Nat) (x : Flow) : (m.setFlow e k x).contexts = m.contexts := rfl
@[simp] theorem dialogues_setFlow (e k : Nat) (x : Flow) : (m.setFlow e k x).dialogues = m.dialogues := rfl
@[simp] theorem board_setFlow (e k : Nat) (x : Flow) : (m.setFlow e k x).board = m.board := rfl
@[simp] theorem count_setFlow (e k : Nat) (x : Flow) : (m.setFlow e k x).count = m.count := rfl
@[simp] theorem running_setFlow (e k : Nat) (x : Flow) : (m.setFlow e k x).running = m.running := rfl
@[simp] theorem reply_setFlow (e k : Nat) (x : Flow) : (m.setFlow e k x).reply = m.reply := rfl
@[simp] theorem outbox_setFlow (e k : Nat) (x : Flow) : (m.setFlow e k x).outbox = m.outbox := rfl
@[simp] theorem free_setFlow (e k : Nat) (x : Flow) : (m.setFlow e k x).free = m.free := rfl
@[simp] theorem draws_setFlow (e k : Nat) (x : Flow) : (m.setFlow e k x).draws = m.draws := rfl
@[simp] theorem disabled_setFlow (e k : Nat) (x : Flow) : (m.setFlow e k x).disabled = m.disabled := rfl
@[simp] theorem regs_setFeed (e : Nat) (x : Feed) : (m.setFeed e x).regs = m.regs := rfl
@[simp] theorem staged_setFeed (e : Nat) (x : Feed) : (m.setFeed e x).staged = m.staged := rfl
@[simp] theorem mem_setFeed (e : Nat) (x : Feed) : (m.setFeed e x).mem = m.mem := rfl
@[simp] theorem tiles_setFeed (e : Nat) (x : Feed) : (m.setFeed e x).tiles = m.tiles := rfl
@[simp] theorem buoys_setFeed (e : Nat) (x : Feed) : (m.setFeed e x).buoys = m.buoys := rfl
@[simp] theorem rings_setFeed (e : Nat) (x : Feed) : (m.setFeed e x).rings = m.rings := rfl
@[simp] theorem hbmStacks_setFeed (e : Nat) (x : Feed) : (m.setFeed e x).hbmStacks = m.hbmStacks := rfl
@[simp] theorem parts_setFeed (e : Nat) (x : Feed) : (m.setFeed e x).parts = m.parts := rfl
@[simp] theorem ports_setFeed (e : Nat) (x : Feed) : (m.setFeed e x).ports = m.ports := rfl
@[simp] theorem flows_setFeed (e : Nat) (x : Feed) : (m.setFeed e x).flows = m.flows := rfl
@[simp] theorem halves_setFeed (e : Nat) (x : Feed) : (m.setFeed e x).halves = m.halves := rfl
@[simp] theorem kdies_setFeed (e : Nat) (x : Feed) : (m.setFeed e x).kdies = m.kdies := rfl
@[simp] theorem kslots_setFeed (e : Nat) (x : Feed) : (m.setFeed e x).kslots = m.kslots := rfl
@[simp] theorem keys_setFeed (e : Nat) (x : Feed) : (m.setFeed e x).keys = m.keys := rfl
@[simp] theorem firsts_setFeed (e : Nat) (x : Feed) : (m.setFeed e x).firsts = m.firsts := rfl
@[simp] theorem ring_setFeed (e : Nat) (x : Feed) : (m.setFeed e x).ring = m.ring := rfl
@[simp] theorem cmds_setFeed (e : Nat) (x : Feed) : (m.setFeed e x).cmds = m.cmds := rfl
@[simp] theorem contexts_setFeed (e : Nat) (x : Feed) : (m.setFeed e x).contexts = m.contexts := rfl
@[simp] theorem dialogues_setFeed (e : Nat) (x : Feed) : (m.setFeed e x).dialogues = m.dialogues := rfl
@[simp] theorem board_setFeed (e : Nat) (x : Feed) : (m.setFeed e x).board = m.board := rfl
@[simp] theorem count_setFeed (e : Nat) (x : Feed) : (m.setFeed e x).count = m.count := rfl
@[simp] theorem running_setFeed (e : Nat) (x : Feed) : (m.setFeed e x).running = m.running := rfl
@[simp] theorem reply_setFeed (e : Nat) (x : Feed) : (m.setFeed e x).reply = m.reply := rfl
@[simp] theorem outbox_setFeed (e : Nat) (x : Feed) : (m.setFeed e x).outbox = m.outbox := rfl
@[simp] theorem free_setFeed (e : Nat) (x : Feed) : (m.setFeed e x).free = m.free := rfl
@[simp] theorem draws_setFeed (e : Nat) (x : Feed) : (m.setFeed e x).draws = m.draws := rfl
@[simp] theorem disabled_setFeed (e : Nat) (x : Feed) : (m.setFeed e x).disabled = m.disabled := rfl
@[simp] theorem regs_setHalf (i : Nat) (x : Half) : (m.setHalf i x).regs = m.regs := rfl
@[simp] theorem staged_setHalf (i : Nat) (x : Half) : (m.setHalf i x).staged = m.staged := rfl
@[simp] theorem mem_setHalf (i : Nat) (x : Half) : (m.setHalf i x).mem = m.mem := rfl
@[simp] theorem tiles_setHalf (i : Nat) (x : Half) : (m.setHalf i x).tiles = m.tiles := rfl
@[simp] theorem buoys_setHalf (i : Nat) (x : Half) : (m.setHalf i x).buoys = m.buoys := rfl
@[simp] theorem rings_setHalf (i : Nat) (x : Half) : (m.setHalf i x).rings = m.rings := rfl
@[simp] theorem hbmStacks_setHalf (i : Nat) (x : Half) : (m.setHalf i x).hbmStacks = m.hbmStacks := rfl
@[simp] theorem parts_setHalf (i : Nat) (x : Half) : (m.setHalf i x).parts = m.parts := rfl
@[simp] theorem ports_setHalf (i : Nat) (x : Half) : (m.setHalf i x).ports = m.ports := rfl
@[simp] theorem flows_setHalf (i : Nat) (x : Half) : (m.setHalf i x).flows = m.flows := rfl
@[simp] theorem feeds_setHalf (i : Nat) (x : Half) : (m.setHalf i x).feeds = m.feeds := rfl
@[simp] theorem kdies_setHalf (i : Nat) (x : Half) : (m.setHalf i x).kdies = m.kdies := rfl
@[simp] theorem kslots_setHalf (i : Nat) (x : Half) : (m.setHalf i x).kslots = m.kslots := rfl
@[simp] theorem keys_setHalf (i : Nat) (x : Half) : (m.setHalf i x).keys = m.keys := rfl
@[simp] theorem firsts_setHalf (i : Nat) (x : Half) : (m.setHalf i x).firsts = m.firsts := rfl
@[simp] theorem ring_setHalf (i : Nat) (x : Half) : (m.setHalf i x).ring = m.ring := rfl
@[simp] theorem cmds_setHalf (i : Nat) (x : Half) : (m.setHalf i x).cmds = m.cmds := rfl
@[simp] theorem contexts_setHalf (i : Nat) (x : Half) : (m.setHalf i x).contexts = m.contexts := rfl
@[simp] theorem dialogues_setHalf (i : Nat) (x : Half) : (m.setHalf i x).dialogues = m.dialogues := rfl
@[simp] theorem board_setHalf (i : Nat) (x : Half) : (m.setHalf i x).board = m.board := rfl
@[simp] theorem count_setHalf (i : Nat) (x : Half) : (m.setHalf i x).count = m.count := rfl
@[simp] theorem running_setHalf (i : Nat) (x : Half) : (m.setHalf i x).running = m.running := rfl
@[simp] theorem reply_setHalf (i : Nat) (x : Half) : (m.setHalf i x).reply = m.reply := rfl
@[simp] theorem outbox_setHalf (i : Nat) (x : Half) : (m.setHalf i x).outbox = m.outbox := rfl
@[simp] theorem free_setHalf (i : Nat) (x : Half) : (m.setHalf i x).free = m.free := rfl
@[simp] theorem draws_setHalf (i : Nat) (x : Half) : (m.setHalf i x).draws = m.draws := rfl
@[simp] theorem disabled_setHalf (i : Nat) (x : Half) : (m.setHalf i x).disabled = m.disabled := rfl
@[simp] theorem regs_setKdie (d : Nat) (x : KDie) : (m.setKdie d x).regs = m.regs := rfl
@[simp] theorem staged_setKdie (d : Nat) (x : KDie) : (m.setKdie d x).staged = m.staged := rfl
@[simp] theorem mem_setKdie (d : Nat) (x : KDie) : (m.setKdie d x).mem = m.mem := rfl
@[simp] theorem tiles_setKdie (d : Nat) (x : KDie) : (m.setKdie d x).tiles = m.tiles := rfl
@[simp] theorem buoys_setKdie (d : Nat) (x : KDie) : (m.setKdie d x).buoys = m.buoys := rfl
@[simp] theorem rings_setKdie (d : Nat) (x : KDie) : (m.setKdie d x).rings = m.rings := rfl
@[simp] theorem hbmStacks_setKdie (d : Nat) (x : KDie) : (m.setKdie d x).hbmStacks = m.hbmStacks := rfl
@[simp] theorem parts_setKdie (d : Nat) (x : KDie) : (m.setKdie d x).parts = m.parts := rfl
@[simp] theorem ports_setKdie (d : Nat) (x : KDie) : (m.setKdie d x).ports = m.ports := rfl
@[simp] theorem flows_setKdie (d : Nat) (x : KDie) : (m.setKdie d x).flows = m.flows := rfl
@[simp] theorem feeds_setKdie (d : Nat) (x : KDie) : (m.setKdie d x).feeds = m.feeds := rfl
@[simp] theorem halves_setKdie (d : Nat) (x : KDie) : (m.setKdie d x).halves = m.halves := rfl
@[simp] theorem kslots_setKdie (d : Nat) (x : KDie) : (m.setKdie d x).kslots = m.kslots := rfl
@[simp] theorem keys_setKdie (d : Nat) (x : KDie) : (m.setKdie d x).keys = m.keys := rfl
@[simp] theorem firsts_setKdie (d : Nat) (x : KDie) : (m.setKdie d x).firsts = m.firsts := rfl
@[simp] theorem ring_setKdie (d : Nat) (x : KDie) : (m.setKdie d x).ring = m.ring := rfl
@[simp] theorem cmds_setKdie (d : Nat) (x : KDie) : (m.setKdie d x).cmds = m.cmds := rfl
@[simp] theorem contexts_setKdie (d : Nat) (x : KDie) : (m.setKdie d x).contexts = m.contexts := rfl
@[simp] theorem dialogues_setKdie (d : Nat) (x : KDie) : (m.setKdie d x).dialogues = m.dialogues := rfl
@[simp] theorem board_setKdie (d : Nat) (x : KDie) : (m.setKdie d x).board = m.board := rfl
@[simp] theorem count_setKdie (d : Nat) (x : KDie) : (m.setKdie d x).count = m.count := rfl
@[simp] theorem running_setKdie (d : Nat) (x : KDie) : (m.setKdie d x).running = m.running := rfl
@[simp] theorem reply_setKdie (d : Nat) (x : KDie) : (m.setKdie d x).reply = m.reply := rfl
@[simp] theorem outbox_setKdie (d : Nat) (x : KDie) : (m.setKdie d x).outbox = m.outbox := rfl
@[simp] theorem free_setKdie (d : Nat) (x : KDie) : (m.setKdie d x).free = m.free := rfl
@[simp] theorem draws_setKdie (d : Nat) (x : KDie) : (m.setKdie d x).draws = m.draws := rfl
@[simp] theorem disabled_setKdie (d : Nat) (x : KDie) : (m.setKdie d x).disabled = m.disabled := rfl
@[simp] theorem regs_setKslot (s : Nat) (x : KSlot) : (m.setKslot s x).regs = m.regs := rfl
@[simp] theorem staged_setKslot (s : Nat) (x : KSlot) : (m.setKslot s x).staged = m.staged := rfl
@[simp] theorem mem_setKslot (s : Nat) (x : KSlot) : (m.setKslot s x).mem = m.mem := rfl
@[simp] theorem tiles_setKslot (s : Nat) (x : KSlot) : (m.setKslot s x).tiles = m.tiles := rfl
@[simp] theorem buoys_setKslot (s : Nat) (x : KSlot) : (m.setKslot s x).buoys = m.buoys := rfl
@[simp] theorem rings_setKslot (s : Nat) (x : KSlot) : (m.setKslot s x).rings = m.rings := rfl
@[simp] theorem hbmStacks_setKslot (s : Nat) (x : KSlot) : (m.setKslot s x).hbmStacks = m.hbmStacks := rfl
@[simp] theorem parts_setKslot (s : Nat) (x : KSlot) : (m.setKslot s x).parts = m.parts := rfl
@[simp] theorem ports_setKslot (s : Nat) (x : KSlot) : (m.setKslot s x).ports = m.ports := rfl
@[simp] theorem flows_setKslot (s : Nat) (x : KSlot) : (m.setKslot s x).flows = m.flows := rfl
@[simp] theorem feeds_setKslot (s : Nat) (x : KSlot) : (m.setKslot s x).feeds = m.feeds := rfl
@[simp] theorem halves_setKslot (s : Nat) (x : KSlot) : (m.setKslot s x).halves = m.halves := rfl
@[simp] theorem kdies_setKslot (s : Nat) (x : KSlot) : (m.setKslot s x).kdies = m.kdies := rfl
@[simp] theorem keys_setKslot (s : Nat) (x : KSlot) : (m.setKslot s x).keys = m.keys := rfl
@[simp] theorem firsts_setKslot (s : Nat) (x : KSlot) : (m.setKslot s x).firsts = m.firsts := rfl
@[simp] theorem ring_setKslot (s : Nat) (x : KSlot) : (m.setKslot s x).ring = m.ring := rfl
@[simp] theorem cmds_setKslot (s : Nat) (x : KSlot) : (m.setKslot s x).cmds = m.cmds := rfl
@[simp] theorem contexts_setKslot (s : Nat) (x : KSlot) : (m.setKslot s x).contexts = m.contexts := rfl
@[simp] theorem dialogues_setKslot (s : Nat) (x : KSlot) : (m.setKslot s x).dialogues = m.dialogues := rfl
@[simp] theorem board_setKslot (s : Nat) (x : KSlot) : (m.setKslot s x).board = m.board := rfl
@[simp] theorem count_setKslot (s : Nat) (x : KSlot) : (m.setKslot s x).count = m.count := rfl
@[simp] theorem running_setKslot (s : Nat) (x : KSlot) : (m.setKslot s x).running = m.running := rfl
@[simp] theorem reply_setKslot (s : Nat) (x : KSlot) : (m.setKslot s x).reply = m.reply := rfl
@[simp] theorem outbox_setKslot (s : Nat) (x : KSlot) : (m.setKslot s x).outbox = m.outbox := rfl
@[simp] theorem free_setKslot (s : Nat) (x : KSlot) : (m.setKslot s x).free = m.free := rfl
@[simp] theorem draws_setKslot (s : Nat) (x : KSlot) : (m.setKslot s x).draws = m.draws := rfl
@[simp] theorem disabled_setKslot (s : Nat) (x : KSlot) : (m.setKslot s x).disabled = m.disabled := rfl
@[simp] theorem regs_setFirst (k : Nat) (x : ErrRec) : (m.setFirst k x).regs = m.regs := rfl
@[simp] theorem staged_setFirst (k : Nat) (x : ErrRec) : (m.setFirst k x).staged = m.staged := rfl
@[simp] theorem mem_setFirst (k : Nat) (x : ErrRec) : (m.setFirst k x).mem = m.mem := rfl
@[simp] theorem tiles_setFirst (k : Nat) (x : ErrRec) : (m.setFirst k x).tiles = m.tiles := rfl
@[simp] theorem buoys_setFirst (k : Nat) (x : ErrRec) : (m.setFirst k x).buoys = m.buoys := rfl
@[simp] theorem rings_setFirst (k : Nat) (x : ErrRec) : (m.setFirst k x).rings = m.rings := rfl
@[simp] theorem hbmStacks_setFirst (k : Nat) (x : ErrRec) : (m.setFirst k x).hbmStacks = m.hbmStacks := rfl
@[simp] theorem parts_setFirst (k : Nat) (x : ErrRec) : (m.setFirst k x).parts = m.parts := rfl
@[simp] theorem ports_setFirst (k : Nat) (x : ErrRec) : (m.setFirst k x).ports = m.ports := rfl
@[simp] theorem flows_setFirst (k : Nat) (x : ErrRec) : (m.setFirst k x).flows = m.flows := rfl
@[simp] theorem feeds_setFirst (k : Nat) (x : ErrRec) : (m.setFirst k x).feeds = m.feeds := rfl
@[simp] theorem halves_setFirst (k : Nat) (x : ErrRec) : (m.setFirst k x).halves = m.halves := rfl
@[simp] theorem kdies_setFirst (k : Nat) (x : ErrRec) : (m.setFirst k x).kdies = m.kdies := rfl
@[simp] theorem kslots_setFirst (k : Nat) (x : ErrRec) : (m.setFirst k x).kslots = m.kslots := rfl
@[simp] theorem keys_setFirst (k : Nat) (x : ErrRec) : (m.setFirst k x).keys = m.keys := rfl
@[simp] theorem ring_setFirst (k : Nat) (x : ErrRec) : (m.setFirst k x).ring = m.ring := rfl
@[simp] theorem cmds_setFirst (k : Nat) (x : ErrRec) : (m.setFirst k x).cmds = m.cmds := rfl
@[simp] theorem contexts_setFirst (k : Nat) (x : ErrRec) : (m.setFirst k x).contexts = m.contexts := rfl
@[simp] theorem dialogues_setFirst (k : Nat) (x : ErrRec) : (m.setFirst k x).dialogues = m.dialogues := rfl
@[simp] theorem board_setFirst (k : Nat) (x : ErrRec) : (m.setFirst k x).board = m.board := rfl
@[simp] theorem count_setFirst (k : Nat) (x : ErrRec) : (m.setFirst k x).count = m.count := rfl
@[simp] theorem running_setFirst (k : Nat) (x : ErrRec) : (m.setFirst k x).running = m.running := rfl
@[simp] theorem reply_setFirst (k : Nat) (x : ErrRec) : (m.setFirst k x).reply = m.reply := rfl
@[simp] theorem outbox_setFirst (k : Nat) (x : ErrRec) : (m.setFirst k x).outbox = m.outbox := rfl
@[simp] theorem free_setFirst (k : Nat) (x : ErrRec) : (m.setFirst k x).free = m.free := rfl
@[simp] theorem draws_setFirst (k : Nat) (x : ErrRec) : (m.setFirst k x).draws = m.draws := rfl
@[simp] theorem disabled_setFirst (k : Nat) (x : ErrRec) : (m.setFirst k x).disabled = m.disabled := rfl
@[simp] theorem regs_answer (c : W16) : (m.answer c).regs = m.regs := rfl
@[simp] theorem staged_answer (c : W16) : (m.answer c).staged = m.staged := rfl
@[simp] theorem mem_answer (c : W16) : (m.answer c).mem = m.mem := rfl
@[simp] theorem tiles_answer (c : W16) : (m.answer c).tiles = m.tiles := rfl
@[simp] theorem buoys_answer (c : W16) : (m.answer c).buoys = m.buoys := rfl
@[simp] theorem rings_answer (c : W16) : (m.answer c).rings = m.rings := rfl
@[simp] theorem hbmStacks_answer (c : W16) : (m.answer c).hbmStacks = m.hbmStacks := rfl
@[simp] theorem parts_answer (c : W16) : (m.answer c).parts = m.parts := rfl
@[simp] theorem ports_answer (c : W16) : (m.answer c).ports = m.ports := rfl
@[simp] theorem flows_answer (c : W16) : (m.answer c).flows = m.flows := rfl
@[simp] theorem feeds_answer (c : W16) : (m.answer c).feeds = m.feeds := rfl
@[simp] theorem halves_answer (c : W16) : (m.answer c).halves = m.halves := rfl
@[simp] theorem kdies_answer (c : W16) : (m.answer c).kdies = m.kdies := rfl
@[simp] theorem kslots_answer (c : W16) : (m.answer c).kslots = m.kslots := rfl
@[simp] theorem keys_answer (c : W16) : (m.answer c).keys = m.keys := rfl
@[simp] theorem firsts_answer (c : W16) : (m.answer c).firsts = m.firsts := rfl
@[simp] theorem ring_answer (c : W16) : (m.answer c).ring = m.ring := rfl
@[simp] theorem cmds_answer (c : W16) : (m.answer c).cmds = m.cmds := rfl
@[simp] theorem contexts_answer (c : W16) : (m.answer c).contexts = m.contexts := rfl
@[simp] theorem dialogues_answer (c : W16) : (m.answer c).dialogues = m.dialogues := rfl
@[simp] theorem board_answer (c : W16) : (m.answer c).board = m.board := rfl
@[simp] theorem count_answer (c : W16) : (m.answer c).count = m.count := rfl
@[simp] theorem running_answer (c : W16) : (m.answer c).running = m.running := rfl
@[simp] theorem outbox_answer (c : W16) : (m.answer c).outbox = m.outbox := rfl
@[simp] theorem free_answer (c : W16) : (m.answer c).free = m.free := rfl
@[simp] theorem draws_answer (c : W16) : (m.answer c).draws = m.draws := rfl
@[simp] theorem disabled_answer (c : W16) : (m.answer c).disabled = m.disabled := rfl
@[simp] theorem regs_answerValue (v : W64) : (m.answerValue v).regs = m.regs := rfl
@[simp] theorem staged_answerValue (v : W64) : (m.answerValue v).staged = m.staged := rfl
@[simp] theorem mem_answerValue (v : W64) : (m.answerValue v).mem = m.mem := rfl
@[simp] theorem tiles_answerValue (v : W64) : (m.answerValue v).tiles = m.tiles := rfl
@[simp] theorem buoys_answerValue (v : W64) : (m.answerValue v).buoys = m.buoys := rfl
@[simp] theorem rings_answerValue (v : W64) : (m.answerValue v).rings = m.rings := rfl
@[simp] theorem hbmStacks_answerValue (v : W64) : (m.answerValue v).hbmStacks = m.hbmStacks := rfl
@[simp] theorem parts_answerValue (v : W64) : (m.answerValue v).parts = m.parts := rfl
@[simp] theorem ports_answerValue (v : W64) : (m.answerValue v).ports = m.ports := rfl
@[simp] theorem flows_answerValue (v : W64) : (m.answerValue v).flows = m.flows := rfl
@[simp] theorem feeds_answerValue (v : W64) : (m.answerValue v).feeds = m.feeds := rfl
@[simp] theorem halves_answerValue (v : W64) : (m.answerValue v).halves = m.halves := rfl
@[simp] theorem kdies_answerValue (v : W64) : (m.answerValue v).kdies = m.kdies := rfl
@[simp] theorem kslots_answerValue (v : W64) : (m.answerValue v).kslots = m.kslots := rfl
@[simp] theorem keys_answerValue (v : W64) : (m.answerValue v).keys = m.keys := rfl
@[simp] theorem firsts_answerValue (v : W64) : (m.answerValue v).firsts = m.firsts := rfl
@[simp] theorem ring_answerValue (v : W64) : (m.answerValue v).ring = m.ring := rfl
@[simp] theorem cmds_answerValue (v : W64) : (m.answerValue v).cmds = m.cmds := rfl
@[simp] theorem contexts_answerValue (v : W64) : (m.answerValue v).contexts = m.contexts := rfl
@[simp] theorem dialogues_answerValue (v : W64) : (m.answerValue v).dialogues = m.dialogues := rfl
@[simp] theorem board_answerValue (v : W64) : (m.answerValue v).board = m.board := rfl
@[simp] theorem count_answerValue (v : W64) : (m.answerValue v).count = m.count := rfl
@[simp] theorem running_answerValue (v : W64) : (m.answerValue v).running = m.running := rfl
@[simp] theorem outbox_answerValue (v : W64) : (m.answerValue v).outbox = m.outbox := rfl
@[simp] theorem free_answerValue (v : W64) : (m.answerValue v).free = m.free := rfl
@[simp] theorem draws_answerValue (v : W64) : (m.answerValue v).draws = m.draws := rfl
@[simp] theorem disabled_answerValue (v : W64) : (m.answerValue v).disabled = m.disabled := rfl
@[simp] theorem regs_answerBytes (b : List Byte) : (m.answerBytes b).regs = m.regs := rfl
@[simp] theorem staged_answerBytes (b : List Byte) : (m.answerBytes b).staged = m.staged := rfl
@[simp] theorem mem_answerBytes (b : List Byte) : (m.answerBytes b).mem = m.mem := rfl
@[simp] theorem tiles_answerBytes (b : List Byte) : (m.answerBytes b).tiles = m.tiles := rfl
@[simp] theorem buoys_answerBytes (b : List Byte) : (m.answerBytes b).buoys = m.buoys := rfl
@[simp] theorem rings_answerBytes (b : List Byte) : (m.answerBytes b).rings = m.rings := rfl
@[simp] theorem hbmStacks_answerBytes (b : List Byte) : (m.answerBytes b).hbmStacks = m.hbmStacks := rfl
@[simp] theorem parts_answerBytes (b : List Byte) : (m.answerBytes b).parts = m.parts := rfl
@[simp] theorem ports_answerBytes (b : List Byte) : (m.answerBytes b).ports = m.ports := rfl
@[simp] theorem flows_answerBytes (b : List Byte) : (m.answerBytes b).flows = m.flows := rfl
@[simp] theorem feeds_answerBytes (b : List Byte) : (m.answerBytes b).feeds = m.feeds := rfl
@[simp] theorem halves_answerBytes (b : List Byte) : (m.answerBytes b).halves = m.halves := rfl
@[simp] theorem kdies_answerBytes (b : List Byte) : (m.answerBytes b).kdies = m.kdies := rfl
@[simp] theorem kslots_answerBytes (b : List Byte) : (m.answerBytes b).kslots = m.kslots := rfl
@[simp] theorem keys_answerBytes (b : List Byte) : (m.answerBytes b).keys = m.keys := rfl
@[simp] theorem firsts_answerBytes (b : List Byte) : (m.answerBytes b).firsts = m.firsts := rfl
@[simp] theorem ring_answerBytes (b : List Byte) : (m.answerBytes b).ring = m.ring := rfl
@[simp] theorem cmds_answerBytes (b : List Byte) : (m.answerBytes b).cmds = m.cmds := rfl
@[simp] theorem contexts_answerBytes (b : List Byte) : (m.answerBytes b).contexts = m.contexts := rfl
@[simp] theorem dialogues_answerBytes (b : List Byte) : (m.answerBytes b).dialogues = m.dialogues := rfl
@[simp] theorem board_answerBytes (b : List Byte) : (m.answerBytes b).board = m.board := rfl
@[simp] theorem count_answerBytes (b : List Byte) : (m.answerBytes b).count = m.count := rfl
@[simp] theorem running_answerBytes (b : List Byte) : (m.answerBytes b).running = m.running := rfl
@[simp] theorem outbox_answerBytes (b : List Byte) : (m.answerBytes b).outbox = m.outbox := rfl
@[simp] theorem free_answerBytes (b : List Byte) : (m.answerBytes b).free = m.free := rfl
@[simp] theorem draws_answerBytes (b : List Byte) : (m.answerBytes b).draws = m.draws := rfl
@[simp] theorem disabled_answerBytes (b : List Byte) : (m.answerBytes b).disabled = m.disabled := rfl

/-! ## The fields that no shared update touches -/

/-- The fields that only a meaning of their own changes are in `a` as in `m`. -/
abbrev RestKept (a m : Mod) : Prop :=
  a.temps = m.temps ∧ a.keysSet = m.keysSet ∧ a.keyCtrs = m.keyCtrs ∧ a.nextToken = m.nextToken ∧ a.master = m.master ∧ a.nextDomain = m.nextDomain ∧
  a.kboot = m.kboot ∧ a.zeroising = m.zeroising ∧ a.zeroiseBegun = m.zeroiseBegun ∧ a.keeperBad = m.keeperBad ∧ a.repairDisabled = m.repairDisabled ∧
  a.errSeq = m.errSeq ∧ a.fatalAt = m.fatalAt ∧ a.haltAt = m.haltAt ∧ a.nextContext = m.nextContext ∧ a.hostLast = m.hostLast ∧
  a.lampStart = m.lampStart ∧ a.lampScrub = m.lampScrub ∧ a.msix = m.msix ∧ a.msixPending = m.msixPending ∧ a.ide = m.ide ∧ a.linkUp = m.linkUp ∧
  a.crossLost = m.crossLost ∧ a.countLoaded = m.countLoaded ∧ a.calDone = m.calDone ∧ a.badTimes = m.badTimes ∧ a.dieCounts = m.dieCounts ∧
  a.holdoverBt = m.holdoverBt ∧ a.wasState = m.wasState ∧ a.config = m.config ∧ a.configHeader = m.configHeader ∧ a.galHeader = m.galHeader ∧
  a.repairHeader = m.repairHeader ∧ a.repair = m.repair ∧ a.repairRecord = m.repairRecord ∧ a.stagings = m.stagings ∧ a.trims = m.trims

@[simp] theorem rest_wr (a : Nat) (v : W64) : RestKept (m.wr a v) m := by and_intros <;> rfl
@[simp] theorem rest_setF (a lo len v : Nat) : RestKept (m.setF a lo len v) m := by and_intros <;> rfl
@[simp] theorem rest_setFlag (a i : Nat) (b : Bool) : RestKept (m.setFlag a i b) m := by and_intros <;> rfl
@[simp] theorem rest_addCnt (a n : Nat) : RestKept (m.addCnt a n) m := by and_intros <;> rfl
@[simp] theorem rest_stage (a : Nat) (v : W64) : RestKept (m.stage a v) m := by and_intros <;> rfl
@[simp] theorem rest_unstage (a : Nat) : RestKept (m.unstage a) m := by and_intros <;> rfl
@[simp] theorem rest_st (a : Nat) (b : List Byte) : RestKept (m.st a b) m := by and_intros <;> rfl
@[simp] theorem rest_stNat (a n v : Nat) : RestKept (m.stNat a n v) m := by and_intros <;> rfl
@[simp] theorem rest_clearMem (lo hi : Nat) : RestKept (m.clearMem lo hi) m := by and_intros <;> rfl
@[simp] theorem rest_setTile (t : Nat) (x : Tile) : RestKept (m.setTile t x) m := by and_intros <;> rfl
@[simp] theorem rest_setThread (t th : Nat) (x : Thread) : RestKept (m.setThread t th x) m := by and_intros <;> rfl
@[simp] theorem rest_setBuoy (b : Nat) (x : Buoy) : RestKept (m.setBuoy b x) m := by and_intros <;> rfl
@[simp] theorem rest_setRing (r : Nat) (x : Ring) : RestKept (m.setRing r x) m := by and_intros <;> rfl
@[simp] theorem rest_setStack (k : Nat) (x : Stack) : RestKept (m.setStack k x) m := by and_intros <;> rfl
@[simp] theorem rest_setPart (s : Nat) (x : Part) : RestKept (m.setPart s x) m := by and_intros <;> rfl
@[simp] theorem rest_setPort (j : Nat) (x : Port) : RestKept (m.setPort j x) m := by and_intros <;> rfl
@[simp] theorem rest_setFlow (e k : Nat) (x : Flow) : RestKept (m.setFlow e k x) m := by and_intros <;> rfl
@[simp] theorem rest_setFeed (e : Nat) (x : Feed) : RestKept (m.setFeed e x) m := by and_intros <;> rfl
@[simp] theorem rest_setHalf (i : Nat) (x : Half) : RestKept (m.setHalf i x) m := by and_intros <;> rfl
@[simp] theorem rest_setKdie (d : Nat) (x : KDie) : RestKept (m.setKdie d x) m := by and_intros <;> rfl
@[simp] theorem rest_setKslot (s : Nat) (x : KSlot) : RestKept (m.setKslot s x) m := by and_intros <;> rfl
@[simp] theorem rest_setFirst (k : Nat) (x : ErrRec) : RestKept (m.setFirst k x) m := by and_intros <;> rfl
@[simp] theorem rest_answer (c : W16) : RestKept (m.answer c) m := by and_intros <;> rfl
@[simp] theorem rest_answerValue (v : W64) : RestKept (m.answerValue v) m := by and_intros <;> rfl
@[simp] theorem rest_answerBytes (b : List Byte) : RestKept (m.answerBytes b) m := by and_intros <;> rfl

end Sys2Proof.Machine.Mod
end

