-- ==== Sys2Proof/Laws/Ops.lean ====
section
/-! SUPPORT. What the shared operations do, once each: folds, register fields, module states, the lifts of meanings, an instruction that issues, a register write that arrives, buoys, host commands that are taken. -/

open Sys2Proof Sys2Proof.Machine Sys2Proof.Machine.Mod Sys2Proof.Safety

namespace Sys2Proof.Machine.Mod

/-! ## Folds -/

/-- What every step of a loop keeps, the loop keeps. -/
theorem forEach_keeps {P : Mod → Prop} (f : Mod → Nat → Mod) (l : List Nat) (h : ∀ m x, x ∈ l → P m → P (f m x)) : ∀ m, P m → P (forEach m l f) := by
  unfold forEach
  induction l with
  | nil => intro m hm; exact hm
  | cons a r ih => intro m hm; exact ih (fun m x hx => h m x (List.mem_cons_of_mem _ hx)) _ (h m a (List.mem_cons_self) hm)
/-- What every step of a fold keeps, the fold keeps. -/
theorem foldl_keeps {α : Type} {P : Mod → Prop} (f : Mod → α → Mod) (l : List α) (h : ∀ m x, x ∈ l → P m → P (f m x)) : ∀ m, P m → P (l.foldl f m) := by
  induction l with
  | nil => intro m hm; exact hm
  | cons a r ih => intro m hm; exact ih (fun m x hx => h m x (List.mem_cons_of_mem _ hx)) _ (h m a (List.mem_cons_self) hm)
/-- A table without the entries of some keys. -/
theorem get_filter_key {α : Type} (d : Nat → α) (l : List (Nat × α)) (q : Nat → Bool) (k : Nat) :
    Sparse.get d (l.filter (fun p => q p.1)) k = if q k then Sparse.get d l k else d k := by
  induction l with
  | nil => simp
  | cons x r ih =>
    obtain ⟨a, w⟩ := x
    by_cases hx : q a = true <;> by_cases hk : a = k <;> simp_all [Sparse.get]

/-! ## Registers and module states -/

theorem rd_setF_other (m : Mod) {a b : Nat} (lo len v : Nat) (h : b ≠ a) : (m.setF a lo len v).rd b = m.rd b := by simp [setF, rd_wr_other _ _ h]
theorem rd_setFlag_other (m : Mod) {a b : Nat} (i : Nat) (x : Bool) (h : b ≠ a) : (m.setFlag a i x).rd b = m.rd b := by simp [setFlag, setF, rd_wr_other _ _ h]
theorem rd_addCnt_other (m : Mod) {a b : Nat} (n : Nat) (h : b ≠ a) : (m.addCnt a n).rd b = m.rd b := by simp [addCnt, rd_wr_other _ _ h]
theorem flag_setFlag_other_bit (m : Mod) (a i j : Nat) (x : Bool) (h : j ≠ i) (hj : j < 64) : (m.setFlag a i x).flag a j = m.flag a j := by
  have e : (m.setFlag a i x).flag a j = bit (setBit (m.rd a) i x) j := by simp [flag, setFlag, setF, setBit]
  rw [e, bit_setBit_other _ _ _ _ hj h]; rfl
theorem modState_goState (m : Mod) (a b : Nat) (h : a < 16) : (m.goState a b).modState = a := by
  simp [goState, modState, fld, bf]; omega
theorem startPhase_goState (m : Mod) (a b : Nat) (h : a < 256) (h2 : b < 16) : (m.goState a b).startPhase = b := by
  simp [goState, startPhase, fld, bf]; omega
/-- A write of bits that a mask names, over a word whose other bits a second mask keeps. -/
theorem merge_all (old v w : W64) : merge (BitVec.allOnes 64 &&& w) old v = merge w old v := by rw [BitVec.allOnes_and]

/-! ## The lifts of meanings: where the unit exists and has power, the effect happens -/

theorem onWhen_next {s : State} {c : Bool} {f : Mod → Mod} (h : c = true) : onWhen s c f = .next { s with m := f s.m } := by simp [onWhen, h]
theorem onMain_next {s : State} {f : Mod → Mod} (h : s.m.mainUp = true) : onMain s f = .next { s with m := f s.m } := by simp [onMain, h]
theorem onTile_next {s : State} {t : Nat} {f : Mod → Mod} (h : s.m.mainUp = true) (ht : t < 1280) : onTile s t f = .next { s with m := f s.m } := by simp [onTile, onWhen, h, ht, numTiles]
theorem onSlot_next {s : State} {t : Nat} {f : Mod → Mod} (h : s.m.mainUp = true) (ht : t < 8) : onSlot s t f = .next { s with m := f s.m } := by simp [onSlot, onWhen, h, ht, numSlots]
theorem onStack_next {s : State} {t : Nat} {f : Mod → Mod} (h : s.m.mainUp = true) (ht : t < 32) : onStack s t f = .next { s with m := f s.m } := by simp [onStack, onWhen, h, ht, numStacks]
theorem onPort_next {s : State} {t : Nat} {f : Mod → Mod} (h : s.m.mainUp = true) (ht : t < 6) : onPort s t f = .next { s with m := f s.m } := by simp [onPort, onWhen, h, ht, numPorts]
theorem onBuoy_next {s : State} {t : Nat} {f : Mod → Mod} (h : s.m.mainUp = true) (ht : t < 8192) : onBuoy s t f = .next { s with m := f s.m } := by simp [onBuoy, onWhen, h, ht, numBuoys]
theorem onRing_next {s : State} {t : Nat} {f : Mod → Mod} (h : s.m.mainUp = true) (ht : t < 65536) : onRing s t f = .next { s with m := f s.m } := by simp [onRing, onWhen, h, ht, numRings]
theorem onFeed_next {s : State} {t : Nat} {f : Mod → Mod} (h : s.m.mainUp = true) (ht : t < 2) : onFeed s t f = .next { s with m := f s.m } := by simp [onFeed, onWhen, h, ht]

/-! ## Tile instructions -/

@[simp] theorem thread_icTouch (m : Mod) (t l u k : Nat) : (m.icTouch t l).thread u k = m.thread u k := by
  unfold icTouch thread modTile
  by_cases h : u = t <;> simp [tile_setTile, h]
@[simp] theorem queue_icTouch (m : Mod) (t l : Nat) : (m.icTouch t l).queue t = m.queue t := by
  funext u; simp [queue, icTouch, modTile]
@[simp] theorem issueSeq_icTouch (m : Mod) (t l : Nat) : ((m.icTouch t l).tile t).issueSeq = (m.tile t).issueSeq := by simp [icTouch, modTile]
/-- An instruction that can run and whose form is legal does what its body says (R101, R105, R106). -/
theorem does_issue {s : State} {c : Instr} {t th : Nat} {regs : List Nat} {legal : Bool} {body : Thread → Mod → Eff} {m' : Mod}
    (hc : exec c s = onIssue s t th regs legal body) (h : CanRun s.m t th regs) (hl : legal = true)
    (hb : finish t th (s.m.thread t th).pc (body (s.m.thread t th) (s.m.icTouch t (icLine (s.m.thread t th).pc))) = m') : Does c s m' := by
  obtain ⟨h1, h2, h3⟩ := h
  have : ¬ s.m.textLen t ≤ (s.m.thread t th).pc.toNat := by omega
  subst hl
  rw [Does, hc]
  simp [onIssue, onWhen, h1, issue, this, h3]
  exact hb
/-- A unit instruction then also starts the units of its tile that are free (R102). -/
theorem does_unit {s : State} {c : Instr} {t th : Nat} {regs : List Nat} {legal : Bool} {body : Thread → Mod → Eff} {m' : Mod}
    (hc : exec c s = onUnit s t th regs legal body) (h : CanRun s.m t th regs) (hl : legal = true)
    (hb : finish t th (s.m.thread t th).pc (body (s.m.thread t th) (s.m.icTouch t (icLine (s.m.thread t th).pc))) = m') : Does c s (m'.startUnits t) := by
  obtain ⟨h1, h2, h3⟩ := h
  have : ¬ s.m.textLen t ≤ (s.m.thread t th).pc.toNat := by omega
  subst hl
  rw [Does, hc]
  simp [onUnit, onWhen, h1, issue, this, h3]
  congr 1

/-! ## Register writes that arrive -/

/-- A write of an open tile's window that changes no KG bit (R85, R90). -/
theorem writeReg_tile {m : Mod} {who : Requester} {t : Nat} (h : TileOpen m who t) (o : Nat) (ho : o < 0x8_0000) (sp : RegSpec) (hs : tileSpec t o = some sp) (mask v : W64)
   (hk : mask &&& sp.kg &&& (m.rd (tileReg t o) ^^^ v) = 0) :
    m.writeReg who (tileReg t o) mask v = m.writeTile t o (m.written (tileReg t o) sp mask v) := by
  obtain ⟨h0, h1, h2, h3, h4, h5⟩ := h
  have a1 : (tileReg t o - 0x1000_0000) / 0x10_0000 = t := by simp only [tileReg, tileBase]; omega
  have a2 : tileReg t o % 0x10_0000 = o := by simp only [tileReg, tileBase]; omega
  have a3 : 0x1000_0000 ≤ tileReg t o := by simp only [tileReg, tileBase]; omega
  have a4 : tileReg t o < 0x6000_0000 := by simp only [tileReg, tileBase]; omega
  have a5 : mapped (tileReg t o) = true := by simp [mapped, a3, a4]
  have a6 : ¬ 0x8_0000 ≤ o := by omega
  simp [writeReg, a5, a3, a4, h1, a1, a2, writeTileWin, h3, h4, h5, a6, hs, hk]
/-- A write of the error block (R551). -/
theorem writeReg_err (m : Mod) (who : Requester) (o : Nat) (ho : o < 0x2_0000) (sp) (hs : regSpec (errReg o) = some sp) (mask v : W64) :
    m.writeReg who (errReg o) mask v = m.writeErr o sp mask v := by
  have e : errReg o = 0x80_0000 + o := rfl
  have a5 : mapped (errReg o) = true := by simp [mapped, e]; omega
  have a6 : onStandby (errReg o) = true := by simp [onStandby, e]; omega
  unfold writeReg
  rw [if_neg (by rw [a5]; decide), if_neg (by omega), if_neg (by omega), if_neg (by omega), if_neg (by rw [a6]; simp), hs]
  dsimp only
  iterate 4 rw [if_neg (by omega)]
  rw [if_pos (by omega)]
  rw [show errReg o - 0x80_0000 = o from by omega]

/-! ## Buoys -/

@[simp] theorem buoy_sendRelease (m : Mod) (w x) (k) : (m.sendRelease w x).buoy k = m.buoy k := by cases w <;> rfl
@[simp] theorem buoy_sendWatch (m : Mod) (b w st v) (k) : (m.sendWatch b w st v).buoy k = m.buoy k := by
  unfold sendWatch answerWatch
  dsimp only
  repeat' split
  all_goals rfl
@[simp] theorem buoy_sendGates (m : Mod) (b subs st v) (k) : (m.sendGates b subs st v).buoy k = m.buoy k := by
  unfold sendGates
  apply forEach_keeps (P := fun n => n.buoy k = m.buoy k)
  · intro n x _ h; rw [← h]; rfl
  · rfl
/-- The waiters whose condition the value meets leave, in order (R279, R280). -/
theorem waiters_evalBuoy (m : Mod) (b : Nat) : ((m.evalBuoy b).buoy b).waiters = (m.buoy b).waiters.filter (fun w => !condHolds w.cond (m.buoy b).value w.value w.mask) := by
  unfold evalBuoy
  simp only [buoy_sendGates]
  rw [foldl_keeps (P := fun n => n.buoy b = _) (fun m w => m.sendWatch b w 0 _) _ (fun n x _ h => by rw [buoy_sendWatch]; exact h) _ rfl]
  rw [foldl_keeps (P := fun n => n.buoy b = _) (fun m (w : WaitEntry) => m.sendRelease w.who .met) _ (fun n x _ h => by rw [buoy_sendRelease]; exact h) _ rfl]
  simp
/-- An evaluation changes no value. -/
theorem value_evalBuoy (m : Mod) (b : Nat) : ((m.evalBuoy b).buoy b).value = (m.buoy b).value := by
  unfold evalBuoy
  simp only [buoy_sendGates]
  rw [foldl_keeps (P := fun n => n.buoy b = _) (fun m w => m.sendWatch b w 0 _) _ (fun n x _ h => by rw [buoy_sendWatch]; exact h) _ rfl]
  rw [foldl_keeps (P := fun n => n.buoy b = _) (fun m (w : WaitEntry) => m.sendRelease w.who .met) _ (fun n x _ h => by rw [buoy_sendRelease]; exact h) _ rfl]
  simp

/-! ## Host commands -/

/-- A command that Gallery takes and whose common checks pass runs on the module that holds it (R498 to R504). -/
theorem serve_taken {s : State} {ch op b} (h : Serves s.m ch op b) (f : Mod → HostCmd → CmdResult) : 
   s.m.serve ch op f = endCmd (commandOf s.m ch b) (f (Taking s.m ch b) (commandOf s.m ch b)) := by
  obtain ⟨⟨h1, h2, h3, h4, h5⟩, h6⟩ := h
  simp only [serve, h1, h2, h3, h4, h5]
  simp
  change endCmd (commandOf s.m ch b) (if (Taking s.m ch b).commonCode ch b = 0 then f (Taking s.m ch b) (commandOf s.m ch b) else _) = _
  rw [if_pos h6]

end Sys2Proof.Machine.Mod
end

