-- ==== Sys2Proof/WellFormed.lean ====
section
/-! DEFINITION. Which commands name only units that the module has (R31 and the counts of the chapters).  The meanings are total; a command that is not well formed names a unit that does not exist. -/

namespace Sys2Proof

/-- A logical tile (R23). -/
def tileOk (t : Nat) : Bool := decide (t < 1280)
/-- A thread of a sequencer (R95). -/
def threadOk (th : Nat) : Bool := decide (th < 4)
/-- A partition slot (R29). -/
def slotOk (s : Nat) : Bool := decide (s < 8)
/-- A half 2d + h of a compute die. -/
def halfOk (i : Nat) : Bool := decide (i < 16)
/-- A die by its bit of MOD_DIES (R36). -/
def dieOk (d : Nat) : Bool := decide (d < 32)
/-- A dowel (R52). -/
def dowelOk (d : Nat) : Bool := decide (d < 256)
/-- A jig (R59). -/
def jigOk (j : Nat) : Bool := decide (j < 6)
/-- A Jicen port (R403). -/
def portOk (j : Nat) : Bool := decide (j < 6)
/-- A scratchpad quarter (R45). -/
def quarterOk (q : Nat) : Bool := decide (q < 4)
/-- A pseudo-channel of a stack (R31). -/
def channelOk (q : Nat) : Bool := decide (q < 32)
/-- A buoy (R273). -/
def buoyOk (b : Nat) : Bool := decide (b < 8192)
/-- An HBM stack (R16). -/
def stackOk (s : Nat) : Bool := decide (s < 32)
/-- A ring (R293). -/
def ringOk (r : Nat) : Bool := decide (r < 65536)
/-- A shard entry of a plane (R324). -/
def entryOk (e : Nat) : Bool := decide (e < 256)
/-- A Feed interface (R429). -/
def ifaceOk (e : Nat) : Bool := decide (e < 2)
/-- A flow of a Feed interface (R431). -/
def flowOk (k : Nat) : Bool := decide (k < 2048)
/-- A lane of a Jicen port (R407). -/
def laneOk (l : Nat) : Bool := decide (l < 40)
/-- A mailbox channel (R461). -/
def mailboxOk (c : Nat) : Bool := decide (c < 2)
/-- A stream descriptor of a tile (R244). -/
def descOk (d : Nat) : Bool := decide (d < 2048)
/-- An exchange record of a partition (R214). -/
def recordOk (n : Nat) : Bool := decide (n < 1024)
/-- An HBM line as a veneer tag names it (R71). -/
def lineOk (h : Nat) : Bool := decide (h < 2 ^ 32)

/-- A channel of host commands (R499, R500). -/
def Channel.wf : Channel → Bool
  | .mcmd => true
  | .ring r => ringOk r
/-- A report of a check (R528). -/
def StoreFault.wf : StoreFault → Bool
  | .corrected t a => tileOk t && decide (a < 2 ^ 25)
  | .tile t _ loc => tileOk t && decide (loc < 2 ^ 25)
  | .cacheLine t => tileOk t
  | .beacon die => dieOk die
  | .buoy b => buoyOk b
  | .ring r => ringOk r
  | .plane k e => stackOk k && entryOk e
  | .port j => portOk j
  | .feed e => ifaceOk e
  | .host via _ _ => via.wf
  | .errorBlock => true
  | .keeper _ => true
/-- A source of a buoy operation (R290). -/
def Source.wf : Source → Bool
  | .thread t th => tileOk t && threadOk th
  | .ring r => ringOk r
  | .plane s => stackOk s
  | .gallery c => decide (c < 8)
  | .jicen m => decide (m < 4096)
  | .done t => tileOk t
  | .none => true
  | .host => true
  | .keeper => true
/-- A unit that waits at a buoy (R280). -/
def Waiter.wf : Waiter → Bool
  | .thread t th => tileOk t && threadOk th
  | .ringHead r => ringOk r
/-- A node of the exchange fabric. -/
def NodeId.wf : NodeId → Bool
  | .tile t => tileOk t
  | .edge t => tileOk t
  | .link j => portOk j

/-- A command that names only units the module has. -/
def Instr.wf : Instr → Bool
  | .powerOn _ => true
  | .standbyRailsGood => true
  | .keeperBootComplete _ => true
  | .mainRailsRamped => true
  | .tileSelfTestDone _ => true
  | .hbmTrainingDone _ => true
  | .jicenTrainingPhaseDone => true
  | .beaconLockPhaseEnd => true
  | .powerLoss => true
  | .inputOvervoltage => true
  | .thermNAssert => true
  | .thermNDeassert => true
  | .modRstNAssert => true
  | .modRstNRelease => true
  | .throttleUpdate _ => true
  | .headroomUpdate _ => true
  | .overpowerDetect _ => true
  | .thermRelease => true
  | .sensorSample _ => true
  | .railSettled i => halfOk i
  | .railFault die => dieOk die
  | .darkMainRailRemoval => true
  | .partitionPowerUpDone slot _ => slotOk slot
  | .clearFaults => true
  | .capability => true
  | .statusWord => true
  | .statusInput => true
  | .statusTemperature => true
  | .readVin => true
  | .readIin => true
  | .readPin => true
  | .readTemperature1 => true
  | .readTemperature2 => true
  | .readTemperature3 => true
  | .pmbusRevision => true
  | .mfrId => true
  | .mfrModel => true
  | .mfrSerial => true
  | .mfrPowerCap _ => true
  | .pmbusUnsupportedCode _ => true
  | .fruRead off len => decide (off + len ≤ 2048)
  | .bypass => true
  | .idcode => true
  | .samplePreload => true
  | .extest => true
  | .perstNAssert => true
  | .perstNDeassert => true
  | .functionLevelReset => true
  | .pcieLinkDown => true
  | .mark => true
  | .stepBoundaryMark slot => slotOk slot
  | .beaconCheckWord die _ => dieOk die
  | .bcnCmdAlign _ => true
  | .bcnCmdRecal _ => true
  | .bcnCtlWrite _ _ => true
  | .halfClkWrite _ i _ => halfOk i
  | .halfPllLocked i => halfOk i
  | .halfClockSwitchDone i => halfOk i
  | .halfPllLockLoss i => halfOk i
  | .modulePllLocked => true
  | .beaconAligned _ => true
  | .modulePllLockLoss => true
  | .holdoverEntry _ => true
  | .holdoverLimit => true
  | .beaconSteer _ => true
  | .trimRecalibration die _ => dieOk die
  | .ppsInEdge => true
  | .ppsOutRise => true
  | .ppsOutFall => true
  | .tileEnable _ t => tileOk t
  | .tileDisable _ t => tileOk t
  | .dowelValidSet _ t d _ => tileOk t && dowelOk d
  | .dowelValidClear _ t d => tileOk t && dowelOk d
  | .jigEnable _ t j _ => tileOk t && jigOk j
  | .jigDisable _ t j => tileOk t && jigOk j
  | .veneerCtlWrite _ t _ => tileOk t
  | .veneerFlushDone t => tileOk t
  | .veneerLineFill t q h _ => tileOk t && quarterOk q && lineOk h
  | .eccCorrectionWrite f => f.wf
  | .mitreDone t => tileOk t
  | .tileScrubDone t _ => tileOk t
  | .scratchpadApertureAccess _ t _ _ => tileOk t
  | .numCtlWrite _ t _ => tileOk t
  | .seqDbgResume _ t => tileOk t
  | .illegalInstruction t th _ => tileOk t && threadOk th
  | .nop t th _ => tileOk t && threadOk th
  | .br t th _ => tileOk t && threadOk th
  | .jr t th _ => tileOk t && threadOk th
  | .call t th _ => tileOk t && threadOk th
  | .ret t th _ => tileOk t && threadOk th
  | .loop t th _ => tileOk t && threadOk th
  | .loopi t th _ => tileOk t && threadOk th
  | .tstart t th _ => tileOk t && threadOk th
  | .endThread t th _ => tileOk t && threadOk th
  | .fence t th _ => tileOk t && threadOk th
  | .lend t th _ => tileOk t && threadOk th
  | .add t th _ => tileOk t && threadOk th
  | .sub t th _ => tileOk t && threadOk th
  | .mul t th _ => tileOk t && threadOk th
  | .mulhs t th _ => tileOk t && threadOk th
  | .mulhu t th _ => tileOk t && threadOk th
  | .andI t th _ => tileOk t && threadOk th
  | .orI t th _ => tileOk t && threadOk th
  | .xorI t th _ => tileOk t && threadOk th
  | .shl t th _ => tileOk t && threadOk th
  | .shr t th _ => tileOk t && threadOk th
  | .sra t th _ => tileOk t && threadOk th
  | .minI t th _ => tileOk t && threadOk th
  | .maxI t th _ => tileOk t && threadOk th
  | .slt t th _ => tileOk t && threadOk th
  | .sltu t th _ => tileOk t && threadOk th
  | .movi t th _ => tileOk t && threadOk th
  | .aadd t th _ => tileOk t && threadOk th
  | .amov t th _ => tileOk t && threadOk th
  | .aget t th _ => tileOk t && threadOk th
  | .lcget t th _ => tileOk t && threadOk th
  | .ldw t th _ => tileOk t && threadOk th
  | .stw t th _ => tileOk t && threadOk th
  | .csrr t th _ => tileOk t && threadOk th
  | .csrw t th _ => tileOk t && threadOk th
  | .bcnt t th _ => tileOk t && threadOk th
  | .jctl t th _ => tileOk t && threadOk th
  | .jfill t th _ => tileOk t && threadOk th
  | .jbase t th _ => tileOk t && threadOk th
  | .jdim t th _ => tileOk t && threadOk th
  | .jdax t th _ => tileOk t && threadOk th
  | .jaxis t th _ => tileOk t && threadOk th
  | .jen t th _ => tileOk t && threadOk th
  | .jdis t th _ => tileOk t && threadOk th
  | .jwait t th _ => tileOk t && threadOk th
  | .mitre t th _ => tileOk t && threadOk th
  | .mma t th _ => tileOk t && threadOk th
  | .mlatch t th _ => tileOk t && threadOk th
  | .ocfg t th _ => tileOk t && threadOk th
  | .ovec t th _ => tileOk t && threadOk th
  | .oclamp t th _ => tileOk t && threadOk th
  | .odrain t th _ => tileOk t && threadOk th
  | .vop t th _ => tileOk t && threadOk th
  | .vred t th _ => tileOk t && threadOk th
  | .quant t th _ => tileOk t && threadOk th
  | .rkey t th _ => tileOk t && threadOk th
  | .rctr t th _ => tileOk t && threadOk th
  | .rand t th _ => tileOk t && threadOk th
  | .sample t th _ => tileOk t && threadOk th
  | .bsig t th _ => tileOk t && threadOk th
  | .bcas t th _ => tileOk t && threadOk th
  | .bwait t th _ => tileOk t && threadOk th
  | .bread t th _ => tileOk t && threadOk th
  | .rpush t th _ => tileOk t && threadOk th
  | .xarm t th _ => tileOk t && threadOk th
  | .xwait t th _ => tileOk t && threadOk th
  | .mwait t th _ => tileOk t && threadOk th
  | .pref t th _ => tileOk t && threadOk th
  | .stag t th _ => tileOk t && threadOk th
  | .trapI t th _ => tileOk t && threadOk th
  | .brk t th _ => tileOk t && threadOk th
  | .icLineFill t th => tileOk t && threadOk th
  | .seqClockGate t => tileOk t
  | .threadWake t th => tileOk t && threadOk th
  | .tileDoneSignal t => tileOk t
  | .buoyRefusalArrival t => tileOk t
  | .numTableUpdate t => tileOk t
  | .xchRecordWrite _ slot n _ _ => slotOk slot && recordOk n
  | .launchVote slot => slotOk slot
  | .phaseLaunch slot => slotOk slot
  | .phaseEnd slot => slotOk slot
  | .kerfEnd slot => slotOk slot
  | .xchSendWord t desc _ => tileOk t && descOk desc
  | .xchRecvWord t _ => tileOk t
  | .nodeWordCombine node _ => node.wf
  | .buoyAdd src b _ => src.wf && buoyOk b
  | .buoySet src b _ => src.wf && buoyOk b
  | .buoyCas src b _ _ => src.wf && buoyOk b
  | .buoyRead src b => src.wf && buoyOk b
  | .buoyWaitRequest w b => w.wf && buoyOk b
  | .watchRegistration _ b _ => buoyOk b
  | .watchTimeout b _ => buoyOk b
  | .watchCancel b _ _ => buoyOk b
  | .gateSubscribe s b => stackOk s && buoyOk b
  | .buoyOwnerReset b => buoyOk b
  | .buoyPreempt b => buoyOk b
  | .buoyOpAdd _ b _ => buoyOk b
  | .buoyOpSet _ b _ => buoyOk b
  | .ringEnable _ r _ => ringOk r
  | .ringDisable _ r => ringOk r
  | .ringStopped r => ringOk r
  | .ringDoorbell _ r _ => ringOk r
  | .completionDoorbell _ r _ => ringOk r
  | .ringEntryStart r _ => ringOk r
  | .ringHeadRelease r => ringOk r
  | .ringEntryComplete r _ => ringOk r
  | .ringSignalAnswer r _ => ringOk r
  | .ringStallRelease r => ringOk r
  | .dmaLoad r => ringOk r
  | .dmaStore r => ringOk r
  | .dmaCopy r => ringOk r
  | .dmaMitre r => ringOk r
  | .dmaSync r => ringOk r
  | .arbiterGrant s q l => stackOk s && channelOk q && l.all (fun x => decide (x.x < 105)) && decide ((l.map (·.x)).Nodup)
  | .hbmAccessComplete s a => stackOk s && decide (1 ≤ a.size) && decide (a.off % 1024 + a.size ≤ 1024)
  | .refresh s q => stackOk s && channelOk q
  | .hbmScrubDone s => stackOk s
  | .arbCtlWrite _ s _ => stackOk s
  | .pcRetire _ s q => stackOk s && channelOk q
  | .pcReturn _ s q => stackOk s && channelOk q
  | .pcSparingCopyDone s q => stackOk s && channelOk q
  | .pcReturnDone s q _ => stackOk s && channelOk q
  | .grad r => ringOk r
  | .discard r => ringOk r
  | .redo r => ringOk r
  | .setRule r => ringOk r
  | .setShard r => ringOk r
  | .gateMessage s b _ _ => stackOk s && buoyOk b
  | .planeUpdatePassEnd s e _ => stackOk s && entryOk e
  | .planeZeroingDone s e => stackOk s && entryOk e
  | .stepDecision1 slot => slotOk slot
  | .stepSettle slot => slotOk slot
  | .stepDecision2 slot => slotOk slot
  | .stepRollback slot => slotOk slot
  | .voteTimeout slot => slotOk slot
  | .settleTimeout slot => slotOk slot
  | .steerEntryCheck slot => slotOk slot
  | .steerPush _ slot => slotOk slot
  | .reshardStepEnd slot _ => slotOk slot
  | .jicenPortEnable _ j _ => portOk j
  | .jicenPortDisable _ j => portOk j
  | .jicenTrainingDone j => portOk j
  | .jicenTrainingTimeout j => portOk j
  | .neighbourIdentity j _ => portOk j
  | .portAdmit j _ => portOk j
  | .portAdmissionMark j => portOk j
  | .jcCmdRetrain _ j => portOk j
  | .jcCmdSwap _ j lane => portOk j && laneOk lane
  | .jicenSlot j => portOk j
  | .compiledFrame j _ => portOk j
  | .put j _ => portOk j
  | .putAck j _ => portOk j
  | .get j _ => portOk j
  | .getData j _ => portOk j
  | .buoyMessage j _ => portOk j
  | .buoyRsp j _ => portOk j
  | .vote j _ => portOk j
  | .laneSwap j lane spare _ => portOk j && laneOk lane && laneOk spare
  | .laneSwitch j lane => portOk j && laneOk lane
  | .laneDuplicationEnd j lane => portOk j && laneOk lane
  | .laneFault j lane _ _ => portOk j && laneOk lane
  | .ackBlock j _ => portOk j
  | .time j _ => portOk j
  | .calReq j _ => portOk j
  | .calRsp j _ => portOk j
  | .reservedControlBlock j _ _ => portOk j
  | .replayTimeout j => portOk j
  | .jicenEntryPut r => ringOk r
  | .jicenEntryGet r => ringOk r
  | .jicenEntryBuoy r => ringOk r
  | .rwaitPoll j _ => portOk j
  | .rwaitTimeout j _ => portOk j
  | .feedData e _ => ifaceOk e
  | .feedAck e _ => ifaceOk e
  | .nonFeedFrame e _ => ifaceOk e
  | .pfcPauseFrame e _ => ifaceOk e
  | .feedXon e => ifaceOk e
  | .feedAckTimer e k => ifaceOk e && flowOk k
  | .feedRtoExpiry e k _ => ifaceOk e && flowOk k
  | .feedIdleTimeout e k => ifaceOk e && flowOk k
  | .feedRecv r => ringOk r
  | .feedSend r => ringOk r
  | .ethernetLinkDown e => ifaceOk e
  | .ethernetLinkUp e => ifaceOk e
  | .keyLoad die => dieOk die
  | .keyClear die => dieOk die
  | .domain die => dieOk die
  | .lock die => dieOk die
  | .unlock die => dieOk die
  | .measureReq die => dieOk die
  | .measureRsp die => dieOk die
  | .zeroiseMessage die => dieOk die
  | .keeperBusAck die _ => dieOk die
  | .debugGate die => dieOk die
  | .keeperBusTimeout die => dieOk die
  | .periodicMeasure => true
  | .mbGo _ ch => mailboxOk ch
  | .mbAck _ ch => mailboxOk ch
  | .getStatus => true
  | .getIdentity => true
  | .getMeasurements => true
  | .attest => true
  | .deliverJobKey _ => true
  | .sealingConfirm slot => slotOk slot
  | .loadFeedEpoch => true
  | .sealExport => true
  | .teardown => true
  | .teardownScrubDone slot => slotOk slot
  | .kemKeyExpiry slot => slotOk slot
  | .openDomain => true
  | .scrubPartition => true
  | .flashWrite => true
  | .flashCommit _ => true
  | .advanceSvn => true
  | .galleryRestart _ => true
  | .debugEnable => true
  | .debugDisable => true
  | .zeroise => true
  | .hiMcmdGo _ => true
  | .hiMcmdAck _ => true
  | .hostNop via => via.wf
  | .modQuery via => via.wf
  | .modHalt via => via.wf
  | .modResume via => via.wf
  | .modStandby via => via.wf
  | .modWake via => via.wf
  | .partCreate via => via.wf
  | .partDelete via => via.wf
  | .partPower via => via.wf
  | .planLoad via => via.wf
  | .progLoad via => via.wf
  | .ctxNew via => via.wf
  | .jobStart via _ => via.wf
  | .jobStop via => via.wf
  | .reshard via => via.wf
  | .exportCheckpoint via _ => via.wf
  | .ctxSave via => via.wf
  | .ctxSaveWritten slot => slotOk slot
  | .ctxRestore via _ _ => via.wf
  | .ctxReset via => via.wf
  | .ctxDiscard via => via.wf
  | .buoyAlloc via => via.wf
  | .buoyRelease via => via.wf
  | .buoyWatch via => via.wf
  | .buoyWatchCancel via => via.wf
  | .csrRead via => via.wf
  | .csrWrite via => via.wf
  | .telemRead via => via.wf
  | .lampTest via => via.wf
  | .lampTestEnd _ => true
  | .registerWrite who space addr _ _ => (match space with
      | .module => true
      | .bar0 => decide (who = .host) && decide (addr.toNat < 2 ^ 26)
      | .bar2 => decide (who = .host) && decide (addr.toNat < 2 ^ 16))
  | .errFeValidWrite _ _ => true
  | .handlingDeadline slot => slotOk slot
  | .moduleFatalDeadline => true
  | .zeroiseStartTimeout => true
  | .zeroiseRoundDone => true
  | .partitionFaultReached slot => slotOk slot
  | .pcieLinkUp => true
  | .transitFrame j _ => portOk j
  | .unitInstructionDone t _ => tileOk t
  | .doeRequest _ => true
  | .partitionPowerDownDone slot => slotOk slot
  | .modStandbyDone => true

end Sys2Proof
end

