-- ==== Sys2Proof/Tests/Slice0.lean ====
section
/-! SUPPORT. Tests: ill-formed commands that WellFormed refuses, tile instruction words, one-step checks, and for every statement states that meet its hypotheses. -/

open Sys2Proof Sys2Proof.Machine Sys2Proof.Machine.Mod Sys2Proof.Safety

namespace Sys2Proof.Tests

set_option Elab.async false

/-- The state of a module with no command waiting. -/
def st (m : Mod) : State := { pending := [], m := m }
/-- The module in a state and start-up phase. -/
def at_ (s p : Nat) : Mod := State.reset.m.goState s p
/-- READY, with a partition in slot 0 on compute die 0. -/
def up : Mod := (at_ 2 0).setF MOD_PART_MAP 0 4 8
/-- The Beacon LOCKED at a count. -/
def ticking (m : Mod) (c : Nat) : Mod := { m.setF BCN_STATUS 0 4 3 with running := true, count := BitVec.ofNat 64 c }

/-! ## Hypotheses of the statements -/

theorem witness_idle_step :
    (ticking up 0).halted = false ∧ (ticking up 0).bcnState ≠ 4 ∧ (ticking up 0).running = true ∧ (0 + 1) % (ticking up 0).markPeriod ≠ 0 ∧
    up.running = false ∧ up.bcnState ≠ 4 ∧ ((ticking up 4095).count.toNat + 1) % (ticking up 4095).markPeriod = 0 := by decide

theorem witness_stores : Memory.wf (up.stNat 7 4 0x0100_0002).mem = true ∧ (up.stNat 7 4 0x0100_0002).mem.length = 2 ∧ 48 + 16 ≤ 64 ∧
    Sparse.wf regReset (up.setF PWR_CAP 0 16 3000).regs = true ∧ ((up.wr CNT_CORR (BitVec.allOnes 64)).rd CNT_CORR).toNat + 1 = 2 ^ 64 ∧ (up.rd CNT_CORR).toNat + 1 < 2 ^ 64 := by decide

theorem witness_start_up :
    (at_ 0 0).modState = 0 ∧ (State.reset.m.board.pwrEn = true ∧ State.reset.m.board.pwrGood = false ∧ State.reset.m.board.modRstLow = false ∧ State.reset.m.modState = 1 ∧ State.reset.m.startPhase = 0) ∧
    ((at_ 1 2).setF KPR_STATUS 0 4 2).startHeld = false ∧ ((at_ 1 2).setF KPR_STATUS 0 4 2).fld KPR_STATUS 0 4 = 2 ∧ ((at_ 1 2).setF KPR_STATUS 0 4 2).startPhase = 2 ∧
    ((at_ 1 3).modState = 1 ∧ (at_ 1 3).startPhase = 3 ∧ (at_ 1 3).startHeld = false) ∧ ((at_ 1 4).startPhase = 4 ∧ (at_ 1 4).startHeld = false) ∧
    ((at_ 1 5).startPhase = 5 ∧ (at_ 1 5).startHeld = false) ∧ ((at_ 1 6).modState = 1 ∧ (at_ 1 6).startPhase = 6 ∧ (at_ 1 6).startHeld = false ∧ (at_ 1 6).cmds = []) := by decide

theorem witness_keeper_boot : (at_ 1 1).modState = 1 ∧ (at_ 1 1).startPhase = 1 ∧ (at_ 1 1).startHeld = false ∧ (at_ 1 1).keeperState = 0 ∧ (at_ 1 1).fatalStopped = false := by decide

theorem witness_supply :
    up.modState ≠ 0 ∧ up.modState ≠ 5 ∧ (at_ 5 0).modState = 5 ∧ ({ at_ 5 0 with board := { (at_ 5 0).board with modRstLow := true } } : Mod).board.modRstLow = true ∧
    23 < 24 ∧ (24 ≤ 31 ∧ 31 < 32) ∧ up.mainUp = true ∧ ((up.setHalf 15 { target := some 100 }).half 15).target.isSome = true := by decide

theorem witness_therm_pin : up.modState = 2 ∧ up.thermLow = false ∧ (at_ 3 0).modState = 3 ∧ (at_ 3 0).thermLow = false ∧ up.board.thermSrc = [] := by decide

theorem witness_power :
    up.modState ≠ 0 ∧ ¬ (nextThrottle up.throttle 0 up.capW = 8 ∧ up.capW < 0) ∧
    ((up.setF PWR_STATUS 4 4 8).throttle = 8 ∧ 105 * (up.setF PWR_STATUS 4 4 8).powerMax < 100 * 20000) ∧
    (({ up with board := { up.board with thermSrc := [overpowerSrc] } } : Mod).board.boardTherm = false) ∧
    (15 < 16 ∧ up.board.thermSrc.contains 15 = false ∧ hotter 0x190 95 = false ∧ atLeast 0x190 105 = false ∧ atLeast 0x190 115 = false) := by decide

theorem witness_throttle : nextThrottle 8 3000 2900 = 8 ∧ nextThrottle 0 3000 2900 = 1 ∧ nextThrottle 0 100 2900 = 0 ∧ nextThrottle 5 2842 2900 = 5 ∧ nextThrottle 5 2841 2900 = 4 := by decide

theorem witness_board : up.modState ≠ 0 ∧ 2000 ≤ fromLinear11 0x1BFF ∧ fromLinear11 0x1BFF ≤ ({ up with config := [100, 50, 0, 0, 0xA4, 0x38, 0, 0] } : Mod).powerMax ∧
    fromLinear11 0x03FF < 2000 ∧ up.powerMax < 20000 := by decide

/-- READY with the PCIe link up and Gallery serving. -/
def linked : Mod := { (up.setF HI_STATUS 0 4 1) with linkUp := true }

theorem witness_pcie : up.modState ≠ 0 ∧ linked.linkUp = true ∧ up.linkUp = false ∧ up.board.perstLow = false ∧ linked.hostServed = true ∧ 3 < 4 := by decide

/-- The Beacon in one of its states, with SRC_PORT 2 as its source. -/
def beacon (b : Nat) : Mod := ((ticking (at_ 2 0) 0).setF BCN_STATUS 0 4 b).wr BCN_CTL (setBf (setBf ((at_ 2 0).rd BCN_CTL) 0 3 1) 4 3 2)

theorem witness_beacon_writes :
    ((at_ 2 0).setF BCN_STATUS 0 4 2).modState = 2 ∧ ((at_ 2 0).setF BCN_STATUS 0 4 2).rd MOD_PART_MAP = 0 ∧ 2 ≤ ((at_ 2 0).setF BCN_STATUS 0 4 2).bcnState ∧
    up.rd MOD_PART_MAP ≠ 0 ∧ (at_ 3 0).modState = 3 ∧
    (merge 0x1F_0777 (up.rd BCN_CTL) 0x000D_0770 ≠ up.rd BCN_CTL ∧ bcnCtlOk (merge 0x1F_0777 (up.rd BCN_CTL) 0x000D_0770) = true) ∧
    (up.halfSealedSteering 15 = false ∧ up.freqOk (bf (merge 0xFF_00FF (up.stagedWord (HALF_CLK 15)) 0x0032_008C) 0 8) = true ∧
      up.freqOk (bf (merge 0xFF_00FF (up.stagedWord (HALF_CLK 15)) 0x0032_008C) 16 8) = true) := by decide

theorem witness_half_clocks : up.mainUp = true ∧ ((up.setHalf 15 { target := some 100 }).half 15).target.isSome = true ∧ (ticking up 9).running = true ∧ 31 < 32 ∧ (8 : W64) ≠ (ticking up 9).count := by decide

theorem witness_beacon_states :
    (((at_ 1 6).setF BCN_STATUS 0 4 1).bcnState = 1 ∧ ((at_ 1 6).setF BCN_STATUS 0 4 1).bcnSource = 0) ∧ ((beacon 1).bcnState = 1 ∧ (beacon 1).bcnSource ≠ 0) ∧
    (({ beacon 2 with countLoaded := true } : Mod).bcnState = 2 ∧ ({ beacon 2 with countLoaded := true } : Mod).aligned = true ∧ residNear 0 = true) ∧ ((beacon 3).bcnState = 3 ∧ (beacon 3).bcnSource ≠ 0) ∧
    (({ beacon 4 with holdoverBt := 1_000_000 } : Mod).bcnState = 4 ∧ (beacon 4).crossLost = false) ∧ residFar 0 = false ∧ residFar 0x7FFF = true := by decide

theorem witness_pps : (up.setFlag BCN_PPS_CTL 1 true).flag BCN_PPS_CTL 1 = true ∧ up.flag BCN_PPS_CTL 1 = false ∧
    ((ticking (up.setFlag BCN_PPS_CTL 0 true) 1_250_000_000).flag BCN_PPS_CTL 0 = true ∧ (ticking up 1_250_000_000).count.toNat % 1_250_000_000 = 0) ∧
    125_000 ≤ (ticking up 1_250_125_000).count.toNat % 1_250_000_000 := by decide

theorem witness_mark : (ticking up 4096).running = true ∧ (ticking up 4096).nextMark % (ticking up 4096).markPeriod = 0 ∧ (ticking up 4096).count.toNat < (ticking up 4096).nextMark := by decide

/-- At a mark, with a job in slot 0. -/
def marked (j : Job) : Mod := (ticking up 0).modPart 0 (fun y => { y with job := some j })

theorem witness_step_boundary :
    (marked {}).mainUp = true ∧ ((marked {}).part 0).job = some {} ∧ (marked {}).atMark = true ∧ (marked {}).halted = false ∧ (marked {}).handling 0 < 2 ∧ (marked {}).fatalStopped = false ∧
    ((marked { started := true }).setF (STEP_STATUS 0) 0 4 5).stepEnds 0 = true ∧ (marked { started := true }).stepEnds 0 = false ∧
    (up.part 7).job = none ∧ (ticking up 1).atMark = false := by decide

/-- Tile 0 of slot 0 is IDLE; its dowel 0 is a VALID PROGRAM dowel of one row. -/
def idle : Mod := ((up.setF (TILE_STATUS 0) 0 4 2).wr (DOWEL0 0 0) 0xA000_0000_0001_0000)
/-- And a text of two words stands in it, with thread 0 in the mask. -/
def loaded : Mod := idle.wr (SEQ_PROG 0) 0x2_0000_1000
/-- And the tile runs. -/
def running_ : Mod := (loaded.setF (TILE_STATUS 0) 0 4 3).setFlag (TILE_CTL 0) 0 true

theorem witness_tile_open :
    idle.modState ≠ 0 ∧ idle.mainUp = true ∧ idle.shut .host (idle.slotOfTile 0) = false ∧ idle.scrubbing 0 = false ∧ idle.tileState 0 ≠ 0 ∧
    (up.setF (TILE_STATUS 159) 0 4 2).shut .gallery (up.slotOfTile 159) = false ∧ (up.setF (TILE_STATUS 159) 0 4 2).tileState 159 ≠ 0 := by decide

theorem witness_tile_control :
    loaded.tileEnabled 0 = false ∧ loaded.lockedOwner (loaded.slotOfTile 0) = false ∧ loaded.enableCheck 0 = 0 ∧ idle.enableCheck 0 = 0x0302 ∧
    (loaded.setKdie 0 { debug := true }).gateOpen 0 = true ∧ loaded.gateOpen 0 = false := by decide

theorem witness_dowels_and_jigs :
    (up.dowelValid 0 255 = false ∧ (up.wr (DOWEL0 0 255) (setBit (merge 0xF803_FF00_3FFF_1FFF (up.rd (DOWEL0 0 255)) (setBit 0x0000_0000_2000_0000 63 true)) 63 false)).dowelCheck 0 255 = 0) ∧
    (idle.dowelValid 0 0 = true ∧ idle.dowelInUse 0 0 = false) ∧ running_.dowelInUse 0 0 = true ∧
    ((idle.wr (DOWEL0 0 1) 0x8000_0000_0001_0000).jigOn 0 5 = false ∧
      ((((idle.wr (DOWEL0 0 1) 0x8000_0000_0001_0000).wr (JIG_CTL 0 0) (setBit (merge 0xFFFC_0001 0 (setBit 0x0100_0000 0 true)) 0 false))).enableJig 0 0).1 = 0) ∧
    (idle.setFlag (JIG_CTL 0 5) 0 true).jigOn 0 5 = true := by decide

theorem witness_veneer_control : (idle.writeVeneerCtl 0 1).1 = 0x020C ∧ (idle.writeVeneerCtl 0 2).1 = 0 := by decide +kernel

theorem witness_tile_window :
    bf (merge 0xFFFF_000F_0FFF_FF01 (idle.rd (NUM_CTL 0)) 0x00FF_0008_0400_0000) 16 12 = 1024 ∧
    bf (merge 0xFFFF_000F_0FFF_FF01 (idle.rd (NUM_CTL 0)) 0x00FF_0008_0400_0000) 48 16 < 2 ^ bf (merge 0xFFFF_000F_0FFF_FF01 (idle.rd (NUM_CTL 0)) 0x00FF_0008_0400_0000) 32 4 ∧
    bf (merge 0xFFFF_000F_0FFF_FF01 (idle.rd (NUM_CTL 0)) 0x0000_000F_0000_0000) 32 4 = 15 ∧
    0x7_FFF8 < 0x8_0000 ∧ (idle.apertureAddr 0 0x7_FFF8).toOption = some 0x7_FFF8 ∧ ((idle.setF (SP_WIN_BASE 0) 0 15 0x7FFF).apertureAddr 0 0x3F8).toOption = some 0x1FF_FFF8 := by decide

/-- Tile 0 with quarter 1 in veneer mode, a line of it asked for, and a mitre copy in progress. -/
def veneered : Mod := ((up.setF (VENEER_STATUS 0) 0 4 2).modTile 0 (fun x => { x with prefetch := [(1, 5)], mitre := [{ w0 := 0, w1 := 0, w2 := 0, w3 := 0, ring := none }] }))

theorem witness_tile_memory :
    (up.setFlag (VENEER_STATUS 0) 8 true).flushing 0 = true ∧ (up.setFlag (VENEER_STATUS 1279) 8 true).flushing 1279 = true ∧
    (veneered.tile 0).prefetch.contains (1, 5) = true ∧ (veneered.modTile 0 (fun x => { x with prefetch := x.prefetch.erase (1, 5) })).veneerMode 0 1 = true ∧
    (veneered.modTile 0 (fun x => { x with prefetch := x.prefetch.erase (1, 5) })).venFind 0 1 5 = none ∧
    (up.keeperDomain 0 1 true).scrubbing 0 = true ∧ (up.keeperDomain 0 1 true).halted = false ∧
    ((up.stNat (scratchAt 0 0) 1 7).ldByte (scratchAt 0 0)) = 7 := by decide

theorem witness_register_writes :
    up.modState ≠ 0 ∧ (0x8 : W40).toNat % 8 = 0 ∧ (0x3_2000_0004 : W40).toNat % 8 ≠ 0 ∧ (2 : W40).toNat % 4 ≠ 0 ∧
    (up.shut .host (some 7) = false ∧ up.jobRuns 7 = false ∧ up.recValid 7 1023 = false ∧ (1 : W64) ≠ up.rd (XCH_RECORD 7 1023 0)) ∧
    ((marked {}).jobRuns 0 = true ∧ (marked {}).shut .gallery (some 0) = false) ∧
    (up.logicalOf 80 = none ∧ up.shut .gallery (up.slotOfDie (80 / 176)) = false ∧ up.logicalOf 1407 = none ∧ up.shut .gallery (up.slotOfDie (1407 / 176)) = false) ∧
    ((0x18_0000 : W40).toNat < 0x20_0000 ∧ (0x20_8100 : W40).toNat < 0x100_0000 ∧ (0x2FF_FFFF : W40).toNat < 0x300_0000) ∧
    ({ up with msixPending := [2047] }.msixPending.contains 2047 = true ∧ bit (0 : W64) 32 = false ∧ up.msixPending.contains 0 = false) := by decide

theorem witness_error_block_writes :
    bit (0x100 : W64) 8 = true ∧ (up.setFirst 8 { handling := 3 }).handling 8 ≠ 0 ∧ (0xF1 : W64).toNat / 2 % 8 = 0 ∧ (0xFFFF : W64).toNat % 2 ^ 32 < 0x1_0000 ∧
    up.handling 0 = 0 ∧ up.handling 8 = 0 ∧ up.feValid 8 = false ∧ (up.capture 8 { code := 0x0F2A }).feValid 8 = true := by decide

/-- Slot 0 is SEALED. -/
def sealed : Mod := up.setKslot 0 { st := .sealed }

theorem witness_locks : sealed.modState ≠ 0 ∧ sealed.mainUp = true ∧ sealed.slotOfTile 159 = some 0 ∧ sealed.lockedOwner (some 0) = true := by decide

/-- Thread 0 of tile 0 is READY at word 0, its line is in the cache, g1 = 5 and a1 = 64. -/
def issuing : Mod := ((running_.setF (TILE_CTL 0) 0 1 1).modTile 0 (fun x => { x with threads := [(0, { st := .ready })], icache := [0] })).modThread 0 0 (fun x => (x.setG 1 5).setA 1 64)
/-- Its counter 0 runs over word 0 with a count. -/
def looping (n : Nat) : Mod := issuing.modThread 0 0 (fun x => x.setLoop 0 { count := BitVec.ofNat 32 n, first := 0, last := 0, active := true })
/-- It has called from word 9. -/
def called : Mod := issuing.modThread 0 0 (fun x => { x with stack := [10] })

theorem witness_scalar : CanRun issuing 0 0 (fD 0x18_4100_0000_0005 :: aluRegs 0x18_4100_0000_0005) ∧ only mAlu 0x18_4100_0000_0005 = true ∧
    CanRun issuing 0 0 (fD 0x18_4400_0000_0000 :: aluRegs 0x18_4400_0000_0000) ∧ only mAlu 0x18_4400_0000_0000 = true := by
  unfold CanRun; decide

theorem witness_scalar_moves :
    (CanRun issuing 0 0 [fD 0xF8_0000_1234_5678] ∧ only (mD ||| mImm) 0xF8_0000_1234_5678 = true) ∧
    (CanRun issuing 0 0 (if fI 0x78_4100_0000_0005 then [] else [fS2 0x78_4100_0000_0005]) ∧ only mAlu 0x78_4100_0000_0005 = true ∧ fD 0x78_4100_0000_0005 = 15 ∧ fS1 0x78_4100_0000_0005 = 1) ∧
    (CanRun issuing 0 0 [fS1 0x78_4400_0000_0000, fS2 0x78_4400_0000_0000] ∧ only (mD ||| mS1 ||| mS2) 0x78_4400_0000_0000 = true) ∧
    (CanRun issuing 0 0 [fD 0x18_4000_0000_0000] ∧ only (mD ||| mS1) 0x18_4000_0000_0000 = true ∧ fS1 0x18_4000_0000_0000 = 1) ∧
    (CanRun issuing 0 0 [fD 0xF0_0000_0000_0000, fD 0xF0_0000_0000_0000 + 1] ∧ only mD 0xF0_0000_0000_0000 = true ∧ fD 0xF0_0000_0000_0000 = 30) ∧
    (CanRun issuing 0 0 [] ∧ only (fm 46 10 ||| fm 44 2) 0xFF_F000_0000_0000 = true) := by
  unfold CanRun; decide

theorem witness_control_flow :
    CanRun issuing 0 0 [bf (0x08_9800_00FF_FFFE : BitVec 56) 51 5, bf (0x08_9800_00FF_FFFE : BitVec 56) 46 5] ∧ only (fm 51 5 ||| fm 46 5 ||| fm 43 3 ||| mOff) 0x08_9800_00FF_FFFE = true ∧
    bf (0x08_9800_00FF_FFFE : BitVec 56) 43 3 = 3 ∧ branchTaken 3 5 9 = true ∧ branchTaken 3 5 0 = false ∧ only (fm 51 5) 0x08_0000_0000_0000 = true ∧
    only mOff 0xFF_FFFE = true ∧ (issuing.thread 0 0).stack.length < 16 ∧ CanRun called 0 0 [] ∧ (called.thread 0 0).stack = 10 :: [] ∧
    CanRun (looping 2) 0 0 [] ∧ only (fm 40 3) 0 = true ∧ ((looping 2).thread 0 0).loop 0 = { count := 2, first := 0, last := 0, active := true } := by
  unfold CanRun; decide

theorem witness_loops :
    (CanRun issuing 0 0 [bf (0x08_0300_0000_0001 : BitVec 56) 51 5] ∧ only (fm 51 5 ||| fm 40 3 ||| mOff) 0x08_0300_0000_0001 = true ∧ bf (0x08_0300_0000_0001 : BitVec 56) 40 3 = 3 ∧
      fOff 0x08_0300_0000_0001 = 1 ∧ ((issuing.thread 0 0).loop 3).active = false ∧ (issuing.thread 0 0).gReg 1 ≠ 0 ∧ (issuing.thread 0 0).gReg 2 = 0 ∧
      (∀ n, n < 4 → n ≠ 3 → ((issuing.thread 0 0).loop n).active = true → ((issuing.thread 0 0).loop n).last ≠ (issuing.thread 0 0).pc + BitVec.ofInt 20 1)) ∧
    (CanRun issuing 0 0 [] ∧ only (fm 40 3 ||| fm 24 16 ||| mOff) 0x03_00FF_FF00_0001 = false ∧ only (fm 40 3 ||| fm 24 16 ||| mOff) 0x03FF_FF00_0001 = true ∧
      bf (0x03FF_FF00_0001 : BitVec 56) 24 16 = 65535 ∧ bf (0x0300_0000_0001 : BitVec 56) 24 16 = 0) ∧
    loopAt ((looping 2).thread 0 0) 0 = some 0 ∧ 1 < (((looping 2).thread 0 0).loop 0).count.toNat ∧ loopAt ((looping 1).thread 0 0) 0 = some 0 ∧
    (((looping 1).thread 0 0).loop 0).count.toNat ≤ 1 := by
  unfold CanRun; decide

/-- Dowel 1 of the tile is a VALID one of mode 0 and two rows. -/
def scalars : Mod := issuing.wr (DOWEL0 0 1) 0x8000_0000_0001_0000

theorem witness_scalar_memory :
    CanRun scalars 0 0 [fD 0x18_4000_01FF_FFC0] ∧ only (mD ||| mS1 ||| mImm) 0x18_4000_01FF_FFC0 = true ∧ fS1 0x18_4000_01FF_FFC0 = 1 ∧
    ldstDowel 0x18_4000_01FF_FFC0 = 1 ∧ ldstAddr (scalars.thread 0 0).aReg 0x18_4000_01FF_FFC0 = 0 ∧ scalars.scalarAt 0 1 0 [0, 1] = some 0 ∧ scalars.scalarAt 0 1 60 [0] = some 60 ∧
    scalars.scalarAt 0 1 1020 [0] = some 1020 ∧ scalars.scalarAt 0 1 1024 [0, 1] = none ∧ scalars.scalarAt 0 1 (-4) [0] = none ∧ CanRun scalars 0 0 [fS2 0x00_4200_0100_0000] ∧ only (mS1 ||| mS2 ||| mImm) 0x00_4200_0100_0000 = true := by
  unfold CanRun; decide

/-- Jig 0 of the tile is set up over dowel 1 and disabled. -/
def jigged : Mod := scalars.wr (JIG_CTL 0 0) 0x0100_0000
/-- Jig 0 is ACTIVE. -/
def jigging : Mod := (jigged.enableJig 0 0).2
/-- Two equal 2-D dowels and a copy of one block in g4 to g7. -/
def mitring : Mod := ((issuing.wr (DOWEL0 0 1) 0x8800_0000_0020_0000).wr (DOWEL0 0 2) 0x8800_0000_0020_0020).modThread 0 0
  (fun x => (((x.setG 4 0x201).setG 5 0).setG 6 0x0001_0001).setG 7 0)
/-- The debug gate of the tile's die is open, and thread 1 waits. -/
def gated : Mod := (issuing.setKdie 0 { debug := true }).setThread 0 1 { st := .wait, waitOn := .jig 1 }

theorem witness_trap : 0 < 4 ∧ 1 ≠ 0 ∧ (gated.thread 0 1).st = .wait ∧ (gated.thread 0 2).st ≠ .ready ∧ (gated.thread 0 2).st ≠ .wait := by decide

theorem witness_register_instructions :
    (CanRun issuing 0 0 [fD 0x18_0000_0002_0000] ∧ only (mD ||| mImm) 0x18_0000_0002_0000 = true ∧ csrOff 0x18_0000_0002_0000 = 0x2_0000 ∧
      ((Fetched issuing 0 0).readTile 0 0x2_0000).toOption.isSome = true ∧ ((Fetched issuing 0 0).readTile 0 0x4_FFF8).toOption = some 0) ∧
    (CanRun issuing 0 0 [fS2 0x00_0200_0002_0010] ∧ only (mS2 ||| mImm) 0x00_0200_0002_0010 = true ∧ csrOff 0x00_0200_0002_0010 = 0x2_0010 ∧ fS2 0x00_0200_0002_0010 = 1) ∧
    (CanRun jigged 0 0 [] ∧ jigged.jigOn 0 5 = false ∧ fJig 0xA0_2800_0000_0000 = 5 ∧ only (fm 53 3 ||| fm 45 8 ||| fm 42 3 ||| fm 40 2 ||| fm 39 1) 0xA0_2800_0000_0000 = true ∧
      bf (0xA0_2800_0000_0000 : BitVec 56) 42 3 = 2 ∧ only (fm 53 3 ||| mImm) 0xA0_0000_3F80_0000 = true ∧ only (fm 53 3 ||| fm 49 4 ||| mOff) 0xA2_0000_00FF_FFC0 = true ∧
      bf (0xA2_0000_00FF_FFC0 : BitVec 56) 49 4 = 1 ∧ ((jigged.thread 0 0).aReg 1).toInt + fOff 0xA2_0000_00FF_FFC0 = 0 ∧
      only (fm 53 3 ||| fm 50 3 ||| fm 30 20 ||| fm 0 16) 0xB4_0000_0000_FFFF = true ∧ bf (0xB4_0000_0000_FFFF : BitVec 56) 50 3 = 5 ∧
      only (fm 53 3 ||| fm 50 3 ||| fm 32 3 ||| fm 0 16) 0xB4_0007_0000_0000 = true ∧ bf (0xB4_0007_0000_0000 : BitVec 56) 32 3 = 7 ∧
      only (fm 53 3 ||| fm 50 3 ||| fm 28 20 ||| fm 0 20) 0xB4_0000_000F_FFFF = true) := by
  unfold CanRun; decide

theorem witness_jig_lock : jigging.jigOn 0 0 = true ∧ jigged.jigOn 0 0 = false ∧ (1 : W64) ≠ jigging.rd (JIG_BASE 0 0) := by decide

theorem witness_jigs :
    (CanRun jigged 0 0 [] ∧ only (fm 50 6) 0x04_0000_0000_0000 = true ∧ jigMask 0x04_0000_0000_0000 = [0] ∧ (Fetched jigged 0 0).jigOn 0 0 = false ∧ ((Fetched jigged 0 0).enableJig 0 0).1 = 0) ∧
    (Fetched jigged 0 0).jigsDone 0 [0] = true ∧ CanRun jigging 0 0 [] ∧ (Fetched jigging 0 0).jigsDone 0 [0] = false ∧
    (CanRun mitring 0 0 (run4 4) ∧ only (fm 51 5) 0x20_0000_0000_0000 = true ∧ bf (0x20_0000_0000_0000 : BitVec 56) 51 5 = 4 ∧ (mitring.thread 0 0).gReg 4 = 0x201 ∧
      (mitring.thread 0 0).gReg 6 = 0x0001_0001 ∧ (Fetched mitring 0 0).mitreCheck 0 { w0 := 0x201, w1 := 0, w2 := 0x0001_0001, w3 := 0, ring := none } = 0) := by
  unfold CanRun; decide

/-- Thread 0 with a count to wait for in g2 and g3, while the Beacon runs. -/
def awaiting (c : Nat) : Mod := (ticking issuing 4096).modThread 0 0 (fun x => (x.setG 2 (BitVec.ofNat 32 c)).setG 3 0)

/-- An instruction of the array unit is queued. -/
def queued : Mod := issuing.setQueue 0 0 [{ op := 0x40, f := 0, th := 0, pc := 0, layer := 0, role := 0, args := [], seq := 0 }]

theorem witness_threads :
    (CanRun issuing 0 0 [] ∧ only (fm 54 2 ||| mOff) 0xC0_0000_0000_0001 = true ∧ ((Fetched issuing 0 0).thread 0 3).st = .off) ∧ only (fm 48 8) 0x01_0000_0000_0000 = true ∧
    (Fetched issuing 0 0).fenceDone 0 1 = true ∧ (CanRun queued 0 0 [] ∧ (Fetched queued 0 0).fenceDone 0 1 = false) ∧
    only (fm 0 16) 7 = true ∧ bf (7 : BitVec 56) 0 16 ≠ 0x1025 ∧ (Fetched issuing 0 0).gateOpen 0 = false ∧
    (CanRun gated 0 0 [] ∧ (Fetched gated 0 0).gateOpen 0 = true ∧ (gated.thread 0 0).st = .ready) ∧
    (CanRun (awaiting 4096) 0 0 [2, 3] ∧ only (fm 46 5) 0x00_8000_0000_0000 = true ∧ pair32 ((awaiting 4096).thread 0 0 |>.gReg 2) ((awaiting 4096).thread 0 0 |>.gReg 3) = 4096 ∧
      (Fetched (awaiting 4096) 0 0).markPassed 4096 = true ∧ (Fetched (awaiting 4097) 0 0).markPassed 4097 = false) := by
  unfold CanRun; decide

/-- Dowel 3 of the tile is a VALID veneer dowel of 32 rows. -/
def prefetching : Mod := issuing.wr (DOWEL0 0 3) 0xB000_0000_0020_0000

theorem witness_prefetch :
    CanRun prefetching 0 0 [] ∧ only (fm 48 8 ||| fm 44 4 ||| fm 24 8 ||| mOff) 0x03_0000_1F00_0000 = true ∧ bf (0x03_0000_1F00_0000 : BitVec 56) 48 8 = 3 ∧
    (Fetched prefetching 0 0).dowelValid 0 3 = true ∧ (Fetched prefetching 0 0).dowelMode 0 3 = 3 ∧ ((prefetching.thread 0 0).aReg 0).toInt + fOff 0x03_0000_1F00_0000 = 0 ∧
    0 / 32 + 32 ≤ (Fetched prefetching 0 0).dowelRows 0 3 ∧ (Fetched prefetching 0 0).dowelRows 0 3 < 0 / 32 + 33 ∧ (Fetched prefetching 0 0).dowelValid 0 4 = false := by
  unfold CanRun; decide

/-- Ring 4096 of the tile takes its pushes: two entries in HBM, slot 0, in a state with a fill. -/
def pushing (state fill : Nat) : Mod := (scalars.wr (RING_CTL 4096) (BitVec.ofNat 64 (2 ^ 44 + 2 ^ 32 + 2 ^ 23 + state * 2))).wr (RING_PTR 4096) (BitVec.ofNat 64 (fill * 2 ^ 32))
/-- Record 0 is VALID and last, and entry 0 of the tile's list names it. -/
def listed : Mod := ((((issuing.wr (XCH_RECORD 0 0 0) 0x0006_4012_0400_0008).wr (XCH_RECORD 0 0 1) 0x8000_0000_0000_0000).wr (XLIST 0 0) 0x8000_0000_0000_0000)).setXch 0 1 0
/-- Entry 0 has been released. -/
def released : Mod := listed.modTile 0 (fun x => { x with xDone := [0] })

theorem witness_arm_checks : (Fetched listed 0 0).armCheck 0 0 = 0 ∧ (Fetched listed 0 0).armCheck 0 1023 = 0x0603 := by decide +kernel

theorem witness_buoy_instructions :
    (CanRun issuing 0 0 [] ∧ only (fm 54 2 ||| fm 41 13 ||| fm 40 1 ||| fm 35 5 ||| mImm) 0x40_0100_0000_0001 = true ∧
      bf (0x40_0100_0000_0001 : BitVec 56) 54 2 = 1 ∧ bit (0x40_0100_0000_0001 : BitVec 56) 40 = true ∧ (Fetched issuing 0 0).ownBuoy 0 0 = true) ∧
    (CanRun issuing 0 0 [fD 0x18_4400_0000_0000, fS1 0x18_4400_0000_0000, fS2 0x18_4400_0000_0000] ∧ only (mD ||| mS1 ||| mS2 ||| fm 28 13) 0x18_4400_0000_0000 = true) ∧
    (only (fm 53 3 ||| fm 40 13 ||| fm 35 5 ||| mImm) 0x60_0000_0000_0001 = true ∧ bf (0x60_0000_0000_0001 : BitVec 56) 53 3 = 3 ∧ CanRun issuing 0 0 [0]) ∧
    (CanRun issuing 0 0 [fD 0x18_0000_0000_0000] ∧ only (mD ||| fm 38 13) 0x18_0000_0000_0000 = true) := by
  unfold CanRun; decide

theorem witness_push_and_exchange :
    (CanRun (pushing 2 2) 0 0 [] ∧ only (fm 40 16 ||| fm 32 8 ||| mOff) 0x10_0001_0000_0002 = true ∧ bf (0x10_0001_0000_0002 : BitVec 56) 40 16 = 4096 ∧ bf (0x10_0001_0000_0002 : BitVec 56) 32 8 = 1 ∧
      (Fetched (pushing 2 2) 0 0).ownRing 0 4096 = true ∧ (Fetched (pushing 2 2) 0 0).dowelHolds 0 1 [0, 1] 2 2 = true ∧ (Fetched (pushing 2 2) 0 0).ringFill 4096 = (Fetched (pushing 2 2) 0 0).ringCap 4096) ∧
    ((Fetched (pushing 2 1) 0 0).ringFill 4096 ≠ (Fetched (pushing 2 1) 0 0).ringCap 4096 ∧ (Fetched (pushing 2 1) 0 0).ringState 4096 = 2 ∧
      (Fetched (pushing 1 0) 0 0).ringFill 4096 ≠ (Fetched (pushing 1 0) 0 0).ringCap 4096 ∧ (Fetched (pushing 1 0) 0 0).ringState 4096 = 1) ∧
    (CanRun listed 0 0 [] ∧ only (fm 40 16) 0 = true ∧ CanRun released 0 0 [] ∧ ((Fetched released 0 0).tile 0).xDone.contains 0 = true ∧ ((Fetched listed 0 0).tile 0).xDone.contains 0 = false) := by
  unfold CanRun; decide

/-- Thread 0 waits for something. -/
def waiting (w : WaitRec) (r : Release) : Mod := (ticking issuing 4096).modThread 0 0 (fun x => { x with st := .wait, waitOn := w, release := r })
/-- No thread of the tile is READY; its done signal goes to buoy 0; a refused BSIG of thread 0 is back. -/
def ended : Mod := (issuing.modTile 0 (fun x => { x with sent := [{ th := 0, pc := 0, b := 0, isSet := true, x := 1, refused := true }] })).modThread 0 0 (fun x => { x with st := .ended })
/-- And it has a done buoy. -/
def finishing : Mod := ended.setFlag (SEQ_RESTART 0) 45 true

theorem witness_sequencer_events :
    (waiting .fetch .none).tileRuns 0 = true ∧ ((waiting .fetch .none).thread 0 0).st = .wait ∧ ((waiting .fetch .none).thread 0 0).waitOn = .fetch ∧
    (((waiting (.buoy 0 0 1 0) .met).thread 0 0).waitOn = .buoy 0 0 1 0 ∧ ((waiting (.buoy 0 0 1 0) .met).thread 0 0).release = .met) ∧
    ((waiting (.buoy 0 0 1 0) .broken).thread 0 0).release = .broken ∧ (waiting (.mark 4096) .none).markPassed 4096 = true ∧ ((waiting (.mark 4096) .none).thread 0 0).waitOn = .mark 4096 ∧
    ((waiting (.ring 4096) .none).thread 0 0).waitOn = .ring 4096 ∧ (waiting (.ring 4096) .none).ringRoom 4096 = true ∧ (waiting (.fence 1) .none).fenceDone 0 1 = true ∧
    ((waiting (.exchange 0) .none).modTile 0 (fun x => { x with xDone := [0] })).tileRuns 0 = true ∧ ((waiting (.queue .array) .none).queue 0 0).length < 4 ∧
    ((waiting (.remote 0 3 none) (.reply 7)).thread 0 0).release = .reply 7 ∧
    (ended.tileRuns 0 = true ∧ (∀ n, n < 4 → (ended.thread 0 n).st ≠ .ready) ∧ ended.allQueuesEmpty 0 = true) ∧
    (finishing.tileRuns 0 = true ∧ finishing.doneValid 0 = true ∧ (finishing.tile 0).doneSent = false ∧ (∀ n, n < 4 → finishing.inMask 0 n = true → (finishing.thread 0 n).st = .ended)) ∧
    ((ended.modTile 0 (fun x => { x with sent := [] })).tileEnabled 0 = true ∧ (ended.thread 0 0).st ≠ .trapped ∧ (ended.thread 0 0).st ≠ .off) := by decide

theorem witness_unit_instructions :
    (CanRun scalars 0 0 [] ∧ (scalars.queue 0 0).length < 4 ∧ mmaOk 0x00_1800_1F00_0000 = true ∧ mlatchOk 0x00_000F_0000_0000 = true ∧ (scalars.queue 0 1).length < 4 ∧ ocfgOk 0 = true ∧
      only (fm 54 2 ||| fm 46 8 ||| mOff) 0x00_4000_0000_0000 = true ∧ bf (0x00_4000_0000_0000 : BitVec 56) 46 8 = 1 ∧ scalars.dowelValid 0 1 = true ∧ scalars.dowelMode 0 1 ≠ 2 ∧ scalars.dowelMode 0 1 ≠ 3 ∧
      only (fm 44 1) 0 = true ∧ scalars.flag (tileReg 0 0x3_0010) 0 = false ∧ (scalars.queue 0 2).length < 4 ∧ vopOk 0 = true ∧ (scalars.queue 0 4).length < 4 ∧ randOk 0 = true) ∧
    (CanRun scalars 0 0 (if vredRf 0x18_0000_0000_0000 = 0 then [fD 0x18_0000_0000_0000] else [fD 0x18_0000_0000_0000, fD 0x18_0000_0000_0000 + 1]) ∧ vredOk 0x18_0000_0000_0000 = true) ∧
    (CanRun scalars 0 0 [bf (0x00_0100_0000_0000 : BitVec 56) 40 5] ∧ (scalars.queue 0 3).length < 4 ∧ quantOk 0x00_0100_0000_0000 = true) ∧
    (CanRun scalars 0 0 [fS1 0x00_8200_0000_0000, fS2 0x00_8200_0000_0000] ∧ only (mS1 ||| mS2) 0x00_8200_0000_0000 = true ∧ (val32 0).isNan = false ∧ (val32 5).isNan = false ∧ Val.less (val32 5) (val32 0) = false) ∧
    (CanRun scalars 0 0 (run4 (fS1 0x07_0000_0000_0000)) ∧ fS1 0x07_0000_0000_0000 = 28 ∧ only (fm 54 2 ||| fm 53 1 ||| mS1) 0x07_0000_0000_0000 = true ∧ only (fm 54 2 ||| mS1) 0x07_0000_0000_0000 = true) ∧
    (CanRun scalars 0 0 [fD 0x19_0000_0000_0000, fS1 0x19_0000_0000_0000, fS1 0x19_0000_0000_0000 + 1] ∧ sampleOk 0x19_0000_0000_0000 = true) := by
  unfold CanRun; decide

/-- An entry of a unit queue. -/
def entry (go : Bool) : QEntry := { op := 0x40, f := 0, th := 0, pc := 0, layer := 0, role := 0, args := [], seq := 0, started := go, results := [(3, 7)], counts := [{ unit := 0, layer := 0, role := 0, total := 1 }] }
/-- The array queue is full, its head started. -/
def full : Mod := scalars.setQueue 0 0 [entry true, entry false, entry false, entry false]
/-- The numeric table of the tile is active, in dowel 1 or in dowel 0, and a count is on its way. -/
def counting (d : Nat) : Mod := (((scalars.wr (NUM_CTL 0) (BitVec.ofNat 64 (2 ^ 16 + d * 2 ^ 8 + 1))).setFlag (NUM_STATUS 0) 0 true)).modTile 0 (fun x => { x with tableQ := [{ unit := 0, layer := 0, role := 0, total := 1 }] })

theorem witness_units :
    CanRun full 0 0 [] ∧ 4 ≤ (full.queue 0 0).length ∧ mmaOk 0x00_1800_1F00_0000 = true ∧
    (full.tileRuns 0 = true ∧ full.queue 0 (unitNo .array) = entry true :: [entry false, entry false, entry false] ∧ (entry true).started = true) ∧
    ((counting 1).mainUp = true ∧ ((counting 1).tile 0).tableQ.length = 1 ∧ ((counting 1).modTile 0 (fun y => { y with tableQ := [] })).tableActive 0 = true ∧
      ((counting 1).modTile 0 (fun y => { y with tableQ := [] })).tableUsable 0 = true ∧ ((counting 0).modTile 0 (fun y => { y with tableQ := [] })).tableUsable 0 = false) := by
  unfold CanRun; decide

/-- A job runs in slot 0 and record 0 is to launch, at a count. -/
def voting (c : Nat) : Mod := (ticking listed c).modPart 0 (fun y => { y with job := some {} })
/-- Its vote has come. -/
def voted (f : W16) : Mod := (voting 4096).setVoteOf 0 1 4096 { sent := true, count := 1, flags := f }
/-- The phase has run for some bt, in EXCHANGE or KERF. -/
def phasing (state bt : Nat) : Mod := ((ticking listed (4096 + bt)).setXch 0 state 0).wr (XCH_LAUNCH 0) 4096

theorem witness_exchange_phases :
    (voting 4096).voteDue 0 = true ∧
    ((voted 1).jobRuns 0 = true ∧ (voted 1).atMark = true ∧ (voted 1).halted = false ∧ (voted 1).recordPending 0 = true ∧ (voted 1).nextRecord 0 = 0 ∧
      (voted 1).voteOf 0 1 4096 = { sent := true, count := 1, flags := 1 } ∧ ((voted 1).setVoteOf 0 1 4096 {}).recCross 0 0 = false ∧ ((voted 1).setVoteOf 0 1 4096 {}).xchState 0 = 1 ∧
      ((voted 1).setVoteOf 0 1 4096 {}).stepFatal 0 = false ∧ ((voted 1).setVoteOf 0 1 4096 {}).fatalStopped = false) ∧
    ((voted 0).recordPending 0 = true ∧ bit ((voted 0).voteOf 0 1 4096).flags 0 = false) ∧
    ((phasing 2 100).xchState 0 = 2 ∧ (phasing 2 100).recDuration 0 0 ≤ (phasing 2 100).phaseBt 0) ∧
    ((phasing 3 118).xchState 0 = 3 ∧ (phasing 3 118).recDuration 0 0 + (phasing 3 118).recKerf 0 0 + (phasing 3 118).fld (XCH_CTL 0) 0 12 ≤ (phasing 3 118).phaseBt 0) := by decide

/-- The tile is armed for entry 0: descriptor 0 sends word 0 of dowel 1 at bt 10, descriptor 1 receives it there. -/
def armed : Mod := ((((((phasing 2 10).wr (DOWEL0 0 1) 0x8000_0000_0001_0000).wr (XLIST 0 0) (BitVec.ofNat 64 (2 ^ 63 + 2 ^ 38 + 2 ^ 21 + 2 ^ 10))).wr (XDESC 0 0 0) 0x0100_0000_0000_0000).wr (XDESC 0 0 1)
  (BitVec.ofNat 64 (10 * 2 ^ 44 + 5 * 2 ^ 28))).wr (XDESC 0 1 0) 0x0100_0000_0000_0000 |>.wr (XDESC 0 1 1) (BitVec.ofNat 64 (10 * 2 ^ 44 + 6 * 2 ^ 28 + 1))).modTile 0 (fun x => { x with xEntry := some 0 })

theorem witness_exchange_words :
    armed.mainUp = true ∧ (armed.tile 0).xEntry = some 0 ∧ armed.slotOfTile 0 = some 0 ∧ armed.tileInPhase 0 = true ∧ armed.armedFor 0 (armed.xchRecord 0) = true ∧
    ((armed.xlSends 0 0).contains 0 = true ∧ 0 < armed.dWords 0 0 ∧ streamWords (armed.tile 0).xSend 0 = 0 ∧ armed.dStart 0 0 + 0 / armed.dLanes 0 0 = armed.phaseBt 0) ∧
    (∃ a : WordArrival, (armed.xlRecvs 0 0).find? (fun d => decide (armed.dStream 0 d = a.stream.toNat)) = some 1 ∧ armed.dStart 0 1 ≤ a.bt ∧ a.bt ≤ armed.dLast 0 1 ∧
      streamWords (armed.tile 0).xRecv 1 < armed.dWords 0 1) ∧
    ((phasing 2 10).tileInPhase 1279 = false ∧ (phasing 2 10).tileInPhase 159 = true ∧ ((phasing 2 10).tile 159).xEntry = none) := by
  refine ⟨by decide, by decide, by decide, by decide, by decide, by decide, ⟨{ stream := 6, lane := 0, bt := 10, word := 0 }, by decide⟩, by decide⟩

/-- The half of the tile switches its clock: the port is granted nothing. -/
def stalled : Mod := armed.setHalf 0 { armed.half 0 with switching := true }
/-- Its receive buffer is full. -/
def packed : Mod := stalled.modTile 0 (fun x => { x with xIn := (upto 512).map (fun i => { desc := 1, num := i, word := 0 }) })
/-- Words are on their way to the port of tile 0, an edge node and a link die. -/
def arriving : Mod := armed.modPart 0 (fun p => { p with words := [⟨.tile 0, 6, 0, 4106, 3⟩, ⟨.edge 0, 6, 0, 4106, 3⟩, ⟨.link 0, 6, 0, 4106, 3⟩] })
/-- A node entry of tile 0 names the stream. -/
def noded : Mod := arriving.wr (XNODE 0 0 0) (BitVec.ofNat 64 (2 ^ 63 + 6 * 2 ^ 16 + 0xFFFF))

theorem witness_exchange_lost :
    ((armed.fillSend 0).tile 0).xBuf.find? (fun x => decide (x.desc = 0) && decide (x.num = 0)) = some { desc := 0, num := 0, word := 0 } ∧
    (stalled.fillSend 0).tile 0 = stalled.tile 0 ∧ (stalled.tile 0).xBuf = [] ∧ 512 ≤ ((packed.drainRecv 0).tile 0).xIn.length ∧
    (armed.part 0).words = [] ∧ (arriving.takeWord 0 (fun w => w.isFor (.tile 0) 6 && !arriving.toNode 0 0 w)).isSome = true ∧
    (noded.takeWord 0 (fun w => w.isFor (.tile 0) 6 && noded.toNode 0 0 w)).isSome = true ∧
    (arriving.takeWord 0 (fun w => w.isFor (.edge 0) 6)).isSome = true ∧
    ((arriving.wr (JC_CTL 0) 3).takeWord ((arriving.wr (JC_CTL 0) 3).fld (JC_CTL 0) 2 3) (fun w => w.isFor (.link 0) 6)).isSome = true ∧
    ((phasing 2 10).takeWord 0 (fun w => w.isFor (.tile 0) 6)).isNone = true := by
  set_option maxRecDepth 8000 in decide

theorem witness_node_words :
    ∃ (x y : NodeEntry) (a b : WordArrival), x.record = 3 ∧ x.words = 1 ∧ x.op = 0 ∧ x.inA = a.stream.toNat ∧ x.start ≤ a.bt ∧ a.bt ≤ x.last ∧ x.names b.stream.toNat = false ∧
      y.record = 3 ∧ y.words = 1 ∧ y.op = 6 ∧ y.inA = a.stream.toNat ∧ y.inB = b.stream.toNat ∧ a.stream ≠ b.stream ∧ y.start ≤ a.bt ∧ a.bt ≤ b.bt ∧ b.bt ≤ a.bt + 16 ∧ b.bt ≤ y.last :=
  ⟨{ w0 := BitVec.ofNat 64 (3 * 2 ^ 50 + 5 * 2 ^ 16), w1 := BitVec.ofNat 64 (10 * 2 ^ 44), w2 := 0, w3 := 0 },
    { w0 := BitVec.ofNat 64 (6 * 2 ^ 60 + 3 * 2 ^ 50 + 5 * 2 ^ 16 + 6), w1 := BitVec.ofNat 64 (10 * 2 ^ 44), w2 := 0, w3 := BitVec.ofNat 64 (15 * 2 ^ 48) },
    { stream := 5, lane := 0, bt := 10, word := 1 }, { stream := 6, lane := 0, bt := 25, word := 2 }, by decide⟩

/-! ### Buoys and rings -/

/-- Buoy 0 of slot 0. -/
def buoyed (b : Buoy) : Mod := (waiting (.remote 0 3 none) .none).setBuoy 0 b
/-- Thread 0 waits for it to be at least 9, and a watch and a plane's gate stand at it. -/
def watched : Watch := { cond := 0, value := 9, mask := 0, deadline := 4096, target := 0x20, cookie := 77 }
def attended (st : BuoyState) (v : W32) : Mod := (waiting (.buoy 0 0 9 0) .none).setBuoy 0 { st := st, value := v, watches := [watched] }
/-- Shard 0 of stack 0 is READY and gated on buoy 0. -/
def gatedShard (v : W32) : Mod := ((attended .live v).wr (SHARD 0 0 0) 0xA000_0000_0000_0010).wr (PSTATE 0 0) 0x2_0001

theorem witness_buoy_commands :
    (buoyed { st := .live, value := 5 }).mainUp = true ∧ (buoyed { st := .live }).buoyLive 0 = true ∧ (buoyed { st := .live }).shut .host ((buoyed { st := .live }).slotOfBuoy 0) = false ∧
    ((waiting (.remote 0 3 (some (5, 6))) .none).thread 0 0).waitOn = .remote 0 3 (some (5, 6)) ∧ ((buoyed {}).thread 0 0).waitOn = .remote 0 3 none ∧ ((buoyed {}).thread 0 0).st = .wait ∧
    ((buoyed {}).thread 0 0).release = .none ∧ (buoyed {}).buoyLive 0 = false ∧ (buoyed {}).buoyLive 8191 = false ∧ (buoyed {}).shut .gallery ((buoyed {}).slotOfBuoy 8191) = false ∧
    ((buoyed { st := .live, value := 5 }).buoy 0).value = 5 ∧ ((buoyed { st := .live, value := 5 }).buoy 0).value ≠ 6 := by decide

theorem witness_buoy_waits :
    (attended .live 8).waitSent (.thread 0 0) 0 = some { who := .thread 0 0, cond := 0, value := 9, mask := 0 } ∧ condHolds 0 8 9 0 = false ∧
    (attended .live 9).waitSent (.thread 0 0) 0 = some { who := .thread 0 0, cond := 0, value := 9, mask := 0 } ∧ condHolds 0 9 9 0 = true ∧
    ((attended .broken 9).buoy 0).st = .broken ∧ ((attended .free 0).buoy 0).st = .free ∧ (attended .live 8).shut .host ((attended .live 8).slotOfBuoy 0) = false ∧ targetOk 0x3F = true ∧ targetOk 8 = true ∧
    ((attended .live 8).buoy 0).watches.length < 4 ∧ 4 ≤ (((attended .live 8).setBuoy 0 { watches := [watched, watched, watched, watched] }).buoy 0).watches.length ∧
    (((attended .live 8).buoy 0).watches[0]? = some watched ∧ watched.deadline ≠ 0 ∧ watched.deadline.toNat ≤ (attended .live 8).count.toNat) ∧ (attended .live 8).watchAt 0 0x20 77 = some 0 ∧
    ((attended .saved 8).buoy 0).st = .saved := by decide

theorem witness_gate_subscribe :
    ((gatedShard 1).buoy 0).st = .live ∧ (gatedShard 1).gatedShards 0 0 ≠ [] ∧ bit ((gatedShard 1).buoy 0).subs 0 = false ∧ ((gatedShard 1).buoy 0).value ≠ 0 ∧
    (gatedShard 0).gatedShards 0 0 ≠ [] ∧ ((gatedShard 0).buoy 0).value = 0 := by decide +kernel

/-- A ring of slot 0 in host memory, four entries, that threads, Gallery and the host push to; `on` enables it and `cq` makes it a completion ring. -/
def ringWord (on cq : Bool) (state : Nat) : W64 := BitVec.ofNat 64 (2 ^ 44 + 2 ^ 41 + 2 ^ 33 + 2 ^ 25 + 2 ^ 24 + 2 ^ 23 + (if cq then 2 ^ 19 else 0) + state * 2 + (if on then 1 else 0))
/-- The ring in a state with a fill and an entry in its first place. -/
def ringed (r state fill : Nat) (b : List Byte) : Mod := (((ticking up 4096).wr (RING_CTL r) (ringWord true false state)).wr (RING_PTR r) (BitVec.ofNat 64 (fill * 2 ^ 32))).st (hostAt 0) b
/-- An entry of 64 bytes: opcode, flags, and the body's fields as byte lists from 0x18. -/
def image (op flags : Byte) (body : List Byte) : List Byte := [op, flags] ++ List.replicate 22 0 ++ body ++ List.replicate (40 - body.length) 0
/-- An entry in progress. -/
def doing (r : Nat) (e : RingEntry) : Mod := (ringed r 2 1 e.image).setRing r { prog := [e] }
def entryFor (op flags : Byte) : RingEntry := { index := 0, image := image op flags [] }

theorem witness_ring_control :
    (up.ringEnabled 0 = false ∧ ringKind 0 ≠ 4 ∧ up.isStaged (RING_CTL 0) = false ∧
      (up.wr (RING_CTL 0) (merge 0xFFFF_FF1F_0F88_0001 (up.rd (RING_CTL 0)) (ringWord true false 0 ||| 1))).ringEnableOk 0 = true ∧
      up.ringShut .host 0 (merge 0xFFFF_FF1F_0F88_0001 (up.rd (RING_CTL 0)) (ringWord true false 0 ||| 1)) = false) ∧
    (ringed 0 2 1 []).ringEnabled 0 = true ∧ ((((ringed 0 2 1 []).setRing 0 { stopping := true }).ringOf 0).stopping = true ∧ (((ringed 0 2 1 []).setRing 0 { stopping := true }).ringOf 0).prog = []) ∧
    ((ringed 0 2 1 []).shut .host ((ringed 0 2 1 []).slotOfRing 0) = false ∧ (ringed 0 2 1 []).ringState 0 ≠ 0 ∧ (ringed 0 2 1 []).ringState 0 ≠ 6 ∧ (ringed 0 2 1 []).flag (RING_CTL 0) 19 = false ∧
      (ringed 0 2 1 []).mayPush .host 0 = true ∧ (ringed 0 2 1 []).mayPush .keeper 0 = false ∧ (ringed 0 2 1 []).ringState 0 ≠ 1 ∧
      ((4 : W32).toNat + 2 ^ 32 - (ringed 0 2 1 []).ringTail 0) % 2 ^ 32 ≤ (ringed 0 2 1 []).ringCap 0 - (ringed 0 2 1 []).ringFill 0 ∧
      (ringed 0 2 1 []).ringCap 0 - (ringed 0 2 1 []).ringFill 0 < ((5 : W32).toNat + 2 ^ 32 - (ringed 0 2 1 []).ringTail 0) % 2 ^ 32) ∧
    (((ringed 59392 2 1 []).wr (RING_CTL 59392) (ringWord true true 2)).flag (RING_CTL 59392) 19 = true ∧
      ((1 : W32).toNat + 2 ^ 32 - (ringed 59392 2 1 []).ringHead 59392) % 2 ^ 32 ≤ (ringed 59392 2 1 []).ringFill 59392) ∧ (ringed 0 1 1 []).ringState 0 = 1 := by decide

theorem witness_ring_entries :
    ((ringed 4096 2 1 (image 5 0 [])).ringEnabled 4096 = true ∧ (ringed 4096 2 1 (image 5 0 [])).ringState 4096 = 2 ∧ ((ringed 4096 2 1 (image 5 0 [])).ringOf 4096).waitOn = none ∧
      ((ringed 4096 2 1 (image 5 0 [])).ringOf 4096).prog.length < (ringed 4096 2 1 (image 5 0 [])).ringFill 4096 ∧ (ringed 4096 2 1 (image 5 0 [])).consumerRuns 4096 = true ∧
      (ringed 4096 2 1 (image 5 0 [])).ringEntryBytes 4096 ((ringed 4096 2 1 (image 5 0 [])).nextIndex 4096) = image 5 0 []) ∧
    (ringed 4096 2 1 []).headCode 4096 (image 5 0 []) = 0 ∧ entryWaits 1 (image 5 0 []) = false ∧ (ringed 4096 2 1 []).headCode 4096 (image 5 1 []) = 0 ∧ entryWaits 1 (image 5 1 []) = true ∧
    (ringed 4096 2 1 []).headCode 4096 (image 6 0 []) ≠ 0 ∧ ((ringed 4096 2 1 []).ringOf 4096).headRelease = .none ∧ ringKind 4096 = 1 ∧
    ((((ringed 4096 3 1 (image 5 1 [])).setRing 4096 { waitOn := some 0, headRelease := .met }).setRing 4096 { waitOn := none, headRelease := .met }).settleRing 4096).consumerRuns 4096 = true ∧
    ((((ringed 4096 3 1 (image 5 1 [])).setRing 4096 { waitOn := some 0, headRelease := .met }).setRing 4096 { waitOn := none, headRelease := .met }).settleRing 4096).ringState 4096 = 2 ∧
    (ringed 4096 3 1 []).ringState 4096 ≠ 6 ∧ (ringed 4096 3 1 []).tileClocked (tileOfRing 4096) = true ∧
    (((ringed 4096 3 1 []).setRing 4096 { waitOn := some 0, headRelease := .broken }).ringOf 4096).headRelease = .broken ∧
    (((ringed 4096 3 1 []).setRing 4096 { waitOn := some 0, headRelease := .refused }).ringOf 4096).headRelease = .refused ∧
    ((doing 4096 { entryFor 5 2 with done := true }).ringState 4096 ≠ 4 ∧ wantsSignal 1 (image 5 2 []) = true ∧ wantsSignal 1 (image 5 0 []) = false) ∧
    ((doing 4096 { entryFor 5 2 with done := true, signalled := true, answered := true }).ringOf 4096).prog.length = 1 ∧ ((doing 4096 (entryFor 5 0)).wr (RING_CTL 4096) (ringWord true false 4)).ringState 4096 = 4 := by decide

/-- An entry is at work and every stack has its key. -/
def keyed (m : Mod) : Mod := m.setFlag (HBM_SEC 0) 17 true

theorem witness_dma_entries :
    (∃ q, (doing 4096 (entryFor 1 0)).working 4096 = entryFor 1 0 :: q) ∧ tileOfRing 4096 = 0 ∧ (doing 4096 (entryFor 1 0)).tileClocked 0 = true ∧
    dmaHbmRows (image 1 0 []) 0 = [0] ∧ (keyed (doing 4096 (entryFor 1 0))).hbmCode 0 0 = 0 ∧ ((doing 4096 (entryFor 1 0)).dmaLoadWork 0 (image 1 0 [])).1 = 0x0926 ∧
    entryOp (image 1 0 []) = 1 ∧ entryOp (image 2 0 []) = 2 ∧ entryOp (image 3 0 []) = 3 ∧ entryOp (image 4 0 []) = 4 ∧ entryOp (image 5 0 []) = 5 ∧ ((doing 4096 (entryFor 4 0)).tile 0).mitre = [] := by
  exact ⟨⟨[], by decide⟩, by decide⟩
theorem witness_no_bad_line (k : Nat) : ((keyed (doing 4096 (entryFor 1 0))).stack k).bad = [] := rfl

/-- Dowel 0 of tile 0 is VALID, 1-D, 8 rows. -/
def walked : Mod := (up.wr (DOWEL0 0 0) 0x8000_0000_0008_0000).setDmaJig 0 true 5 34
theorem witness_dma_jig : (0 : Nat) < 34 ∧ spWord 5 + 34 ≤ (up.wr (DOWEL0 0 0) 0x8000_0000_0008_0000).dowelWords 0 (spDowel 5) := by decide
/-- 34 words from word 5: one full line and two words of the next (R60, R305). -/
theorem test_dma_jig_walks_in_order : walked.jigWalk 0 5 = (upto 34).map (· + 5) := by decide +kernel

theorem witness_entry_ends : ((doing 4096 { entryFor 5 0 with refused := true }).ringOf 4096).prog = { entryFor 5 0 with refused := true } :: [] ∧ ((doing 4096 (entryFor 5 0)).ringOf 4096).prog = entryFor 5 0 :: [] ∧
    (entryFor 5 0).refusedSig = false ∧ ((doing 4096 (entryFor 5 0)).rd (RING_CNT_DONE 4096)).toNat + 1 < 2 ^ 64 := by decide

/-! ### HBM stacks and planes -/

/-- Stack 0 is READY, with its key or without. -/
def stacked (key : Bool) : Mod := ((up.setF (HBM_STATUS 0) 0 4 3).setFlag (HBM_SEC 0) 17 key).setF (ARB_CTL 0) 0 7 64
/-- Its arbiter of pseudo-channel 0 has granted some. -/
def granted (n : Nat) : Mod := (stacked true).setStack 0 { arbs := [(0, { grants := n, owner := some 5, prio := [(7, 2)] })] }

theorem witness_hbm :
    (stacked true).mainUp = true ∧ (granted 5).grantee 0 { off := 0, write := none, len := 64, corrected := 0, uncorrectable := false } = some 5 ∧
    (granted 5).grantee 0 { off := 0, write := some (List.replicate 32 1), len := 0, corrected := 0, uncorrectable := false } = some 5 ∧ accessUnit 5 = 32 ∧
    (stacked true).grantee 0 { off := 0, write := none, len := 64, corrected := 0, uncorrectable := false } = none ∧ (granted 5).hbmState 0 ≠ 2 ∧
    (granted 5).stackKeyed 0 = true ∧ ((granted 5).setFlag (HBM_SEC 0) 17 false).stackKeyed 0 = false ∧ ((granted 5).stack 0).bad = [] ∧
    ((stacked true).setKslot 0 { st := .sealed }).anySealed = true ∧ (stacked true).hbmState 0 ≠ 2 ∧
    (stacked true).stackKeyed 0 = true ∧ (stacked false).stackKeyed 0 = false ∧ ((stacked true).setHbmState 31 2).hbmState 31 = 2 ∧
    ((granted 5).arbOf 0 0).owner = some 5 ∧ ((granted 5).stack 0).selfRefresh = false ∧ (((stacked true).startStackScrub 0).stack 0).scrubbing = true := by decide

theorem witness_arbiter :
    ((granted 5).hbmState 0 = 3 ∧ (((granted 5).arbOf 0 0).grants + 1) % (granted 5).fld (ARB_CTL 0) 0 7 ≠ 0 ∧ arbPrio ((granted 5).arbOf 0 0) 104 < arbPrio ((granted 5).arbOf 0 0) 7) ∧
    ((((granted 63).arbOf 0 0).grants + 1) % (granted 63).fld (ARB_CTL 0) 0 7 = 0) ∧ (4 ≤ (4 : W64).toNat % 128 ∧ (64 : W64).toNat % 128 ≤ 64 ∧ (3 : W64).toNat % 128 < 4 ∧ 64 < (65 : W64).toNat % 128) ∧
    (stacked true).pcBusy 0 = false ∧ ((stacked true).startSparing 0 31).pcBusy 0 = true ∧ (((stacked true).startSparing 0 31).stack 0).copying = some 31 ∧ ((stacked true).startSparing 0 31).pcState 0 31 = 1 ∧
    ((stacked true).setPcState 0 31 2).pcState 0 31 = 2 ∧ (stacked true).pcState 0 0 ≠ 2 ∧ ((stacked true).setPcState 0 31 3).pcState 0 31 = 3 := by decide

/-- Shard 0 of stack 0 is VALID, with 8 elements and staging at 0x1000, in a state; an entry of ring 45056 is in progress. -/
def shard (state : Nat) (e : RingEntry) : Mod := (((((doing 45056 e).setF (HBM_STATUS 0) 0 4 3).setFlag (HBM_SEC 0) 17 true).wr (SHARD 0 0 0) 0xA000_0000_0000_0008).wr (SHARD 0 0 1) 2 |>.wr (SHARD 0 0 2) 0x1000 |>.wr (SHARD 0 0 5) 0x2000).setShardState 0 0 state
/-- And its commit record stands, of the step before. -/
def recorded (state step : Nat) (e : RingEntry) : Mod := (shard state e).st (hbmAt 0 0x2000) (commitBytes { slot := 0, step := step, tensor := 0, elems := 8, prev := 0 })
/-- A GRAD of 8 elements from HBM, and of 9. -/
def grad (n : Byte) : RingEntry := { index := 0, image := image 1 0 ([0, 1, 8, 0] ++ [0, 0, 0, 0] ++ [n, 0, 0, 0]) }

theorem witness_plane_entries :
    (∃ q, (shard 0 (grad 8)).working 45056 = grad 8 :: q) ∧ ringKind 45056 = 2 ∧ stackOfRing 45056 = 0 ∧ num (grad 8).image 0x18 1 = 0 ∧
    (((shard 0 (grad 8)).stack 0).updating ++ ((shard 0 (grad 8)).stack 0).zeroing).any (fun p => decide (p.ring = some (45056, 0))) = false ∧ entryOp (grad 8).image = 1 ∧
    (shard 0 (grad 9)).gradRefused 0 0 (grad 9).image = true ∧ (shard 0 (grad 8)).gradRefused 0 0 (grad 8).image = false ∧ (shard 0 (grad 8)).stackCode 0 = 0 ∧ (shard 0 (grad 8)).gradClocked (grad 8).image = true ∧ ((shard 0 (grad 8)).stack 0).bad = [] ∧
    (shard 1 (entryFor 2 0)).planeCode 0 (image 2 0 []) = 0 ∧ (shard 5 (entryFor 3 0)).planeCode 0 (image 3 0 []) = 0 ∧ (shard 0 (entryFor 4 0)).planeCode 0 (image 4 0 []) = 0 ∧
    (shard 0 (entryFor 5 0)).planeCode 0 (image 5 0 []) = 0 := by exact ⟨⟨[], by decide⟩, by decide⟩

theorem witness_commit_record : ∃ c, (recorded 5 0 (entryFor 3 0)).shardRecord 0 0 = some c ∧ c.step = (recorded 5 0 (entryFor 3 0)).stackStep 0 := ⟨{ slot := 0, step := 0, tensor := 0, elems := 8, prev := 0 }, by decide +kernel⟩
theorem witness_older_record : ∃ c, ((recorded 5 0 (entryFor 3 0)).wr (STEP_NUM 0) 1).shardRecord 0 0 = some c ∧ c.step ≠ ((recorded 5 0 (entryFor 3 0)).wr (STEP_NUM 0) 1).stackStep 0 :=
  ⟨{ slot := 0, step := 0, tensor := 0, elems := 8, prev := 0 }, by decide +kernel⟩

/-- A pass over shard 0 is in progress. -/
def passing : Mod := (shard 3 (entryFor 3 0)).setStack 0 { updating := [{ shard := 0 }] }

theorem witness_passes :
    (passing.stack 0).updating.find? (fun p => decide (p.shard = 0)) = some { shard := 0 } ∧ passing.slotOfStack 0 = some 0 ∧ ((passing.dropUpdate 0 0).setShardState 0 0 2).slotOfStack 0 = some 0 ∧
    ((((shard 3 (entryFor 2 0)).setStack 0 { zeroing := [{ shard := 0, toIdle := true }] }).stack 0).zeroing = [{ shard := 0, toIdle := true }] ∧
      ((shard 3 (entryFor 2 0)).setStack 0 { zeroing := [{ shard := 0, toIdle := true }] }).shardStage 0 0 + 4 * ((shard 3 (entryFor 2 0)).setStack 0 { zeroing := [{ shard := 0, toIdle := true }] }).shardElems 0 0 ≤ 2 ^ 36) ∧
    (1 < 2 ∧ (7 : Nat) < 2 ^ 64 ∧ (0xFF : Byte) ≠ 0x54) := by decide
theorem witness_gates : (gatedShard 1).gatedShards 0 0 ≠ [] := by decide +kernel
theorem witness_pass_record : ∃ c, (({ recorded 3 0 (entryFor 3 0) with hbmStacks := passing.hbmStacks } : Mod)).shardRecord 0 0 = some c := ⟨{ slot := 0, step := 0, tensor := 0, elems := 8, prev := 0 }, by decide +kernel⟩

/-! ### The step block -/

/-- A job of slot 0 in a phase of its step, with its six buoys 2 to 6 LIVE. -/
def stepping (phase : Nat) : Mod := (upto 8).foldl (fun m b => m.setBuoy b { st := .live })
  (((voting 0x10_0000_0000).setF (STEP_STATUS 0) 0 4 phase).wr (STEP_CFG0 0) (BitVec.ofNat 64 (2 * 2 ^ 38 + 3 * 2 ^ 25 + 4 * 2 ^ 12)) |>.wr (STEP_CFG1 0) (BitVec.ofNat 64 (5 * 2 ^ 51 + 6 * 2 ^ 38)))
/-- With its two votes. -/
def stepVoted (phase : Nat) (n : Nat) (f : W16) : Mod := (stepping phase).modPart 0 (fun y => { y with vote1 := { sent := true, count := n, flags := f }, vote2 := { sent := true, count := n, flags := f } })

theorem witness_step_decisions :
    (stepVoted 2 1 0).mainUp = true ∧ (stepVoted 2 1 0).jobRuns 0 = true ∧ (stepVoted 2 1 0).stepPhase 0 = 2 ∧ (stepVoted 2 1 0).voteComplete 0 2 = true ∧ (stepVoted 2 1 0).repGateBuoy 0 ≠ (stepVoted 2 1 0).locGateBuoy 0 ∧
    (stepVoted 2 1 0).buoyLive ((stepVoted 2 1 0).repGateBuoy 0) = true ∧ (stepVoted 2 1 0).buoyLive ((stepVoted 2 1 0).locGateBuoy 0) = true ∧
    ((stepVoted 4 1 2).stepPhase 0 = 4 ∧ (stepVoted 4 1 2).voteComplete 0 3 = true ∧ bit ((stepVoted 4 1 2).part 0).vote2.flags 1 = true ∧ bit ((stepVoted 4 1 1).part 0).vote2.flags 1 = false ∧
      (stepVoted 4 1 1).buoyLive ((stepVoted 4 1 1).finalBuoy 0) = true) := by decide
theorem witness_settled : (stepping 3).stepPhase 0 = 3 ∧ (stepping 3).settled 0 = true := by decide +kernel
theorem witness_rollback : (stepping 6).stepPhase 0 = 6 ∧ ((stepping 6).part 0).rollbackDone = false ∧ (stepping 6).planesIdle 0 = true := by decide +kernel
theorem witness_step_timeouts :
    (stepVoted 2 2 0).halted = false ∧ ((stepVoted 2 2 0).part 0).vote1.sent = true ∧ (stepVoted 2 2 0).voteComplete 0 2 = false ∧
    ((stepVoted 2 2 0).part 0).vote1.at_.toNat + (stepVoted 2 2 0).fld (STEP_TIMING 0) 0 32 ≤ (stepVoted 2 2 0).count.toNat ∧
    ((stepVoted 4 2 0).stepPhase 0 = 4 ∧ ((stepVoted 4 2 0).part 0).vote2.sent = true ∧ (stepVoted 4 2 0).voteComplete 0 3 = false ∧
      ((stepVoted 4 2 0).part 0).vote2.at_.toNat + (stepVoted 4 2 0).fld (STEP_TIMING 0) 0 32 ≤ (stepVoted 4 2 0).count.toNat) ∧
    ((stepping 3).part 0).decision1At.toNat + (stepping 3).fld (STEP_TIMING 0) 0 32 ≤ (stepping 3).count.toNat := by decide
theorem witness_unsettled : ((stepping 3).wr (STEP_CFG1 0) 1).settled 0 = false := by decide +kernel

/-- The steering entry 1 of slot 0 is for the next step, or for another. -/
def steered (n : Byte) : Mod := ((stepping 1).setBuoy 6 { st := .live, value := 1 }).stHbm 0 ((stepping 1).logAt 0 1) [n]

theorem witness_steering :
    (steered 1).steerFollow 0 = false ∧ (steered 1).buoyLive ((steered 1).steerPendBuoy 0) = true ∧ (steered 1).rd (STEER_INDEX 0) = 0 ∧ ((steered 1).buoy ((steered 1).steerPendBuoy 0)).value = 1 ∧
    (steered 1).sealedSteering 0 = false ∧ ((steered 1).setKslot 0 { st := .sealed, manifest := List.replicate 12 0 ++ [1] }).sealedSteering 0 = true := by decide

theorem layersOk_zero {p x b : List Byte} (hp : ∀ i : Nat, p[i]?.getD 0 = 0) (hx : ∀ i : Nat, 0x100 ≤ i → x[i]?.getD 0 = 0) (hb : ∀ i : Nat, 0x100 ≤ i → b[i]?.getD 0 = 0) : layersOk p x b = true := by
  simp only [layersOk, List.all_eq_true]
  intro l _
  simp only [num_one, hp, hx (0x100 + l) (by omega), hb (0x100 + l) (by omega)]; decide

theorem steered_byte (a : Nat) (h : a ≠ 1099511629824) : (steered 1).ldByte a = 0 := by
  have e : (steered 1).mem = [(1099511629824, 1)] := by decide
  show Sparse.get memDefault (steered 1).mem a = 0
  rw [e]; simp [Sparse.get, Ne.symm h, memDefault]

theorem steered_entry (n i : Nat) (h : 0 < i) : ((steered 1).logEntry 0 n)[i]?.getD 0 = 0 := by
  have e : hbmByte 0 ((steered 1).logAt 0 n) = 1099511629824 := by
    have e : (steered 1).logEntries 0 = 1 := by decide
    unfold logAt; rw [e, Nat.mod_one]; decide
  rw [logEntry, ldHbm, Mod.ld_getElem?, e]
  by_cases hi : i < 2048
  · rw [if_pos hi, Option.getD_some, steered_byte _ (by omega)]
  · rw [if_neg hi, Option.getD_none]

theorem witness_steering_entry : (steered 1).steerEntryOk 0 ((steered 1).logEntry 0 1) = true := by
  have hp (i : Nat) : ((steered 1).ldHbm 0 ((steered 1).steerBase 0 + 0x100) 1024)[i]?.getD 0 = 0 := by
    have e : hbmByte 0 ((steered 1).steerBase 0 + 0x100) = 1099511628032 := by decide
    rw [ldHbm, Mod.ld_getElem?, e]
    by_cases hi : i < 1024
    · rw [if_pos hi, Option.getD_some, steered_byte _ (by omega)]
    · rw [if_neg hi, Option.getD_none]
  unfold steerEntryOk
  rw [layersOk_zero hp (fun i _ => steered_entry 1 i (by omega)) (fun i _ => steered_entry _ i (by omega))]
  decide +kernel

theorem witness_steering_push : (steered 1).mainUp = true ∧ (steered 1).jobRuns 0 = true ∧ (steered 1).lampistRuns 0 = true ∧ (steered 1).buoyLive ((steered 1).steerPendBuoy 0) = true := by decide

/-- The compiler values of R392, as far as the layer decisions read them. -/
def steerPars : List Byte := bytesOf 4 0x38D1B717 ++ bytesOf 4 0x358637BD ++ bytesOf 4 0x3CA3D70A ++ bytesOf 4 0x3A83126F ++ bytesOf 4 0x3C23D70A ++ bytesOf 4 0x3B03126F ++ bytesOf 8 0 ++ bytesOf 4 200
/-- Shares and a deviation in units of 10^-6. -/
def figuresOf (ovf van dev : Nat) : RoleFigures :=
  let one : Val := .fin false 1000000 0
  { ovf := (.fin false ovf 0, one), van := (.fin false van 0, one), dev := (.fin false dev 0, one), nonfin := false }
/-- The example of R393: layer 37 at FP4 E2M1 with 3.0e-5, 9.0e-3 and 2.6e-3 keeps rung, rotation and quiet count. -/
theorem test_lamp_example : lampLayer steerPars 0x3C 1 5 [figuresOf 0 0 0, figuresOf 0 0 0, figuresOf 30 9000 2600] = (1, 5) := by decide +kernel
/-- An overflow share above OVF_HI turns rotation on where it may, and else raises the rung; 200 quiet steps lower it (R393). -/
theorem test_lamp_decisions : (lampLayer steerPars 0x3C 1 5 [figuresOf 200 0 0], lampLayer steerPars 0x2C 1 5 [figuresOf 200 0 0], lampLayer steerPars 0x2C 2 199 [figuresOf 0 0 0]) =
    ((5, 0), (2, 0), (1, 0)) := by decide +kernel

theorem witness_steering_refused : (stepping 1).steerEntryOk 0 ((stepping 1).logEntry 0 0) = false := by
  unfold steerEntryOk
  rw [show decide (num ((stepping 1).logEntry 0 0) 0 8 = ((stepping 1).rd (STEP_NUM 0)).toNat + 1) = false from by decide +kernel]
  simp

/-! ### Jicen -/

/-- A module of a 2 × 2 × 2 torus whose board lets its ports and interfaces run, with port 0 in a state and lane 32 of it a spare. -/
def ported (state : Nat) : Mod := { ((ticking up 4096).setF (JC_STATUS 0) 0 4 state).wr (JC_LANE 0 32) 1 with config := [140, 50, 0, 0, 0xA4, 0x38, 0, 0, 0x3F, 3] }
/-- The one with X = 1. -/
def second (state : Nat) : Mod := (((ported state).wr JC_TOPO 0x11_1001).wr JC_MODULE_ID 1).setPort 0 { admitted := true }
def neighbour (id : BitVec 12) : Neighbour := { id := id, port := 1, dims := 0x111, delay64 := 64 }

theorem witness_port_life :
    ((ported 0).flag (JC_CTL 0) 0 = false ∧ ((ported 0).wr (JC_CTL 0) ((0 : W64) &&& 0x1F ||| 1)).portAllowed 0 = true ∧ (up.wr (JC_CTL 0) ((0 : W64) &&& 0x1F ||| 1)).portAllowed 0 = false) ∧
    ((ported 1).setFlag (JC_CTL 0) 0 true).flag (JC_CTL 0) 0 = true ∧ (ported 1).portState 0 = 1 ∧
    ((ported 2).portState 0 = 2 ∧ ((ported 2).port 0).badId = false ∧ (neighbour 1).id.toNat = (ported 2).facingId 0 ∧ (neighbour 1).port.toNat = facingPort 0 ∧
      (neighbour 1).dims.toNat = (ported 2).fld JC_TOPO 12 12 ∧ (neighbour 1).delay64.toNat ≤ 64 * (ported 2).fld JC_HOP_MAX 0 12 ∧ (neighbour 5).id.toNat ≠ (ported 2).facingId 0) ∧
    ((second 3).portState 0 = 3 ∧ (second 3).sendsAdmit 0 = false ∧ ((second 3).port 0).admitted = true ∧ (second 3).atMark = true ∧ (second 3).rd (JC_ADMIT 0) ≤ (second 3).count) ∧
    (ported 5).portState 0 = 5 ∧ ((ported 4).portTrained 0 = true ∧ (ported 4).laneStatus 0 31 = 0 ∧ (ported 4).lanesWith 0 1 ≠ [] ∧ ((ported 4).port 0).swap = none) ∧
    ((ported 1).portTrained 0 = false ∧ (ported 1).portState 0 ≠ 2 ∧ (ported 1).portState 0 ≠ 5) := by decide

theorem witness_lanes :
    (ported 4).portTrained 0 = true ∧ (ported 4).fld (JC_LANE_THRESH 0) 0 32 < (0xFFFF_FFFF : W32).toNat ∧ (0 : W32).toNat ≤ (ported 4).fld (JC_LANE_THRESH 0) 0 32 ∧
    (((ported 4).setPort 0 { swap := some (3, 32, 4096) }).port 0).txSwap = none ∧ (4096 : W64) ≤ ((ported 4).setPort 0 { swap := some (3, 32, 4096) }).count ∧
    (((ported 4).setPort 0 { txSwap := some (3, 32, 4096) }).port 0).swap = none ∧ (((ported 4).setPort 0 { dup := some (3, 4096) }).port 0).dup = some (3, 4096) ∧
    8 < (((upto 9).foldl (fun m l => m.setLane 0 l 3 0) (ported 4)).lanesWith 0 3).length := by decide +kernel

/-- A frame for a module, with a message. -/
def frame (dst : BitVec 12) (msg : Byte) : Frame := { rsp := decide (msg.toNat % 2 = 0), vc := false, seq := 0, dst := dst, src := 1, job := 9, ctr := 0, crcOk := true, tagOk := true, msg := msg, flags := 0, token := 5, status := 0, addr := 0, arg := 1, wait := 0, data := List.replicate 32 7 }
/-- Port 0 is ACTIVE with credit, a frame waits at it, the key slot 0 is slot 0's for job 9, and buoy 0 is LIVE. -/
def active : Mod := ((((ported 4).setPort 0 { credits := [(0, 96), (1, 96), (2, 192), (3, 192)], outq := [{ frame := frame 1 1 }] }).wr (JC_KEYSLOT 0) 0x18_0009).setBuoy 0 { st := .live }).setFlag (HBM_SEC 0) 17 true
/-- With compiled words of the slot, in compiled mode for slot 0. -/
def compiled : Mod := (active.setPort 0 { active.port 0 with compiledOut := [{ b := 0, lane := 0, stream := 5, word := 1 }] }).wr (JC_CTL 0) 3 |>.wr (XCH_LAUNCH 0) 4096

theorem witness_slots :
    (active.running = true ∧ 1 ≤ active.portState 0 ∧ active.portState 0 ≤ 4 ∧ (active.port 0).slotSent ≠ active.count.toNat / 4 + 1) ∧
    ((active.setPort 0 { active.port 0 with slotSent := active.count.toNat / 4 + 1 }).slotCtrl 0).portActive 0 = true ∧ ((active.setPort 0 { active.port 0 with slotSent := active.count.toNat / 4 + 1 }).slotCtrl 0).slotWords 0 = [] ∧
    (((ported 3).setPort 0 { (ported 3).port 0 with slotSent := (ported 3).count.toNat / 4 + 1 }).slotCtrl 0).portActive 0 = false ∧
    ((compiled.setPort 0 { compiled.port 0 with slotSent := compiled.count.toNat / 4 + 1 }).slotCtrl 0).slotWords 0 ≠ [] ∧ (compiled.portActive 0 = true ∧ compiled.flag (JC_CTL 0) 1 = true) ∧
    ((((active.setPort 0 { active.port 0 with slotSent := active.count.toNat / 4 + 1 }).slotCtrl 0).port 0).outq = { frame := frame 1 1 } :: [] ∧
      0 < ((active.setPort 0 { active.port 0 with slotSent := active.count.toNat / 4 + 1 }).slotCtrl 0).creditLeft 0 (creditOf (frame 1 1))) := by decide

theorem witness_compiled_key : compiled.keySlotOf (compiled.fld (JC_CTL 0) 2 3) = some 0 ∧ (compiled.wr (JC_KEYSLOT 0) 0).keySlotOf 0 = none ∧ (compiled.wr (JC_KEYSLOT 0) 0).slotWords 0 ≠ [] := by decide

/-- R414: a frame that waits at a port that leaves ACTIVE goes the other way around, and its ring entry stays. -/
theorem test_reroute : let m := (active.setPortState 1 4).setPort 1 { credits := [(0, 96)] };
    (((m.movePort 0 0).port 0).outq, ((m.movePort 0 0).port 1).outq.length) = ([], 1) := by decide

/-- A frame has been sent some times. -/
def resending (n : Nat) : Mod := active.setPort 0 { replay := [{ frame := frame 1 1, resent := n }] }

theorem witness_replay :
    ((resending 6).port 0).replay ≠ [] ∧ (resending 6).ackOverdue 0 = true ∧ ({ resending 6 with count := 60 } : Mod).ackOverdue 0 = false ∧ (∀ x, x ∈ ((resending 6).port 0).replay → x.resent < 7) ∧ (∃ x, x ∈ ((resending 7).port 0).replay ∧ 7 ≤ x.resent) ∧
    ((frame 0 1).dst.toNat = active.moduleId ∧ { frame 0 1 with seq := 5 }.seq ≠ (active.port 0).rxSeq) := by
  refine ⟨by decide, by decide, by decide, by decide, ⟨{ frame := frame 1 1, resent := 7 }, by decide⟩, by decide⟩

theorem witness_fresh (msg : Byte) (h : msg = 1 ∨ msg = 2 ∨ msg = 3 ∨ msg = 4 ∨ msg = 5 ∨ msg = 6) : Fresh active 0 (frame 0 msg) msg.toNat := by
  rcases h with h | h | h | h | h | h <;> subst h <;> unfold Fresh <;> decide

/-- A request with a remote wait is held since bt 0. -/
def holding (wait : W64) : Mod := active.setPort 0 { active.port 0 with held := [{ frame := { frame 0 1 with flags := 2, wait := wait }, since := 0 }] }

theorem witness_requests :
    (Taken active 0 (frame 0 1)).slotOfJob 9 = some 0 ∧ bit (frame 0 1).flags 1 = false ∧ bit { frame 0 1 with flags := 2 }.flags 1 = true ∧ active.slotOfBuoy (bf (frame 0 1).wait 0 13) = some 0 ∧
    active.hbmRange 0 (bf (frame 0 1).addr 0 41) (frame 0 1).data.length 32 = true ∧ active.hbmCode 0 (bf (frame 0 1).addr 0 41) = 0 ∧
    (active.slotOfBuoy (msgBuoy (frame 0 5)) = some 0 ∧ active.buoyLive (msgBuoy (frame 0 5)) = true ∧ msgBop (frame 0 5) = 0) ∧
    (((holding 0).port 0).held[0]? = some { frame := { frame 0 1 with flags := 2, wait := 0 }, since := 0 } ∧ (holding 0).waitMet { frame 0 1 with flags := 2, wait := 0 } = true ∧
      ((holding 0).setPort 0 { (holding 0).port 0 with held := ((holding 0).port 0).held.eraseIdx 0 }).slotOfJob 9 = some 0) ∧
    (holding 0x7_0000).waitMet { frame 0 1 with flags := 2, wait := 0x7_0000 } = false ∧ ((({ holding 0 with count := 0xFFFF_FFFF } : Mod).rd JC_RWAIT_TIMEOUT).toNat ≤ ((0xFFFF_FFFF : W64) - 0).toNat) ∧
    ((frame 1 1).dst.toNat ≠ active.moduleId ∧ (frame 1 1).seq = (active.port 0).rxSeq) := by decide

/-- An entry of ring 49152 is in progress, without a token or with token 5: a PUT of 32 bytes to module 1, a GET, a BUOY. -/
def jicenEntry (op : Byte) (tok : W16) : RingEntry := { index := 0, image := image op 0 ([1, 0, 0, 0] ++ [if op = 3 then 0 else 32, 0, 0, 0]), token := tok }
def jicening (op : Byte) (tok : W16) : Mod := { active with regs := (active.wr (RING_CTL 49152) (ringWord true false 2)).regs, rings := [(49152, { prog := [jicenEntry op tok] })] }
/-- As JICEN_ENTRY leaves it once the entry has its token. -/
def tokened (op : Byte) : Mod := ({ jicening op 0 with nextToken := 1 + 1 } : Mod).setRing 49152 { (jicening op 0).ringOf 49152 with prog := ((jicening op 0).ringOf 49152).prog.map (fun (y : RingEntry) => if y.index = 0 then { jicenEntry op 0 with token := 1 } else y) }

theorem witness_jicen_entries :
    ((jicening 1 0).working 49152).find? (fun y => decide (y.token = 0)) = some (jicenEntry 1 0) ∧ ringKind 49152 = 3 ∧ (jicening 1 0).nextToken = 1 ∧ entryOp (jicenEntry 1 0).image = 1 ∧
    (tokened 1).hbmCode 0 0 = 0 ∧ ((tokened 1).sendPut 49152 { jicenEntry 1 0 with token := 1 } 0 0 1 ((tokened 1).ldHbm 0 0 32)).1 = 0 ∧
    ((tokened 2).entryMsg 49152 { jicenEntry 2 0 with token := 1 } 0 3 0 32 [] true).1 = true ∧ ((tokened 3).entryMsg 49152 { jicenEntry 3 0 with token := 1 } 0 5 0 0 [] true).1 = true ∧
    (((tokened 2).setF (JC_STATUS 0) 0 4 0).entryMsg 49152 { jicenEntry 2 0 with token := 1 } 0 3 0 32 [] true).1 = false ∧
    ((Taken (jicening 2 5) 0 (frame 0 4)).slotOfJob 9 = some 0 ∧ (Taken (jicening 2 5) 0 (frame 0 4)).tokenEntry 5 = some (49152, jicenEntry 2 5) ∧ (frame 0 4).status = 0 ∧
      (Taken (jicening 2 5) 0 (frame 0 4)).hbmCode 0 0 = 0 ∧ { frame 0 4 with status := 0x0902 }.status ≠ 0) := by decide

/-- A job of slot 0 at step 0, with a vote group of one module, and a vote word for it. -/
def voteDoor : Mod := ((active.modPart 0 (fun y => { y with job := some {} })).setF (BCN_STATUS) 0 4 2).wr BCN_CTL 0x6_0771 |>.setF BCN_STATUS 4 3 0
def vote (kind : BitVec 4) (refr : W32) : VoteBlock := { job := 9, kind := kind, phase := 0, group := 0, origin := 1, hops := 1, refr := refr, count := 1, flags := 1, tagOk := true }

theorem witness_votes :
    voteDoor.portTrained 0 = true ∧ voteDoor.slotOfJob (vote 2 0).job = some 0 ∧ (vote 2 0).kind.toNat = 2 ∧ (vote 2 0).phase.toNat = 0 / 2 ∧ voteDoor.jobRuns 0 = true ∧
    (vote 2 7).refr ≠ (voteDoor.rd (STEP_NUM 0)).truncate 32 ∧ (vote 2 0).refr = (voteDoor.rd (STEP_NUM 0)).truncate 32 ∧
    voteDoor.votesHeld 0 { kind := 2, phase := 0, group := 0, origin := 1, refr := 0, count := 1, flags := 1 } = [] ∧ voteDoor.voteGoes 0 0 0 1 (decide (0 % 2 = 0)) = false ∧ 1 ≠ voteDoor.moduleId ∧
    (voteDoor.bcnSource ≠ 0 ∧ voteDoor.srcActive = 0 ∧ voteDoor.bcnState = 2 ∧ ({ voteDoor with calDone := [0] } : Mod).calDone.contains 0 = true ∧
      (voteDoor.setBcnState 3).bcnState = 3 ∧ 15 ≤ ({ voteDoor.setBcnState 3 with badTimes := 15 } : Mod).badTimes ∧ voteDoor.srcActive ≠ 1) ∧ 8 ≤ (8 : Byte).toNat := by decide

/-! ### Feed and the keeper bus -/

/-- An entry of 256 bytes of ring 55296, with its token: RECV or SEND. -/
def feedEntry (op : Byte) (tok : W16) : RingEntry := { index := 0, image := image op 0 (List.replicate 8 0 ++ [0, 1, 0, 0]), token := tok }
/-- Interface 0 runs with its link up; flow 0 of records of up to 64 bytes is OPEN under epoch 3, ingress or egress; its entry is in progress. -/
def feeding (egress : Bool) (e : RingEntry) (f : Flow) : Mod := { ((((active.wr (FD_CTL 0) 1).setFlag (FD_STATUS 0) 0 true).wr (flowReg 0 0 0) (BitVec.ofNat 64 (64 * 2 ^ 48 + 2 ^ 8 + (if egress then 2 else 0) + 1))).wr (flowReg 0 0 32) (BitVec.ofNat 64 (3 * 2 ^ 48 + 16)) |>.wr (flowReg 0 0 56) 1
  |>.wr (RING_CTL 55296) (ringWord true false 2)) with rings := [(55296, { prog := [e] })], flows := [(0, { f with epochs := [(0, 3)] })] }
def receiving (f : Flow) : Mod := feeding false (feedEntry 1 1) f
def sending (f : Flow) : Mod := feeding true (feedEntry 2 1) f
def datagram (seq : W64) (len : Nat) : FeedDatagram := { flow := 0, epoch := 3, seq := seq, len := len, data := List.replicate len 1, tagOk := true, formOk := true, fill := 0 }
def ack (cum : W64) : FeedAck := { flow := 0, epoch := 3, cum := cum, windowEnd := 9, sack := 0, tagOk := true }

theorem witness_feed_ingress :
    ((receiving {}).feedOn 0 = true ∧ (receiving {}).feedLink 0 = true ∧ (receiving {}).flag (FD_CTL 0) 1 = false ∧ ((receiving {}).feedCount 0 0).ingressOpen 0 0 = true ∧ ((receiving {}).feedCount 0 0).epochLoaded 0 0 3 = true) ∧
    ((receiving {}).feedCount 0 0).ingressOpen 0 1 = false ∧ ((receiving {}).feedCount 0 0).epochLoaded 0 0 4 = false ∧ ((receiving {}).feedCount 0 0).windowEnd 0 0 = 2 ∧
    ((receiving { cum := 1, used := 1 }).feedCount 0 0).windowEnd 0 0 = 2 ∧ (datagram 0 64).seq.toNat < (((receiving { cum := 1, used := 1 }).feedCount 0 0).flow 0 0).cum.toNat ∧
    (((receiving {}).feedCount 0 0).flow 0 0).above.contains 0 = false ∧ ((receiving {}).feedCount 0 0).flowRecMax 0 0 = 64 ∧ 64 < (datagram 0 65).len ∧
    ((receiving {}).feedCount 0 0).slotAddr 0 0 (((receiving {}).feedCount 0 0).postedOf 0 0) ((((receiving {}).feedCount 0 0).flow 0 0).used + (0 - (((receiving {}).feedCount 0 0).flow 0 0).cum.toNat)) = some 0 ∧
    ((receiving {}).feedCount 0 0).hbmCode ((((receiving {}).feedCount 0 0).slotOfRing (ringOfFlow 0 0)).getD 0) 0 = 0 ∧ ((receiving {}).feed 0).gallery.length < 64 ∧
    64 ≤ (((receiving {}).setFeed 0 { gallery := List.replicate 64 [] }).feed 0).gallery.length ∧ (receiving {}).ingressOpen 0 0 = true ∧ (receiving {}).postedOf 0 0 = feedEntry 1 1 :: [] := by decide

theorem witness_cum_moves : ({ cum := 5, above := [6, 8] } : Flow).cum.toNat + 2 + 1 < 2 ^ 64 := by decide

/-- Record 4 has been sent some times. -/
def unacked (n : Nat) : Mod := sending { sentTo := 5, sent := [{ seq := 4, bytes := [1], resent := n }] }

theorem witness_feed_egress :
    ((feeding true (feedEntry 2 0) {}).hbmCode (((feeding true (feedEntry 2 0) {}).slotOfRing 55296).getD 0) (num (feedEntry 2 0).image 0x18 8) = 0 ∧
      ({ (unacked 3) with feeds := [] } : Mod).egressOpen 0 0 = true ∧ ((unacked 3).setFeed 0 { paused := true }).egressOpen 0 0 = false) ∧
    (((feeding false (feedEntry 1 0) {}).working 55296).find? (fun y => decide (y.token = 0)) = some (feedEntry 1 0) ∧ entryOp (feedEntry 1 0).image = 1) ∧
    (((feeding true (feedEntry 2 0) {}).working 55296).find? (fun y => decide (y.token = 0)) = some (feedEntry 2 0) ∧ entryOp (feedEntry 2 0).image = 2) ∧ ringOfFlow 0 0 = 55296 ∧
    ((feeding true (feedEntry 2 0) {}).flowEgress 0 0 = true ∧ (feeding true (feedEntry 2 0) {}).flowState 0 0 = 1 ∧ (feeding true (feedEntry 2 0) {}).epochLoaded 0 0 (ack 0).epoch = true ∧
      ((feeding true (feedEntry 2 0) {}).flow 0 0).cum.toNat ≤ (ack 0).cum.toNat ∧ (feeding true (feedEntry 2 0) {}).postedOf 0 0 = []) ∧
    (((unacked 3).flow 0 0).sent.find? (fun z => decide (z.seq.toNat = 4)) = some { seq := 4, bytes := [1], resent := 3 } ∧ (unacked 3).flowRetryMax 0 0 = 3 ∧ (unacked 2).egressOpen 0 0 = true) ∧
    ((receiving {}).setFlag (FD_CTL 0) 1 true).flag (FD_CTL 0) 1 = true ∧ (((receiving {}).setFeed 0 { xoff := true }).feed 0).xoff = true ∧ (active.feedEn 0 = true ∧ active.flows = []) := by decide

/-- A message waits at a die's bus, with the answers that stand. -/
def bussed (die ty : Nat) (b : List Byte) (ans : List KMsg) : Mod := (((up.setKslot 0 { st := .sealed }).setF KPR_STATUS 0 4 2)).setKdie die { out := [{ ty := ty, target := 2, slot := 7, payload := b }], answers := ans }

theorem witness_keeper_messages (ty : Nat) : OnWire (bussed 0 ty [] []) 0 { ty := ty, target := 2, slot := 7, payload := [] } ∧ OnWire (bussed 30 ty [1] []) 30 { ty := ty, target := 2, slot := 7, payload := [1] } :=
  ⟨⟨by decide, by show up.modState ≠ 0; decide, rfl, ⟨[], rfl⟩, rfl⟩, ⟨by decide, by show up.modState ≠ 0; decide, rfl, ⟨[], rfl⟩, rfl⟩⟩
theorem witness_key_places : placeOf 0 2 = some (.stack 2) ∧ placeOf 30 (3 * 16384) = some (.feed 0 0 0) ∧ 8 ≤ 30 ∧ 7 < 8 := by decide

theorem witness_keeper_answers :
    ((bussed 0 1 [] [{ ty := 9 }]).kdie 0).answers = { ty := 9 } :: [] ∧ ((bussed 0 6 [] [{ ty := 7, payload := (bussed 0 6 [] []).expected 0 }]).kdie 0).answers = { ty := 7, payload := (bussed 0 6 [] [{ ty := 7 }]).expected 0 } :: [] ∧
    ([] : List Byte).take ((bussed 0 6 [] [{ ty := 7, payload := [] }]).expected 0).length ≠ (bussed 0 6 [] [{ ty := 7, payload := [] }]).expected 0 ∧ ((bussed 0 1 [] []).kdie 0).resends < 3 ∧ (bussed 0 1 [] []).anySealed = true ∧ (bussed 0 1 [] []).keeperState = 2 ∧
    (({ bussed 0 1 [] [] with zeroising := true } : Mod).zeroising = true) := by decide

/-! ### The mailbox and the dialogues -/

/-- A dialogue of the host's channel, with its header and body. -/
def request (op slot : Byte) (data : List Byte) : Dialogue := { ch := some 0, req := [op, 0, 0, 0, 0, 0, 0, 0] ++ bytesOf 4 data.length ++ [slot] ++ List.replicate 19 0 ++ data }
/-- The Keeper is in RUN with a dialogue waiting, in a module whose slot 0 is in a state of sealing. -/
def keeping (k : KSlot) (d : Dialogue) : Mod := { (((up.setF KPR_STATUS 0 4 2).setKslot 0 k).wr (RING_CTL 55296) (ringWord true false 1)) with dialogues := [d], config := [140, 50, 0, 0, 0xA4, 0x38, 0, 0, 0x3F, 3, 1] }
/-- The dialogue has begun and waits for its event. -/
def serving (k : KSlot) (op : Byte) : Mod := keeping k { request op 0 [] with begun := true, plan := [.event] }

theorem witness_mailbox :
    ownChannel .host 0 = true ∧ ownChannel .gallery 1 = true ∧ ownChannel .host 1 = false ∧ ownChannel .gallery 0 = false ∧ up.mbState 0 = 0 ∧ ((up.setF (MB_STATUS 1) 0 2 2).mbState 1 = 2) ∧ ((up.setF (MB_STATUS 1) 0 2 1).mbState 1 ≠ 2) ∧
    ((keeping {} (request 1 0xFF [])).dialogues = request 1 0xFF [] :: [] ∧ (request 1 0xFF []).ch = some 0) := by decide

theorem asked {k : KSlot} {op : Nat} {d : Dialogue} (h : (keeping k d).modState ≠ 0 ∧ d.begun = false ∧ d.ch ≠ none ∧ d.op = op ∧ (keeping k d).keeperState ≠ 3 ∧ requestOk d = true ∧ (keeping k d).keeperAllows op = true) :
    Asked (keeping k d) op d := ⟨h.1, rfl, ⟨[], rfl⟩, h.2.1, h.2.2.1, h.2.2.2.1, .inl h.2.2.2.2.1, h.2.2.2.2.2.1, h.2.2.2.2.2.2⟩

theorem witness_asked_reports : Asked (keeping {} (request 1 0xFF [])) 0x01 (request 1 0xFF []) ∧ Asked (keeping {} (request 2 0xFF [])) 0x02 (request 2 0xFF []) ∧ Asked (keeping {} (request 3 0xFF [])) 0x03 (request 3 0xFF []) ∧
    Asked (keeping {} (request 0x30 0xFF [3, 0, 0, 0, 0xFF, 0xFF, 0, 0, 7])) 0x30 (request 0x30 0xFF [3, 0, 0, 0, 0xFF, 0xFF, 0, 0, 7]) ∧ Asked (keeping {} (request 0x31 0xFF [1, 0, 0, 0])) 0x31 (request 0x31 0xFF [1, 0, 0, 0]) ∧
    Asked (keeping {} (request 0x32 0xFF [0, 0, 0, 0])) 0x32 (request 0x32 0xFF [0, 0, 0, 0]) ∧ Asked (keeping {} (request 0x33 0xFF [])) 0x33 (request 0x33 0xFF []) ∧
    Asked (keeping {} (request 0x40 0xFF [])) 0x40 (request 0x40 0xFF []) ∧ Asked (keeping {} (request 0x41 0xFF [])) 0x41 (request 0x41 0xFF []) ∧ Asked (keeping {} (request 0x50 0xFF [])) 0x50 (request 0x50 0xFF []) := by
  refine ⟨?_, ?_, ?_, ?_, ?_, ?_, ?_, ?_, ?_, ?_⟩ <;> exact asked (by decide)

theorem witness_flash_writes :
    num (request 0x30 0xFF [3, 0, 0, 0, 0xFF, 0xFF, 0, 0, 7]).data 4 4 + ((request 0x30 0xFF [3, 0, 0, 0, 0xFF, 0xFF, 0, 0, 7]).data.drop 8).length ≤ targetSize 3 ∧
    targetSize 3 < num (request 0x30 0xFF [3, 0, 0, 0, 0xFF, 0xFF, 0, 0, 7, 7]).data 4 4 + ((request 0x30 0xFF [3, 0, 0, 0, 0xFF, 0xFF, 0, 0, 7, 7]).data.drop 8).length ∧
    (({ keeping {} (request 1 0 []) with stagings := [3] } : Mod).stagings.contains 3 = true) ∧ (keeping {} (request 1 0 [])).checkObject (stagingAt 1 0) (targetType 1) true = 0x0F07 ∧
    num (keeping {} (request 1 0 [])).galHeader 0x10 4 ≤ (keeping {} (request 1 0 [])).svnOf 1 ∧
    (({ keeping {} (request 1 0 []) with galHeader := List.replicate 16 0 ++ [5, 0, 0, 0] } : Mod).svnOf 1 < num ({ keeping {} (request 1 0 []) with galHeader := List.replicate 16 0 ++ [5, 0, 0, 0] } : Mod).galHeader 0x10 4) := by decide

/-- A configuration record of 32 bytes, with its header for this device. -/
def record : List Byte := bytesOf 4 0x53584454 ++ bytesOf 2 1 ++ bytesOf 2 2 ++ bytesOf 4 0x100 ++ bytesOf 4 32 ++ bytesOf 8 0 ++ bytesOf 4 (bf ((keeping {} (request 1 0 [])).rd 0) 32 32) ++ bytesOf 2 (bf ((keeping {} (request 1 0 [])).rd 0) 16 16) ++ [0xFF, 0] ++
  bytesIn 32 Config.devicePkHash ++ sha256 (List.replicate 32 0) ++ List.replicate 160 0 ++ List.replicate 32 0
/-- The record stands in the staging copy of its target. -/
def staged_ : Mod := (keeping {} (request 0x31 0xFF [1, 0, 0, 0])).st (stagingAt 1 0) record

theorem witness_flash_commit : Asked staged_ 0x31 (request 0x31 0xFF [1, 0, 0, 0]) ∧ staged_.checkObject (stagingAt 1 0) (targetType 1) true = 0 := by
  refine ⟨⟨by decide, rfl, ⟨[], rfl⟩, by decide, by decide, by decide, by decide, by decide, by decide⟩, ?_⟩
  have h1 : staged_.ld (stagingAt 1 0) 256 = record.take 256 := Mod.ld_st _ _ 0 256 record (by decide +kernel)
  have h2 : staged_.ld (stagingAt 1 0 + 256) 32 = List.replicate 32 0 := Mod.ld_st _ _ 256 32 record (by decide +kernel)
  have h3 : staged_.headerOk 2 (record.take 256) = true := by
    have : ((record.take 256).drop 0x20).take 32 = bytesIn 32 Config.devicePkHash := rfl
    unfold Mod.headerOk; rw [this, if_pos ⟨by decide, by decide⟩, decide_eq_true (rfl : bytesIn 32 Config.devicePkHash = _)]; decide
  unfold checkObject
  simp only [h1, show targetType 1 = 2 from rfl, h3, show num (record.take 256) 0xC 4 = 32 from rfl, h2]
  decide +kernel

theorem witness_doors :
    ((keeping {} (request 0x33 0xFF [])).abandonCmds.anySealed = false ∧ (keeping {} (request 0x33 0xFF [])).abandonCmds.goodBank [(0, true), (1, true)] = none) ∧
    (keeping {} (request 0x40 0xFF [])).debugAllowed = true ∧ (keeping {} (request 0x40 0xFF [])).anySealed = false ∧ (∀ p, p < 8 → ((keeping {} (request 0x40 0xFF [])).kslot p).st ≠ .sealing) ∧
    (keeping { st := .sealed } (request 0x40 0xFF [])).anySealed = true := by decide

/-- A Gallery image without a body stands in bank A. -/
def image_ : List Byte := bytesOf 4 0x53584454 ++ bytesOf 2 1 ++ bytesOf 2 1 ++ bytesOf 4 0x100 ++ bytesOf 12 0 ++ bytesOf 4 (bf (up.rd 0) 32 32) ++ bytesOf 2 (bf (up.rd 0) 16 16) ++ [0xFF, 0] ++
  List.replicate 32 0 ++ sha256 [] ++ List.replicate 160 0
def banked : Mod := (keeping {} (request 0x33 0xFF [])).st (bankAt 0) image_

theorem witness_good_bank : Asked banked 0x33 (request 0x33 0xFF []) ∧ banked.abandonCmds.goodBank [(0, true), (1, true)] = some 0 ∧ banked.abandonCmds.bootBank = 0 := by
  have hl : image_.length = 256 := by decide +kernel
  have h0 := ld_st_same (keeping {} (request 0x33 0xFF [])) (bankAt 0) image_
  rw [hl] at h0
  have e : banked.abandonCmds.mem = ((keeping {} (request 0x33 0xFF [])).st (bankAt 0) image_).mem := by decide +kernel
  have h1 : banked.abandonCmds.ld (bankAt 0) 256 = image_ := by rw [Mod.ld, e]; exact h0
  have h3 : banked.abandonCmds.headerOk 1 image_ = true := by decide +kernel
  have c : banked.abandonCmds.checkObject (bankAt 0) 1 true = 0 := by
    unfold checkObject
    simp only [h1, h3, show num image_ 0xC 4 = 0 from rfl]
    decide +kernel
  refine ⟨⟨by decide, rfl, ⟨[], rfl⟩, by decide, by decide, by decide, by decide, by decide, by decide⟩, ?_, by decide⟩
  simp [goodBank, c]

/-- A manifest of slot 0 with one plan, one image and one flow. -/
def manifest (steer : Byte) : List Byte := bytesOf 4 0x4D584454 ++ bytesOf 2 1 ++ bytesOf 2 0 ++ bytesOf 2 1 ++ [1, 1 - steer, steer, 1] ++ (if steer = 1 then bytesOf 2 0 else bytesOf 2 0xFFFF) ++ bytesOf 2 1 ++ bytesOf 2 1 ++ bytesOf 2 0 ++ bytesOf 2 1 ++
  List.replicate 8 0 ++ List.replicate 32 1 ++ List.replicate 224 0 ++ List.replicate 32 2 ++ bytesOf 4 0 ++ List.replicate 28 0

theorem witness_manifest : (keeping {} (request 0x10 0 [])).manifestOk 0 (manifest 0) = true ∧ (keeping {} (request 0x10 0 [])).manifestOk 0 (manifest 1) = true ∧ (keeping {} (request 0x10 0 [])).manifestOk 0 ((manifest 0).drop 1) = false := by decide +kernel

theorem witness_asked_sealing :
    Asked (keeping {} (request 0x10 0 (List.replicate 32 5 ++ manifest 0))) 0x10 (request 0x10 0 (List.replicate 32 5 ++ manifest 0)) ∧
    Asked (keeping { st := .attested, kemAt := some 4 } (request 0x11 0 (List.replicate 1616 5))) 0x11 (request 0x11 0 (List.replicate 1616 5)) ∧
    Asked (keeping { st := .sealed, manifest := manifest 0 } (request 0x12 0 [0, 0, 3, 0])) 0x12 (request 0x12 0 [0, 0, 3, 0]) ∧
    Asked (keeping { st := .sealed, manifest := manifest 0, exportRec := [1] } (request 0x13 0 [0, 0, 1, 0, 0, 0, 0, 0])) 0x13 (request 0x13 0 [0, 0, 1, 0, 0, 0, 0, 0]) ∧
    Asked (keeping { st := .sealed } (request 0x14 0 [])) 0x14 (request 0x14 0 []) ∧ Asked (keeping {} (request 0x20 0 (List.replicate 2 9 ++ List.replicate 70 0))) 0x20 (request 0x20 0 (List.replicate 2 9 ++ List.replicate 70 0)) ∧
    Asked (keeping {} (request 0x21 0 [])) 0x21 (request 0x21 0 []) := by
  refine ⟨?_, ?_, ?_, ?_, ?_, ?_, ?_⟩ <;> exact asked (by decide +kernel)

theorem witness_sealings :
    ((keeping {} (request 0x10 0 [])).hasPart 0 = true ∧ (keeping {} (request 0x10 0 [])).jobRuns 0 = false ∧ (keeping {} (request 0x10 0 [])).debugOn = false ∧ (keeping {} (request 0x10 0 [])).domainsGone = false) ∧
    (((serving { st := .sealing } 0x11).modState ≠ 0 ∧ ∃ d, (serving { st := .sealing } 0x11).inService = some d ∧ d.op = 0x11 ∧ d.code = 0 ∧ d.plan = [.event]) ∧ (serving { st := .sealing } 0x11).busQuiet = true) ∧
    ((∃ d, (serving { st := .tearing } 0x14).inService = some d ∧ d.plan = [.event]) ∧ ((serving { st := .tearing } 0x14).kslot 0).st = .tearing) ∧
    ((keeping { st := .sealed, manifest := manifest 0 } (request 0x12 0 [0, 0, 3, 0])).slotOfRing (ringOfFlow 0 0) = some 0 ∧
      (manifestList (manifest 0) (0x120 + 32 * num (manifest 0) 0x12 2 + 2 * num (manifest 0) 0x14 2) (num (manifest 0) 0x16 2) 4).contains 0 = true) ∧
    (num (manifest 0) 0xD 1 % 2 = 1 ∧ num (request 0x13 0 [0, 0, 1, 0, 0, 0, 0, 0]).data 0 2 < num (request 0x13 0 [0, 0, 1, 0, 0, 0, 0, 0]).data 2 2) ∧ ((keeping { st := .attested } (request 1 0 [])).kslot 0).st = .attested := by
  refine ⟨by decide, ⟨⟨by decide, _, rfl, by decide⟩, by decide⟩, ⟨⟨_, rfl, rfl⟩, by decide⟩, by decide, by decide, by decide⟩

theorem witness_scrubs : (serving { st := .sealing } 0x11).scrubsDone 0 = true ∧ (serving { st := .sealing } 0x11).scrubFailed 0 = false ∧
    ((serving { st := .sealing } 0x11).setKdie 0 { scrubFail := true }).scrubFailed 0 = true := by decide +kernel

/-! ### Host commands -/

/-- A packet of 64 bytes: opcode, slot, buffer address and length, parameters. -/
def packet (op slot : Nat) (buf len : Nat) (par : List Byte) : List Byte := bytesOf 2 op ++ bytesOf 4 0 ++ [BitVec.ofNat 8 slot, 0] ++ bytesOf 8 buf ++ bytesOf 4 len ++ bytesOf 4 0 ++ par ++ List.replicate (40 - par.length) 0
/-- Gallery serves, and the packet stands on the module command channel. -/
def posted (m : Mod) (b : List Byte) : Mod := ((m.setF HI_STATUS 0 4 1).wr HI_MCMD_STATUS 1).putRegs HI_MCMD_REQ 8 b
/-- READY without a partition. -/
def bare : Mod := at_ 2 0

theorem witness_host_channel : bare.mcmdState = 0 ∧ packetOk (bare.regBytes HI_MCMD_REQ 8) = false ∧ packetOk ((bare.putRegs HI_MCMD_REQ 8 (packet 1 0xFF 0 0 [])).regBytes HI_MCMD_REQ 8) = true ∧
    (bare.wr HI_MCMD_STATUS 2).mcmdState = 2 ∧ (posted bare (packet 1 0xFF 0 0 [])).mcmdState ≠ 0 ∧ (posted bare (packet 1 0xFF 0 0 [])).mcmdState ≠ 2 := by decide
theorem witness_offers : (Offers (posted (at_ 4 0) (packet 0x51 0 0 0 [])) .mcmd 0x51 (packet 0x51 0 0 0 []) ∧ (Taking (posted (at_ 4 0) (packet 0x51 0 0 0 [])) .mcmd (packet 0x51 0 0 0 [])).commonCode .mcmd (packet 0x51 0 0 0 []) ≠ 0) ∧
    (Offers (posted bare (packet 0x23 0 0 0 [])) .mcmd 0x23 (packet 0x23 0 0 0 []) ∧ (Taking (posted bare (packet 0x23 0 0 0 [])) .mcmd (packet 0x23 0 0 0 [])).commonCode .mcmd (packet 0x23 0 0 0 []) ≠ 0) := by
  unfold Offers; decide
/-- The query stands at the head of host ring 0 whose slot is another's. -/
def ringPosted : Mod := { (ringed 0 2 1 (packet 2 1 0 0 [])).setF HI_STATUS 0 4 1 with linkUp := true }
theorem witness_ring_offers : Offers ringPosted (.ring 0) 0x02 (packet 2 1 0 0 []) ∧ (Taking ringPosted (.ring 0) (packet 2 1 0 0 [])).commonCode (.ring 0) (packet 2 1 0 0 []) ≠ 0 := by unfold Offers; decide

theorem witness_module_commands :
    Serves (posted bare (packet 1 0xFF 0 0 [])) .mcmd 0x01 (packet 1 0xFF 0 0 []) ∧ Serves (posted bare (packet 2 0xFF 0 0 [])) .mcmd 0x02 (packet 2 0xFF 0 0 []) ∧
    (Serves (posted bare (packet 3 0xFF 0 0 [])) .mcmd 0x03 (packet 3 0xFF 0 0 []) ∧ (Taking (posted bare (packet 3 0xFF 0 0 [])) .mcmd (packet 3 0xFF 0 0 [])).halted = false) ∧
    (Serves (posted (at_ 4 0) (packet 4 0xFF 0 0 [])) .mcmd 0x04 (packet 4 0xFF 0 0 []) ∧ (Taking (posted (at_ 4 0) (packet 4 0xFF 0 0 [])) .mcmd (packet 4 0xFF 0 0 [])).halted = true ∧
      (Taking (posted (at_ 4 0) (packet 4 0xFF 0 0 [])) .mcmd (packet 4 0xFF 0 0 [])).thermLow = false) ∧
    (Serves (posted bare (packet 5 0xFF 0 0 [])) .mcmd 0x05 (packet 5 0xFF 0 0 []) ∧ (Taking (posted bare (packet 5 0xFF 0 0 [])) .mcmd (packet 5 0xFF 0 0 [])).rd MOD_PART_MAP = 0) ∧
    (Serves (posted (at_ 1 0) (packet 6 0xFF 0 0 [])) .mcmd 0x06 (packet 6 0xFF 0 0 []) ∧ (Taking (posted (at_ 1 0) (packet 6 0xFF 0 0 [])) .mcmd (packet 6 0xFF 0 0 [])).startPhase = 0) := by
  unfold Serves Offers; decide
theorem witness_standby_run : Serves (posted (at_ 3 0) (packet 5 0xFF 0 0 [])) .mcmd 0x05 (packet 5 0xFF 0 0 []) ∧ (Taking (posted (at_ 3 0) (packet 5 0xFF 0 0 [])) .mcmd (packet 5 0xFF 0 0 [])).modState = 3 ∧
    (({ at_ 4 0 with board := { (at_ 4 0).board with thermSrc := [3] } } : Mod).thermLow = true) := by unfold Serves Offers; decide
theorem witness_lamp_tests :
    (Serves (posted bare (packet 0x60 0xFF 0 0 [0, 1])) .mcmd 0x60 (packet 0x60 0xFF 0 0 [0, 1]) ∧ pkPar (packet 0x60 0xFF 0 0 [0, 1]) 1 1 = 2 ^ 0 ∧ (Taking (posted bare (packet 0x60 0xFF 0 0 [0, 1])) .mcmd (packet 0x60 0xFF 0 0 [0, 1])).slotOfDie 0 = none) ∧
    (Serves (posted sealed (packet 0x60 0xFF 0 0 [0, 1])) .mcmd 0x60 (packet 0x60 0xFF 0 0 [0, 1]) ∧ (Taking (posted sealed (packet 0x60 0xFF 0 0 [0, 1])) .mcmd (packet 0x60 0xFF 0 0 [0, 1])).locked 0 = true ∧
      (Taking (posted sealed (packet 0x60 0xFF 0 0 [0, 1])) .mcmd (packet 0x60 0xFF 0 0 [0, 1])).slotOfDie 0 = some 0) ∧
    (∃ m : Mod, m.mainUp = true ∧ m.cmds = [] ∧ m.fld LAMP_STATUS 8 4 = 2 ∧ m.lampDies.filter (fun d => !bit m.lampScrub d) = [0]) := by
  refine ⟨by unfold Serves Offers; decide, by unfold Serves Offers; decide, ⟨bare.wr LAMP_STATUS 0x201, by decide⟩⟩

/-- A command in progress. -/
def commanded (m : Mod) (b : List Byte) : Mod := { m with cmds := [{ ch := .mcmd, packet := b, index := 0 }] }

theorem witness_partition_commands :
    (Serves (posted bare (packet 0x10 0xFF 0 0 [5])) .mcmd 0x10 (packet 0x10 0xFF 0 0 [5]) ∧ (Taking (posted bare (packet 0x10 0xFF 0 0 [5])) .mcmd (packet 0x10 0xFF 0 0 [5])).modState = 2 ∧ allowedSet (pkPar (packet 0x10 0xFF 0 0 [5]) 0 1) = false) ∧
    (Serves (posted up (packet 0x10 0xFF 0 0 [1])) .mcmd 0x10 (packet 0x10 0xFF 0 0 [1]) ∧ allowedSet 1 = true ∧ (Taking (posted up (packet 0x10 0xFF 0 0 [1])) .mcmd (packet 0x10 0xFF 0 0 [1])).diesTaken 1 = true) ∧
    (Serves (posted (bare.wr MOD_DIES 0x7FFF_FFFF) (packet 0x10 0xFF 0 0 [255])) .mcmd 0x10 (packet 0x10 0xFF 0 0 [255]) ∧ allowedSet 0xFF = true ∧ (Taking (posted (bare.wr MOD_DIES 0x7FFF_FFFF) (packet 0x10 0xFF 0 0 [255])) .mcmd (packet 0x10 0xFF 0 0 [255])).diesTaken 0xFF = false) ∧
    ((commanded (up.modPart 0 (fun y => { y with powering := true, m2 := true })) (packet 0x10 0xFF 0 0 [1])).powerCmd 0 = some { ch := .mcmd, packet := packet 0x10 0xFF 0 0 [1], index := 0 }) ∧
    ((up.modPart 0 (fun y => { y with powering := true, m2 := true })).kslot 0).domain = 0 ∧ ((up.setKslot 0 { domain := 1 }).kslot 0).domain ≠ 0 ∧ up.slotOfTile 7 = some 0 ∧
    (Serves (posted up (packet 0x11 0 0 0 [])) .mcmd 0x11 (packet 0x11 0 0 0 []) ∧ (Taking (posted up (packet 0x11 0 0 0 [])) .mcmd (packet 0x11 0 0 0 [])).jobRuns 0 = false ∧
      ((Taking (posted up (packet 0x11 0 0 0 [])) .mcmd (packet 0x11 0 0 0 [])).kslot 0).st = .unsealed ∧ ((Taking (posted up (packet 0x11 0 0 0 [])) .mcmd (packet 0x11 0 0 0 [])).kslot 0).domain = 0) ∧
    (Serves (posted (marked {}) (packet 0x11 0 0 0 [])) .mcmd 0x11 (packet 0x11 0 0 0 []) ∧ (Taking (posted (marked {}) (packet 0x11 0 0 0 [])) .mcmd (packet 0x11 0 0 0 [])).jobRuns 0 = true) ∧
    (Serves (posted (up.modPart 0 (fun y => { y with m2 := true })) (packet 0x12 0 0 0 [0])) .mcmd 0x12 (packet 0x12 0 0 0 [0]) ∧ Serves (posted up (packet 0x12 0 0 0 [2])) .mcmd 0x12 (packet 0x12 0 0 0 [2])) ∧
    ((commanded up (packet 0x12 0 0 0 [2])).cmdOf 0 0x12 = some { ch := .mcmd, packet := packet 0x12 0 0 0 [2], index := 0 } ∧ pkPar (packet 0x12 0 0 0 [2]) 0 1 = 2) := by
  unfold Serves Offers; (repeat' apply And.intro) <;> decide

/-- A plan of one section: the step configuration. -/
def plan_ : List Byte := bytesOf 4 0x4E58_4454 ++ bytesOf 2 1 ++ bytesOf 2 0 ++ [1, 0, 0, 0] ++ bytesOf 4 1 ++ bytesOf 8 160 ++ List.replicate 40 0 ++ (bytesOf 2 5 ++ bytesOf 2 0 ++ bytesOf 4 128 ++ bytesOf 4 32 ++ bytesOf 4 0) ++ List.replicate 48 0 ++ List.replicate 32 0
/-- A program image of one word for dowel 0. -/
def prog : List Byte := bytesOf 4 0x5058_4454 ++ bytesOf 2 1 ++ bytesOf 2 0x80 ++ bytesOf 2 0xFFFF ++ [0, 0] ++ bytesOf 4 1 ++ List.replicate 20 0 ++ bytesOf 2 0xFFFF ++ List.replicate 90 0 ++ List.replicate 8 1
/-- A slot keyed for a domain. -/
def domained (k : KSlot) : Mod := up.setKslot 0 { k with domain := 1 }

/-- Record 0 alone in the record table, and a step configuration that a job start accepts. -/
def startable : Mod :=
  { (((((((domained {}).setFlag (PART_STATUS 0) 22 true).wr (XCH_RECORD 0 0 0) 0x0006_4012_0400_0008).wr (XCH_RECORD 0 0 1) 0x8000_0000_0000_0000).wr (STEP_CFG0 0) (BitVec.ofNat 64 (1 * 2 ^ 51 + 2 * 2 ^ 38 + 3 * 2 ^ 25 + 4 * 2 ^ 12))).wr
      (STEP_CFG1 0) (BitVec.ofNat 64 (5 * 2 ^ 51 + 6 * 2 ^ 38 + 7 * 2 ^ 25))).wr (STEER_BASE 0) 0x4_0000_0000_0000) with contexts := [(1, { slot := 0 })] }

/-- The host's buffer at 64 holds some bytes. -/
def buffered (m : Mod) (b : List Byte) : Mod := m.st (hostAt 64) b
/-- PLAN_LOAD, PROG_LOAD and JOB_START packets. -/
def planPacket : List Byte := packet 0x20 0 64 160 []
def progPacket : List Byte := packet 0x21 0 64 136 [0, 0, 1, 0]
def startPacket : List Byte := packet 0x23 0 0 0 ([1, 0, 0, 0, 0, 0, 0, 0] ++ bytesOf 8 4)
def planned_ (k : KSlot) (b : List Byte) : Mod := posted (buffered (domained k) b) planPacket

theorem witness_plan_load :
    Serves (planned_ {} plan_) .mcmd 0x20 planPacket ∧ (Taking (planned_ {} plan_) .mcmd planPacket).jobRuns 0 = false ∧ ((Taking (planned_ {} plan_) .mcmd planPacket).kslot 0).domain ≠ 0 ∧
    Serves (planned_ { st := .sealed } plan_) .mcmd 0x20 planPacket ∧ (Taking (planned_ { st := .sealed } plan_) .mcmd planPacket).planRefused 0 (sha256 plan_) = true := by
  unfold Serves Offers; decide
theorem plan_read : (Taking (planned_ {} plan_) .mcmd planPacket).ld (hostAt (pkBuf planPacket)) (pkLen planPacket) = plan_ := by decide +kernel
theorem witness_plan_accepted : ((Taking (planned_ {} plan_) .mcmd planPacket).applyPlan 0 plan_).1 = 0 := by decide +kernel
theorem witness_plan_refused : ((Taking (planned_ {} []) .mcmd planPacket).applyPlan 0 []).1 ≠ 0 := by decide
theorem witness_prog_load :
    Serves (posted (buffered (idle.wr (SEQ_PROG 0) 0) prog) progPacket) .mcmd 0x21 progPacket ∧ (Taking (posted (buffered idle prog) progPacket) .mcmd progPacket).ld (hostAt (pkBuf progPacket)) (pkLen progPacket) = prog ∧
    pkPar progPacket 2 2 = 1 ∧ imageBad prog = false ∧ num prog 8 2 = 0xFFFF ∧ 128 + 8 * imageLen prog ≤ prog.length ∧ (Taking (posted (buffered idle prog) progPacket) .mcmd progPacket).progCode 0 prog = 0 := by
  unfold Serves Offers; decide +kernel
theorem witness_job_start : Serves (posted startable startPacket) .mcmd 0x23 startPacket ∧ Serves (posted up startPacket) .mcmd 0x23 startPacket ∧ (Taking (posted up startPacket) .mcmd startPacket).jobCode 0 1 4 false false ≠ 0 := by
  unfold Serves Offers; decide
theorem witness_plan_sealed : ((Taking (planned_ { st := .sealed } plan_) .mcmd planPacket).applyPlan 0 plan_).1 = 0 := by decide +kernel

theorem get_absent {α : Type} {d : Nat → α} (l : List (Nat × α)) (k : Nat) (h : ∀ p ∈ l, p.1 ≠ k) : Sparse.get d l k = d k := by
  induction l with
  | nil => rfl
  | cons p r ih =>
    have hp := h p (by simp)
    rw [Sparse.get, if_neg hp]
    exact ih (fun q hq => h q (by simp [hq]))
theorem xlist_reset (a : Nat) (h0 : a % 8 = 0) (h1 : 0x1000_0000 ≤ a) (h2 : a < 0x6000_0000) (h3 : 0x4_1000 ≤ a % 0x10_0000) (h4 : a % 0x10_0000 < 0x4_3000) : regReset a = 0 := by
  unfold regReset regSpec
  iterate 10 rw [if_neg (by omega)]
  rw [if_pos (by omega)]
  generalize a % 0x10_0000 = o at h3 h4 ⊢
  unfold tileSpec
  iterate 29 rw [if_neg (by omega)]
  rw [if_pos (by omega)]
/-- The module as the start finds it. -/
def starting : Mod := Taking (posted startable startPacket) .mcmd startPacket
theorem starting_xlist (t e : Nat) (ht : t < 160) (he : e < 1024) : starting.xlValid t e = false := by
  have h : ∀ p ∈ starting.regs, p.1 < 0x1004_1000 ∨ 0x6000_0000 ≤ p.1 := by decide
  rw [xlValid, flag, rd, get_absent _ _ (fun p hp => by have := h p hp; unfold XLIST tileReg tileBase; omega), xlist_reset _ (by unfold XLIST tileReg tileBase; omega) (by unfold XLIST tileReg tileBase; omega) (by unfold XLIST tileReg tileBase; omega) (by unfold XLIST tileReg tileBase; omega) (by unfold XLIST tileReg tileBase; omega)]
  decide
theorem starting_programs : starting.programMissing 0 = false := by
  have ht : starting.tilesOf 0 = upto 160 := by decide +kernel
  have hp : starting.pieces 0 = [] := by decide
  rw [programMissing, ht, hp, List.any_eq_false]
  intro t ht
  have ht : t < 160 := by simpa [upto] using ht
  have hx : (upto 1024).any (fun e => starting.xlValid t e) = false := by
    rw [List.any_eq_false]
    intro e he
    rw [starting_xlist t e ht (by simpa [upto] using he)]
    decide
  rw [List.any_nil, Bool.or_false, hx, Bool.and_false]
  decide
theorem witness_job_accepted : starting.jobCode 0 (pkPar startPacket 0 2) (pkPar startPacket 8 8) false false = 0 := by
  have h1 : starting.jobRuns 0 = false := by decide +kernel
  have h2 : (starting.kslot 0).domain ≠ 0 ∧ (starting.kslot 0).refusedPlan = false := by decide +kernel
  have h3 : starting.planValid 0 = true := by decide +kernel
  have h4 : starting.contextIs (pkPar startPacket 0 2) 0 false = true := by decide +kernel
  have h5 : starting.stepCfgBad 0 = false := by decide +kernel
  have h6 : starting.recordRunOk 0 = true := by decide +kernel
  have h7 : ¬ pkPar startPacket 8 8 < 4 := by decide
  simp [jobCode, starting_programs, h1, h2.2, h3, h4, h5, h6, h7]; exact h2.1
theorem witness_job_stop :
    ∃ b : List Byte, Serves (posted up b) .mcmd 0x24 b ∧ ((Taking (posted up b) .mcmd b).part (pkSlot b)).job = none ∧ Serves (posted (voting 0) b) .mcmd 0x24 b ∧ ((Taking (posted (voting 0) b) .mcmd b).part 0).job = some {} ∧
      pkPar b 0 1 = 0 := ⟨packet 0x24 0 0 0 [0], by unfold Serves Offers; decide⟩
theorem witness_job_abort :
    ∃ (m : Mod) (b : List Byte), Serves (posted m b) .mcmd 0x24 b ∧ ((Taking (posted m b) .mcmd b).part (pkSlot b)).job = some { started := true } ∧ pkPar b 0 1 = 1 :=
  ⟨up.modPart 0 (fun y => { y with job := some { started := true } }), packet 0x24 0 0 0 [1], by unfold Serves Offers; decide⟩
theorem witness_plan_running : ∃ b : List Byte, Serves (posted (voting 0) b) .mcmd 0x20 b ∧ (Taking (posted (voting 0) b) .mcmd b).jobRuns (pkSlot b) = true := ⟨planPacket, by unfold Serves Offers; decide⟩

/-- A slot with a context, free, in use or SAVED. -/
def contexted (saved : Bool) : Mod := { up.setF (PART_STATUS 0) 32 16 1 with contexts := [(1, { slot := 0, saved := saved })] }
/-- The stream of a context with no sections. -/
def emptyStream : List Byte := bytesOf 4 0x5258_4454 ++ bytesOf 2 1 ++ bytesOf 2 1 ++ List.replicate 56 0 ++ up.geometry 0

theorem witness_contexts :
    (Serves (posted up (packet 0x22 0 0 0 [])) .mcmd 0x22 (packet 0x22 0 0 0 []) ∧ (Taking (posted up (packet 0x22 0 0 0 [])) .mcmd (packet 0x22 0 0 0 [])).nextContext ≤ 0xFFFF) ∧
    (Serves { posted up (packet 0x22 0 0 0 []) with nextContext := 0x10000 } .mcmd 0x22 (packet 0x22 0 0 0 []) ∧ 0xFFFF < (Taking { posted up (packet 0x22 0 0 0 []) with nextContext := 0x10000 } .mcmd (packet 0x22 0 0 0 [])).nextContext) ∧
    (Serves (posted (contexted false) (packet 0x32 0 0 0 [1, 0])) .mcmd 0x32 (packet 0x32 0 0 0 [1, 0]) ∧ (Taking (posted (contexted false) (packet 0x32 0 0 0 [1, 0])) .mcmd (packet 0x32 0 0 0 [1, 0])).contextIs 1 0 false = true) ∧
    (Serves (posted (contexted true) (packet 0x33 0 0 0 [1, 0])) .mcmd 0x33 (packet 0x33 0 0 0 [1, 0]) ∧ (Taking (posted (contexted true) (packet 0x33 0 0 0 [1, 0])) .mcmd (packet 0x33 0 0 0 [1, 0])).contextIs 1 0 true = true) := by
  unfold Serves Offers; decide
theorem witness_context_save :
    (Serves (posted (contexted false) (packet 0x30 0 0 0 [1, 0])) .mcmd 0x30 (packet 0x30 0 0 0 [1, 0]) ∧ (Taking (posted (contexted false) (packet 0x30 0 0 0 [1, 0])) .mcmd (packet 0x30 0 0 0 [1, 0])).contextIs 1 0 false = true ∧
      (Taking (posted (contexted false) (packet 0x30 0 0 0 [1, 0])) .mcmd (packet 0x30 0 0 0 [1, 0])).fld (PART_STATUS 0) 32 16 = 1 ∧ (Taking (posted (contexted false) (packet 0x30 0 0 0 [1, 0])) .mcmd (packet 0x30 0 0 0 [1, 0])).locked 0 = false ∧
      ((Taking (posted (contexted false) (packet 0x30 0 0 0 [1, 0])) .mcmd (packet 0x30 0 0 0 [1, 0])).part 0).job = none) ∧
    (let m := (contexted false).modPart 0 (fun y => { y with job := some {} });
      Serves (posted m (packet 0x30 0 0 0 [1, 0])) .mcmd 0x30 (packet 0x30 0 0 0 [1, 0]) ∧ ((Taking (posted m (packet 0x30 0 0 0 [1, 0])) .mcmd (packet 0x30 0 0 0 [1, 0])).part 0).job = some {}) ∧
    (let m := commanded ((contexted false).modPart 0 (fun y => { y with saving := true })) (packet 0x30 0 0 0 [1, 0]);
      m.mainUp = true ∧ m.halted = false ∧ (m.part 0).saving = true ∧ m.cmdOf 0 0x30 = some { ch := .mcmd, packet := packet 0x30 0 0 0 [1, 0], index := 0 } ∧ m.locked 0 = false ∧ pkPar (packet 0x30 0 0 0 [1, 0]) 4 1 % 2 = 0) := by
  unfold Serves Offers; decide
theorem witness_context_restore :
    Serves (posted (contexted true) (packet 0x31 0 0 0 [])) .mcmd 0x31 (packet 0x31 0 0 0 []) ∧ (Taking (posted (contexted true) (packet 0x31 0 0 0 [])) .mcmd (packet 0x31 0 0 0 [])).jobRuns 0 = false ∧
    (Taking (posted (contexted true) (packet 0x31 0 0 0 [])) .mcmd (packet 0x31 0 0 0 [])).locked 0 = false ∧ num emptyStream 0 4 = 0x5258_4454 ∧ num emptyStream 4 2 = 1 ∧
    (emptyStream.drop 64).take 32 = (Taking (posted (contexted true) (packet 0x31 0 0 0 [])) .mcmd (packet 0x31 0 0 0 [])).geometry 0 ∧ num emptyStream 0x18 4 = 0 ∧
    ((Taking (posted (contexted true) (packet 0x31 0 0 0 [])) .mcmd (packet 0x31 0 0 0 [])).restoreContext 0 (num emptyStream 6 2)).isSome = true := by
  unfold Serves Offers; decide +kernel
/-- A stopped job that is settled, with the next plan in the host's buffer. -/
def stopped : Mod := startable.setF (PART_STATUS 0) 32 16 1
theorem witness_export :
    Serves (posted stopped (packet 0x26 0 0 0 [])) .mcmd 0x26 (packet 0x26 0 0 0 []) ∧ (Taking (posted stopped (packet 0x26 0 0 0 [])) .mcmd (packet 0x26 0 0 0 [])).jobSettled 0 = true ∧
    (Taking (posted stopped (packet 0x26 0 0 0 [])) .mcmd (packet 0x26 0 0 0 [])).locked 0 = false ∧ (Taking (posted stopped (packet 0x26 0 0 0 [])) .mcmd (packet 0x26 0 0 0 [])).countsOk 0 true = true := by
  unfold Serves Offers; decide +kernel
/-- A RESHARD command. -/
def reshardPacket : List Byte := packet 0x25 0 64 160 []
def resharding : Mod := Taking (posted (buffered stopped plan_) reshardPacket) .mcmd reshardPacket
theorem witness_reshard : Serves (posted (buffered stopped plan_) reshardPacket) .mcmd 0x25 reshardPacket ∧ resharding.ld (hostAt 64) 160 = plan_ ∧
    Serves (posted up reshardPacket) .mcmd 0x25 reshardPacket ∧ (Taking (posted up reshardPacket) .mcmd reshardPacket).jobSettled 0 = false := by
  unfold Serves Offers; decide +kernel
/-- A RESHARD of a job of two modules without tensors: the tallies of nothing agree, and the other module's answer decides. -/
def reshardUp : Mod := up.modPart 0 (fun y => { y with reshard := true, layout := { jobTable := [1, 0, 2, 0, 2, 0, 0, 0] } })
theorem witness_reshard_end : reshardUp.mainUp = true ∧ (reshardUp.part 0).reshard = true ∧ (reshardUp.part 0).reshardLost = false ∧
    (∀ o, (reshardUp.talliesAgree (reshardUp.reshardPlaced 0) 0 && (decide (reshardUp.jobModules 0 = 1) || o)) = o) ∧
    reshardUp.fatalStopped = false ∧ severityOf 0x0301 true = 1 ∧ reshardUp.handling 0 = 0 ∧ reshardUp.jobRuns 0 = false ∧
    ((up.modPart 0 (fun y => { y with reshardLost := true })).part 0).reshardLost = true := by decide +kernel
/-- A step-fatal error abandons a RESHARD, and its command then completes with 0x0A22. -/
theorem test_reshard_abandoned : let m := reshardUp.raise { code := 0x0422, slot := some 0 };
    ((m.part 0).reshard, (m.part 0).reshardLost, m.fld ERR_STATUS 48 16, (m.reshardEnd 0 true).jobRuns 0) = (false, true, 0x0A22, false) := by decide +kernel
/-- The last group of a piece of 12 channels: 4 of 8 lanes are used, and a write keeps the others at zero (R348). -/
theorem test_unused_lanes : let x := readTensor (bytesOf 4 1 ++ bytesOf 4 0 ++ [8, 1, 0, 1] ++ bytesOf 4 12 ++ bytesOf 4 1 ++ bytesOf 4 1 ++ bytesOf 4 1 ++ bytesOf 4 0);
    let p := { readPiece (List.replicate 64 0) with extent := [12, 1, 1, 1], origin := [0, 0, 0, 0] };
    (p.used x 8 [3, 0, 0, 0], p.used x 8 [9, 0, 0, 0], placed p x [9, 0, 0, 0] (2 ^ 256 - 1) 0) = (8, 4, 2 ^ 128 - 2 ^ 64 + 2 ^ 32 - 1) := by decide
theorem reshard_form : resharding.planForm 0 plan_ = 0 := by decide +kernel
theorem reshard_sections : (resharding.loadSections 0 (planSections plan_) 0).1 = 0 := by decide +kernel
theorem witness_reshard_checks : let x := resharding.loadSections 0 (planSections plan_) 0;
    x.2.2.planChecks 0 (planSections plan_) = 0 ∧ resharding.jobRuns 0 = false ∧ resharding.jobSettled 0 = true ∧ (resharding.kslot 0).refusedPlan = false ∧ resharding.locked 0 = false ∧ resharding.jobIds 0 = [0] ∧ x.2.2.jobIds 0 = [0] ∧
    resharding.persistentEntries 0 = x.2.2.persistentEntries 0 ∧ resharding.reshardOverlaps x.2.2 0 = false ∧ x.2.2.recordRunOk 0 = true := by decide +kernel
theorem witness_reshard_accepted : resharding.reshardCode 0 plan_ = 0 := by
  obtain ⟨h1, h2, h3, h4, h5, h6, h7, h8, h9, h10⟩ := witness_reshard_checks
  have e : resharding.applyPlan 0 plan_ = (0, (planSections plan_).take (resharding.loadSections 0 (planSections plan_) 0).2.1, (resharding.loadSections 0 (planSections plan_) 0).2.2) := by
    simp only [applyPlan, reshard_form, reshard_sections, h1]; rfl
  simp [reshardCode, e, h2, h3, h4, h5, h6, h7, h8, h9, h10, planRefused]

/-- Buoy and register commands. -/
def buoyPacket (op : Nat) (par : List Byte) : List Byte := packet op 0 64 32 par
def taken (m : Mod) (b : List Byte) : Mod := Taking (posted m b) .mcmd b

/-- A BUOY_WATCH at the head of host ring 0. -/
def watchPosted : Mod := { (ringed 0 2 1 (buoyPacket 0x42 [])).setF HI_STATUS 0 4 1 with linkUp := true }
theorem witness_buoy_host_commands :
    (Serves (posted (contexted false) (buoyPacket 0x40 [0, 0, 0, 0, 7, 0, 0, 0, 1, 0])) .mcmd 0x40 (buoyPacket 0x40 [0, 0, 0, 0, 7, 0, 0, 0, 1, 0]) ∧ (taken (contexted false) (buoyPacket 0x40 [0, 0, 0, 0, 7, 0, 0, 0, 1, 0])).slotOfBuoy 0 = some 0 ∧
      (taken (contexted false) (buoyPacket 0x40 [0, 0, 0, 0, 7, 0, 0, 0, 1, 0])).contextIs 1 0 false = true ∧ ((taken (contexted false) (buoyPacket 0x40 [0, 0, 0, 0, 7, 0, 0, 0, 1, 0])).buoy 0).st = .free ∧
      ((taken ((contexted false).setBuoy 0 { st := .live }) (buoyPacket 0x40 [0, 0, 0, 0, 7, 0, 0, 0, 1, 0])).buoy 0).st ≠ .free) ∧
    (Serves (posted (up.setBuoy 0 { st := .broken }) (buoyPacket 0x41 [])) .mcmd 0x41 (buoyPacket 0x41 []) ∧ (taken (up.setBuoy 0 { st := .broken }) (buoyPacket 0x41 [])).slotOfBuoy 0 = some 0 ∧
      ((taken (up.setBuoy 0 { st := .broken }) (buoyPacket 0x41 [])).buoy 0).st = .broken) ∧
    (let m := (watchPosted.setBuoy 0 { st := .live });
      Serves m (.ring 0) 0x42 (buoyPacket 0x42 []) ∧ (Taking m (.ring 0) (buoyPacket 0x42 [])).slotOfBuoy 0 = some 0 ∧
      ((Taking m (.ring 0) (buoyPacket 0x42 [])).registerWatch .gallery 0 { cond := 0, value := 0, mask := 0, deadline := 0, target := 0, cookie := 0 }).1 = 0 ∧
      ((Taking watchPosted (.ring 0) (buoyPacket 0x42 [])).registerWatch .gallery 0 { cond := 0, value := 0, mask := 0, deadline := 0, target := 0, cookie := 0 }).1 ≠ 0) ∧
    (let b := buoyPacket 0x43 [0, 0, 0, 0, 77, 0, 0, 0];
      Serves (posted (up.setBuoy 0 { st := .live, watches := [watched] }) b) .mcmd 0x43 b ∧ (taken (up.setBuoy 0 { st := .live, watches := [watched] }) b).slotOfBuoy 0 = some 0 ∧
      ((taken (up.setBuoy 0 { st := .live, watches := [watched] }) b).buoy 0).watches = [watched] ∧ watched.cookie = BitVec.ofNat 32 (pkPar b 4 4) ∧
      Serves (posted up b) .mcmd 0x43 b ∧ ((taken up b).buoy 0).watches = []) := by
  unfold Serves Offers; decide
theorem witness_register_commands :
    (let b := buoyPacket 0x50 (bytesOf 8 0 ++ bytesOf 4 1);
      Serves (posted up b) .mcmd 0x50 b ∧ pkPar b 8 4 = 1 ∧ ((taken up b).readReg .host (pkPar b 0 8)).toOption.isSome = true) ∧
    (let b := buoyPacket 0x50 (bytesOf 8 0x7_0000_0000 ++ bytesOf 4 1);
      Serves (posted up b) .mcmd 0x50 b ∧ pkPar b 8 4 = 1 ∧ ((taken up b).readReg .host (pkPar b 0 8)).toOption.isSome = false) ∧
    (let b := buoyPacket 0x51 (bytesOf 8 (TILE_CTL 0) ++ bytesOf 4 1);
      Serves (posted up b) .mcmd 0x51 b ∧ pkPar b 8 4 = 1) ∧
    (let b := buoyPacket 0x52 (bytesOf 4 1);
      Serves (posted up b) .mcmd 0x52 b ∧ pkPar b 0 4 = 1 ∧ (taken up b).ldNat (hostAt (pkBuf b)) 8 % 8 = 0 ∧ ((taken up b).readReg .host ((taken up b).ldNat (hostAt (pkBuf b)) 8)).toOption.isSome = true) := by
  unfold Serves Offers; decide
/-! ### Errors -/

/-- A module whose slot 0 or module scope is being handled. -/
def handled (k level : Nat) (deadline : W64) : Mod := (ticking up 4096).setFirst k { code := 0x0301, severity := level, handling := level, deadline := deadline }

theorem witness_capture :
    up.fatalStopped = false ∧ severityOf 0x0301 true = 1 ∧ up.handling 0 = 0 ∧ up.feValid 0 = false ∧ up.jobRuns 0 = false ∧ (up.part 0).reshard = false ∧
    (handled 0 1 0).fatalStopped = false ∧ 1 ≤ (handled 0 1 0).handling 0 ∧ severityOf 0x0721 true = 0 ∧ (up.setFlag ERR_CTL 0 false).flag ERR_CTL 0 = false ∧ (up.setFlag ERR_CTL 0 false).handling 0 = 0 := by decide
theorem witness_handlings :
    ((handled 0 1 0).mainUp = true ∧ (handled 0 1 0).handling 0 = 1 ∧ (handled 0 1 0).halted = false ∧ (handled 0 1 0).fatalStopped = false ∧ ((handled 0 1 0).first 0).deadline.toNat ≤ (handled 0 1 0).count.toNat) ∧
    ((handled 0 2 0).handling 0 = 2 ∧ (handled 0 2 0).halted = false ∧ (handled 0 2 0).fatalStopped = false ∧ (handled 0 2 0).jobRuns 0 = false ∧ (handled 0 2 0).cmds = []) ∧
    (handled 0 1 5000).count.toNat < ((handled 0 1 5000).first 0).deadline.toNat ∧
    ((handled 8 3 0).handling 8 = 3 ∧ ((handled 8 3 0).first 8).deadline.toNat ≤ (handled 8 3 0).count.toNat ∧ (handled 8 3 0).zeroiseBegun = false) ∧
    (let m := { handled 8 3 0 with zeroising := true, fatalAt := 0 };
      m.zeroising = true ∧ m.zeroiseBegun = false ∧ m.fatalAt.toNat + 1000 ≤ m.count.toNat ∧ m.allZeroised = false) ∧
    (let m := { (busDies.foldl (fun m d => m.setKdie d { zeroised := true }) (handled 8 3 0)) with zeroising := true };
      m.zeroising = true ∧ m.allZeroised = true) ∧ (up.cmds = [] ∧ up.dialogues = []) := by decide

/-! ### Ill-formed commands: one for each check of WellFormed -/

theorem test_wf_tile : (Instr.nop 1280 0 0).wf = false := by decide
theorem test_wf_thread : (Instr.nop 0 4 0).wf = false := by decide
theorem test_wf_slot : (Instr.launchVote 8).wf = false := by decide
theorem test_wf_half : (Instr.railSettled 16).wf = false := by decide
theorem test_wf_die : (Instr.railFault 32).wf = false := by decide
theorem test_wf_dowel : (Instr.dowelValidClear .host 0 256).wf = false := by decide
theorem test_wf_jig : (Instr.jigDisable .host 0 6).wf = false := by decide
theorem test_wf_port : (Instr.replayTimeout 6).wf = false := by decide
theorem test_wf_lane : (Instr.laneSwitch 0 40).wf = false := by decide
theorem test_wf_mailbox : (Instr.mbAck .keeper 2).wf = false := by decide
theorem test_wf_ring : (Instr.feedRecv 65536).wf = false := by decide
theorem test_wf_iface : (Instr.feedXon 2).wf = false := by decide
theorem test_wf_flow : (Instr.feedAckTimer 0 2048).wf = false := by decide
theorem test_wf_buoy : (Instr.buoySet .keeper 8192 0).wf = false := by decide
theorem test_wf_source : (Instr.buoySet (.jicen 4096) 0 0).wf = false := by decide
theorem test_wf_channel : (Instr.hostNop (.ring 65536)).wf = false := by decide
theorem test_wf_record : (Instr.xchRecordWrite .host 0 1024 false 0).wf = false := by decide
theorem test_wf_fru : (Instr.fruRead 2048 1).wf = false := by decide
theorem test_wf_desc : (Instr.xchSendWord 0 2048 0).wf = false := by decide
theorem test_wf_stack : (Instr.hbmScrubDone 32).wf = false := by decide
theorem test_wf_entry : (Instr.planeZeroingDone 0 256).wf = false := by decide
theorem test_wf_pseudo_channel : (Instr.refresh 0 32).wf = false := by decide
theorem test_wf_quarter : (Instr.veneerLineFill 0 4 0 true).wf = false := by decide
theorem test_wf_line : (Instr.veneerLineFill 0 0 (2 ^ 32) true).wf = false := by decide
theorem test_wf_waiter : (Instr.buoyWaitRequest (.ringHead 65536) 0).wf = false := by decide
theorem test_wf_node : (Instr.nodeWordCombine (.tile 1280) 0).wf = false := rfl
theorem test_wf_accepts : (Instr.nop 1279 3 0).wf = true ∧ (Instr.buoySet (.jicen 4095) 8191 0).wf = true ∧ (Instr.fruRead 2040 8).wf = true := by decide

/-! ### Words of tile instructions, one of each family, written out from R113 to R132 -/

theorem test_decode_control_flow : decodeTile 0 0 0x0108_9800_00FF_FFFE = .br 0 0 0x08_9800_00FF_FFFE := by decide
theorem test_decode_scalar : decodeTile 0 0 0x1018_4100_0000_0005 = .add 0 0 0x18_4100_0000_0005 := by decide
theorem test_decode_scalar_memory : decodeTile 0 0 0x2500_8A00_0700_0010 = .stw 0 0 0x00_8A00_0700_0010 := by decide
theorem test_decode_jig : decodeTile 0 0 0x3820_0000_0000_0000 = .jwait 0 0 0x20_0000_0000_0000 := by decide
theorem test_decode_array : decodeTile 0 0 0x4000_1800_1F00_0000 = .mma 0 0 0x00_1800_1F00_0000 := by decide
theorem test_decode_output : decodeTile 0 0 0x4B00_0000_1F00_0000 = .odrain 0 0 0x00_0000_1F00_0000 := by decide
theorem test_decode_vector : decodeTile 0 0 0x5100_0000_0000_0000 = .vred 0 0 0 := by decide
theorem test_decode_quantiser : decodeTile 0 0 0x5800_0000_0000_0000 = .quant 0 0 0 := by decide
theorem test_decode_random : decodeTile 0 0 0x6200_0000_0000_0000 = .rand 0 0 0 := by decide
theorem test_decode_buoy : decodeTile 0 0 0x6A04_4500_0000_0006 = .bwait 0 0 0x04_4500_0000_0006 := by decide
theorem test_decode_ring : decodeTile 0 0 0x7000_0000_0000_0000 = .rpush 0 0 0 := by decide
theorem test_decode_exchange : decodeTile 0 0 0x7900_0000_0000_0000 = .xwait 0 0 0 := by decide
theorem test_decode_prefetch : decodeTile 0 0 0x8000_0000_0000_0000 = .pref 0 0 0 := by decide
theorem test_decode_stag : decodeTile 0 0 0x8800_0000_0000_0000 = .stag 0 0 0 := by decide
theorem test_decode_trap : decodeTile 0 0 0xF000_0000_0000_0007 = .trapI 0 0 7 := by decide
theorem test_decode_break : decodeTile 0 0 0xF100_0000_0000_0000 = .brk 0 0 0 := by decide
theorem test_decode_reserved : decodeTile 0 0 0x0B00_0000_0000_0000 = .illegalInstruction 0 0 0x0B00_0000_0000_0000 := by decide
theorem test_table_words (n w : Nat) : decodeTableWord n w = none ∧ (State.reset.withFetchWord n w) = State.reset := ⟨rfl, rfl⟩

/-! ### Values that the spec or the standards it names give -/

/-- The vectors of the random block function after R202. -/
theorem test_random_vector_1 : genBlock 0x0F0E_0D0C_0B0A_0908_0706_0504_0302_0100 0xFFEE_DDCC_BBAA_9988_7766_5544_3322_1100 = 0x5AC5_B470_80B7_CDD8_3004_7B6A_D8E0_C469 := by decide +kernel
theorem test_random_vector_2 : genBlock 0x3C4F_CF09_8815_F7AB_A6D2_AE28_1615_7E2B 0x3407_37E0_A298_3131_8D30_5A88_A8F6_4332 = 0x320B_6A19_9785_11DC_FB09_DC02_1D84_2539 := by decide +kernel
/-- SHA-256 of "abc" (FIPS 180-4) and the CRC-32 of IEEE 802.3 over "123456789". -/
theorem test_sha256 : sha256 [0x61, 0x62, 0x63] = [0xBA, 0x78, 0x16, 0xBF, 0x8F, 0x01, 0xCF, 0xEA, 0x41, 0x41, 0x40, 0xDE, 0x5D, 0xAE, 0x22, 0x23, 0xB0, 0x03, 0x61, 0xA3, 0x96, 0x17, 0x7A, 0x9C, 0xB4, 0x10, 0xFF, 0x61, 0xF2, 0x00, 0x15, 0xAD] := by decide +kernel
theorem test_crc32 : crc32 [0x31, 0x32, 0x33, 0x34, 0x35, 0x36, 0x37, 0x38, 0x39] = 0xCBF4_3926 := by decide +kernel
/-- The example before R27: logical tile 517 with and without a disabled tile in its column, and its windows. -/
theorem test_tile_map : up.physTile 517 = 565 ∧ Mod.physTile { up with disabled := [528 + 2 * 8 + 5] } 517 = 573 ∧ tileReg 517 0 = 0x3050_0000 ∧ physBase 573 = 0x1_23D0_0000 := by decide
/-- The example of a 2-D dowel (Registers of the scratchpad): word (45, 40) of a dowel of quarter 1, line 256, 64 words wide. -/
theorem test_dowel_address : (up.wr (DOWEL0 517 9) 0x8801_0100_0080_0100).dowelAddr 517 9 (45 * 64 + 40) = 0x85_B500 := by decide
/-- The example after R312: a partition HBM address of slot 2. -/
theorem test_hbm_address : hbmPlace 2 0x50_0004_2C00 = (13, 0x4_2C00) := by decide
/-- The example after R177, with the FP32 value nearest 0.3: FP4 E2M1 rounds up for r at most 9. -/
theorem test_stochastic_rounding : (convert 4 (some 9) (val32 0x3E99_999A)).code = 1 ∧ (convert 4 (some 10) (val32 0x3E99_999A)).code = 0 := by decide +kernel
/-- The example of the power chapter: 14,500 W against 13.4 kW. -/
theorem test_headroom : headroomOf 14500 13400 = 75 := by decide
/-- The example of a 4 × 4 × 4 torus (R424): VOTE_LAT_BT is 744. -/
theorem test_vote_latency : ((((up.wr JC_TOPO 0x33_3000).wr JC_HOP_MAX 24).wr (VGROUP 0 0 0) 0x1_0400_0400_0400).refreshGroup 0 0).fld (VGROUP 0 0 1) 0 16 = 744 := by decide
/-- The example of a Feed flow: CUM 100 and records 101 to 163 give SACK bits 0 to 62; then record 100 moves CUM to 164. -/
theorem test_feed_sack : sackOf { cum := 100, above := (upto 63).map (· + 101) } = 2 ^ 63 - 1 := by decide +kernel

/-! ### Single instructions -/

/-- The module after a command. -/
def after (i : Instr) (m : Mod) : Mod := match exec i (st m) with
  | .next t => t.m
  | _ => m
/-- Register 3 of the thread after an instruction whose source register 1 held `v`. -/
def result (i : Instr) (v : W32) : W32 := ((after i (issuing.modThread 0 0 (fun x => x.setG 1 v))).thread 0 0).gReg 3

theorem test_add_wraps : result (.add 0 0 0x18_4100_0000_0005) 0xFFFF_FFFE = 3 := by decide
theorem test_sub : result (.sub 0 0 0x18_4100_0000_0005) 2 = 0xFFFF_FFFD := by decide
theorem test_mul_low : result (.mul 0 0 0x18_4100_0000_0005) 0x4000_0001 = 0x4000_0005 := by decide
theorem test_mulhs_signed : result (.mulhs 0 0 0x18_4100_0000_0005) 0xFFFF_FFFF = 0xFFFF_FFFF := by decide
theorem test_mulhu_unsigned : result (.mulhu 0 0 0x18_4100_0000_0005) 0xFFFF_FFFF = 4 := by decide
theorem test_and : result (.andI 0 0 0x18_4100_0000_0005) 0xC = 4 := by decide
theorem test_or : result (.orI 0 0 0x18_4100_0000_0005) 8 = 0xD := by decide
theorem test_xor : result (.xorI 0 0 0x18_4100_0000_0005) 4 = 1 := by decide
theorem test_shl : result (.shl 0 0 0x18_4100_0000_0005) 0x0C00_0001 = 0x8000_0020 := by decide
theorem test_shr : result (.shr 0 0 0x18_4100_0000_0005) 0x8000_0000 = 0x0400_0000 := by decide
theorem test_sra_sign : result (.sra 0 0 0x18_4100_0000_0005) 0x8000_0000 = 0xFC00_0000 := by decide
theorem test_slt_signed : result (.slt 0 0 0x18_4100_0000_0005) 0xFFFF_FFFF = 1 := by decide
theorem test_sltu_unsigned : result (.sltu 0 0 0x18_4100_0000_0005) 0xFFFF_FFFF = 0 := by decide
theorem test_pc_advances : ((after (.add 0 0 0x18_4100_0000_0005) issuing).thread 0 0).pc = 1 := by decide
theorem test_branch_back : ((after (.br 0 0 0x08_9800_0000_0001) (issuing.modThread 0 0 (fun x => x.setG 2 9))).thread 0 0).pc = 1 := by decide
theorem test_ret_pops : ((after (.ret 0 0 0) called).thread 0 0).pc = 10 ∧ ((after (.ret 0 0 0) called).thread 0 0).stack = [] := by decide
theorem test_illegal_stops : ((after (.illegalInstruction 0 0 0) issuing).thread 0 0).st = .trapped ∧ ((after (.illegalInstruction 0 0 0) issuing).first 0).code = 0x0321 := by decide
theorem test_buoy_add : ((after (.buoyAdd .keeper 0 7) (up.setBuoy 0 { st := .live, value := 0xFFFF_FFFC })).buoy 0).value = 3 := by decide
/-- The spare tile of physical column 0 refuses a write; its TILE_PHYS reads PHYS 80 and SPARE (R24, R92). -/
theorem test_spare_window : (after (.registerWrite .gallery .module (BitVec.ofNat 40 (physBase 80 + 8)) true 1) up).reply.code = 0x0211 ∧
    up.tilePhys 80 = 0x0000_0050_0004_0000 ∧ up.tilePhys 9 = 0x0000_0009_0001_0009 := by decide

/-- BAR0 offset 0x020_0008 is the second word of MSI-X entry 0: its mask bit holds the vector back (R495). -/
theorem test_msix_mask : (after (.registerWrite .host .bar0 0x20_0008 true 0x1_0000_0000) up).msixMasked 0 = true := by decide

/-- An uncorrectable word raises 0x0222; 0x0821 at a buoy home is partition-fatal (R528). -/
theorem test_uncorrectable_word : (issuing.tileCheckFails 0 .word 64).fld (TILE_STATUS 0) 48 16 = 0x0222 ∧ severityOf 0x0821 true = 2 := by
  constructor
  · set_option maxRecDepth 4000 in decide
  · decide

/-- A word that finds the receive buffer full raises 0x0622 (R222). -/
theorem test_lost_word : (packed.recvWord 0 { stream := 6, lane := 0, bt := 10, word := 0 }).fld (TILE_STATUS 0) 48 16 = 0x0622 := by
  set_option maxRecDepth 8000 in decide
/-- The paths of the worked superstep: 517 and 525 to the router of 485 in 4 and 5 hops, the sum over the Dovetail to that of 597 (no tile disabled). -/
theorem test_worked_paths : (meshRun 6 4 5 0 5 8 2).2 = 10 ∧ (meshRun 6 5 5 0 5 0 2).2 = 12 ∧ (dovetailRun 6 0 5 5 0 15 true).2 = 19 ∧
    (meshRun 7 0 5 4 5 0 19).2 = 27 := by decide

theorem test_read_only_kept : (after (.registerWrite .host .module 0 true 1) up).regs = up.regs := by decide
theorem test_mod_halt : (after (.modHalt .mcmd) (posted bare (packet 3 0xFF 0 0 []))).modState = 4 := by decide

/-! ### Tile words, the canonical form, buoys -/

theorem witness_canonical : Canonical { pending := [.add 0 0 0x18_4100_0000_0005], m := issuing } ∧ tileOpcode (.add 0 0 0x18_4100_0000_0005) ≠ none ∧
    (match step { pending := [.add 0 0 0x18_4100_0000_0005], m := issuing } with | .next t => t.pending.isEmpty | _ => false) = true := by
  unfold Canonical; decide
theorem witness_tile_words : encodeTile (.add 0 0 0x18_4100_0000_0005) = some 0x1018_4100_0000_0005 ∧ decodeTile 0 0 0x0B00_0000_0000_0000 = .illegalInstruction 0 0 0x0B00_0000_0000_0000 := by decide
/-- Waiters at a buoy, one of each condition. -/
def crowded : Mod := up.setBuoy 0 { st := .live, waiters := [{ who := .thread 0 0, cond := 0, value := 9, mask := 0 }, { who := .thread 0 1, cond := 1, value := 9, mask := 0 }, { who := .thread 0 2, cond := 2, value := 9, mask := 0 }, { who := .ringHead 4096, cond := 3, value := 9, mask := 8 }] }
theorem witness_wait_conditions : ∀ k : Nat, k < 4 → ∃ e : WaitEntry, e ∈ (crowded.buoy 0).waiters ∧ e.cond = BitVec.ofNat 3 k := by decide

/-! ### Further forms of the statements above -/

theorem witness_memory_wake :
    (waiting (.memory 0 (some 3) 0) .none).tileRuns 0 = true ∧ ((waiting (.memory 0 (some 3) 0) .none).thread 0 0).st = .wait ∧
    ((waiting (.memory 0 (some 3) 0) .none).thread 0 0).waitOn = .memory 0 (some 3) 0 ∧ ((waiting (.memory 0 none 7) .none).thread 0 0).waitOn = .memory 0 none 7 := by decide

theorem witness_checks :
    (full.faultyEntry 0 .operands = some (0, entry true) ∧ full.faultyEntry 0 .vector = none) ∧ ((issuing.thread 0 0).st = .ready ∧ (issuing.thread 0 1).st ≠ .ready ∧ (issuing.thread 0 1).st ≠ .wait) ∧
    issuing.modState ≠ 0 ∧ issuing.mainUp = true ∧ up.offered .mcmd = none ∧ up.board.keeperDown = false ∧
    (Serves (posted up reshardPacket) .mcmd 0x25 reshardPacket ∧ bufNeed reshardPacket ≠ 0) ∧ Serves (posted up planPacket) .mcmd 0x20 planPacket := by
  unfold Serves Offers; decide

theorem witness_unit_forms :
    (scalars.setFlag (tileReg 0 0x3_0010) 0 true).flag (tileReg 0 0x3_0010) 0 = true ∧ (scalars.queue 0 1).length < 4 ∧ CanRun (scalars.setFlag (tileReg 0 0x3_0010) 0 true) 0 0 [] ∧
    (Val.less (val32 0x8000_0000) (val32 0) = true ∧ (val32 0x8000_0000).isZero = true ∧ (val32 0).isZero = true) ∧
    (∀ u, u < 5 → 4 ≤ ((scalars.setQueue 0 u [entry true, entry false, entry false, entry false]).queue 0 u).length ∧ (scalars.setQueue 0 u [entry true, entry false, entry false, entry false]).tileRuns 0 = true) := by
  unfold CanRun; decide

theorem witness_sequencer_forms :
    (((waiting (.jig 1) .none).thread 0 0).waitOn = .jig 1 ∧ (waiting (.jig 1) .none).jigsDone 0 ((upto 6).filter (fun j => bit (1 : BitVec 6) j)) = true) ∧
    ((waiting (.remote 0 3 none) .refused).thread 0 0).release = .refused ∧ ((waiting (.buoy 0 0 9 0) .refused).thread 0 0).waitOn = .buoy 0 0 9 0 ∧
    ((ended.tile 0).sent = { th := 0, pc := 0, b := 0, isSet := true, x := 1, refused := true } :: [] ∧ (ended.thread 0 0).st = .ended ∧
      ((issuing.modTile 0 (fun x => { x with sent := [{ th := 0, pc := 0, b := 0, isSet := true, x := 1, refused := true, live := false }] })).tile 0).sent =
        { th := 0, pc := 0, b := 0, isSet := true, x := 1, refused := true, live := false } :: []) := by decide

/-- Slot 0 takes part in Jicen, and a thread's signal, a done signal and a ring's signal are on their way to buoy 0. -/
def signalling : Mod := (active.modTile 0 (fun x => { x with sent := [{ th := 0, pc := 0, b := 0, isSet := false, x := 1, refused := false }], doneFlight := true })).setRing 4096 { prog := [{ entryFor 5 2 with signalled := true }] }

theorem witness_buoy_sources :
    signalling.mainUp = true ∧ signalling.buoyLive 0 = true ∧ signalling.shut .gallery (signalling.slotOfBuoy 0) = false ∧ (signalling.slotOfStack 0 ≠ none ∧ signalling.slotOfBuoy 0 = signalling.slotOfStack 0) ∧
    signalling.jicenReaches 0 = true ∧ (signalling.tile 0).sent = { th := 0, pc := 0, b := 0, isSet := false, x := 1, refused := false } :: [] ∧ ((signalling.tile 0).doneFlight = true ∧ signalling.doneBuoy 0 = 0) ∧
    ((signalling.ringOf 4096).prog = { entryFor 5 2 with signalled := true } :: [] ∧ num (entryFor 5 2).image 6 2 % 8192 = 0 ∧ num (entryFor 5 2).image 0x10 4 = (0 : W32).toNat ∧
      (false = decide (num (entryFor 5 2).image 6 2 / 8192 % 4 = 1))) ∧ signalling.slotOfBuoy 8191 ≠ signalling.slotOfStack 0 := by decide

theorem witness_ring_refusals :
    let w := fun r v => merge 0xFFFF_FF1F_0F88_0001 (up.rd (RING_CTL r)) (v ||| 1)
    ((up.wr (RING_CTL 0) (w 0 0)).ringEnableOk 0 = false ∧ up.ringShut .gallery 0 (w 0 0) = false ∧ up.ringEnabled 0 = false) ∧ ringKind 55296 = 4 ∧
    (({ receiving {} with rings := [] } : Mod).wr (RING_CTL 55296) (ringWord true false 0 - BitVec.ofNat 64 (2 ^ 41))).ringEnableOk 55296 = true ∧ (({ receiving {} with rings := [] } : Mod).wr (RING_CTL 55296) (ringWord true false 0 - BitVec.ofNat 64 (2 ^ 41))).feedEnableOk 55296 = true ∧
    (({ receiving {} with rings := [] } : Mod).wr (RING_CTL 55297) (ringWord true false 0 - BitVec.ofNat 64 (2 ^ 41))).ringEnableOk 55297 = true ∧ (({ receiving {} with rings := [] } : Mod).wr (RING_CTL 55297) (ringWord true false 0 - BitVec.ofNat 64 (2 ^ 41))).feedEnableOk 55297 = false := by decide

theorem witness_refused_entry : ((doing 4096 { entryFor 5 2 with done := true, refused := true }).ringOf 4096).prog = { entryFor 5 2 with done := true, refused := true } :: [] ∧
    (doing 4096 { entryFor 5 2 with done := true, refused := true }).ringState 4096 ≠ 4 := by decide

/-- A pass over shard 0 in UPDATE of the step, first or again, with the commit record of the step before. -/
def cut (again : Bool) : Mod := { (recorded 3 0 (entryFor 3 0)).setF (STEP_STATUS 0) 0 4 3 with hbmStacks := ((shard 3 (entryFor 3 0)).setStack 0 { updating := [{ shard := 0, again := again }] }).hbmStacks }

theorem witness_cut_passes :
    ((cut false).stack 0).updating.find? (fun p => decide (p.shard = 0)) = some { shard := 0, again := false } ∧ ((cut true).stack 0).updating.find? (fun p => decide (p.shard = 0)) = some { shard := 0, again := true } ∧
    (cut false).stackCode 0 = 0 ∧ ((cut false).stack 0).bad = [] ∧
    (((((cut false).addCnt (CNT_HBM_UNCORR 0) 1).dropUpdate 0 0).setShardState 0 0 2).slotOfStack 0 = some 0 ∧ ((((cut false).addCnt (CNT_HBM_UNCORR 0) 1).dropUpdate 0 0).setShardState 0 0 2).stepPhase 0 = 3 ∧
      (cut false).shardSlot 0 0 false ≠ ((((cut false).addCnt (CNT_HBM_UNCORR 0) 1).dropUpdate 0 0).setShardState 0 0 2).shardStage 0 0) ∧
    ((((passing.addCnt (CNT_HBM_UNCORR 0) 1).dropUpdate 0 0).setShardState 0 0 2).stepPhase 0 ≠ 3) ∧ passing.stackCode 0 = 0 ∧
    (shard 3 (entryFor 2 0)).stackCode 0 = 0 := by decide +kernel
theorem witness_cut_record : (cut false).shardRecord 0 0 = some { slot := 0, step := 0, tensor := 0, elems := 8, prev := 0 } ∧ (cut true).shardRecord 0 0 = some { slot := 0, step := 0, tensor := 0, elems := 8, prev := 0 } := by decide +kernel
theorem witness_no_record : passing.shardRecord 0 0 = none := by decide +kernel

theorem witness_request_refusals :
    (bit ({ frame 0 1 with flags := 2, wait := BitVec.ofNat 64 (4 * 2 ^ 13) } : Frame).flags 1 = true ∧ 4 ≤ bf (BitVec.ofNat 64 (4 * 2 ^ 13) : W64) 13 3) ∧
    ((tokened 1).wr (HBM_SEC 0) 0).hbmCode 0 0 ≠ 0 ∧
    ((((tokened 1).setF (JC_STATUS 0) 0 4 0)).sendPut 49152 { jicenEntry 1 0 with token := 1 } 0 0 1 ((tokened 1).ldHbm 0 0 32)).1 ≠ 0 ∧
    (((tokened 3).setF (JC_STATUS 0) 0 4 0).entryMsg 49152 { jicenEntry 3 0 with token := 1 } 0 5 0 0 [] true).1 = false := by decide

theorem witness_feed_pauses :
    (((receiving {}).setFlag (FD_CTL 0) 1 true).flag (FD_CTL 0) 1 = true ∧ (((receiving {}).setFlag (FD_CTL 0) 1 true).feed 0).xoff = false ∧
      1024 * ((receiving {}).setFlag (FD_CTL 0) 1 true).fld (FD_PFC 0) 0 16 < 4000000 ∧ 4000000 + 48 + (datagram 0 64).len ≤ 2 ^ 22) ∧
    (receiving {}).flag (FD_CTL 0) 1 = false ∧ 2 ^ 22 < 2 ^ 22 + 48 + (datagram 0 64).len ∧
    (((receiving { above := [1] }).feedCount 0 0).flow 0 0).above.contains (datagram 1 64).seq.toNat = true ∧ (datagram 1 64).seq.toNat < ((receiving { above := [1] }).feedCount 0 0).windowEnd 0 0 := by decide

end Sys2Proof.Tests
end

section
/-! PROOF. The canonical form of memory and registers (R5, log entry 5): the operations over the state and the error block keep it.

A module changes its bytes and register words only through `st`, `wr` and what is built from them; every other update is of another field.  So each operation has one lemma of its own name in `Mod.Canon`, whose proof names the lemmas of the operations that the definition calls, in their order, with one alternative for each of its branches. -/

namespace Sys2Proof.Machine

/-- Memory and the register table of a module are in canonical form. -/
structure Mod.Canon (m : Mod) : Prop where
  mem_wf : Memory.wf m.mem = true
  regs_wf : Sparse.wf regReset m.regs = true

theorem canonical_iff_canon (s : State) : Safety.Canonical s ↔ s.m.Canon :=
  ⟨fun ⟨hmem, hregs⟩ => ⟨hmem, hregs⟩, fun h => ⟨h.mem_wf, h.regs_wf⟩⟩

namespace Mod.Canon

variable {m n : Mod} {t th d j k r s u a b lo len v : Nat}

/-- An update of other fields keeps the canonical form. -/
theorem congr (h : m.Canon) (hmem : n.mem = m.mem) (hregs : n.regs = m.regs) : n.Canon :=
  ⟨hmem ▸ h.mem_wf, hregs ▸ h.regs_wf⟩

theorem ite {c : Prop} [Decidable c] (hm : m.Canon) (hn : n.Canon) : (if c then m else n).Canon := by
  split
  · exact hm
  · exact hn

theorem forEach {l : List Nat} {f : Mod → Nat → Mod} (h : m.Canon) (hf : ∀ m x, m.Canon → (f m x).Canon) : (Machine.forEach m l f).Canon :=
  forEach_keeps f l (fun m x _ => hf m x) m h

theorem foldl {α : Type} {l : List α} {f : Mod → α → Mod} (h : m.Canon) (hf : ∀ m x, m.Canon → (f m x).Canon) : (l.foldl f m).Canon :=
  foldl_keeps f l (fun m x _ => hf m x) m h

/-! ## Registers, memory, tables -/

theorem wr {w : W64} (h : m.Canon) : (m.wr a w).Canon := ⟨h.mem_wf, Mod.regs_wf h.regs_wf a w⟩
theorem setF (h : m.Canon) : (m.setF a lo len v).Canon := h.wr
theorem setFlag {x : Bool} (h : m.Canon) : (m.setFlag a k x).Canon := h.setF
theorem addCnt (h : m.Canon) : (m.addCnt a k).Canon := h.wr
theorem st {x : List Byte} (h : m.Canon) : (m.st a x).Canon := ⟨st_wf h.mem_wf a x, h.regs_wf⟩
theorem stNat (h : m.Canon) : (m.stNat a k v).Canon := h.st
theorem stage {w : W64} (h : m.Canon) : (m.stage a w).Canon := h.congr rfl rfl
theorem setTile {x : Tile} (h : m.Canon) : (m.setTile t x).Canon := h.congr rfl rfl
theorem modTile {f : Tile → Tile} (h : m.Canon) : (m.modTile t f).Canon := h.setTile
theorem setThread {x : Thread} (h : m.Canon) : (m.setThread t th x).Canon := h.modTile
theorem modThread {f : Thread → Thread} (h : m.Canon) : (m.modThread t th f).Canon := h.setThread
theorem setBuoy {x : Buoy} (h : m.Canon) : (m.setBuoy b x).Canon := h.congr rfl rfl
theorem setRing {x : Ring} (h : m.Canon) : (m.setRing r x).Canon := h.congr rfl rfl
theorem setStack {x : Stack} (h : m.Canon) : (m.setStack s x).Canon := h.congr rfl rfl
theorem setPart {x : Part} (h : m.Canon) : (m.setPart s x).Canon := h.congr rfl rfl
theorem modPart {f : Part → Part} (h : m.Canon) : (m.modPart s f).Canon := h.setPart
theorem setPort {x : Port} (h : m.Canon) : (m.setPort j x).Canon := h.congr rfl rfl
theorem setFirst {x : ErrRec} (h : m.Canon) : (m.setFirst k x).Canon := h.congr rfl rfl
theorem sendOut {o : Out} (h : m.Canon) : (m.sendOut o).Canon := by
  cases o with
  | msix v => exact .ite (h.congr rfl rfl) (h.congr rfl rfl)
  | _ => exact h.congr rfl rfl

/-! ## Threads -/

theorem withdrawFrom {w : Waiter} (h : m.Canon) : (m.withdrawFrom b w).Canon := h.setBuoy
theorem withdrawThread (h : m.Canon) : (m.withdrawThread t th).Canon := by
  unfold Mod.withdrawThread
  split
  · exact h.withdrawFrom
  · exact h
theorem settleThread {x : ThState} (h : m.Canon) : (m.settleThread t th x).Canon := h.withdrawThread.modThread
theorem stopThreads (h : m.Canon) : (m.stopThreads t).Canon :=
  h.forEach fun m th hm => by
    split
    · exact hm.settleThread
    · exact hm.settleThread
    · exact hm
theorem enterWait {w : WaitRec} (h : m.Canon) : (m.enterWait t th w).Canon := h.modThread
theorem icTouch (h : m.Canon) : (m.icTouch t k).Canon := h.modTile
theorem issued {x : Bool} (h : m.Canon) : (m.issued t th x).Canon := h.addCnt.modTile.modThread

/-! ## The error block -/

theorem countErr (h : m.Canon) : (m.countErr k).Canon := h.addCnt
theorem noteRange {c : W16} {o : Option Nat} (h : m.Canon) : (m.noteRange c o).Canon := by
  unfold Mod.noteRange
  split
  · exact h.setF
  · exact h.setF
  · exact h.setF
  · exact h
theorem noteCode {c : W16} {o : Option Nat} (h : m.Canon) : (m.noteCode c o).Canon :=
  .ite h.setF.noteRange.setF h.setF.noteRange
theorem sendErrVec (h : m.Canon) : m.sendErrVec.Canon := .ite h.sendOut h
theorem appendErr {e : ErrRec} (h : m.Canon) : (m.appendErr e).Canon :=
  have hr : ∀ l, Canon { m with ring := l } := fun _ => h.congr rfl rfl
  .ite h.addCnt (.ite (hr _).wr.sendErrVec (hr _).wr)
theorem nestErr {e : ErrRec} (h : m.Canon) : (m.nestErr k e).Canon :=
  .ite h.setFirst.addCnt h.setFirst.addCnt.appendErr
theorem capture {e : ErrRec} (h : m.Canon) : (m.capture k e).Canon := .ite h h.setFirst.setFlag.sendErrVec
theorem showHandling (h : m.Canon) : (m.showHandling k v).Canon := .ite h.setFlag h.setF
theorem setHandling (h : m.Canon) : (m.setHandling k v).Canon := h.setFirst.showHandling

/-! ## What an error does to tiles, dialogues, votes, rings and buoys -/

theorem loseAccs (h : m.Canon) : (m.loseAccs t).Canon :=
  have hm : (m.modTile t fun x => { x with accs := (upto 2048).map fun c => (c, Config.stoppedCell t c m.free) }).Canon := h.modTile
  hm.congr rfl rfl
theorem clearValid (h : m.Canon) : (m.clearValid t).Canon := h.setF.setF.setF
theorem disableTile (h : m.Canon) : (m.disableTile t).Canon := by
  unfold Mod.disableTile
  have hoff : (Machine.forEach m (upto 4) fun m th => m.settleThread t th .off).Canon := h.forEach fun _ _ hm => hm.settleThread
  split
  · exact ((hoff.loseAccs.ite hoff).modTile.forEach fun _ _ hm => hm.setF).clearValid.setFlag
  · exact h
theorem setPortState (h : m.Canon) : (m.setPortState j v).Canon := h.setF
theorem putRegWords {l : List Byte} (h : m.Canon) : (m.putRegWords a l k).Canon := by
  induction k generalizing m a l with
  | zero => exact h
  | succ k ih => exact ih h.wr
theorem respond {l x : List Byte} {c : W16} (h : m.Canon) : (m.respond k l c x).Canon := by
  have hs : ∀ {l : List Byte} {n}, (let m := (m.putRegWords (MB_RSP k 0) l n).setF (MB_STATUS k) 0 2 2
      if c = 0 then m else m.setF (MB_STATUS k) 48 16 c.toNat).Canon := .ite h.putRegWords.setF h.putRegWords.setF.setF
  exact .ite hs.sendOut (.ite hs.sendOut hs)
theorem endDialogue {l : List Byte} {c : W16} (h : m.Canon) : (m.endDialogue c l).Canon := by
  unfold Mod.endDialogue
  split
  · exact h
  · have hd : ∀ ds, Canon { m with dialogues := ds } := fun _ => h.congr rfl rfl
    dsimp only
    split
    · exact ((hd _).setF.ite (hd _)).respond
    · exact (hd _).setF.ite (hd _)
theorem abortDialogue (h : m.Canon) : m.abortDialogue.Canon := by
  unfold Mod.abortDialogue
  split
  · exact h
  · exact h.endDialogue.ite h
theorem modFatalActions (h : m.Canon) : m.modFatalActions.Canon := by
  have hstop := h.forEach (l := m.slots) fun m s hm => hm.forEach (l := m.tilesOf s) fun _ t hm => hm.disableTile (t := t)
  exact (hstop.forEach (l := upto 6) fun _ j hm => hm.setPortState (j := j) (v := 0)).abortDialogue.congr rfl rfl
/-- The note that the Keeper itself is at fault. -/
theorem keeperBad {x : Bool} (h : m.Canon) : Canon { m with keeperBad := x } := h.congr rfl rfl
theorem raiseModule {e : ErrIn} {x : ErrRec} (h : m.Canon) : (m.raiseModule e x).Canon := by
  have hr : (((Machine.forEach (m.capture 8 x) (m.capture 8 x).slots fun m s =>
      m.capture s { x with slot := BitVec.ofNat 8 s, step := m.rd (STEP_NUM s) }).appendErr x).setHandling 8 3).Canon :=
    (h.capture.forEach fun _ _ hm => hm.capture).appendErr.setHandling
  exact (hr.sendErrVec.ite hr).modFatalActions.keeperBad
theorem setVoteOf {w : W32} {x : StepVote} (h : m.Canon) : (m.setVoteOf s k w x).Canon := h.modPart
theorem queueCtrl {x : List Byte} (h : m.Canon) : (m.queueCtrl j x).Canon := h.setPort
theorem queueVote {w : VoteWord} (h : m.Canon) : (m.queueVote s j w k).Canon := h.setPort.queueCtrl
theorem launchWord {w : VoteWord} (h : m.Canon) : (m.launchWord s w).Canon :=
  have hup := h.queueVote.ite h
  .ite hup.queueVote hup
theorem advanceVote {w : VoteWord} (h : m.Canon) : (m.advanceVote s w k).Canon := by
  induction k generalizing m w with
  | zero => exact h
  | succ k ih => exact .ite h.setVoteOf (.ite (ih h) (.ite h (ih (h.modPart.launchWord.ite h))))
theorem startVote {w : W32} {c : W16} (h : m.Canon) : (m.startVote s k a w c).Canon :=
  (h.setVoteOf.modPart.launchWord.ite h.setVoteOf).advanceVote
theorem sendStepVote {c : W16} (h : m.Canon) : (m.sendStepVote s k c).Canon := .ite h.setVoteOf h.startVote
theorem setStepPhase (h : m.Canon) : (m.setStepPhase s v).Canon := h.setF
theorem takeVote1 (h : m.Canon) : (m.takeVote1 s).Canon := .ite h h.setF.setStepPhase.sendStepVote
theorem takeVote2 (h : m.Canon) : (m.takeVote2 s).Canon := .ite h h.sendStepVote
theorem stopRingNow (h : m.Canon) : (m.stopRingNow r).Canon := (h.setF.setF.ite h.setF).setRing
theorem stopRing (h : m.Canon) : (m.stopRing r).Canon := by
  unfold Mod.stopRing
  cases (m.ringOf r).waitOn with
  | none => exact .ite h.setFlag.stopRingNow h.setFlag.setRing
  | some b => exact .ite h.withdrawFrom.setFlag.stopRingNow h.withdrawFrom.setFlag.setRing
theorem sendRelease {w : Waiter} {x : Release} (h : m.Canon) : (m.sendRelease w x).Canon := by
  unfold Mod.sendRelease
  split
  · exact h.modThread
  · exact h.setRing
theorem answerWatch {w : Watch} {x : List Byte} (h : m.Canon) : (m.answerWatch b w x).Canon := by
  unfold Mod.answerWatch
  split
  · split
    · exact setRing (h.addCnt.congr rfl rfl)
    · exact h
  · exact h
theorem sendWatch {w : Watch} {x : W32} (h : m.Canon) : (m.sendWatch b w k x).Canon := h.sendOut.answerWatch.ite h.sendOut
theorem sendGates {w x : W32} (h : m.Canon) : (m.sendGates b w k x).Canon := h.forEach fun _ _ hm => hm.sendOut
theorem breakBuoy (h : m.Canon) : (m.breakBuoy b).Canon :=
  ((h.setBuoy.foldl fun _ _ hm => hm.sendRelease).foldl fun _ _ hm => hm.sendWatch).sendGates
theorem partFatalActions (h : m.Canon) : (m.partFatalActions s).Canon :=
  (((h.setFlag.takeVote1.takeVote2.ite h).forEach fun _ _ hm => hm.disableTile).forEach fun _ _ hm => hm.stopRing).forEach
    fun _ _ hm => hm.breakBuoy
theorem stepFatalActions (h : m.Canon) : (m.stepFatalActions s).Canon :=
  .ite h.modPart ((h.setFlag.takeVote1.ite h.setFlag).forEach fun _ _ hm => hm.stopThreads)

/-! ## Raising an error (R530 to R538) -/

theorem raisePart {e : ErrIn} {x : ErrRec} (h : m.Canon) : (m.raisePart s e x).Canon :=
  (h.capture.appendErr.setFirst.addCnt.ite h.capture.appendErr).setHandling.partFatalActions
/-- Drawing the number of an error record. -/
theorem errSeq (h : m.Canon) : Canon { m with errSeq := v } := h.congr rfl rfl
theorem abandonReshard (h : m.Canon) : (m.abandonReshard s).Canon := .ite h h.errSeq.noteCode.countErr.appendErr.modPart
theorem raiseStep {x : ErrRec} (h : m.Canon) : (m.raiseStep s x).Canon :=
  have hr := h.capture.appendErr
  .ite (.ite hr.errSeq.setHandling.noteCode.countErr.raisePart hr.setHandling.stepFatalActions) hr.abandonReshard
theorem raise {e : ErrIn} (h : m.Canon) : (m.raise e).Canon := by
  have hn : ∀ {c o k v}, Canon { (m.noteCode c o).countErr k with errSeq := v } := h.noteCode.countErr.errSeq
  refine .ite (.ite (hn.nestErr.congr rfl rfl) hn.nestErr) (.ite (hn.addCnt.ite hn).raiseModule (.ite hn.nestErr ?_))
  split
  · exact hn.raisePart
  · exact hn.raiseStep
  · exact hn.appendErr.ite hn
  · exact hn.capture.appendErr
theorem raiseTile {c : W16} {x : Option W128} (h : m.Canon) : (m.raiseTile t c k x).Canon := h.setF.raise
theorem raiseTileAll {l : List ErrIn} (h : m.Canon) : (m.raiseTileAll t l).Canon := h.foldl fun _ _ hm => hm.setF.raise
theorem raiseStackAt {c : W16} (h : m.Canon) : (m.raiseStackAt s c k).Canon := h.setF.raise
theorem raiseStack {c : W16} (h : m.Canon) : (m.raiseStack s c k).Canon := h.raiseStackAt
theorem stackFault {c : W16} (h : m.Canon) : (m.stackFault s c k).Canon := h.raiseStack.ite h
theorem trapThread {pc : W20} {c x : W16} (h : m.Canon) : (m.trapThread t th pc c x).Canon :=
  h.settleThread.modThread.stopThreads.wr.raiseTile
theorem trapAll {l : List (Nat × W20 × W16)} (h : m.Canon) : (m.trapAll t l).Canon := by
  unfold Mod.trapAll
  dsimp only
  split
  · exact h
  · exact (h.foldl fun _ _ hm => hm.settleThread.modThread).stopThreads.wr.raiseTileAll

end Mod.Canon
end Sys2Proof.Machine
end

section
/-! PROOF. The canonical form is kept by the operations of a tile: its jigs, dowels and veneer, the writes of its registers, the entries it pushes, its units. -/

namespace Sys2Proof.Machine
namespace Mod.Canon

variable {m n : Mod} {t th d j k r s u a b lo len v : Nat}

/-! ## Jigs, dowels and the veneer -/

theorem setJigState (h : m.Canon) : (m.setJigState t j v).Canon := h.setF
theorem setJigPos {x : JigPos} (h : m.Canon) : (m.setJigPos t j x).Canon := h.modTile
theorem disableJig (h : m.Canon) : (m.disableJig t j).Canon := h.setFlag.setJigState
theorem enableJig (h : m.Canon) : (m.enableJig t j).2.Canon := by
  unfold Mod.enableJig
  dsimp only
  split
  · exact h
  · exact h.setFlag.setF.setJigState.setJigPos
theorem jigFault {x : Int} (h : m.Canon) : (m.jigFault t j x).Canon := h.setJigState.raiseTile
theorem countConflict {l : List Place} (h : m.Canon) : (m.countConflict t d l k).Canon := .ite h h.addCnt
theorem stWord {w : W256} (h : m.Canon) : (m.stWord t a w).Canon := h.stNat
theorem stDowel {w : W256} (h : m.Canon) : (m.stDowel t d a w).Canon := h.stWord
theorem stDowelWords {l : List Byte} (h : m.Canon) : (m.stDowelWords t d a k l).Canon := by
  induction k generalizing m a l with
  | zero => exact h
  | succ k ih => exact ih h.st
theorem setVen {x : VLine} (h : m.Canon) : (m.setVen t k x).Canon := h.modTile
theorem venTouch {x : Bool} (h : m.Canon) : (m.venTouch t k x).Canon := by
  unfold Mod.venTouch
  exact h.setVen.modTile
theorem healHbm (h : m.Canon) : (m.healHbm s a k).Canon := .ite h h.setStack
theorem stHbm {l : List Byte} (h : m.Canon) : (m.stHbm s a l).Canon := h.st
theorem storeStack {l : List Byte} (h : m.Canon) : (m.storeStack s a l).Canon := h.st.healHbm.addCnt
theorem storeHbm {l : List Byte} (h : m.Canon) : (m.storeHbm s a l).Canon := h.storeStack
theorem venFault {c : W16} (h : m.Canon) : (m.venFault t k c).Canon := .ite h.stackFault h.raiseTile
theorem venWriteBack (h : m.Canon) : (m.venWriteBack t k).Canon :=
  .ite (.ite h.setVen.storeHbm.addCnt h.setVen.venFault) h
theorem readBad (h : m.Canon) : (m.readBad s a k).Canon := h.addCnt.raiseStack.ite h
theorem readHbm (h : m.Canon) : (m.readHbm s a k).2.Canon := h.readBad
theorem venInstall {x : Bool} (h : m.Canon) : (m.venInstall t k a x).2.Canon :=
  have hw {k} := h.venWriteBack (t := t) (k := k)
  setVen (.ite ((hw.ite hw.readHbm).st) (hw.ite hw.venFault))
theorem venAccess {x y z : Bool} (h : m.Canon) : (m.venAccess t k a x y z).2.Canon := by
  unfold Mod.venAccess
  split
  · exact (h.addCnt.ite h).venTouch
  · exact (h.addCnt.ite h).venInstall.venTouch
theorem readWord {x : Bool} (h : m.Canon) : (m.readWord t d a x).2.Canon := by
  unfold Mod.readWord
  split
  · exact h.venAccess
  · exact h
theorem writeWord {w : W256} {x y : Bool} (h : m.Canon) : (m.writeWord t d a w x y).Canon := h.venAccess.stWord.ite h.stDowel
theorem readPlaces {l : List Place} {w : W256} {x : Bool} (h : m.Canon) : (m.readPlaces t j w l x).2.Canon := by
  induction l generalizing m x with
  | nil => exact h
  | cons p l ih =>
    cases p with
    | word a => exact ih h.readWord
    | _ => exact ih h
theorem endLine {l : List Place} (h : m.Canon) : (m.endLine t j k l).Canon := by
  unfold Mod.endLine
  dsimp only
  split
  · exact h.setJigPos.jigFault
  · exact h.setJigPos.setJigState.ite h.setJigPos
theorem writePlace {l : List Place} {w : W256} (h : m.Canon) : (m.writePlace t j k l w).Canon := by
  unfold Mod.writePlace
  dsimp only
  split
  · exact h.addCnt
  · exact h
  · exact (h.addCnt.ite h).writeWord.ite (h.addCnt.ite h).readWord.writeWord

/-! ## Register writes of a tile (R90) -/

theorem ungate (h : m.Canon) : (m.ungate t).Canon := h.setFlag
theorem openTile (h : m.Canon) : (m.openTile t).Canon := by
  unfold Mod.openTile
  exact h.wr.setFlag.ungate.clearValid.modTile
theorem startTile (h : m.Canon) : (m.startTile t).Canon := h.openTile.modTile.forEach fun _ _ hm => hm.modThread
theorem enableTile (h : m.Canon) : (m.enableTile t).2.Canon := by
  unfold Mod.enableTile
  dsimp only
  split
  · exact h
  · split
    · exact h
    · split
      · exact h.startTile
      · exact h
theorem drainRecv (h : m.Canon) : (m.drainRecv t).Canon := (h.modTile.foldl fun _ _ hm => hm.stDowel).ite h
theorem readSend (h : m.Canon) : (m.readSend t d).Canon := by
  unfold Mod.readSend
  exact h.modTile
theorem fillSend (h : m.Canon) : (m.fillSend t).Canon := by
  unfold Mod.fillSend
  split
  · exact (h.forEach fun _ _ hm => hm.readSend).ite h
  · exact h
theorem setXp (h : m.Canon) : (m.setXp t v).Canon := h.setF
theorem releaseEntry (h : m.Canon) : (m.releaseEntry t).Canon := h.modTile.setXp
theorem overKerf (h : m.Canon) : (m.overKerf t k).Canon := .ite h.addCnt.releaseEntry h.modTile
theorem settlePort (h : m.Canon) : (m.settlePort t).Canon := by
  unfold Mod.settlePort
  dsimp only
  split
  · exact h.fillSend.drainRecv.overKerf
  · exact h.fillSend.drainRecv
theorem stopTile (h : m.Canon) : (m.stopTile t).Canon := h.disableTile.settlePort
theorem arm (h : m.Canon) : (m.arm t k).Canon := h.modTile.setF.setXp.fillSend

theorem writeTileCtl {w : W64} (h : m.Canon) : (m.writeTileCtl t w).2.Canon := by
  unfold Mod.writeTileCtl
  split
  · exact h.enableTile
  · exact h.stopTile
theorem writeVeneerCtl {w : W64} (h : m.Canon) : (m.writeVeneerCtl t w).2.Canon := by
  unfold Mod.writeVeneerCtl
  dsimp only
  split
  · exact h
  · exact h.stage.setF
theorem writeLocked {x : Bool} {c : W16} {w : W64} (h : m.Canon) : (m.writeLocked a x c w).2.Canon := by
  unfold Mod.writeLocked
  split
  · exact h
  · split
    · exact h
    · exact h.wr
theorem writeDowel0 {w : W64} (h : m.Canon) : (m.writeDowel0 t d w).2.Canon := by
  unfold Mod.writeDowel0
  dsimp only
  repeat' split
  · exact h
  · exact h
  · exact h
  · exact h.setFlag
  · exact h.wr.setFlag
  · exact h.wr
  · exact h.wr
theorem writeDowel1 {w : W64} (h : m.Canon) : (m.writeDowel1 t d w).2.Canon := h.writeLocked
theorem writeJigCtl {w : W64} (h : m.Canon) : (m.writeJigCtl t j w).2.Canon := by
  unfold Mod.writeJigCtl
  dsimp only
  repeat' split
  · exact h
  · exact h
  · exact h.disableJig
  · exact h.wr.enableJig
  · exact h.wr
theorem writeJigReg {w : W64} (h : m.Canon) : (m.writeJigReg t j a w).2.Canon := h.writeLocked
theorem resumeDebug (h : m.Canon) : (m.resumeDebug t).Canon := h.ungate.forEach fun _ _ hm => hm.modThread
theorem writeNumCtl {w : W64} (h : m.Canon) : (m.writeNumCtl t w).2.Canon := by
  unfold Mod.writeNumCtl
  dsimp only
  split
  · exact h
  · exact h.stage
theorem writeTile {w : W64} (h : m.Canon) : (m.writeTile t a w).2.Canon := by
  unfold Mod.writeTile
  dsimp only
  repeat' split
  · exact h.writeTileCtl
  · exact h.writeVeneerCtl
  · exact h.writeDowel0
  · exact h.writeDowel1
  · exact h.writeJigCtl
  · exact h.writeJigReg
  · exact h
  · exact h.resumeDebug
  · exact h
  · exact h.writeNumCtl
  · exact h
  · exact h.writeLocked
  · exact h.wr

/-! ## Ring entries that a tile pushes -/

theorem setRingEntryBytes {l : List Byte} (h : m.Canon) : (m.setRingEntryBytes r k l).Canon := by
  unfold Mod.setRingEntryBytes
  dsimp only
  split
  · exact h.stHbm
  · exact h.stDowelWords
  · exact h.st
  · exact h.st
theorem setRingTail (h : m.Canon) : (m.setRingTail r v).Canon := h.setF
theorem setRingState (h : m.Canon) : (m.setRingState r v).Canon := h.setF

/-! ## Units -/

theorem startMitre {x : Mitre} (h : m.Canon) : (m.startMitre t x).Canon := h.modTile.wr.ite h.modTile
theorem putCells {l : List W32} (h : m.Canon) : (m.putCells t s l).Canon := h.modTile
theorem setQueue {l : List QEntry} (h : m.Canon) : (m.setQueue t u l).Canon := h.modTile
theorem setGenKey {w : W128} (h : m.Canon) : (m.setGenKey t k w).Canon := h.wr.wr
theorem setGenCtr {w : W128} (h : m.Canon) : (m.setGenCtr t k w).Canon := h.wr.wr
theorem genAdvance (h : m.Canon) : (m.genAdvance t k a b).Canon := h.setGenCtr.ite h
theorem runOcfg {f : BitVec 56} (h : m.Canon) : (m.runOcfg t f).Canon := h.wr
theorem runOvec {f : BitVec 56} (h : m.Canon) : (m.runOvec t f).Canon := h.wr
theorem runOclamp {x y : W32} (h : m.Canon) : (m.runOclamp t x y).Canon := h.wr
theorem shadowCompare (h : m.Canon) : (m.shadowCompare t s).2.Canon := by
  unfold Mod.shadowCompare
  dsimp only
  repeat' split
  · exact h.addCnt
  · exact h.setFlag.addCnt
  · exact h.setFlag.addCnt.wr
theorem shadowDrain {e : QEntry} (h : m.Canon) : (m.shadowDrain t s e).Canon :=
  .ite h.setF (.ite h.setF.addCnt h.setF.modTile.setF.setF.setFlag.addCnt)
theorem undone (h : m.Canon) : (m.undone n t).Canon := h.forEach fun _ _ hm => hm.jigFault.ite hm

end Mod.Canon
end Sys2Proof.Machine
end

section
/-! PROOF. The canonical form is kept by the runs of a tile's units (R104, R125, R583). -/

namespace Sys2Proof.Machine
namespace Mod

/-- A run of a unit that ends well leaves memory and registers in canonical form; one that traps is undone, and its module never stands (R125). -/
def RunCanon {α : Type} : Run α → Prop
  | .ok (_, m) => m.Canon
  | .error _ => True

theorem RunCanon.of_ok {α : Type} {r : Run α} {x : α} {m : Mod} (h : RunCanon r) (hr : r = .ok (x, m)) : m.Canon := by
  subst hr
  exact h

/-- The second of two runs only under a condition. -/
theorem Canon.iteRun {α : Type} {c : Prop} [Decidable c] {r : Run α} {x : α} {m : Mod} (hm : m.Canon) (hr : RunCanon r) :
    RunCanon (if c then r else .ok (x, m)) := by
  split
  · exact hr
  · exact hm
theorem RunCanon.plain {r : Run Unit} (h : RunCanon r) : RunCanon (Mod.plain r) := by
  unfold Mod.plain
  split
  · exact h
  · trivial
theorem RunCanon.delivers {r : Run (List (Nat × W32))} (h : RunCanon r) : RunCanon (Mod.delivers r) := by
  unfold Mod.delivers
  split
  · exact h
  · trivial

namespace Canon
variable {m : Mod} {t j k s : Nat}

theorem readLine (h : m.Canon) : RunCanon (m.readLine t j) := by
  unfold Mod.readLine
  split
  · trivial
  · exact h.setF.countConflict.readPlaces.endLine
theorem readLine32 (h : m.Canon) : RunCanon (m.readLine32 t j) := by
  unfold Mod.readLine32
  dsimp only
  split
  next hr => exact h.readLine.of_ok hr
  next => trivial
theorem readLines (h : m.Canon) : RunCanon (m.readLines t j k) := by
  induction k generalizing m with
  | zero => exact h
  | succ k ih =>
    unfold Mod.readLines
    split
    next => trivial
    next hr =>
      split
      next => trivial
      next hs => exact (ih (h.readLine.of_ok hr)).of_ok hs
theorem readStream (h : m.Canon) : RunCanon (m.readStream t j s k) := by
  induction k generalizing m s with
  | zero => exact h
  | succ k ih =>
    unfold Mod.readStream
    split
    · exact h
    · split
      next => trivial
      next hr =>
        split
        next => trivial
        next hs => exact (ih (h.readLine.of_ok hr)).of_ok hs
theorem readEach {l : List Nat} (h : m.Canon) : RunCanon (m.readEach t l) := by
  induction l generalizing m with
  | nil => exact h
  | cons j l ih =>
    unfold Mod.readEach
    split
    next => trivial
    next hr =>
      split
      next => trivial
      next hs => exact (ih (h.readLine32.of_ok hr)).of_ok hs
theorem readNumbered (h : m.Canon) : RunCanon (m.readNumbered t j s k) := by
  induction k generalizing m s with
  | zero => exact h
  | succ k ih =>
    unfold Mod.readNumbered
    split
    next => trivial
    next hr =>
      split
      next => trivial
      next hs => exact (ih (h.readLine.of_ok hr)).of_ok hs
theorem putWord {w : W256} (h : m.Canon) : RunCanon (m.putWord t j w) := by
  unfold Mod.putWord
  split
  · trivial
  · dsimp only
    split
    · exact h.setF.writePlace.setJigPos
    · exact h.setF.writePlace.countConflict.endLine
theorem putWords {l : List W256} (h : m.Canon) : RunCanon (m.putWords t j l) := by
  induction l generalizing m with
  | nil => exact h
  | cons w l ih =>
    unfold Mod.putWords
    split
    next => trivial
    next hr => exact ih (h.putWord.of_ok hr)
theorem enterLine {f : BitVec 56} {l : List W32} (h : m.Canon) : RunCanon (m.enterLine t f k l) := by
  unfold Mod.enterLine
  dsimp only
  split
  next => trivial
  next hr =>
    have hm := (h.iteRun h.readEach).of_ok hr
    split
    next => trivial
    next hs => exact (hm.readEach.of_ok hs).addCnt.addCnt.addCnt.addCnt
theorem passLines {f : BitVec 56} {l : List W32} (h : m.Canon) : RunCanon (m.passLines t f j l k) := by
  induction k generalizing m j l with
  | zero => exact h.putCells
  | succ k ih =>
    unfold Mod.passLines
    split
    next => trivial
    next hr => exact ih (h.enterLine.of_ok hr)
theorem runMma {f : BitVec 56} (h : m.Canon) : RunCanon (m.runMma t f) := by
  unfold Mod.runMma
  dsimp only
  split
  · trivial
  · split
    · trivial
    · exact (h.setF.ite h).passLines
theorem runMlatch {f : BitVec 56} (h : m.Canon) : RunCanon (m.runMlatch t f) := by
  unfold Mod.runMlatch
  dsimp only
  split
  next => trivial
  next hr => exact (h.readEach.of_ok hr).modTile.setF.setF.setFlag.addCnt
theorem runDrain {e : QEntry} (h : m.Canon) : RunCanon (m.runDrain t e) := by
  unfold Mod.runDrain
  dsimp only
  split
  · trivial
  · split
    · trivial
    · have hm : (if e.reference then m.shadowCompare t (bf e.f 44 1) else ([], m.shadowDrain t (bf e.f 44 1) e)).2.Canon := by
        split
        · exact h.shadowCompare
        · exact h.shadowDrain
      split
      next => trivial
      next hr =>
        have hp := hm.putWords.of_ok hr
        exact hp.genAdvance.ite hp
theorem runVop {f : BitVec 56} (h : m.Canon) : RunCanon (m.runVop t f) := by
  unfold Mod.runVop
  dsimp only
  split
  next => trivial
  next hr =>
    have hm := h.readLines.of_ok hr
    split
    next => trivial
    next hs => exact ((hm.iteRun hm.readStream).of_ok hs).putWords
theorem runVred {f : BitVec 56} (h : m.Canon) : RunCanon (m.runVred t f) := by
  unfold Mod.runVred
  dsimp only
  split
  next => trivial
  next hr =>
    have hm := h.readNumbered.of_ok hr
    split
    · exact hm
    · exact hm
    · split
      · exact hm
      · exact hm
theorem runQuant {e : QEntry} (h : m.Canon) : RunCanon (m.runQuant t e) := by
  unfold Mod.runQuant
  dsimp only
  split
  · trivial
  · split
    next => trivial
    next hr =>
      have hm := h.readLines.of_ok hr
      split
      next => trivial
      next hs =>
        have hp := hm.putWords.of_ok hs
        exact hp.genAdvance.ite hp
theorem runRand {f : BitVec 56} (h : m.Canon) : RunCanon (m.runRand t f) := by
  unfold Mod.runRand
  dsimp only
  split
  next => trivial
  next hr => exact (h.putWords.of_ok hr).genAdvance
theorem runSample {e : QEntry} (h : m.Canon) : RunCanon (m.runSample t e) := by
  unfold Mod.runSample
  dsimp only
  split
  · trivial
  · split
    next => trivial
    next hr =>
      have hm := h.readStream.of_ok hr
      split
      · exact (hm.ite hm.genAdvance).addCnt
      · exact hm.ite hm.genAdvance
theorem runEntry {e : QEntry} (h : m.Canon) : RunCanon (m.runEntry t e) := by
  unfold Mod.runEntry
  split
  · exact h.runMma.plain
  · exact h.runMlatch.plain
  · exact h.runOcfg
  · exact h.runOvec
  · exact h.runOclamp
  · split
    next hr => exact h.runDrain.of_ok hr
    next => trivial
  · exact h.runVop.plain
  · exact h.runVred.delivers
  · split
    next hr => exact h.runQuant.of_ok hr
    next => trivial
  · exact h.setGenKey.setFlag
  · exact h.setGenCtr
  · exact h.runRand.plain
  · exact h.runSample.delivers
  · exact h
theorem startUnit {l : List (Nat × W20 × W16)} (h : m.Canon) : (m.startUnit l t j k).1.Canon := by
  induction k generalizing m l with
  | zero => exact h
  | succ k ih =>
    unfold Mod.startUnit
    split
    · exact h
    · split
      · exact h
      · split
        next hr => exact (h.runEntry.of_ok hr).setQueue
        next => exact ih h.undone.setQueue
theorem startUnits (h : m.Canon) : (m.startUnits t).Canon := by
  unfold Mod.startUnits
  refine trapAll ?_
  exact List.foldlRecOn (motive := fun r : Mod × List (Nat × W20 × W16) => r.1.Canon) [1, 0, 2, 3, 4] _ h fun _ hr _ _ => hr.startUnit

end Canon
end Mod
end Sys2Proof.Machine
end

section
/-! PROOF. The canonical form is kept by every tile instruction, and stands after reset. -/

namespace Sys2Proof.Machine

/-- The module that an issued instruction's effect carries is in canonical form. -/
def Eff.Canon : Eff → Prop
  | .go m | .late m | .jump m _ | .hold m _ | .wait m _ | .trap m _ _ | .stop m => m.Canon

/-- An effect that a condition picks out of two. -/
theorem Eff.Canon.ite {c : Prop} [Decidable c] {e e' : Eff} (he : e.Canon) (he' : e'.Canon) : (if c then e else e').Canon := by
  split
  · exact he
  · exact he'

namespace Mod.Canon

variable {m : Mod} {t th d u k : Nat} {f : BitVec 56} {legal : Bool} {regs : List Nat} {body : Thread → Mod → Eff}

theorem finish {pc : W20} {e : Eff} (h : e.Canon) : (Mod.finish t th pc e).Canon := by
  unfold Mod.finish
  split <;> change Mod.Canon _ at h
  · exact h.issued.modThread
  · exact h.issued.modThread
  · exact h.issued.modThread
  · exact h.enterWait
  · exact h.issued.enterWait
  · exact h.trapThread
  · exact h.issued

theorem issue (h : m.Canon) (hb : ∀ x n, n.Canon → (body x n).Canon) : (m.issue t th legal body).Canon :=
  .ite h.trapThread (.ite h.addCnt.enterWait (.ite h.icTouch.trapThread (Canon.finish (hb _ _ h.icTouch))))

theorem startLoop {x : Thread} {w : W32} {o : Int} (h : m.Canon) : (Mod.startLoop t th k w o x m).Canon := by
  unfold Mod.startLoop
  dsimp only
  split
  · exact h
  · split
    · exact h
    · exact h.modThread

theorem push {op : Nat} {l : List W32} {g : Option Nat} {x : Thread} {q : TileUnit} (h : m.Canon) : (m.push t th u op f l g x q).Canon := by
  unfold Mod.push
  split
  · exact h
  · exact (h.setFlag.ite h).modTile.setQueue

end Mod.Canon

/-- An outcome keeps the canonical form: the next state has it, with the queue it was given. -/
def Keeps (s : State) (o : Host.Outcome State Fault Refusal) : Prop :=
  ∀ n, o = .next n → n.m.Canon ∧ n.pending = s.pending

namespace Keeps

variable {s : State} {t th d : Nat} {f : BitVec 56} {legal : Bool} {regs : List Nat} {body : Thread → Mod → Eff}

theorem onWhen {c : Bool} {g : Mod → Mod} (hs : s.m.Canon) (hg : (g s.m).Canon) : Keeps s (onWhen s c g) := by
  rintro n ⟨⟩
  exact ⟨.ite hg hs, rfl⟩
theorem onIssue (hs : s.m.Canon) (hb : ∀ x n, n.Canon → (body x n).Canon) : Keeps s (onIssue s t th regs legal body) :=
  onWhen hs (hs.issue hb)
theorem onUnit (hs : s.m.Canon) (hb : ∀ x n, n.Canon → (body x n).Canon) : Keeps s (onUnit s t th regs legal body) :=
  onWhen hs (hs.issue hb).startUnits
theorem onG {g : Thread → Mod → W32} (hs : s.m.Canon) : Keeps s (onG s t th regs legal d g) :=
  onIssue hs fun _ _ hn => hn.modThread
theorem onAlu {op : W32 → W32 → W32} (hs : s.m.Canon) : Keeps s (onAlu s t th f op) := onG hs
theorem onMul {op : W32 → W32 → W32} (hs : s.m.Canon) : Keeps s (onMul s t th f op) :=
  onIssue hs fun _ _ hn => hn.modThread
theorem jigSetup {w : Thread → Mod → W16 × Mod} (hs : s.m.Canon) (hw : ∀ x n, n.Canon → (w x n).2.Canon) :
    Keeps s (jigSetup s t th regs f legal w) :=
  onIssue hs fun x n hn => by
    dsimp only
    split
    · exact hw x n hn
    · exact hn

/-- The setup instructions that write one register of the jig's block. -/
theorem jigReg {a : Nat} {w : W64} (hs : s.m.Canon) :
    Keeps s (Machine.jigSetup s t th regs f legal fun _ m => m.writeJigReg t (fJig f) a w) :=
  jigSetup hs fun _ _ hn => hn.writeJigReg

theorem execSlt (hs : s.m.Canon) : Keeps s (execSlt t th f s) := onAlu hs
theorem execSltu (hs : s.m.Canon) : Keeps s (execSltu t th f s) := onAlu hs
theorem execCsrw (hs : s.m.Canon) : Keeps s (execCsrw t th f s) := by
  refine onIssue hs fun _ _ hn => .ite hn ?_
  split
  · exact hn
  · exact .ite hn.writeTile hn
theorem execJbase (hs : s.m.Canon) : Keeps s (execJbase t th f s) :=
  onIssue hs fun _ n hn => by
    dsimp only
    split
    · exact hn
    · split
      · exact hn.writeJigReg
      · exact hn
theorem execJen (hs : s.m.Canon) : Keeps s (execJen t th f s) :=
  onIssue hs fun _ n hn => by
    have hr : ((jigMask f).foldl (fun (r : W16 × Mod) j => if r.1 ≠ 0 then r else if r.2.jigOn t j then r else r.2.enableJig t j) (0, n)).2.Canon := by
      refine List.foldlRecOn (motive := fun r : W16 × Mod => r.2.Canon) _ _ hn fun r hr j _ => ?_
      split
      · exact hr
      · split
        · exact hr
        · exact hr.enableJig
    dsimp only
    split
    · exact hr
    · exact hr
theorem execRpush (hs : s.m.Canon) : Keeps s (execRpush t th f s) :=
  onIssue hs fun _ n hn => by
    dsimp only
    split
    · exact hn
    · split
      · exact hn
      · split
        · exact hn
        · exact hn.setRingEntryBytes.setRingTail.setRingState.ite hn.setRingEntryBytes.setRingTail
theorem execBrk (hs : s.m.Canon) : Keeps s (execBrk t th f s) :=
  onIssue hs fun _ n hn => by
    split
    · exact hn.forEach fun _ _ hm => hm.modThread
    · exact hn

end Keeps

/-- Every tile instruction keeps the canonical form and the queue. -/
theorem exec_tile_keeps {s : State} {i : Instr} (hi : tileOpcode i ≠ none) (hs : s.m.Canon) : Keeps s (exec i s) := by
  cases i with
  | nop t th f => exact .onIssue hs fun _ _ hn => hn
  | br t th f => exact .onIssue hs fun _ _ hn => .ite hn hn
  | jr t th f => exact .onIssue hs fun _ _ hn => hn
  | call t th f => exact .onIssue hs fun _ _ hn => .ite hn hn.modThread
  | ret t th f =>
    refine .onIssue hs fun x _ hn => ?_
    split
    · exact hn
    · exact hn.modThread
  | loop t th f => exact .onIssue hs fun _ _ hn => hn.startLoop
  | loopi t th f => exact .onIssue hs fun _ _ hn => hn.startLoop
  | tstart t th f => exact .onIssue hs fun _ _ hn => .ite hn.setThread hn
  | endThread t th f => exact .onIssue hs fun _ _ hn => hn.modThread
  | fence t th f => exact .onIssue hs fun _ _ hn => .ite hn hn
  | lend t th f => exact .onIssue hs fun _ _ hn => .ite hn.modThread hn
  | add t th f => exact .onAlu hs
  | sub t th f => exact .onAlu hs
  | mul t th f => exact .onMul hs
  | mulhs t th f => exact .onMul hs
  | mulhu t th f => exact .onMul hs
  | andI t th f => exact .onAlu hs
  | orI t th f => exact .onAlu hs
  | xorI t th f => exact .onAlu hs
  | shl t th f => exact .onAlu hs
  | shr t th f => exact .onAlu hs
  | sra t th f => exact .onAlu hs
  | minI t th f => exact .onAlu hs
  | maxI t th f => exact .onAlu hs
  | slt t th f => exact .execSlt hs
  | sltu t th f => exact .execSltu hs
  | movi t th f => exact .onG hs
  | aadd t th f => exact .onIssue hs fun _ _ hn => hn.modThread
  | amov t th f => exact .onIssue hs fun _ _ hn => hn.modThread
  | aget t th f => exact .onG hs
  | lcget t th f => exact .onG hs
  | ldw t th f =>
    refine .onIssue hs fun _ _ hn => ?_
    split
    · exact hn
    · exact hn
  | stw t th f =>
    refine .onIssue hs fun _ _ hn => ?_
    split
    · exact hn
    · exact hn
  | csrr t th f =>
    refine .onIssue hs fun _ _ hn => .ite hn ?_
    split
    · exact hn
    · exact hn.modThread
  | csrw t th f => exact .execCsrw hs
  | bcnt t th f => exact .onIssue hs fun _ _ hn => hn.modThread
  | jctl t th f => exact .jigSetup hs fun _ _ hn => hn.writeJigCtl
  | jfill t th f => exact .jigReg hs
  | jbase t th f => exact .execJbase hs
  | jdim t th f => exact .jigReg hs
  | jdax t th f => exact .jigReg hs
  | jaxis t th f => exact .jigReg hs
  | jen t th f => exact .execJen hs
  | jdis t th f => exact .onIssue hs fun _ _ hn => hn.forEach fun _ _ hm => hm.disableJig
  | jwait t th f => exact .onIssue hs fun _ _ hn => .ite hn hn
  | mitre t th f => exact .onIssue hs fun _ _ hn => .ite hn.startMitre hn
  | mma t th f => exact .onUnit hs fun _ _ hn => hn.push
  | mlatch t th f => exact .onUnit hs fun _ _ hn => hn.push
  | ocfg t th f => exact .onUnit hs fun _ _ hn => hn.push
  | ovec t th f => exact .onUnit hs fun _ _ hn => .ite hn hn.push
  | oclamp t th f => exact .onUnit hs fun _ _ hn => .ite hn hn.push
  | odrain t th f => exact .onUnit hs fun _ _ hn => hn.push
  | vop t th f => exact .onUnit hs fun _ _ hn => hn.push
  | vred t th f => exact .onUnit hs fun _ _ hn => hn.push
  | quant t th f => exact .onUnit hs fun _ _ hn => hn.push
  | rkey t th f => exact .onUnit hs fun _ _ hn => hn.push
  | rctr t th f => exact .onUnit hs fun _ _ hn => hn.push
  | rand t th f => exact .onUnit hs fun _ _ hn => hn.push
  | sample t th f => exact .onUnit hs fun _ _ hn => hn.push
  | bsig t th f => exact .onIssue hs fun _ _ hn => .ite hn hn.modTile
  | bcas t th f => exact .onIssue hs fun _ _ hn => .ite hn hn
  | bwait t th f => exact .onIssue hs fun _ _ hn => .ite hn hn
  | bread t th f => exact .onIssue hs fun _ _ hn => .ite hn hn
  | rpush t th f => exact .execRpush hs
  | xarm t th f => exact .onIssue hs fun _ _ hn => .ite hn.arm hn
  | xwait t th f => exact .onIssue hs fun _ _ hn => .ite hn hn
  | mwait t th f => exact .onIssue hs fun _ _ hn => .ite hn hn
  | pref t th f => exact .onIssue hs fun _ _ hn => .ite hn.addCnt hn.modTile
  | stag t th f => exact .onIssue hs fun _ _ hn => hn.modThread
  | trapI t th f => exact .onIssue hs fun _ _ hn => hn
  | brk t th f => exact .execBrk hs
  | _ => exact absurd rfl hi

/-- Settles O60: a tile instruction at the front of the queue runs on the queue's rest, and its meaning keeps the canonical form. -/
theorem instructionsKeepCanonical : Obligations.InstructionsKeepCanonical := by
  intro s t i r hfront hi hs hstep
  have hrun : exec i { s with pending := r } = .next t := by simpa only [step, hfront] using hstep
  have hs' : ({ s with pending := r } : State).m.Canon := (canonical_iff_canon s).mp hs
  obtain ⟨hcanon, hqueue⟩ := exec_tile_keeps hi hs' t hrun
  exact ⟨(canonical_iff_canon t).mpr hcanon, hqueue⟩

/-- Settles O4: the reset state lists nothing, neither in memory nor in the register table. -/
theorem resetCanonical : Obligations.ResetCanonical :=
  (canonical_iff_canon State.reset).mpr ⟨reset_mem_wf, rfl⟩

end Sys2Proof.Machine
end

section
/-! PROOF. Stores, register fields and counters (R5, R88): what was written reads back, and the rest stays. -/

namespace Sys2Proof

theorem satAdd_toNat (w : W64) (n : Nat) (h : w.toNat + n < 2 ^ 64) : (satAdd w n).toNat = w.toNat + n := by
  rw [satAdd, if_pos h, BitVec.toNat_ofNat, Nat.mod_eq_of_lt h]

theorem satAdd_saturates (w : W64) (n : Nat) (h : 2 ^ 64 ≤ w.toNat + n) : satAdd w n = BitVec.allOnes 64 := by
  rw [satAdd, if_neg (Nat.not_lt.mpr h)]

namespace Machine.Mod

theorem ldByte_stNat_outside (m : Mod) (a n v b : Nat) (h : b < a ∨ a + n ≤ b) : (m.stNat a n v).ldByte b = m.ldByte b := by
  rw [stNat, ldByte_st, bytesOf_length, if_neg (by omega)]

theorem rd_addCnt_same (m : Mod) (a n : Nat) : (m.addCnt a n).rd a = satAdd (m.rd a) n := rd_wr_same _ _ _

/-- Settles O5, from the laws of stores, of register fields and of the saturating sum. -/
theorem storesAndRegisterFields : Obligations.StoresAndRegisterFields := by
  refine ⟨fun m a n v hmem => ⟨?_, ?_, ?_, ?_⟩, fun m a lo len v hlen => ⟨?_, ?_, ?_, ?_, ?_⟩, fun m a n => ⟨?_, ?_, ?_⟩⟩
  · exact stNat_wf hmem a n v
  · exact ldNat_stNat m a n v
  · exact fun b hb => ldByte_stNat_outside m a n v b hb
  · exact regs_stNat m a n v
  · exact fld_setF_same m a lo len v hlen
  · exact fun p q hpq hd => fld_setF_disjoint m a lo len v p q hpq hd
  · exact fun b hb => rd_setF_other m lo len v hb
  · exact mem_setF m a lo len v
  · exact fun hregs => regs_wf hregs a _
  · intro h
    rw [rd_addCnt_same, satAdd_toNat _ _ h]
  · intro h
    rw [rd_addCnt_same, satAdd_saturates _ _ h]
  · exact fun b hb => rd_addCnt_other m n hb

end Machine.Mod
end Sys2Proof
end

section
/-! PROOF. The module window and the module state after reset (R36). -/

namespace Sys2Proof.Machine

/-- No register is listed at reset, so each reads its own reset value. -/
theorem rd_reset (a : Nat) : State.reset.m.rd a = regReset a := rfl

/-- Settles O3, from the reset values of the module global window. -/
theorem resetModuleWindow : Obligations.ResetModuleWindow := by
  refine ⟨rfl, ?_, ?_, ?_, ?_, ?_, ?_, ?_, rfl, rfl⟩
  · exact rd_reset _
  · exact rd_reset _
  · exact rd_reset _
  · exact rd_reset _
  · exact rd_reset _
  · rw [Mod.modState, Mod.fld, rd_reset]; decide
  · rw [Mod.startPhase, Mod.fld, rd_reset]; decide

end Sys2Proof.Machine
end

section
/-! PROOF. Commands on partitions (R28, R506, R561): how MOD_PART_MAP changes as a partition is made, what the power-up of its dies leaves, and what each command answers. -/

open Sys2Proof.Safety

namespace Sys2Proof.Machine

/-! ## Loops and commands that are taken -/

/-- What the step of one element establishes and every step keeps holds once the loop has passed that element. -/
theorem Mod.forEach_establishes {P : Mod → Prop} {f : Mod → Nat → Mod} {l : List Nat} {x : Nat} (hx : x ∈ l)
    (hset : ∀ m, P (f m x)) (hkeep : ∀ m y, y ∈ l → P m → P (f m y)) (m : Mod) : P (forEach m l f) := by
  obtain ⟨l₁, l₂, rfl⟩ := List.append_of_mem hx
  have hrest : P (forEach (f (forEach m l₁ f) x) l₂ f) :=
    forEach_keeps f l₂ (fun n y hy => hkeep n y (by simp [hy])) _ (hset _)
  simpa only [forEach, List.foldl_append, List.foldl_cons] using hrest

/-- A command that its channel offers, that Gallery takes and whose common checks pass answers what its body gives. -/
theorem does_serve {s : State} {c : Instr} {ch : Channel} {op : Nat} {b : List Byte} {f : Mod → HostCmd → CmdResult} {m' : Mod}
    (h : Serves s.m ch op b) (hc : exec c s = onModule s (fun m => m.serve ch op f))
    (hm : Mod.endCmd (commandOf s.m ch b) (f (Taking s.m ch b) (commandOf s.m ch b)) = m') : Does c s m' := by
  rw [Does, hc, onModule, Mod.serve_taken h, hm]

theorem does_onSlot {s : State} {c : Instr} {p : Nat} {f : Mod → Mod} {m' : Mod} (hup : s.m.mainUp = true) (hp : p < 8)
    (hc : exec c s = onSlot s p f) (hm : f s.m = m') : Does c s m' := by
  rw [Does, hc, Mod.onSlot_next hup hp, hm]

namespace Mod

/-! ## The map of dies to slots (R28, R36) -/

/-- The low bits of a field just written. -/
theorem bf_setBf_low {n : Nat} (w : BitVec n) (lo len v k : Nat) (h : lo + len ≤ n) (hk : k ≤ len) : bf (setBf w lo len v) lo k = v % 2 ^ k := by
  apply Nat.eq_of_testBit_eq
  intro i
  rw [testBit_bf, Nat.testBit_mod_two_pow]
  by_cases hi : i < k
  · rw [getLsbD_setBf _ _ _ _ _ (by omega), if_pos (by omega), Nat.add_sub_cancel_left]
  · simp [hi]

/-- MOD_PART_MAP gives a die's nibble 8 + the slot: that die is in the slot, every other die stays where it was. -/
theorem slotOfDie_setMap (m : Mod) {d e p : Nat} (hd : d < 8) (he : e < 8) (hp : p < 8) :
    (m.setF MOD_PART_MAP (4 * d) 4 (8 + p)).slotOfDie e = if e = d then some p else m.slotOfDie e := by
  unfold slotOfDie flag fld setF
  rw [rd_wr_same]
  by_cases h : e = d
  · subst h
    have hvalid : bit (setBf (m.rd MOD_PART_MAP) (4 * e) 4 (8 + p)) (4 * e + 3) = true := by
      rw [bit, getLsbD_setBf _ _ _ _ _ (by omega), if_pos (by omega), Nat.add_sub_cancel_left, Nat.testBit_eq_decide_div_mod_eq]
      simp only [decide_eq_true_eq]
      omega
    rw [hvalid, bf_setBf_low _ _ _ _ _ (by omega) (by omega), if_pos rfl, if_pos rfl, show (8 + p) % 2 ^ 3 = p by omega]
  · rw [if_neg h, bit_setBf_outside _ _ _ _ _ (by omega) (by omega), bf_setBf_disjoint _ _ _ _ _ _ (by omega) (by omega)]

/-- The map is a register of its own: the partition's record and its status register leave it. -/
theorem slotOfDie_newSlot (m : Mod) (p : Nat) (x : Part) (v : W64) (e : Nat) : ((m.setPart p x).wr (PART_STATUS p) v).slotOfDie e = m.slotOfDie e := by
  have hne : MOD_PART_MAP ≠ PART_STATUS p := by simp only [PART_STATUS, partReg, MOD_PART_MAP]; omega
  unfold slotOfDie
  rw [flag_wr_other _ _ _ hne, fld_wr_other _ _ _ _ hne]
  rfl

theorem lowestDie_lt (mask : Nat) : lowestDie mask < 8 := by
  unfold lowestDie
  rcases h : (upto 8).find? (fun d => decide (mask / 2 ^ d % 2 = 1)) with _ | d
  · decide
  · exact List.mem_range.mp (List.mem_of_find?_eq_some h)

/-- The lowest die of a mask that names a die is one that it names. -/
theorem lowestDie_named {mask : Nat} (h : ∃ d, d < 8 ∧ mask / 2 ^ d % 2 = 1) : mask / 2 ^ lowestDie mask % 2 = 1 := by
  obtain ⟨d, hd, hbit⟩ := h
  obtain ⟨e, he⟩ := Option.isSome_iff_exists.mp
    (List.find?_isSome (p := fun d => decide (mask / 2 ^ d % 2 = 1)) (xs := upto 8) |>.mpr ⟨d, List.mem_range.mpr hd, by simpa using hbit⟩)
  have hlow : lowestDie mask = e := by rw [lowestDie, he]; rfl
  rw [hlow]
  exact of_decide_eq_true (List.find?_some (p := fun d => decide (mask / 2 ^ d % 2 = 1)) he)

/-- An allowed set, an aligned run of dies, is not empty (R28). -/
theorem allowedSet_names_die {mask : Nat} (h : allowedSet mask = true) : ∃ d, d < 8 ∧ mask / 2 ^ d % 2 = 1 := by
  simp only [allowedSet, List.any_eq_true, decide_eq_true_eq] at h
  obtain ⟨n, hn, i, hi, rfl⟩ := h
  have hi : i < 8 / n := List.mem_range.mp hi
  have hrun : ∀ n ∈ [1, 2, 4, 8], 0 < n ∧ (2 ^ n - 1) % 2 = 1 := by decide
  obtain ⟨hpos, hodd⟩ := hrun n hn
  refine ⟨n * i, ?_, ?_⟩
  · calc n * i < n * (8 / n) := Nat.mul_lt_mul_of_pos_left hi hpos
      _ ≤ 8 := Nat.mul_div_le 8 n
  · rw [Nat.mul_div_cancel _ (by positivity), hodd]

/-- The dies of the mask are in the new partition's slot. -/
theorem slotOfDie_makePart_named (m : Mod) {mask d : Nat} (hd : d < 8) (hbit : mask / 2 ^ d % 2 = 1) : (m.makePart mask).slotOfDie d = some (lowestDie mask) := by
  unfold makePart
  rw [slotOfDie_newSlot]
  refine forEach_establishes (P := fun n => n.slotOfDie d = some (lowestDie mask)) (x := d) (by simp [upto, hd, hbit]) (fun n => ?_) (fun n e he hn => ?_) m
  · rw [slotOfDie_setMap n hd hd (lowestDie_lt mask), if_pos rfl]
  · have he : e < 8 := List.mem_range.mp (List.mem_filter.mp he).1
    rw [slotOfDie_setMap n he hd (lowestDie_lt mask), hn, ite_self]

/-- A die outside the mask stays where it was. -/
theorem slotOfDie_makePart_other (m : Mod) {mask d : Nat} (hd : d < 8) (hbit : mask / 2 ^ d % 2 = 0) : (m.makePart mask).slotOfDie d = m.slotOfDie d := by
  unfold makePart
  rw [slotOfDie_newSlot]
  refine forEach_keeps (P := fun n => n.slotOfDie d = m.slotOfDie d) _ _ (fun n e he hn => ?_) m rfl
  obtain ⟨he, hnamed⟩ := List.mem_filter.mp he
  have hne : d ≠ e := by rintro rfl; simp [hbit] at hnamed
  rw [slotOfDie_setMap n (List.mem_range.mp he) hd (lowestDie_lt mask), if_neg hne, hn]

/-! ## Scrubs of tiles, while other tiles are disabled (R83, R99) -/

theorem tile_setF (m : Mod) (a lo len v t : Nat) : (m.setF a lo len v).tile t = m.tile t := by rw [tile, tiles_setF, tile]

/-- `n` has the slot records of `m`, and its tiles scrub as those of `m` do. -/
structure SameScrubs (m n : Mod) : Prop where
  parts : n.parts = m.parts
  scrub : ∀ t, (n.tile t).scrub = (m.tile t).scrub

namespace SameScrubs

variable {m n : Mod} {t th a lo len v : Nat}

theorem refl (m : Mod) : SameScrubs m m := ⟨rfl, fun _ => rfl⟩
theorem ite {c : Prop} [Decidable c] {k : Mod} (hn : SameScrubs m n) (hk : SameScrubs m k) : SameScrubs m (if c then n else k) := by
  split
  · exact hn
  · exact hk
theorem forEach {f : Mod → Nat → Mod} {l : List Nat} (h : SameScrubs m n) (hf : ∀ k x, SameScrubs m k → SameScrubs m (f k x)) :
    SameScrubs m (Machine.forEach n l f) :=
  forEach_keeps f l (fun k x _ => hf k x) n h

theorem setF (h : SameScrubs m n) : SameScrubs m (n.setF a lo len v) := ⟨h.parts, fun u => by rw [tile_setF]; exact h.scrub u⟩
theorem setFlag {b : Bool} (h : SameScrubs m n) : SameScrubs m (n.setFlag a v b) := h.setF

/-- An update of a tile that leaves its scrub. -/
theorem modTile {f : Tile → Tile} (h : SameScrubs m n) (hf : ∀ x, (f x).scrub = x.scrub) : SameScrubs m (n.modTile t f) := by
  refine ⟨h.parts, fun u => ?_⟩
  rw [Mod.modTile, tile_setTile]
  split
  · next hu => rw [hf, ← hu, h.scrub]
  · exact h.scrub u
theorem modThread {f : Thread → Thread} (h : SameScrubs m n) : SameScrubs m (n.modThread t th f) := by
  unfold Mod.modThread Mod.setThread
  exact h.modTile fun _ => rfl
theorem withdrawThread (h : SameScrubs m n) : SameScrubs m (n.withdrawThread t th) := by
  unfold Mod.withdrawThread
  split
  · exact ⟨h.parts, h.scrub⟩
  · exact h
theorem settleThread {x : ThState} (h : SameScrubs m n) : SameScrubs m (n.settleThread t th x) := h.withdrawThread.modThread
theorem loseAccs (h : SameScrubs m n) : SameScrubs m (n.loseAccs t) := by
  have hcells := h.modTile (t := t) (f := fun x => { x with accs := (upto 2048).map fun c => (c, Config.stoppedCell t c n.free) }) fun _ => rfl
  exact ⟨hcells.parts, hcells.scrub⟩
theorem discardQueues (h : SameScrubs m n) :
    SameScrubs m (n.modTile t fun x => { x with queues := [], sent := x.sent.map fun o => { o with live := false } }) := h.modTile fun _ => rfl
theorem clearValid (h : SameScrubs m n) : SameScrubs m (n.clearValid t) := h.setF.setF.setF
theorem disableTile (h : SameScrubs m n) : SameScrubs m (n.disableTile t) := by
  unfold Mod.disableTile
  have hoff : SameScrubs m (Machine.forEach n (upto 4) fun k th => k.settleThread t th .off) := h.forEach fun _ _ hk => hk.settleThread
  split
  · exact ((hoff.loseAccs.ite hoff).discardQueues.forEach fun _ _ hk => hk.setF).clearValid.setFlag
  · exact h

end SameScrubs

/-- The write of TILE_SEC with SCRUB, whatever the domain: the tile is disabled, then it has the new domain and scrubs (R83). -/
theorem keeperDomain_scrub (m : Mod) (t : Nat) (d : W16) :
    m.keeperDomain t d true = ((m.disableTile t).setF (TILE_SEC t) 0 16 d.toNat).modTile t fun x => { x with scrub := some d } :=
  if_pos (Or.inr rfl)

/-- It starts the scrub of its tile and stops none. -/
theorem scrubbing_keeperDomain (m : Mod) (t u : Nat) (d : W16) : (m.keeperDomain t d true).scrubbing u = (decide (u = t) || m.scrubbing u) := by
  have hoff := (SameScrubs.refl m).disableTile (t := t)
  rw [keeperDomain_scrub]
  generalize m.disableTile t = n at hoff
  rw [scrubbing, scrubbing, ← hoff.scrub u, Mod.modTile, tile_setTile]
  by_cases h : u = t
  · simp [h]
  · simp [h, tile_setF]

theorem parts_keeperDomain (m : Mod) (t : Nat) (d : W16) : (m.keeperDomain t d true).parts = m.parts := by
  rw [keeperDomain_scrub, Mod.modTile, parts_setTile, parts_setF]
  exact (SameScrubs.refl m).disableTile.parts

/-! ## The power-up of a partition's dies (R561) -/

theorem mem_tilesOf {m : Mod} {t p : Nat} (ht : t < 1280) (hp : m.slotOfTile t = some p) : t ∈ m.tilesOf p := by
  simp only [tilesOf, diesOf, upto, List.mem_flatMap, List.mem_filter, List.mem_range, List.mem_map, decide_eq_true_eq]
  exact ⟨dieOfTile t, ⟨by simp only [dieOfTile]; omega, hp⟩, t % 160, by omega, by simp only [dieOfTile]; omega⟩

/-- The module once the rails of a slot's dies are up: HBM is out of self-refresh and the slot out of M2. -/
def railsUp (m : Mod) (p : Nat) : Mod :=
  (forEach m (m.diesOf p) fun m d => m.selfRefresh d false).modPart p fun x => { x with m2 := false }

theorem partUp_eq (m : Mod) (p : Nat) :
    m.partUp p = if ((m.railsUp p).kslot p).domain = 0 then (m.railsUp p).partReady p
      else forEach (m.railsUp p) ((m.railsUp p).tilesOf p) fun n t => n.keeperDomain t (n.kslot p).domain true := rfl

/-- Leaving self-refresh changes the HBM stacks alone. -/
theorem leaveSelfRefresh_changes (m : Mod) (l : List Nat) : ∃ h, forEach m l (fun m d => m.selfRefresh d false) = { m with hbmStacks := h } := by
  refine forEach_keeps (P := fun n => ∃ h, n = { m with hbmStacks := h }) _ l (fun n d _ hn => ?_) m ⟨_, rfl⟩
  refine forEach_keeps (P := fun n => ∃ h, n = { m with hbmStacks := h }) _ _ (fun k x _ hk => ?_) n hn
  obtain ⟨h, rfl⟩ := hk
  exact ⟨_, rfl⟩

/-- With the rails up, the HBM stacks and the slot's record have changed, and nothing else. -/
theorem railsUp_changes (m : Mod) (p : Nat) :
    ∃ h, m.railsUp p = { m with hbmStacks := h, parts := Sparse.put (fun _ => {}) m.parts p { m.part p with m2 := false } } := by
  obtain ⟨h, hstacks⟩ := leaveSelfRefresh_changes m (m.diesOf p)
  exact ⟨h, by rw [railsUp, hstacks]; rfl⟩

theorem kslot_railsUp (m : Mod) (p k : Nat) : (m.railsUp p).kslot k = m.kslot k := by
  obtain ⟨h, hrails⟩ := railsUp_changes m p
  rw [hrails]; rfl
theorem cmds_railsUp (m : Mod) (p : Nat) : (m.railsUp p).cmds = m.cmds := by
  obtain ⟨h, hrails⟩ := railsUp_changes m p
  rw [hrails]
theorem slotOfTile_railsUp (m : Mod) (p t : Nat) : (m.railsUp p).slotOfTile t = m.slotOfTile t := by
  obtain ⟨h, hrails⟩ := railsUp_changes m p
  rw [hrails]; rfl
theorem powering_railsUp (m : Mod) (p : Nat) : ((m.railsUp p).part p).powering = (m.part p).powering := by
  obtain ⟨h, hrails⟩ := railsUp_changes m p
  rw [hrails, part, Sparse.get_put, if_pos rfl]

theorem powering_partReady (m : Mod) (p : Nat) : ((m.partReady p).part p).powering = false := by
  rw [partReady, setPower, part, parts_setF]
  exact congrArg Part.powering (part_setPart_same _ p _)
theorem cmds_partReady (m : Mod) (p : Nat) : (m.partReady p).cmds = m.cmds := cmds_setF _ _ _ _ _

/-- Without a domain the power-up has ended once the rails are up, and commands in progress are as they were. -/
theorem partUp_plain {m : Mod} {p : Nat} (hd : (m.kslot p).domain = 0) : ((m.partUp p).part p).powering = false ∧ (m.partUp p).cmds = m.cmds := by
  rw [partUp_eq, kslot_railsUp, if_pos hd]
  exact ⟨powering_partReady _ p, (cmds_partReady _ p).trans (cmds_railsUp m p)⟩

/-- With a domain it has not ended: every tile of the slot scrubs in the domain (R561). -/
theorem partUp_domain {m : Mod} {p : Nat} (hd : (m.kslot p).domain ≠ 0) :
    ((m.partUp p).part p).powering = (m.part p).powering ∧ ∀ t, t < 1280 → m.slotOfTile t = some p → (m.partUp p).scrubbing t = true := by
  rw [partUp_eq, kslot_railsUp, if_neg hd]
  refine ⟨?_, fun t ht hp => ?_⟩
  · refine forEach_keeps (P := fun n => (n.part p).powering = (m.part p).powering) _ _ (fun n t _ hn => ?_) _ (powering_railsUp m p)
    rw [part, parts_keeperDomain]
    exact hn
  · have hmem : t ∈ (m.railsUp p).tilesOf p := mem_tilesOf ht ((slotOfTile_railsUp m p t).trans hp)
    refine forEach_establishes (P := fun n => n.scrubbing t = true) hmem (fun n => ?_) (fun n u _ hn => ?_) _
    · rw [scrubbing_keeperDomain, decide_eq_true rfl, Bool.true_or]
    · rw [scrubbing_keeperDomain, hn, Bool.or_true]

theorem powerCmd_of_cmds {m n : Mod} (h : n.cmds = m.cmds) (p : Nat) : n.powerCmd p = m.powerCmd p := by rw [powerCmd, h]; rfl

section
variable {m : Mod} {p : Nat} {x : HostCmd} (hpow : (m.part p).powering = true) (hm2 : (m.part p).m2 = true)
include hpow hm2

/-- The power-up of a PART_CREATE without a domain completes the command: the slot is IDLE and its number the answer (R506). -/
theorem powerUpDone_create (hx : m.powerCmd p = some x) (hop : pkOp x.packet = 0x10) (hd : (m.kslot p).domain = 0) :
    m.powerUpDone p true = ((m.partUp p).setPartState p 1).completeCmd x 0 0 [BitVec.ofNat 8 p] := by
  obtain ⟨hended, hcmds⟩ := partUp_plain hd
  simp [powerUpDone, hpow, hm2, hended, endPowerUp, powerCmd_of_cmds hcmds, hx, hop, bytesOf]

/-- With a domain the command waits until the tiles are scrubbed (R561). -/
theorem powerUpDone_domain (hd : (m.kslot p).domain ≠ 0) : m.powerUpDone p true = m.partUp p := by
  obtain ⟨hstill, -⟩ := partUp_domain hd
  simp [powerUpDone, hpow, hm2, hstill]

/-- A rail that does not come up ends the command with 0x0121 (R506). -/
theorem powerUpDone_failed (hx : m.powerCmd p = some x) :
    m.powerUpDone p false = ((m.modPart p (fun y => { y with powering := false })).raisePower 0x0121 p (some p)).completeCmd x 0x0121 0 [] := by
  simp [powerUpDone, hpow, hm2, hx]

end

theorem powerDownDone_off {m : Mod} {p : Nat} {x : HostCmd} (hx : m.cmdOf p 0x12 = some x) (hst : pkPar x.packet 0 1 = 2) (hm2 : (m.part p).m2 = false) :
    m.powerDownDone p = (m.partDown p).completeCmd x 0 0 [] := by
  simp [powerDownDone, hx, hst, hm2]

/-! ## What the commands answer (R506, R561) -/

section
variable {m : Mod} {mask : Nat} (hst : m.modState = 2 ∨ m.modState = 3)
include hst

theorem createPart_not_allowed (ha : allowedSet mask = false) : m.createPart mask = .refuse m 0x0102 := by
  rw [createPart, if_neg (by omega), if_pos (by rw [ha]; rfl)]
theorem createPart_taken (ha : allowedSet mask = true) (ht : m.diesTaken mask = true) : m.createPart mask = .refuse m 0x0103 := by
  rw [createPart, if_neg (by omega), if_neg (by rw [ha]; decide), if_pos ht]
theorem createPart_free (ha : allowedSet mask = true) (ht : m.diesTaken mask = false) : m.createPart mask = .wait (m.makePart mask) := by
  rw [createPart, if_neg (by omega), if_neg (by rw [ha]; decide), if_neg (by rw [ht]; decide)]

end

theorem deletePart_job {m : Mod} {p : Nat} (hj : m.jobRuns p = true) : m.deletePart p = .refuse m 0x0105 := by rw [deletePart, if_pos hj]
theorem deletePart_plain {m : Mod} {p : Nat} (hj : m.jobRuns p = false) (hk : (m.kslot p).st = .unsealed) (hd : (m.kslot p).domain = 0) :
    m.deletePart p = .ok (m.removePart p) := by
  simp [deletePart, hj, hk, hd]
theorem powerPart_up {m : Mod} {p : Nat} (hm2 : (m.part p).m2 = true) : m.powerPart p 0 = .wait (m.modPart p (fun y => { y with powering := true })) := by
  simp [powerPart, hm2]
theorem powerPart_down {m : Mod} {p : Nat} (hj : m.jobRuns p = false) (hm2 : (m.part p).m2 = false) : m.powerPart p 2 = .wait m := by
  simp [powerPart, hj, hm2]

/-- Settles O53: each command by what it answers; the map of the new partition by the loop over its dies, the scrubs of a power-up by the loop over the slot's tiles. -/
theorem partitionCommands : Obligations.PartitionCommands := by
  rintro s ch b n c rfl rfl
  refine ⟨fun hs hst => ⟨fun ha => ?_, fun ha ht => ?_, fun ha ht => ⟨?_, ?_, ?_, ?_⟩⟩, fun p x hup hp hpow hm2 hx => ⟨fun hop hd => ?_, fun hd => ⟨?_, ?_⟩, ?_⟩,
    fun hs hj hk hd => ?_, fun hs hj => ?_, fun hs hj => ⟨fun h0 hm2 => ?_, fun h2 hm2 => ?_⟩, fun p x hup hp hx hst hm2 => ?_⟩
  · exact does_serve hs rfl (congrArg (endCmd _) (createPart_not_allowed hst ha))
  · exact does_serve hs rfl (congrArg (endCmd _) (createPart_taken hst ha ht))
  · exact does_serve hs rfl (congrArg (endCmd _) (createPart_free hst ha ht))
  · exact slotOfDie_makePart_named _ (lowestDie_lt _) (lowestDie_named (allowedSet_names_die ha))
  · exact fun d hd hbit => slotOfDie_makePart_named _ hd hbit
  · exact fun d hd hbit => slotOfDie_makePart_other _ hd hbit
  · exact does_onSlot (f := fun m => m.powerUpDone p true) hup hp rfl (powerUpDone_create hpow hm2 hx hop hd)
  · exact does_onSlot (f := fun m => m.powerUpDone p true) hup hp rfl (powerUpDone_domain hpow hm2 hd)
  · exact (partUp_domain hd).2
  · exact does_onSlot (f := fun m => m.powerUpDone p false) hup hp rfl (powerUpDone_failed hpow hm2 hx)
  · exact does_serve hs rfl (congrArg (endCmd _) (deletePart_plain hj hk hd))
  · exact does_serve hs rfl (congrArg (endCmd _) (deletePart_job hj))
  · exact does_serve hs rfl (congrArg (endCmd _) ((congrArg _ h0).trans (powerPart_up hm2)))
  · exact does_serve hs rfl (congrArg (endCmd _) ((congrArg _ h2).trans (powerPart_down hj hm2)))
  · exact does_onSlot (f := fun m => m.powerDownDone p) hup hp rfl (powerDownDone_off hx hst hm2)

end Mod
end Sys2Proof.Machine
end

section
/-! PROOF. JEN, JDIS, JWAIT, MITRE and PREF (R76, R117, R123): each by the effect of its body on the module with the fetched line. -/

open Sys2Proof.Safety

namespace Sys2Proof.Machine

/-- An instruction whose body changes the module by `g` and goes on has completed with the effect `g`. -/
theorem does_issue_go {s : State} {c : Instr} {t th : Nat} {regs : List Nat} {legal : Bool} {body : Thread → Mod → Eff} {g : Mod → Mod}
    (h : CanRun s.m t th regs) (hl : legal = true) (hc : exec c s = onIssue s t th regs legal body)
    (hb : body (s.m.thread t th) (Fetched s.m t th) = .go (g (Fetched s.m t th))) : Does c s (Retired s.m t th g) :=
  Mod.does_issue hc h hl (congrArg (Mod.finish t th _) hb)

/-- An instruction whose body leaves the module and waits issues, and its thread waits. -/
theorem does_issue_wait {s : State} {c : Instr} {t th : Nat} {regs : List Nat} {legal : Bool} {body : Thread → Mod → Eff} {w : WaitRec}
    (h : CanRun s.m t th regs) (hl : legal = true) (hc : exec c s = onIssue s t th regs legal body)
    (hb : body (s.m.thread t th) (Fetched s.m t th) = .wait (Fetched s.m t th) w) : Does c s (Waits s.m t th w) :=
  Mod.does_issue hc h hl (congrArg (Mod.finish t th _) hb)

section
variable {s : State} {t th : Nat} {f : BitVec 56}

section
variable (hrun : CanRun s.m t th []) (hform : only (fm 50 6) f = true)
include hrun hform

theorem does_jen_one {j : Nat} (hmask : jigMask f = [j]) (hoff : (Fetched s.m t th).jigOn t j = false)
    (hcheck : ((Fetched s.m t th).enableJig t j).1 = 0) : Does (.jen t th f) s (Retired s.m t th fun k => (k.enableJig t j).2) :=
  does_issue_go hrun hform rfl (by simp [hmask, hoff, hcheck])

theorem does_jdis : Does (.jdis t th f) s (Retired s.m t th fun k => forEach k (jigMask f) fun m j => m.disableJig t j) :=
  does_issue_go hrun hform rfl rfl

theorem does_jwait_done (hdone : (Fetched s.m t th).jigsDone t (jigMask f) = true) : Does (.jwait t th f) s (Retired s.m t th id) :=
  does_issue_go hrun hform rfl (if_pos hdone)

theorem does_jwait_active (hactive : (Fetched s.m t th).jigsDone t (jigMask f) = false) :
    Does (.jwait t th f) s (Waits s.m t th (.jig (BitVec.ofNat 6 (bf f 50 6)))) :=
  does_issue_wait hrun hform rfl (if_neg (by rw [hactive]; decide))

end

theorem does_mitre {n : Nat} {c : Mitre} (hn : n = bf f 51 5) (hlast : n ≤ 28)
    (hc : c = { w0 := (s.m.thread t th).gReg n, w1 := (s.m.thread t th).gReg (n + 1), w2 := (s.m.thread t th).gReg (n + 2), w3 := (s.m.thread t th).gReg (n + 3), ring := none })
    (hrun : CanRun s.m t th (run4 n)) (hform : only (fm 51 5) f = true) (hcheck : (Fetched s.m t th).mitreCheck t c = 0) :
    Does (.mitre t th f) s (Retired s.m t th fun k => k.startMitre t c) := by
  subst hn hc
  have hlegal : (only (fm 51 5) f && decide (bf f 51 5 ≤ 28)) = true := by rw [hform, decide_eq_true hlast]; rfl
  exact does_issue_go hrun hlegal rfl (if_pos hcheck)

section
variable {d n : Nat} {a : Int} (hd : d = bf f 48 8) (hn : n = bf f 24 8 + 1) (ha : a = ((s.m.thread t th).aReg (bf f 44 4)).toInt + fOff f)
  (hrun : CanRun s.m t th []) (hform : only (fm 48 8 ||| fm 44 4 ||| fm 24 8 ||| mOff) f = true)
include hd hn ha hrun hform

/-- A request that its dowel does not hold is dropped and counted (R123). -/
theorem does_pref_dropped
    (hdrop : (Fetched s.m t th).dowelValid t d = false ∨ (Fetched s.m t th).dowelMode t d ≠ 3 ∨ a < 0 ∨ (Fetched s.m t th).dowelRows t d < a.toNat / 32 + n) :
    Does (.pref t th f) s (Retired s.m t th fun k => k.addCnt (CNT_PREF_DROP t) 1) := by
  subst hd hn ha
  exact does_issue_go hrun hform rfl (if_pos (by simpa only [Bool.not_eq_true] using hdrop))

/-- A request that its dowel holds queues its lines but for those the veneer has or awaits (R123). -/
theorem does_pref_queued (hvalid : (Fetched s.m t th).dowelValid t d = true) (hmode : (Fetched s.m t th).dowelMode t d = 3) (hpos : 0 ≤ a)
    (hrows : a.toNat / 32 + n ≤ (Fetched s.m t th).dowelRows t d) :
    Does (.pref t th f) s (Retired s.m t th fun k => k.modTile t fun y => { y with prefetch := y.prefetch ++
      ((((upto n).map fun i => (Fetched s.m t th).dowelHbmLine t d + a.toNat / 32 + i).filter fun h =>
        ((Fetched s.m t th).venFind t ((Fetched s.m t th).dowelQuarter t d) h).isNone &&
          !((Fetched s.m t th).tile t).prefetch.contains ((Fetched s.m t th).dowelQuarter t d, h)).map fun h => ((Fetched s.m t th).dowelQuarter t d, h)) }) := by
  subst hd hn ha
  refine does_issue_go hrun hform rfl (if_neg ?_)
  rintro (hv | hm | hneg | hlong)
  · exact hv hvalid
  · exact hm hmode
  · exact absurd hneg (Int.not_lt.mpr hpos)
  · exact absurd hlong (Nat.not_lt.mpr hrows)

end
end

/-- Settles O22: each instruction by the body it issues. -/
theorem jigsAndPrefetch : Obligations.JigsAndPrefetch := by
  refine ⟨?_, ?_⟩
  · rintro s t th f x l rfl rfl
    exact ⟨fun hrun hform => ⟨fun _ => does_jen_one hrun hform, does_jdis hrun hform, does_jwait_done hrun hform, does_jwait_active hrun hform⟩,
      fun _ _ => does_mitre⟩
  · rintro s t th f l d n a rfl hd hn ha hrun hform
    exact ⟨does_pref_dropped hd hn ha hrun hform, does_pref_queued hd hn ha hrun hform⟩

end Sys2Proof.Machine
end

section
/-! PROOF. The events of a tile's memory, the checks that fail, and what a scrub leaves (R51, R73, R74, R76, R84, R106, R502, R528, R531, R541). -/

open Sys2Proof.Safety

namespace Sys2Proof.Machine

/-- A command whose meaning changes the module by `f` does what `f` gives. -/
theorem does_of_next {s : State} {c : Instr} {o : Host.Outcome State Fault Refusal} {f : Mod → Mod} {m' : Mod}
    (ho : o = .next { s with m := f s.m }) (hc : exec c s = o) (hm : f s.m = m') : Does c s m' := by
  rw [Does, hc, ho, hm]

namespace Mod

theorem onTileClock_next {s : State} {t : Nat} {f : Mod → Mod} (hup : s.m.mainUp = true) (ht : t < 1280) (hclk : s.m.tileClocked t = true) :
    onTileClock s t f = .next { s with m := f s.m } :=
  onWhen_next (by simp [hup, ht, hclk, numTiles])

/-! ## The checks of a tile (R163, R209, R528) -/

section
variable {m : Mod} {t th loc : Nat} {k : TileCheck}

theorem tileCheckFails_exchange :
    m.tileCheckFails t .exchange loc = m.raise { code := 0x0628, slot := m.slotOfTile t, kind := 5, unit := halfOfTile t, loc := m.physTile t % 88 } :=
  if_pos rfl

theorem tileCheckFails_registers (hth : th < 4) :
    m.tileCheckFails t .registers th =
      if (m.thread t th).st = .ready ∨ (m.thread t th).st = .wait then m.trapThread t th (m.thread t th).pc 0x0325 0 else m.raiseTile t 0x0325 th := by
  rw [tileCheckFails, if_neg (by decide), if_pos rfl, Nat.mod_eq_of_lt hth]
  rfl

/-- Past the exchange and the registers, a check that no instruction in progress meets is raised. -/
theorem tileCheckFails_unmet (hx : k ≠ .exchange) (hr : k ≠ .registers) (he : m.faultyEntry t k = none) :
    m.tileCheckFails t k loc = m.raiseTile t (checkCode k) loc := by
  rw [tileCheckFails, if_neg hx, if_neg hr, he]

/-- One that an instruction in progress meets takes it from its queue and traps its thread. -/
theorem tileCheckFails_met {u : Nat} {e : QEntry} (hx : k ≠ .exchange) (hr : k ≠ .registers) (he : m.faultyEntry t k = some (u, e)) :
    m.tileCheckFails t k loc = (m.setQueue t u ((m.queue t u).erase e)).trapThread t e.th e.pc (checkCode k) 0 := by
  rw [tileCheckFails, if_neg hx, if_neg hr, he]

end

/-! ## A buffer access of a host command that fails (R502) -/

theorem bufNeed_load {b : List Byte} (h : pkOp b = 0x20 ∨ pkOp b = 0x21) : bufNeed b ≠ 0 := by
  obtain h | h := h <;> simp [bufNeed, h]

/-- A command that loads nothing only stops: the failed access is counted and raised. -/
theorem stopCommand_plain {m : Mod} {c : HostCmd} {n : Nat} (h20 : pkOp c.packet ≠ 0x20) (h21 : pkOp c.packet ≠ 0x21) :
    m.stopCommand c n = .refuse ((m.addCnt CNT_PCIE_ERR 1).raise { code := 0x0E21, kind := 8 }) 0x0E21 := by
  rw [stopCommand, if_neg h20, if_neg h21]

theorem hostFault_idle {m : Mod} {via : Channel} {own : Bool} {n : Nat} (h : m.offered via = none) : m.hostFault via own n = m := by
  rw [hostFault, h]

/-- What a failed access makes of a command that Gallery takes: a buffer of the interface fails any command, the host's memory one that has a buffer. -/
theorem hostFault_served {s : State} {via : Channel} {op n : Nat} {b : List Byte} (h : Serves s.m via op b) (own : Bool) :
    s.m.hostFault via own n = if own then ((Taking s.m via b).raise { code := 0x0E25, kind := 8 }).completeCmd (commandOf s.m via b) 0x0E25 0 []
      else if bufNeed b = 0 then s.m else endCmd (commandOf s.m via b) ((Taking s.m via b).stopCommand (commandOf s.m via b) n) := by
  obtain ⟨hoffer, -, -, hop, -⟩ := h.1
  simp only [hostFault, hoffer, hop, serve_taken h]
  rfl

/-! ## What a scrub leaves (R84) -/

/-- `n` has the memory and the tiles of `m`. -/
structure SameStores (m n : Mod) : Prop where
  mem : n.mem = m.mem
  tiles : n.tiles = m.tiles

namespace SameStores

variable {m n : Mod} {a lo len v : Nat}

theorem refl (m : Mod) : SameStores m m := ⟨rfl, rfl⟩
theorem wr {w : W64} (h : SameStores m n) : SameStores m (n.wr a w) := ⟨h.mem, h.tiles⟩
theorem setF (h : SameStores m n) : SameStores m (n.setF a lo len v) := h.wr
theorem setFlag {b : Bool} (h : SameStores m n) : SameStores m (n.setFlag a v b) := h.setF
theorem unstage (h : SameStores m n) : SameStores m (n.unstage a) := ⟨h.mem, h.tiles⟩
theorem forEach {f : Mod → Nat → Mod} {l : List Nat} (h : SameStores m n) (hf : ∀ k x, SameStores m k → SameStores m (f k x)) :
    SameStores m (Machine.forEach n l f) :=
  forEach_keeps f l (fun k x _ => hf k x) n h

end SameStores

/-- The record of a tile after its scrub. -/
def scrubbed (x : Tile) : Tile :=
  { x with
    threads := [], queues := [], icache := [], jigs := [], accs := [], latch := [], shadow := [], shadowShape := 0, tableQ := []
    veneer := [], prefetch := [], mitre := [], block := [], lastIssue := 3, accepted := false, scrub := none }

/-- A scrub clears the tile's scratchpad, writes registers, and empties the tile's record. -/
theorem scrubTile_eq (m : Mod) (t : Nat) :
    ∃ n, SameStores (m.clearMem (scratchAt t 0) (scratchAt (t + 1) 0)) n ∧ m.scrubTile t = n.setTile t (scrubbed (n.tile t)) := by
  refine ⟨_, ?_, rfl⟩
  have hveneer := (SameStores.refl (m.clearMem (scratchAt t 0) (scratchAt (t + 1) 0))).wr (a := VENEER_CTL t) (w := 0) |>.unstage (a := VENEER_CTL t)
    |>.wr (a := VENEER_STATUS t) (w := 0)
  have hdowels := hveneer.forEach (l := upto 256) (f := fun m d => m.setFlag (DOWEL0 t d) 63 false) fun _ _ hk => hk.setFlag
  have hjigs := hdowels.forEach (l := upto 6) (f := fun m j => (m.setFlag (JIG_CTL t j) 0 false).setF (JIG_STATUS t j) 0 4 0) fun _ _ hk => hk.setFlag.setF
  have hmitre := hjigs.wr (a := MITRE_STATUS t) (w := 0)
  exact hmitre.forEach (fun _ _ hk => hk.wr) |>.forEach (fun _ _ hk => hk.forEach fun _ _ hk => hk.wr) |>.forEach (fun _ _ hk => hk.wr) |>.forEach fun _ _ hk => hk.wr

theorem ldByte_scrubTile (m : Mod) (t a : Nat) :
    (m.scrubTile t).ldByte a = if scratchAt t 0 ≤ a ∧ a < scratchAt (t + 1) 0 then 0 else m.ldByte a := by
  obtain ⟨n, hn, heq⟩ := scrubTile_eq m t
  rw [← ldByte_clearMem, heq, ldByte, mem_setTile, hn.mem]
  rfl

theorem tile_scrubTile (m : Mod) (t u : Nat) : (m.scrubTile t).tile u = if u = t then scrubbed (m.tile t) else m.tile u := by
  obtain ⟨n, hn, heq⟩ := scrubTile_eq m t
  have htile : ∀ k, n.tile k = m.tile k := fun k => congrArg (fun l => Sparse.get _ l k) hn.tiles
  rw [heq, tile_setTile, htile, htile]

/-- Every byte of the scratchpad lies in the range that the scrub clears. -/
theorem scratchAt_range {t o : Nat} (h : o < 2 ^ 25) : scratchAt t 0 ≤ scratchAt t o ∧ scratchAt t o < scratchAt (t + 1) 0 := by
  simp only [scratchAt]
  omega

/-! ## The events -/

section
variable {s : State} {t : Nat} (hup : s.m.mainUp = true) (ht : t < 1280)
include hup ht

/-- A prefetched line that the veneer still lacks is installed and is the most recently used (R74, R123). -/
theorem does_veneerLineFill {q h : Nat} {n : Mod} (hn : n = s.m.modTile t fun x => { x with prefetch := x.prefetch.erase (q, h) })
    (hclk : s.m.tileClocked t = true) (hreq : (s.m.tile t).prefetch.contains (q, h) = true) (hfl : s.m.flushing t = false)
    (hmode : n.veneerMode t q = true) (hmiss : n.venFind t q h = none) :
    Does (.veneerLineFill t q h true) s ((n.venInstall t q h false).2.venTouch t (n.venInstall t q h false).1 false) := by
  subst hn
  refine does_of_next (onTileClock_next hup ht hclk) rfl ((if_pos (by rw [hreq, hfl]; rfl)).trans ?_)
  dsimp only
  rw [if_neg (by decide), if_neg (by rw [hmode, hmiss]; decide)]

/-- A check of a tile acts on a tile that has power. -/
theorem does_tileCheck {k : TileCheck} {loc : Nat} {m' : Mod} (hm : s.m.tileCheckFails t k loc = m') :
    Does (.eccCorrectionWrite (.tile t k loc)) s m' :=
  hm ▸ onTile_next (f := fun m => m.tileCheckFails t k loc) hup ht

end

theorem does_hostFault {s : State} {via : Channel} {own : Bool} {n : Nat} {m' : Mod} (hm : s.m.hostFault via own n = m') :
    Does (.eccCorrectionWrite (.host via own n)) s m' :=
  hm ▸ rfl

/-- Settles O12: each event by the lift of its unit and the law of its check; a scrub by the memory it clears and the record it leaves. -/
theorem tileMemory : Obligations.TileMemory := by
  refine ⟨fun s t hup ht => ?_, fun s hstate => ⟨fun hup => ?_, fun via own n => ?_, rfl, fun f hdown => ?_⟩, fun m t _ => ?_⟩
  · refine ⟨?_, ?_, ?_, ?_, ?_, ?_, ?_, ?_⟩
    · exact fun hclk hfl => does_of_next (onTileClock_next hup ht hclk) rfl (if_pos hfl)
    · exact fun q h n hn => does_veneerLineFill hup ht hn
    · exact fun a => onTile_next (f := fun m => m.eccCorrected t a) hup ht
    · exact fun k loc hx hr he => does_tileCheck hup ht (tileCheckFails_unmet hx hr he)
    · exact fun k loc u e hx hr he => does_tileCheck hup ht (tileCheckFails_met hx hr he)
    · exact onTile_next (f := fun m => m.cacheParity t) hup ht
    · exact fun x r hclk _ => onTileClock_next (f := fun m => m.endMitre t) hup ht hclk
    · exact fun ok hscrub hrun => does_of_next (onTile_next hup ht) rfl (if_pos ⟨hscrub, by rw [hrun]; decide⟩)
  · refine ⟨?_, fun t th ht hth => ⟨fun hlive => ?_, fun hready hwait => ?_⟩, ?_, ?_, ?_, fun k e hk he => ?_, ?_, ?_⟩
    · exact fun t loc ht => does_tileCheck hup ht tileCheckFails_exchange
    · exact does_tileCheck hup ht ((tileCheckFails_registers hth).trans (if_pos hlive))
    · exact does_tileCheck hup ht ((tileCheckFails_registers hth).trans (if_neg (not_or.mpr ⟨hready, hwait⟩)))
    · exact fun die => onMain_next (f := fun m => m.raise { code := 0x0727, slot := m.slotOfDie die, kind := 9, unit := 0xFFFF }) hup
    · exact fun b hb => onBuoy_next (f := fun m => m.raise { code := 0x0821, slot := m.slotOfBuoy b, kind := 3, unit := dieOfBuoy b, loc := b }) hup hb
    · exact fun r hr => onRing_next (f := fun m => m.raiseRing r 0x0825 (m.ringHead r)) hup hr
    · refine (onStack_next (f := fun m => (m.raisePlane k 0x0923 (e % 256)).setF (PLANE_STATUS k) 0 4 2) hup hk).trans ?_
      simp only [Nat.mod_eq_of_lt he]
    · exact fun j hj => onPort_next (f := fun m => m.raisePort j 0x0C29 0) hup hj
    · exact fun e he => onFeed_next (f := fun m => m.feedCheckFails e) hup he
  · refine ⟨fun hidle => does_hostFault (hostFault_idle hidle), fun b op hserves => ?_⟩
    obtain ⟨-, -, -, rfl, -⟩ := hserves.1
    refine ⟨does_hostFault (hostFault_served hserves true), fun h20 h21 hbuf => ?_, fun hload => ?_⟩
    · refine does_hostFault ((hostFault_served hserves false).trans ((if_neg hbuf).trans ?_))
      rw [stopCommand_plain h20 h21]
      rfl
    · exact does_hostFault ((hostFault_served hserves false).trans (if_neg (bufNeed_load hload)))
  · exact onWhen_next (f := fun m => m.raiseKeeper (keeperFaultCode f) 31 0 none) (by rw [decide_eq_true hstate, hdown]; rfl)
  · refine ⟨fun o ho => ?_, fun a ha => ?_, ?_⟩
    · exact (ldByte_scrubTile m t _).trans (if_pos (scratchAt_range ho))
    · exact (ldByte_scrubTile m t a).trans (if_neg (by omega))
    · rw [tile_scrubTile, if_pos rfl]
      exact ⟨rfl, rfl, rfl, rfl, rfl, rfl, rfl, fun u hu => (tile_scrubTile m t u).trans (if_neg hu)⟩

end Mod
end Sys2Proof.Machine
end

section
/-! PROOF. The words of the tile instructions (R113, R114, R116): opcode and fields come back from the word, and the decoder and the encoder agree. -/

namespace Sys2Proof

/-- The opcode of a word made of an opcode of 8 bits and the fields. -/
theorem opcode_tileWord {op : Nat} (f : BitVec 56) (hop : op < 256) : (tileWord op f >>> 56).toNat = op := by
  have hf := f.isLt
  simp only [tileWord, BitVec.toNat_ushiftRight, BitVec.toNat_ofNat, Nat.shiftRight_eq_div_pow]
  omega

/-- Its fields. -/
theorem fields_tileWord (op : Nat) (f : BitVec 56) : (tileWord op f).truncate 56 = f := by
  apply BitVec.eq_of_toNat_eq
  have hf := f.isLt
  simp only [tileWord, BitVec.toNat_setWidth, BitVec.toNat_ofNat]
  omega

/-- A word is that of its own opcode and fields. -/
theorem tileWord_parts {op : Nat} {w : W64} (hop : (w >>> 56).toNat = op) : tileWord op (w.truncate 56) = w := by
  subst hop
  apply BitVec.eq_of_toNat_eq
  have hw := w.isLt
  simp only [tileWord, BitVec.toNat_ushiftRight, BitVec.toNat_setWidth, BitVec.toNat_ofNat, Nat.shiftRight_eq_div_pow]
  omega

/-- The word of an instruction's opcode and fields decodes to the instruction. -/
theorem decodeTile_tileWord {i : Instr} {op : Nat} (hi : tileOpcode i = some op) : ∃ t th, decodeTile t th (tileWord op (tileFields i)) = i := by
  have hopcode : op < 256 → _ := opcode_tileWord (tileFields i)
  have hfields := fields_tileWord op (tileFields i)
  cases i <;> cases hi
  all_goals
    rename_i t th f
    refine ⟨t, th, ?_⟩
    rw [decodeTile, hopcode (by decide), hfields]
    rfl

/-- What a word decodes to has that word, unless it is an illegal instruction. -/
theorem encodeTile_decodeTile (t th : Nat) (w : W64) :
    encodeTile (decodeTile t th w) = some w ∨ decodeTile t th w = .illegalInstruction t th w := by
  unfold decodeTile
  dsimp only
  split
  case h_72 => exact .inr rfl
  all_goals next hop => exact .inl (congrArg some (tileWord_parts hop))

/-- Settles O59: an instruction comes back from its word, and a word from the instruction that it decodes to. -/
theorem tileWordsRoundTrip : Obligations.TileWordsRoundTrip := by
  refine ⟨fun i w hi => ?_, encodeTile_decodeTile, fun t th v w hvw => ?_, fun t th w hw => ?_⟩
  · obtain ⟨op, hop, rfl⟩ := Option.map_eq_some_iff.mp hi
    exact decodeTile_tileWord hop
  · obtain hv | hv := encodeTile_decodeTile t th v <;> obtain hw | hw := encodeTile_decodeTile t th w
    · exact Option.some.inj (hv.symm.trans ((congrArg encodeTile hvw).trans hw))
    · exact absurd (hv.symm.trans (congrArg encodeTile (hvw.trans hw))) (Option.some_ne_none v)
    · exact absurd (hw.symm.trans (congrArg encodeTile (hvw.symm.trans hv))) (Option.some_ne_none w)
    · exact (Instr.illegalInstruction.inj (hv.symm.trans (hvw.trans hw))).2.2
  · exact (encodeTile_decodeTile t th w).resolve_left (hw _)

/-- Settles O58: the opcode byte and the fields of each word, read from its numeral. -/
theorem tileWords : Obligations.TileWords := by
  intro t th
  refine ⟨⟨_, rfl, ?_⟩, ⟨_, rfl, ?_⟩, ⟨_, rfl, ?_⟩, ⟨_, rfl, ?_⟩, ⟨_, rfl, ?_⟩, ⟨_, rfl, ?_⟩, rfl, rfl⟩
  · decide
  · decide
  · decide
  · decide
  · decide
  · decide

end Sys2Proof
end

section
/-! PROOF. What the operations on threads and tiles leave, and what the completion of an instruction changes (R101, R111): the instruction's effect, the thread that issues, its tile's turn and CNT_ISSUE. -/

open Sys2Proof.Safety

namespace Sys2Proof.Machine

/-! ## Registers and counters of a thread -/

theorem Thread.gReg_setG (x : Thread) (d e : Nat) (v : W32) : (x.setG d v).gReg e = if e = d then v else x.gReg e := Sparse.get_put _ _ _ _
theorem Thread.loop_setLoop (x : Thread) (n k : Nat) (c : LoopCounter) : (x.setLoop n c).loop k = if k = n then c else x.loop k := Sparse.get_put _ _ _ _

namespace Mod

/-- Sequential flow changes the pc and the loop counters alone. -/
theorem retire_changes (x : Thread) : retire x = { x with pc := (retire x).pc, lc := (retire x).lc } := by
  unfold retire
  split
  · rfl
  · dsimp only
    split <;> rfl

theorem gReg_retire (x : Thread) (e : Nat) : (retire x).gReg e = x.gReg e := by rw [retire_changes]; rfl
theorem aReg_retire (x : Thread) (e : Nat) : (retire x).aReg e = x.aReg e := by rw [retire_changes]; rfl
theorem retire_none {x : Thread} (h : loopAt x x.pc = none) : retire x = { x with pc := x.pc + 1 } := by rw [retire, h]
theorem retire_return {x : Thread} {n : Nat} (h : loopAt x x.pc = some n) (hc : 1 < (x.loop n).count.toNat) :
    retire x = { x.setLoop n { x.loop n with count := (x.loop n).count - 1 } with pc := (x.loop n).first } := by
  simp only [retire, h, if_pos hc]
theorem retire_leave {x : Thread} {n : Nat} (h : loopAt x x.pc = some n) (hc : (x.loop n).count.toNat ≤ 1) :
    retire x = { x.setLoop n { x.loop n with count := 0, active := false } with pc := x.pc + 1 } := by
  simp only [retire, h, if_neg (Nat.not_lt.mpr hc)]
/-- A counter that the thread's pc does not end keeps its value. -/
theorem loop_retire_other {x : Thread} {n k : Nat} (h : loopAt x x.pc = some n) (hk : k ≠ n) : (retire x).loop k = x.loop k := by
  obtain hc | hc := Nat.lt_or_ge 1 (x.loop n).count.toNat
  · rw [retire_return h hc]; exact (Thread.loop_setLoop x n k _).trans (if_neg hk)
  · rw [retire_leave h hc]; exact (Thread.loop_setLoop x n k _).trans (if_neg hk)
/-- An active counter ends where `loopAt` finds it. -/
theorem active_of_loopAt {x : Thread} {pc : W20} {n : Nat} (h : loopAt x pc = some n) : (x.loop n).active = true := by
  have hn := List.find?_some h
  rw [Bool.and_eq_true] at hn
  exact hn.1

/-! ## Threads and tiles after an update -/

variable (m : Mod) (t th : Nat)

theorem tile_addCnt (a k u : Nat) : (m.addCnt a k).tile u = m.tile u := rfl
theorem thread_addCnt (a k u j : Nat) : (m.addCnt a k).thread u j = m.thread u j := rfl
theorem rd_modTile (f : Tile → Tile) (a : Nat) : (m.modTile t f).rd a = m.rd a := rfl
theorem rd_modThread (f : Thread → Thread) (a : Nat) : (m.modThread t th f).rd a = m.rd a := rfl
theorem tile_modTile (f : Tile → Tile) (u : Nat) : (m.modTile t f).tile u = if u = t then f (m.tile t) else m.tile u := tile_setTile _ _ _ _
theorem thread_modThread (f : Thread → Thread) (u k : Nat) :
    (m.modThread t th f).thread u k = if u = t ∧ k = th then f (m.thread t th) else m.thread u k := thread_setThread _ _ _ _ _ _
theorem thread_modThread_same (f : Thread → Thread) : (m.modThread t th f).thread t th = f (m.thread t th) := thread_setThread_same _ _ _ _
/-- An update of a tile that leaves its threads leaves every thread. -/
theorem thread_modTile {f : Tile → Tile} (hf : ∀ x, (f x).threads = x.threads) (u k : Nat) : (m.modTile t f).thread u k = m.thread u k := by
  unfold thread
  rw [tile_modTile]
  split
  · next h => rw [hf, h]
  · rfl
theorem tile_modThread_other (f : Thread → Thread) {u : Nat} (h : u ≠ t) : (m.modThread t th f).tile u = m.tile u := (tile_modTile _ _ _ _).trans (if_neg h)
/-- An update of a thread leaves the rest of its tile. -/
theorem lastIssue_modThread (f : Thread → Thread) : ((m.modThread t th f).tile t).lastIssue = (m.tile t).lastIssue := by
  rw [modThread, setThread, tile_modTile, if_pos rfl]

/-- `n` is `m` but for its tiles and registers. -/
def SameButTiles (m n : Mod) : Prop := ∃ tl rg, n = { m with tiles := tl, regs := rg }

namespace SameButTiles
variable {m n : Mod} {t th : Nat}

theorem refl (m : Mod) : SameButTiles m m := ⟨_, _, rfl⟩
theorem addCnt {a k : Nat} (h : SameButTiles m n) : SameButTiles m (n.addCnt a k) := by
  obtain ⟨tl, rg, rfl⟩ := h
  exact ⟨_, _, rfl⟩
theorem modTile {f : Tile → Tile} (h : SameButTiles m n) : SameButTiles m (n.modTile t f) := by
  obtain ⟨tl, rg, rfl⟩ := h
  exact ⟨_, _, rfl⟩
theorem modThread {f : Thread → Thread} (h : SameButTiles m n) : SameButTiles m (n.modThread t th f) := by
  unfold Mod.modThread Mod.setThread
  exact h.modTile
theorem issued {late : Bool} (h : SameButTiles m n) : SameButTiles m (n.issued t th late) := h.addCnt.modTile.modThread
theorem mem_eq (h : SameButTiles m n) : n.mem = m.mem := by
  obtain ⟨tl, rg, rfl⟩ := h
  rfl
theorem eq_with (h : SameButTiles m n) : n = { m with tiles := n.tiles, regs := n.regs } := by
  obtain ⟨tl, rg, rfl⟩ := h
  rfl

end SameButTiles

/-! ## The thread that issues -/

theorem thread_issued (late : Bool) (u k : Nat) :
    (m.issued t th late).thread u k = if u = t ∧ k = th then { m.thread t th with late := late } else m.thread u k := by
  have hturn : ∀ v j, ((m.addCnt (CNT_ISSUE t) 1).modTile t fun x => { x with lastIssue := th }).thread v j = m.thread v j := fun v j =>
    (thread_modTile _ t (f := fun x => { x with lastIssue := th }) (fun _ => rfl) v j).trans (thread_addCnt m _ 1 v j)
  rw [issued, thread_modThread, hturn, hturn]
theorem tile_issued_other (late : Bool) {u : Nat} (h : u ≠ t) : (m.issued t th late).tile u = m.tile u := by
  rw [issued, tile_modThread_other _ _ _ _ h, tile_modTile, if_neg h, tile_addCnt]
theorem lastIssue_issued (late : Bool) : ((m.issued t th late).tile t).lastIssue = th := by
  rw [issued, lastIssue_modThread, tile_modTile, if_pos rfl]

/-! ## An instruction that completes -/

variable (f : Mod → Mod) (late : Bool)

theorem Retired_eq : Retired m t th f late = ((f (Fetched m t th)).issued t th late).modThread t th retire := rfl

/-- The thread that completes goes on from what the instruction's effect left it. -/
theorem thread_Retired_same : (Retired m t th f late).thread t th = retire { (f (Fetched m t th)).thread t th with late := late } := by
  rw [Retired_eq, thread_modThread_same, thread_issued, if_pos ⟨rfl, rfl⟩]
/-- Every other thread is as the effect left it. -/
theorem thread_Retired_other {u k : Nat} (h : ¬ (u = t ∧ k = th)) : (Retired m t th f late).thread u k = (f (Fetched m t th)).thread u k := by
  rw [Retired_eq, thread_modThread, if_neg h, thread_issued, if_neg h]
theorem tile_Retired_other {u : Nat} (h : u ≠ t) : (Retired m t th f late).tile u = (f (Fetched m t th)).tile u := by
  rw [Retired_eq, tile_modThread_other _ _ _ _ h, tile_issued_other _ _ _ _ h]
theorem lastIssue_Retired : ((Retired m t th f late).tile t).lastIssue = th := by rw [Retired_eq, lastIssue_modThread, lastIssue_issued]
theorem rd_Retired_other {a : Nat} (h : a ≠ CNT_ISSUE t) : (Retired m t th f late).rd a = (f (Fetched m t th)).rd a := by
  rw [Retired_eq, rd_modThread, issued, rd_modThread, rd_modTile, rd_addCnt_other _ _ h]

theorem thread_Fetched (u k : Nat) : (Fetched m t th).thread u k = m.thread u k := thread_icTouch _ _ _ _ _
theorem tile_Fetched_other {u : Nat} (h : u ≠ t) : (Fetched m t th).tile u = m.tile u := (tile_modTile _ _ _ _).trans (if_neg h)

/-- Settles O15: the effect writes one register of the thread, and its completion the thread's flow, the tile's turn and the count. -/
theorem scalarFrame : Obligations.ScalarFrame := by
  intro m t th d v n
  have hthread : n.thread t th = retire { (m.thread t th).setG d v with late := false } := by
    rw [thread_Retired_same, thread_modThread_same, thread_Fetched]
  have hrest : SameButTiles m n := (SameButTiles.refl m).modTile.modThread.issued.modThread
  refine ⟨hthread, lastIssue_Retired _ _ _ _ _, ?_, fun e he => ?_, fun e => ?_, fun hloop => ?_, fun u k huk => ?_, fun u hu => ?_, fun a ha => ?_, hrest.mem_eq, hrest.eq_with⟩
  · rw [hthread, gReg_retire]
    exact (Thread.gReg_setG _ d d v).trans (if_pos rfl)
  · rw [hthread, gReg_retire]
    exact (Thread.gReg_setG _ d e v).trans (if_neg he)
  · rw [hthread, aReg_retire]
    rfl
  · rw [hthread, retire_none (x := { (m.thread t th).setG d v with late := false }) hloop]
    rfl
  · rw [thread_Retired_other _ _ _ _ _ huk, thread_modThread, if_neg huk, thread_Fetched]
  · rw [tile_Retired_other _ _ _ _ _ hu, tile_modThread_other _ _ _ _ hu, tile_Fetched_other _ _ _ hu]
  · exact rd_Retired_other _ _ _ _ _ ha

end Mod
end Sys2Proof.Machine
end

section
/-! PROOF. The scalar instructions of a thread (R111 to R116): each by the effect of its body on the module with the fetched line. -/

open Sys2Proof.Safety

namespace Sys2Proof.Machine

/-! ## What an issued body's effect makes of the module -/

section
variable {s : State} {c : Instr} {t th : Nat} {regs : List Nat} {legal : Bool} {body : Thread → Mod → Eff} {g : Mod → Mod}
  (h : CanRun s.m t th regs) (hl : legal = true) (hc : exec c s = onIssue s t th regs legal body)
include h hl hc

/-- An instruction whose result comes after the next issue. -/
theorem does_issue_late (hb : body (s.m.thread t th) (Fetched s.m t th) = .late (g (Fetched s.m t th))) : Does c s (Retired s.m t th g true) :=
  Mod.does_issue hc h hl (congrArg (Mod.finish t th _) hb)

theorem does_issue_jump {pc : W20} (hb : body (s.m.thread t th) (Fetched s.m t th) = .jump (g (Fetched s.m t th)) pc) :
    Does c s (Jumped s.m t th g pc) :=
  Mod.does_issue hc h hl (congrArg (Mod.finish t th _) hb)

theorem does_issue_trap {m : Mod} {code reason : W16} (hb : body (s.m.thread t th) (Fetched s.m t th) = .trap m code reason) :
    Does c s (m.trapThread t th (s.m.thread t th).pc code reason) :=
  Mod.does_issue hc h hl (congrArg (Mod.finish t th _) hb)

end

/-! ## Arithmetic and moves between register files (R113, R116) -/

theorem shiftBy_eq (b : W32) : shiftBy b = b.toNat % 32 := by
  simp only [shiftBy, bf, BitVec.extractLsb'_toNat, Nat.shiftRight_zero]
theorem shl32_eq (a b : W32) : shl32 a b = a <<< (b.toNat % 32) := by rw [shl32, shiftBy_eq]
theorem shr32_eq (a b : W32) : shr32 a b = a >>> (b.toNat % 32) := by rw [shr32, shiftBy_eq]
theorem sra32_eq (a b : W32) : sra32 a b = a.sshiftRight (b.toNat % 32) := by rw [sra32, shiftBy_eq]
theorem min32_eq (a b : W32) : min32 a b = if b.toInt < a.toInt then b else a := by simp only [min32, BitVec.slt, decide_eq_true_eq]
theorem max32_eq (a b : W32) : max32 a b = if a.toInt < b.toInt then b else a := by simp only [max32, BitVec.slt, decide_eq_true_eq]
theorem bool32_decide (p : Prop) [Decidable p] : bool32 (decide p) = if p then 1 else 0 := by
  simp only [bool32, decide_eq_true_eq]

section
variable {s : State} {t th : Nat} {f : BitVec 56} {c : Instr} {op : W32 → W32 → W32} {v : W32}
  (hrun : CanRun s.m t th (fD f :: aluRegs f)) (hform : only mAlu f = true)
include hrun hform

theorem does_alu (hc : exec c s = onAlu s t th f op) (hv : op ((s.m.thread t th).gReg (fS1 f)) (operand2 (s.m.thread t th).gReg f) = v) :
    Does c s (Retired s.m t th fun k => k.modThread t th fun y => y.setG (fD f) v) := by
  subst hv
  exact does_issue_go hrun hform hc rfl

/-- A product comes after the next issue (R101). -/
theorem does_mul (hc : exec c s = onMul s t th f op) (hv : op ((s.m.thread t th).gReg (fS1 f)) (operand2 (s.m.thread t th).gReg f) = v) :
    Does c s (Retired s.m t th (fun k => k.modThread t th fun y => y.setG (fD f) v) true) := by
  subst hv
  exact does_issue_late hrun hform hc rfl

end

section
variable {s : State} {t th : Nat} {f : BitVec 56}

theorem does_bcnt (hrun : CanRun s.m t th [fD f, fD f + 1]) (hform : only mD f = true) (heven : fD f % 2 = 0) :
    Does (.bcnt t th f) s (Retired s.m t th (fun k => k.modThread t th fun y =>
      (y.setG (fD f) (BitVec.ofNat 32 s.m.count.toNat)).setG (fD f + 1) (BitVec.ofNat 32 (s.m.count.toNat / 2 ^ 32))) true) := by
  have hlow : s.m.count.truncate 32 = BitVec.ofNat 32 s.m.count.toNat := rfl
  have hhigh : s.m.count.extractLsb' 32 32 = BitVec.ofNat 32 (s.m.count.toNat / 2 ^ 32) := by
    rw [BitVec.extractLsb', Nat.shiftRight_eq_div_pow]
  rw [← hlow, ← hhigh]
  exact does_issue_late hrun (by rw [hform, decide_eq_true heven]; rfl) rfl rfl

end

/-- Settles O16: an arithmetic instruction by its operation, a move by the register file that it writes. -/
theorem scalarResults : Obligations.ScalarResults := by
  refine ⟨?_, ?_⟩
  · rintro s t th f hrun hform x a b rfl rfl rfl put slow
    refine ⟨?_, ?_, ?_, ?_, ?_, ?_, ?_, ?_, ?_, ?_, ?_, ?_, ?_, ?_, ?_⟩
    · exact does_alu hrun hform rfl rfl
    · exact does_alu hrun hform rfl rfl
    · exact does_mul hrun hform rfl rfl
    · exact does_mul hrun hform rfl rfl
    · exact does_mul hrun hform rfl rfl
    · exact does_alu hrun hform rfl rfl
    · exact does_alu hrun hform rfl rfl
    · exact does_alu hrun hform rfl rfl
    · exact does_alu hrun hform rfl (shl32_eq _ _)
    · exact does_alu hrun hform rfl (shr32_eq _ _)
    · exact does_alu hrun hform rfl (sra32_eq _ _)
    · exact does_alu hrun hform rfl (min32_eq _ _)
    · exact does_alu hrun hform rfl (max32_eq _ _)
    · exact does_alu (op := fun a b => bool32 (a.slt b)) hrun hform rfl (bool32_decide _)
    · exact does_alu (op := fun a b => bool32 (a.ult b)) hrun hform rfl (bool32_decide _)
  · rintro s t th f x rfl put putA
    refine ⟨fun hrun hform => ?_, fun hrun hform hd hs => ?_, fun hrun hform hd => ?_, fun hrun hform hs => ?_, fun hrun hform hs => ?_, fun hrun hform he => ?_, fun hrun hform => ?_⟩
    · exact does_issue_go hrun hform rfl rfl
    · exact does_issue_go hrun (by rw [hform, decide_eq_true hd, decide_eq_true hs]; rfl) rfl rfl
    · refine does_issue_go hrun (by rw [hform, decide_eq_true hd]; rfl) rfl ?_
      simp only [bf, BitVec.extractLsb'_toNat, Nat.shiftRight_zero]
    · exact does_issue_go hrun (by rw [hform, decide_eq_true hs]; rfl) rfl rfl
    · exact does_issue_go hrun (by rw [hform, decide_eq_true hs]; rfl) rfl rfl
    · exact does_bcnt hrun hform he
    · exact does_issue_go hrun hform rfl rfl

end Sys2Proof.Machine
end

section
/-! PROOF. Control flow and loops (R111, R112): branches, jumps, calls, returns, and the counters of a thread. -/

open Sys2Proof.Safety

namespace Sys2Proof.Machine

/-- An instruction whose bits are all reserved is legal where they are 0. -/
theorem only_zero {mask f : BitVec 56} (h : f = 0) : only mask f = true := by
  subst h
  exact decide_eq_true BitVec.zero_and

/-- The test that a field of a legal form has a code point. -/
theorem legal_and {a : Bool} {p : Prop} [Decidable p] (ha : a = true) (hp : p) : (a && decide p) = true := by
  rw [ha, decide_eq_true hp]
  rfl

section
variable {s : State} {t th : Nat} {f : BitVec 56}

theorem does_nop (hrun : CanRun s.m t th []) (hf : f = 0) : Does (.nop t th f) s (Retired s.m t th id) :=
  does_issue_go hrun (only_zero hf) rfl rfl

section
variable (hrun : CanRun s.m t th [bf f 51 5, bf f 46 5]) (hform : only (fm 51 5 ||| fm 46 5 ||| fm 43 3 ||| mOff) f = true) (hcond : bf f 43 3 ≠ 7)
include hrun hform hcond

theorem does_br_taken (h : branchTaken (bf f 43 3) ((s.m.thread t th).gReg (bf f 51 5)) ((s.m.thread t th).gReg (bf f 46 5)) = true) :
    Does (.br t th f) s (Jumped s.m t th id ((s.m.thread t th).pc + BitVec.ofInt 20 (fOff f))) :=
  does_issue_jump hrun (legal_and hform hcond) rfl (if_pos h)

theorem does_br_not_taken (h : branchTaken (bf f 43 3) ((s.m.thread t th).gReg (bf f 51 5)) ((s.m.thread t th).gReg (bf f 46 5)) = false) :
    Does (.br t th f) s (Retired s.m t th id) :=
  does_issue_go hrun (legal_and hform hcond) rfl (if_neg (by rw [h]; decide))

end

theorem does_call (hrun : CanRun s.m t th []) (hform : only mOff f = true) (hroom : (s.m.thread t th).stack.length < 16) :
    Does (.call t th f) s
      (Jumped s.m t th (fun k => k.modThread t th fun y => { y with stack := (y.pc + 1) :: y.stack }) ((s.m.thread t th).pc + BitVec.ofInt 20 (fOff f))) :=
  does_issue_jump hrun hform rfl (if_neg (Nat.not_le.mpr hroom))

theorem does_ret {p : W20} {r : List W20} (hrun : CanRun s.m t th []) (hf : f = 0) (hstack : (s.m.thread t th).stack = p :: r) :
    Does (.ret t th f) s (Jumped s.m t th (fun k => k.modThread t th fun y => { y with stack := r }) p) :=
  does_issue_jump hrun (only_zero hf) rfl (by simp only [hstack])

theorem does_lend (hrun : CanRun s.m t th []) (hform : only (fm 40 3) f = true) (hc : bf f 40 3 < 4) (hactive : ((s.m.thread t th).loop (bf f 40 3)).active = true) :
    Does (.lend t th f) s (Retired s.m t th fun k => k.modThread t th fun y => y.setLoop (bf f 40 3) { y.loop (bf f 40 3) with active := false }) :=
  does_issue_go hrun (legal_and hform hc) rfl (if_pos hactive)

end

/-- Settles O17: each instruction by the way its body goes. -/
theorem controlFlow : Obligations.ControlFlow := by
  rintro s t th f x rfl
  refine ⟨does_nop, ?_, fun hrun hform => ?_, does_call, fun p r => does_ret, does_lend⟩
  · rintro a b rfl rfl hrun hform hcond
    exact ⟨does_br_taken hrun hform hcond, does_br_not_taken hrun hform hcond⟩
  · exact does_issue_jump (g := id) hrun hform rfl rfl

/-! ## Loops (R111) -/

theorem ofNat_ne_zero_of_lt {w k n : Nat} (hn : n < 2 ^ k) (hk : k ≤ w) (h : n ≠ 0) : BitVec.ofNat w n ≠ 0 := by
  have hfits : n < 2 ^ w := hn.trans_le (Nat.pow_le_pow_right (by decide) hk)
  intro hzero
  have hnat := congrArg BitVec.toNat hzero
  rw [BitVec.toNat_ofNat, Nat.mod_eq_of_lt hfits] at hnat
  exact h hnat

namespace Mod
section
variable {m : Mod} {t th c : Nat} {x : Thread} {n : W32} {off : Int}
  (hx : m.thread t th = x) (hidle : (x.loop c).active = false) (hoff : 1 ≤ off)
  (hends : ∀ k, k < 4 → k ≠ c → (x.loop k).active = true → (x.loop k).last ≠ x.pc + BitVec.ofInt 20 off)
include hx hidle hoff hends

/-- The checks of a loop's start: the counter is free, the body has an instruction, and no other active body ends where it does. -/
theorem startLoop_eq : startLoop t th c n off x m =
    if n = 0 then .jump m (x.pc + BitVec.ofInt 20 off + 1)
    else .go (m.modThread t th fun y => y.setLoop c { count := n, first := x.pc + 1, last := x.pc + BitVec.ofInt 20 off, active := true }) := by
  simp only [startLoop, modThread, hx]
  refine if_neg ?_
  rintro (hon | hneg | hmeet)
  · exact absurd hon (by rw [hidle]; decide)
  · omega
  · obtain ⟨k, hk, hmeet⟩ := List.any_eq_true.mp hmeet
    simp only [Bool.and_eq_true, decide_eq_true_eq] at hmeet
    exact hends k (List.mem_range.mp hk) hmeet.1.1 hmeet.1.2 hmeet.2

end
end Mod

/-- Settles O18: the start of a loop by its checks and its count, the return of a loop by the counter that ends at the pc. -/
theorem loops : Obligations.Loops := by
  refine ⟨?_, fun x n hloop => ⟨fun hcount => ?_, fun hcount => ?_, fun k hk => Mod.loop_retire_other hloop hk, ?_, ?_, ?_, ?_⟩⟩
  · rintro s t th f x c rfl rfl hc hidle hoff hends start past
    have hstart := fun n => Mod.startLoop_eq (m := Fetched s.m t th) (t := t) (th := th) (n := n) (Mod.thread_Fetched _ _ _ _ _) hidle hoff hends
    refine ⟨fun hrun hform => ⟨fun hn => ?_, fun hn => ?_⟩, fun hrun hform => ⟨fun hn => ?_, fun hn => ?_⟩⟩
    · exact does_issue_go hrun (legal_and hform hc) rfl ((hstart _).trans (if_neg hn))
    · exact does_issue_jump (g := id) hrun (legal_and hform hc) rfl ((hstart _).trans (if_pos hn))
    · exact does_issue_go hrun (legal_and hform hc) rfl ((hstart _).trans (if_neg (ofNat_ne_zero_of_lt (bf_lt f 24 16) (by decide) hn)))
    · exact does_issue_jump (g := id) hrun (legal_and hform hc) rfl ((hstart _).trans (if_pos (congrArg _ hn)))
  · rw [Mod.retire_return hloop hcount]
    refine ⟨rfl, ?_, ?_⟩
    · exact congrArg LoopCounter.count ((Thread.loop_setLoop x n n _).trans (if_pos rfl))
    · exact (congrArg LoopCounter.active ((Thread.loop_setLoop x n n _).trans (if_pos rfl))).trans (Mod.active_of_loopAt hloop)
  · rw [Mod.retire_leave hloop hcount]
    refine ⟨rfl, ?_, ?_⟩
    · exact congrArg LoopCounter.active ((Thread.loop_setLoop x n n _).trans (if_pos rfl))
    · exact congrArg LoopCounter.count ((Thread.loop_setLoop x n n _).trans (if_pos rfl))
  · rw [Mod.retire_changes]
  · rw [Mod.retire_changes]
  · rw [Mod.retire_changes]
  · rw [Mod.retire_changes]

end Sys2Proof.Machine
end

section
/-! PROOF. Scalar memory (R107, R118): an access waits for memory, and is performed at its thread's wake. -/

open Sys2Proof.Safety

namespace Sys2Proof.Machine

/-- A thread that waits is woken while its tile runs (R109). -/
theorem does_threadWake {s : State} {t th : Nat} {m' : Mod} (hrun : s.m.tileRuns t = true) (hth : th < 4) (hwait : (s.m.thread t th).st = .wait)
    (hm : s.m.wake t th = m') : Does (.threadWake t th) s m' :=
  does_of_next (f := fun m => if (m.thread t th).st = .wait then m.wake t th else m)
    (Mod.onWhen_next (by rw [hrun, decide_eq_true hth]; rfl)) rfl ((if_pos hwait).trans hm)

namespace Mod

theorem mem_wakeDone (m : Mod) (t th : Nat) (f : Thread → Thread) : (m.wakeDone t th f).mem = m.mem := by
  rw [wakeDone, ungate, mem_setFlag]
  rfl

theorem ldByte_of_mem {m n : Mod} (h : n.mem = m.mem) (a : Nat) : n.ldByte a = m.ldByte a := by rw [ldByte, h, ldByte]
theorem ldNat_of_mem {m n : Mod} (h : n.mem = m.mem) (a k : Nat) : n.ldNat a k = m.ldNat a k := by rw [ldNat, ld, h, ldNat, ld]

section
variable {m : Mod} {t th a : Nat} {v : W32}

theorem wake_load {d : Nat} (h : (m.thread t th).waitOn = .memory a (some d) v) :
    m.wake t th = m.wakeDone t th fun x => x.setG d (BitVec.ofNat 32 (m.ldNat (scratchAt t a) 4)) := by
  simp only [wake, h]
theorem wake_store (h : (m.thread t th).waitOn = .memory a none v) : m.wake t th = (m.stNat (scratchAt t a) 4 v.toNat).wakeDone t th id := by
  simp only [wake, h]

/-- The store of a 32-bit value writes its 4 bytes and no other. -/
theorem store_reads_back (f : Thread → Thread) (b : Nat) :
    ((m.stNat b 4 v.toNat).wakeDone t th f).ldNat b 4 = v.toNat ∧
      ∀ c, c < b ∨ b + 4 ≤ c → ((m.stNat b 4 v.toNat).wakeDone t th f).ldByte c = m.ldByte c := by
  refine ⟨?_, fun c hc => ?_⟩
  · rw [ldNat_of_mem (mem_wakeDone _ _ _ _), ldNat_stNat]
    exact Nat.mod_eq_of_lt v.isLt
  · rw [ldByte_of_mem (mem_wakeDone _ _ _ _)]
    exact ldByte_stNat_outside m b 4 _ c hc

end

/-- An access looks at the registers of the tile's dowels alone. -/
theorem scalarAt_Fetched (m : Mod) (t th d : Nat) (a : Int) (modes : List Nat) : (Fetched m t th).scalarAt t d a modes = m.scalarAt t d a modes := rfl

end Mod

section
variable {s : State} {t th : Nat} {f : BitVec 56} (hlow : fS1 f < 16)
include hlow

section
variable (hrun : CanRun s.m t th [fD f]) (hform : only (mD ||| mS1 ||| mImm) f = true)
include hrun hform

theorem does_ldw {k : Nat} (hat : s.m.scalarAt t (ldstDowel f) (ldstAddr (s.m.thread t th).aReg f) [0, 1] = some k) :
    Does (.ldw t th f) s (Waits s.m t th (.memory k (some (fD f)) 0)) :=
  does_issue_wait hrun (legal_and hform hlow) rfl (by simp only [Mod.scalarAt_Fetched, hat])
theorem does_ldw_outside (hat : s.m.scalarAt t (ldstDowel f) (ldstAddr (s.m.thread t th).aReg f) [0, 1] = none) :
    Does (.ldw t th f) s ((Fetched s.m t th).trapThread t th (s.m.thread t th).pc 0x0327 0) :=
  does_issue_trap hrun (legal_and hform hlow) rfl (by simp only [Mod.scalarAt_Fetched, hat])

end

section
variable (hrun : CanRun s.m t th [fS2 f]) (hform : only (mS1 ||| mS2 ||| mImm) f = true)
include hrun hform

theorem does_stw {k : Nat} (hat : s.m.scalarAt t (ldstDowel f) (ldstAddr (s.m.thread t th).aReg f) [0] = some k) :
    Does (.stw t th f) s (Waits s.m t th (.memory k none ((s.m.thread t th).gReg (fS2 f)))) :=
  does_issue_wait hrun (legal_and hform hlow) rfl (by simp only [Mod.scalarAt_Fetched, hat])
theorem does_stw_outside (hat : s.m.scalarAt t (ldstDowel f) (ldstAddr (s.m.thread t th).aReg f) [0] = none) :
    Does (.stw t th f) s ((Fetched s.m t th).trapThread t th (s.m.thread t th).pc 0x0327 0) :=
  does_issue_trap hrun (legal_and hform hlow) rfl (by simp only [Mod.scalarAt_Fetched, hat])

end
end

/-- Settles O19: the access by where its dowel places it, and its performance by the wake. -/
theorem scalarMemory : Obligations.ScalarMemory := by
  refine ⟨?_, fun s t th k v hrun hth hwait => ⟨fun d hon => ?_, fun hon => ?_⟩⟩
  · rintro s t th f x l rfl rfl hlow
    exact ⟨fun hrun hform => ⟨fun k => does_ldw hlow hrun hform, does_ldw_outside hlow hrun hform⟩,
      fun hrun hform => ⟨fun k => does_stw hlow hrun hform, does_stw_outside hlow hrun hform⟩⟩
  · exact does_threadWake hrun hth hwait (Mod.wake_load hon)
  · exact ⟨_, does_threadWake hrun hth hwait (Mod.wake_store hon), rfl, Mod.store_reads_back id _⟩

end Sys2Proof.Machine
end

section
/-! PROOF. Traps (R125, R132): the thread is TRAPPED, the other running threads of its tile stop, and the rest of the module stays as it was. -/

open Sys2Proof.Safety

namespace Sys2Proof.Machine.Mod

/-- `n` is `m` but for what it holds of tile `t` and of the buoys. -/
structure KeepsBut (t : Nat) (m n : Mod) : Prop where
  mem : n.mem = m.mem
  regs : n.regs = m.regs
  tile : ∀ u, u ≠ t → n.tile u = m.tile u

namespace KeepsBut
variable {m n : Mod} {t th : Nat}

theorem refl (m : Mod) (t : Nat) : KeepsBut t m m := ⟨rfl, rfl, fun _ _ => rfl⟩
theorem modThread {f : Thread → Thread} (h : KeepsBut t m n) : KeepsBut t m (n.modThread t th f) :=
  ⟨h.mem, h.regs, fun u hu => (tile_modThread_other n t th f hu).trans (h.tile u hu)⟩
theorem withdrawThread (h : KeepsBut t m n) : KeepsBut t m (n.withdrawThread t th) := by
  unfold Mod.withdrawThread
  split
  · exact ⟨h.mem, h.regs, h.tile⟩
  · exact h
theorem settleThread {x : ThState} (h : KeepsBut t m n) : KeepsBut t m (n.settleThread t th x) := h.withdrawThread.modThread
theorem forEach {f : Mod → Nat → Mod} {l : List Nat} (h : KeepsBut t m n) (hf : ∀ k j, KeepsBut t m k → KeepsBut t m (f k j)) :
    KeepsBut t m (Machine.forEach n l f) :=
  forEach_keeps f l (fun k j _ => hf k j) n h
theorem stopThreads (h : KeepsBut t m n) : KeepsBut t m (n.stopThreads t) :=
  h.forEach fun _ _ hk => by
    split
    · exact hk.settleThread
    · exact hk.settleThread
    · exact hk

end KeepsBut

/-! ## Threads that settle -/

/-- The thread in state `x`, with its wait withdrawn. -/
def settledIn (x : ThState) (y : Thread) : Thread := { y with st := x, waitOn := .none, release := .none, held := .off }

/-- The thread once the running threads of its tile stop. -/
def haltedThread (y : Thread) : Thread := if y.st = .ready ∨ y.st = .wait then settledIn .stopped y else y

/-- A withdrawal changes the buoy that the thread waits at. -/
theorem thread_withdrawThread (m : Mod) (t th u k : Nat) : (m.withdrawThread t th).thread u k = m.thread u k := by
  unfold withdrawThread
  split <;> rfl
theorem thread_settleThread (m : Mod) (t th : Nat) (x : ThState) (u k : Nat) :
    (m.settleThread t th x).thread u k = if u = t ∧ k = th then settledIn x (m.thread t th) else m.thread u k := by
  rw [settleThread, thread_modThread, thread_withdrawThread, thread_withdrawThread]
  rfl

/-- A loop whose step for `k` changes thread `k` alone. -/
theorem thread_forEach {t : Nat} {f : Mod → Nat → Mod} {g : Nat → Thread → Thread}
    (hf : ∀ m k j, (f m k).thread t j = if j = k then g k (m.thread t k) else m.thread t j) {l : List Nat} (hl : l.Nodup) (m : Mod) (j : Nat) :
    (forEach m l f).thread t j = if j ∈ l then g j (m.thread t j) else m.thread t j := by
  induction l generalizing m with
  | nil => rfl
  | cons k l ih =>
    obtain ⟨hk, hl⟩ := List.nodup_cons.mp hl
    have hrest : (forEach m (k :: l) f).thread t j = _ := ih hl (f m k)
    rw [hrest, hf]
    by_cases hj : j = k
    · subst hj
      simp [hk]
    · simp [hj]

theorem thread_stopThreads (m : Mod) (t : Nat) {k : Nat} (hk : k < 4) : (m.stopThreads t).thread t k = haltedThread (m.thread t k) := by
  refine (thread_forEach (g := fun _ => haltedThread) (fun m k j => ?_) List.nodup_range m k).trans (if_pos (List.mem_range.mpr hk))
  by_cases hj : j = k
  · subst hj
    cases hst : (m.thread t j).st <;> simp [hst, thread_settleThread, haltedThread]
  · cases hst : (m.thread t k).st <;> simp [hj, thread_settleThread]

/-! ## The trap -/

/-- The module when the threads of the tile have trapped and stopped. -/
def trapStopped (m : Mod) (t th : Nat) (pc : W20) : Mod := ((m.settleThread t th .trapped).modThread t th fun x => { x with pc := pc }).stopThreads t

theorem trapThread_eq (m : Mod) (t th : Nat) (pc : W20) (code reason : W16) :
    m.trapThread t th pc code reason =
      ((m.trapStopped t th pc).wr (SEQ_TRAP t) (trapWord code reason th pc)).raiseTile t code th (some (BitVec.ofNat 128 (trapWord code reason th pc).toNat)) := rfl

theorem keepsBut_trapStopped (m : Mod) (t th : Nat) (pc : W20) : KeepsBut t m (m.trapStopped t th pc) :=
  (KeepsBut.refl m t).settleThread.modThread.stopThreads

/-- A thread that has trapped does not stop. -/
theorem thread_trapStopped_same (m : Mod) (t : Nat) {th : Nat} (pc : W20) (hth : th < 4) :
    (m.trapStopped t th pc).thread t th = { settledIn .trapped (m.thread t th) with pc := pc } := by
  rw [trapStopped, thread_stopThreads _ _ hth, thread_modThread_same, thread_settleThread, if_pos ⟨rfl, rfl⟩]
  rfl
theorem thread_trapStopped_other (m : Mod) (t : Nat) {th k : Nat} (pc : W20) (hk : k < 4) (hne : k ≠ th) :
    (m.trapStopped t th pc).thread t k = haltedThread (m.thread t k) := by
  have hother : ¬ (t = t ∧ k = th) := fun h => hne h.2
  rw [trapStopped, thread_stopThreads _ _ hk, thread_modThread, if_neg hother, thread_settleThread, if_neg hother]

theorem thread_wr (m : Mod) (a : Nat) (v : W64) (u k : Nat) : (m.wr a v).thread u k = m.thread u k := rfl
theorem tile_wr (m : Mod) (a : Nat) (v : W64) (u : Nat) : (m.wr a v).tile u = m.tile u := rfl
theorem mem_eq_wr (m : Mod) (a : Nat) (v : W64) : (m.wr a v).mem = m.mem := rfl
theorem rd_of_regs {m n : Mod} (h : n.regs = m.regs) (a : Nat) : n.rd a = m.rd a := by rw [rd, h, rd]

/-- Settles O20: the module before the error is raised has the threads stopped and SEQ_TRAP written. -/
theorem trapStops : Obligations.TrapStops := by
  intro m t th pc code reason hth
  have hkeeps := keepsBut_trapStopped m t th pc
  refine ⟨_, trapThread_eq m t th pc code reason, ?_, ?_, ?_, fun k hk hne hrun => ?_, fun k hk hne hready hwait => ?_, rd_wr_same _ _ _, fun u hu => ?_, ?_, fun a ha => ?_⟩
  · rw [thread_wr, thread_trapStopped_same _ _ _ hth]
    rfl
  · rw [thread_wr, thread_trapStopped_same _ _ _ hth]
  · rw [thread_wr, thread_trapStopped_same _ _ _ hth]
    rfl
  · rw [thread_wr, thread_trapStopped_other _ _ _ hk hne, haltedThread, if_pos hrun]
    exact ⟨rfl, rfl⟩
  · rw [thread_wr, thread_trapStopped_other _ _ _ hk hne, haltedThread, if_neg (not_or.mpr ⟨hready, hwait⟩)]
  · rw [tile_wr, hkeeps.tile u hu]
  · rw [mem_eq_wr, hkeeps.mem]
  · rw [rd_wr_other _ _ ha, rd_of_regs hkeeps.regs]

end Sys2Proof.Machine.Mod
end

section
/-! PROOF. A tile's own register accesses (R90, R117, R119): CSRR and CSRW, and the setup of a jig. -/

open Sys2Proof.Safety

namespace Sys2Proof.Machine
namespace Mod

/-! ## Registers under an enable (R90) -/

section
variable {m : Mod} {t j a : Nat} {w : W64}

theorem writeJigReg_same (h : w = m.rd a) : m.writeJigReg t j a w = (0, m) := if_pos h
theorem writeJigReg_enabled (hon : m.jigOn t j = true) (h : w ≠ m.rd a) : m.writeJigReg t j a w = (0x0201, m) := (if_neg h).trans (if_pos hon)
theorem writeJigReg_disabled (hoff : m.jigOn t j = false) (h : w ≠ m.rd a) : m.writeJigReg t j a w = (0, m.wr a w) :=
  (if_neg h).trans (if_neg (by rw [hoff]; decide))

/-- A register of a disabled jig takes the word, and nothing else changes. -/
theorem writeJigReg_takes (hoff : m.jigOn t j = false) :
    (m.writeJigReg t j a w).1 = 0 ∧ (m.writeJigReg t j a w).2.rd a = w ∧ (∀ b, b ≠ a → (m.writeJigReg t j a w).2.rd b = m.rd b) ∧
      (m.writeJigReg t j a w).2.mem = m.mem := by
  by_cases h : w = m.rd a
  · rw [writeJigReg_same h]
    exact ⟨rfl, h.symm, fun _ _ => rfl, rfl⟩
  · rw [writeJigReg_disabled hoff h]
    exact ⟨rfl, rd_wr_same _ _ _, fun b hb => rd_wr_other _ _ hb, rfl⟩

/-- JIG_CTL of a disabled jig takes a word whose ENABLE is 0. -/
theorem writeJigCtl_disabled (hoff : m.jigOn t j = false) (hen : bit w 0 = false) : m.writeJigCtl t j w = (0, m.wr (JIG_CTL t j) (setBit w 0 false)) := by
  simp only [writeJigCtl, hoff, hen, Bool.false_eq_true, if_false]

end

/-- The bits of JIG_CTL that JCTL writes leave ENABLE as it was. -/
theorem bit_zero_of_even {n : Nat} (h : n % 2 = 0) : bit (BitVec.ofNat 64 n) 0 = false := by
  rw [bit, BitVec.getLsbD_ofNat, Nat.testBit_zero, h]
  rfl

/-- A field of one bit that is clear. -/
theorem bf_of_bit_false {n : Nat} {w : BitVec n} {i : Nat} (h : bit w i = false) : bf w i 1 = 0 := by
  apply Nat.eq_of_testBit_eq
  intro k
  rw [testBit_bf, Nat.zero_testBit]
  cases k with
  | zero => rw [show w.getLsbD (i + 0) = false from h, Bool.and_false]
  | succ k => rw [decide_eq_false (by omega), Bool.false_and]

theorem jigOn_Fetched (m : Mod) (t th u j : Nat) : (Fetched m t th).jigOn u j = m.jigOn u j := rfl

end Mod

section
variable {s : State} {t th : Nat} {f : BitVec 56}

/-! ## CSRR and CSRW (R119) -/

theorem does_csrr {v : W64} (hrun : CanRun s.m t th [fD f]) (hform : only (mD ||| mImm) f = true) (hoff : csrOff f < 0x5_0000)
    (hread : (Fetched s.m t th).readTile t (csrOff f) = .ok v) :
    Does (.csrr t th f) s (Retired s.m t th (fun k => k.modThread t th fun y => y.setG (fD f) (v.extractLsb' (if csrHigh f then 32 else 0) 32)) true) :=
  does_issue_late hrun hform rfl (by simp only [hread, if_neg (Nat.not_le.mpr hoff)])

theorem does_csrw {sp : RegSpec} {w : W64} (hrun : CanRun s.m t th [fS2 f]) (hform : only (mS2 ||| mImm) f = true) (hoff : csrOff f < 0x5_0000)
    (hfield : Mod.csrWritable t (csrOff f) (fieldMask 64 (if csrHigh f then 32 else 0) 32) = true) (hspec : tileSpec t (csrOff f) = some sp)
    (hw : w = (Fetched s.m t th).written (tileReg t (csrOff f)) sp (fieldMask 64 (if csrHigh f then 32 else 0) 32)
      (BitVec.ofNat 64 (((s.m.thread t th).gReg (fS2 f)).toNat * 2 ^ (if csrHigh f then 32 else 0))))
    (hok : ((Fetched s.m t th).writeTile t (csrOff f) w).1 = 0) :
    Does (.csrw t th f) s (Retired s.m t th fun k => (k.writeTile t (csrOff f) w).2) := by
  subst hw
  have hallowed : ¬ (0x5_0000 ≤ csrOff f ∨ Mod.csrWritable t (csrOff f) (fieldMask 64 (if csrHigh f then 32 else 0) 32) = false) :=
    not_or.mpr ⟨Nat.not_le.mpr hoff, by rw [hfield]; decide⟩
  refine does_issue_go hrun hform rfl ((if_neg hallowed).trans ?_)
  simp only [hspec]
  exact if_pos hok

/-! ## Jig setup (R117) -/

/-- A setup instruction whose write is accepted. -/
theorem does_jigSetup {c : Instr} {legal : Bool} {w : Thread → Mod → W16 × Mod} {g : Mod → Mod} (hrun : CanRun s.m t th []) (hjig : fJig f < 6)
    (hlegal : legal = true) (hc : exec c s = jigSetup s t th [] f legal w)
    (hw : w (s.m.thread t th) (Fetched s.m t th) = (0, g (Fetched s.m t th))) : Does c s (Retired s.m t th g) :=
  does_issue_go hrun (legal_and hlegal hjig) hc (by simp only [hw, if_true])

section
variable (hrun : CanRun s.m t th []) (hjig : fJig f < 6) (hoff : s.m.jigOn t (fJig f) = false)
include hrun hjig hoff

/-- The setup instructions that write one register of the jig's block. -/
theorem does_jigReg {c : Instr} {legal : Bool} {a : Nat} {v : W64} (hlegal : legal = true)
    (hc : exec c s = jigSetup s t th [] f legal fun _ m => m.writeJigReg t (fJig f) a v) :
    Does c s (Retired s.m t th fun k => (k.writeJigReg t (fJig f) a v).2) :=
  does_jigSetup hrun hjig hlegal hc (Prod.ext (Mod.writeJigReg_takes ((Mod.jigOn_Fetched _ _ _ _ _).trans hoff)).1 rfl)

theorem does_jctl (hform : only (fm 53 3 ||| fm 45 8 ||| fm 42 3 ||| fm 40 2 ||| fm 39 1) f = true) (hfmt : bf f 42 3 < 5) :
    Does (.jctl t th f) s (Retired s.m t th fun k => k.wr (JIG_CTL t (fJig f))
      (setBit (BitVec.ofNat 64 (bf f 45 8 * 2 ^ 24 + bf f 42 3 * 2 ^ 21 + bf f 40 2 * 2 ^ 19 + bf f 39 1 * 2 ^ 18)) 0 false)) := by
  have hl : (Fetched s.m t th).jigOn t (fJig f) = false := (Mod.jigOn_Fetched _ _ _ _ _).trans hoff
  have hen : bf ((Fetched s.m t th).rd (JIG_CTL t (fJig f))) 0 1 = 0 := Mod.bf_of_bit_false hl
  refine does_jigSetup hrun hjig (legal_and hform hfmt) rfl ?_
  simp only [hen, Nat.add_zero]
  exact Mod.writeJigCtl_disabled hl (Mod.bit_zero_of_even (by omega))

theorem does_jbase {b : Int} (hb : b = ((s.m.thread t th).aReg (bf f 49 4)).toInt + fOff f) (hlow : -(2 ^ 23) ≤ b) (hhigh : b < 2 ^ 23)
    (hform : only (fm 53 3 ||| fm 49 4 ||| mOff) f = true) :
    Does (.jbase t th f) s (Retired s.m t th fun k => (k.writeJigReg t (fJig f) (JIG_BASE t (fJig f)) (BitVec.ofNat 64 (b % 2 ^ 24).toNat)).2) := by
  subst hb
  refine does_issue_go hrun (legal_and hform hjig) rfl ((if_neg (by omega)).trans ?_)
  exact if_pos (Mod.writeJigReg_takes ((Mod.jigOn_Fetched _ _ _ _ _).trans hoff)).1

end
end

/-- Settles O21: CSRR and CSRW by the access that they make, a setup instruction by the write of a disabled jig's register. -/
theorem tileRegisterInstructions : Obligations.TileRegisterInstructions := by
  refine ⟨?_, fun m t j a w => ⟨Mod.writeJigReg_takes, Mod.writeJigReg_enabled, Mod.writeJigReg_same⟩⟩
  rintro s t th f x l rfl rfl
  refine ⟨fun v => does_csrr, ?_, fun hrun hjig hoff => ⟨does_jctl hrun hjig hoff, fun hform => ?_, fun b => does_jbase hrun hjig hoff, fun hdim hform => ?_,
    fun hdim haxis hform => ?_, fun hdim hform => ?_⟩⟩
  · rintro sp w mask hrun hform hcsr rfl hfield hspec hw hok
    exact does_csrw hrun hform hcsr hfield hspec hw hok
  · exact does_jigReg hrun hjig hoff hform rfl
  · exact does_jigReg hrun hjig hoff (legal_and hform hdim) rfl
  · exact does_jigReg hrun hjig hoff (legal_and (legal_and hform hdim) haxis) rfl
  · exact does_jigReg hrun hjig hoff (legal_and hform hdim) rfl

end Sys2Proof.Machine
end

section
/-! PROOF. Threads, buoys, rings and the exchange as instructions (R107, R116, R120, R122, R126, R220, R223, R276): each by the effect of its body on the module with the fetched line. -/

open Sys2Proof.Safety

namespace Sys2Proof.Machine

/-! ## Effects that leave the thread in a state of its own, make it issue again, or are no instruction's -/

section
variable {s : State} {c : Instr} {t th : Nat} {regs : List Nat} {legal : Bool} {body : Thread → Mod → Eff} {m : Mod}
  (h : CanRun s.m t th regs) (hc : exec c s = onIssue s t th regs legal body)
include h hc

theorem does_issue_stop (hl : legal = true) (hb : body (s.m.thread t th) (Fetched s.m t th) = .stop m) : Does c s (m.issued t th false) :=
  Mod.does_issue hc h hl (congrArg (Mod.finish t th _) hb)
theorem does_issue_hold {w : WaitRec} (hl : legal = true) (hb : body (s.m.thread t th) (Fetched s.m t th) = .hold m w) :
    Does c s (m.enterWait t th w) :=
  Mod.does_issue hc h hl (congrArg (Mod.finish t th _) hb)
/-- An instruction that goes on, by the module that its body leaves. -/
theorem does_issue_leaves (hl : legal = true) (hb : body (s.m.thread t th) (Fetched s.m t th) = .go m) :
    Does c s ((m.issued t th false).modThread t th Mod.retire) :=
  Mod.does_issue hc h hl (congrArg (Mod.finish t th _) hb)

/-- A form that is not legal traps (R114). -/
theorem does_issue_illegal (hl : legal = false) : Does c s ((Fetched s.m t th).trapThread t th (s.m.thread t th).pc 0x0321 0) := by
  obtain ⟨hissue, htext, hline⟩ := h
  subst hl
  rw [Does, hc, onIssue, Mod.onWhen_next hissue, Mod.issue]
  simp only [if_neg (Nat.not_le.mpr htext), hline, Bool.not_true, Bool.false_eq_true, if_false, Bool.not_false, if_true]
  rfl

end

/-! ## Threads (R107, R116, R122, R126) -/

section
variable {s : State} {t th : Nat} {f : BitVec 56}

section
variable (hrun : CanRun s.m t th [])
include hrun

theorem does_tstart (hform : only (fm 54 2 ||| mOff) f = true)
    (hst : ((Fetched s.m t th).thread t (bf f 54 2)).st = .off ∨ ((Fetched s.m t th).thread t (bf f 54 2)).st = .ended) :
    Does (.tstart t th f) s (Retired s.m t th fun k => k.setThread t (bf f 54 2)
      (Mod.freshThread (k.thread t (bf f 54 2)) ((s.m.thread t th).pc + BitVec.ofInt 20 (fOff f)).toNat)) :=
  does_issue_go hrun hform rfl (if_pos hst)

theorem does_endThread (hf : f = 0) :
    Does (.endThread t th f) s (((Fetched s.m t th).modThread t th fun y => { y with st := .ended }).issued t th false) :=
  does_issue_stop hrun rfl (only_zero hf) rfl

theorem does_fence_done (hform : only (fm 48 8) f = true) (hdone : (Fetched s.m t th).fenceDone t (BitVec.ofNat 8 (bf f 48 8)) = true) :
    Does (.fence t th f) s (Retired s.m t th id) :=
  does_issue_go hrun hform rfl (if_pos hdone)
theorem does_fence_busy (hform : only (fm 48 8) f = true) (hbusy : (Fetched s.m t th).fenceDone t (BitVec.ofNat 8 (bf f 48 8)) = false) :
    Does (.fence t th f) s (Waits s.m t th (.fence (BitVec.ofNat 8 (bf f 48 8)))) :=
  does_issue_wait hrun hform rfl (if_neg (by rw [hbusy]; decide))

/-- The code of a TRAP that is not that of a failed lamp routine is its reason (R132, R548). -/
theorem does_trapI (hform : only (fm 0 16) f = true) (hcode : bf f 0 16 ≠ 0x1025) :
    Does (.trapI t th f) s ((Fetched s.m t th).trapThread t th (s.m.thread t th).pc 0x032A (BitVec.ofNat 16 (bf f 0 16))) := by
  have hne : BitVec.ofNat 16 (bf f 0 16) ≠ 0x1025 := by
    intro heq
    have hnat := congrArg BitVec.toNat heq
    rw [BitVec.toNat_ofNat, Nat.mod_eq_of_lt (bf_lt f 0 16)] at hnat
    exact hcode hnat
  exact does_issue_trap hrun hform rfl (congrArg (Eff.trap _ · _) (if_neg hne))

/-! ### Breakpoints (R126) -/

theorem does_brk_closed (hf : f = 0) (hgate : (Fetched s.m t th).gateOpen t = false) : Does (.brk t th f) s (Retired s.m t th id) :=
  does_issue_go hrun (only_zero hf) rfl (if_neg (by rw [hgate]; decide))

end

/-- What a breakpoint of thread `th` makes of thread `k` of its tile. -/
def atBreak (th k : Nat) (x : Thread) : Thread :=
  if k = th then { Mod.retire x with st := .debug, held := .ready }
  else if x.st = .ready ∨ x.st = .wait then { x with st := .stopped, held := x.st } else x

/-- The threads of a tile when thread `th` is at a breakpoint. -/
def broken (m : Mod) (t th : Nat) : Mod := forEach m (upto 4) fun m k => m.modThread t k (atBreak th k)

theorem thread_broken (m : Mod) (t th : Nat) {k : Nat} (hk : k < 4) : (broken m t th).thread t k = atBreak th k (m.thread t k) :=
  (Mod.thread_forEach (g := atBreak th) (fun m k j => by simp only [Mod.thread_modThread, true_and]) List.nodup_range m k).trans
    (if_pos (List.mem_range.mpr hk))

theorem does_brk_open (hrun : CanRun s.m t th []) (hf : f = 0) (hgate : (Fetched s.m t th).gateOpen t = true) :
    Does (.brk t th f) s ((broken (Fetched s.m t th) t th).issued t th false) :=
  does_issue_stop hrun rfl (only_zero hf) (if_pos hgate)

theorem thread_broken_issued (hth : th < 4) :
    (((broken (Fetched s.m t th) t th).issued t th false).thread t th).st = .debug ∧
    (((broken (Fetched s.m t th) t th).issued t th false).thread t th).held = .ready ∧
    ∀ k, k < 4 → k ≠ th → ((s.m.thread t k).st = .ready ∨ (s.m.thread t k).st = .wait) →
      (((broken (Fetched s.m t th) t th).issued t th false).thread t k).st = .stopped ∧
      (((broken (Fetched s.m t th) t th).issued t th false).thread t k).held = (s.m.thread t k).st := by
  refine ⟨?_, ?_, fun k hk hne hlive => ?_⟩
  · rw [Mod.thread_issued, if_pos ⟨rfl, rfl⟩, thread_broken _ _ _ hth, atBreak, if_pos rfl]
  · rw [Mod.thread_issued, if_pos ⟨rfl, rfl⟩, thread_broken _ _ _ hth, atBreak, if_pos rfl]
  · rw [Mod.thread_issued, if_neg (fun h => hne h.2), thread_broken _ _ _ hk, Mod.thread_Fetched, atBreak, if_neg hne, if_pos hlive]
    exact ⟨rfl, rfl⟩

theorem does_mwait_passed {c : W64} (hc : c = Mod.pair32 ((s.m.thread t th).gReg (bf f 46 5)) ((s.m.thread t th).gReg (bf f 46 5 + 1)))
    (heven : bf f 46 5 % 2 = 0) (hrun : CanRun s.m t th [bf f 46 5, bf f 46 5 + 1]) (hform : only (fm 46 5) f = true)
    (hmark : (Fetched s.m t th).markPassed c = true) : Does (.mwait t th f) s (Retired s.m t th id) := by
  subst hc
  exact does_issue_go hrun (legal_and hform heven) rfl (if_pos hmark)
theorem does_mwait_ahead {c : W64} (hc : c = Mod.pair32 ((s.m.thread t th).gReg (bf f 46 5)) ((s.m.thread t th).gReg (bf f 46 5 + 1)))
    (heven : bf f 46 5 % 2 = 0) (hrun : CanRun s.m t th [bf f 46 5, bf f 46 5 + 1]) (hform : only (fm 46 5) f = true)
    (hmark : (Fetched s.m t th).markPassed c = false) : Does (.mwait t th f) s (Waits s.m t th (.mark c)) := by
  subst hc
  exact does_issue_wait hrun (legal_and hform heven) rfl (if_neg (by rw [hmark]; decide))

/-! ## Buoys (R120, R276) -/

theorem does_bsig (hrun : CanRun s.m t th (if bit f 40 then [] else [bf f 35 5])) (hform : only (fm 54 2 ||| fm 41 13 ||| fm 40 1 ||| fm 35 5 ||| mImm) f = true)
    (hop : bf f 54 2 < 2) (hown : (Fetched s.m t th).ownBuoy t (bf f 41 13) = true) :
    Does (.bsig t th f) s (Retired s.m t th fun k => k.modTile t fun y => { y with sent := y.sent ++
      [{ th := th, pc := (s.m.thread t th).pc, b := bf f 41 13, isSet := decide (bf f 54 2 = 1),
         x := (if bit f 40 then fImm f else (s.m.thread t th).gReg (bf f 35 5)), refused := false }] }) :=
  does_issue_go hrun (legal_and hform hop) rfl (if_neg (by rw [hown]; decide))

theorem does_bcas (hrun : CanRun s.m t th [fD f, fS1 f, fS2 f]) (hform : only (mD ||| mS1 ||| mS2 ||| fm 28 13) f = true)
    (hown : (Fetched s.m t th).ownBuoy t (bf f 28 13) = true) :
    Does (.bcas t th f) s (Waits s.m t th (.remote (bf f 28 13) (fD f) (some ((s.m.thread t th).gReg (fS1 f), (s.m.thread t th).gReg (fS2 f))))) :=
  does_issue_wait hrun hform rfl (if_pos hown)

theorem does_bwait (hrun : CanRun s.m t th (if bf f 53 3 = 3 then [bf f 35 5] else [])) (hform : only (fm 53 3 ||| fm 40 13 ||| fm 35 5 ||| mImm) f = true)
    (hcond : bf f 53 3 < 4) (hown : (Fetched s.m t th).ownBuoy t (bf f 40 13) = true) :
    Does (.bwait t th f) s (Waits s.m t th (.buoy (bf f 40 13) (BitVec.ofNat 3 (bf f 53 3)) (fImm f) ((s.m.thread t th).gReg (bf f 35 5)))) :=
  does_issue_wait hrun (legal_and hform hcond) rfl (if_pos hown)

theorem does_bread (hrun : CanRun s.m t th [fD f]) (hform : only (mD ||| fm 38 13) f = true) (hown : (Fetched s.m t th).ownBuoy t (bf f 38 13) = true) :
    Does (.bread t th f) s (Waits s.m t th (.remote (bf f 38 13) (fD f) none)) :=
  does_issue_wait hrun hform rfl (if_pos hown)

/-! ## Rings (R120, R300) -/

section
variable {r d : Nat} {l : Mod} (hl : l = Fetched s.m t th) (hr : r = bf f 40 16) (hd : d = bf f 32 8) (hrun : CanRun s.m t th [])
  (hform : only (fm 40 16 ||| fm 32 8 ||| mOff) f = true) (heven : bf f 0 24 % 2 = 0) (hown : l.ownRing t r = true)
  (hsource : l.dowelHolds t d [0, 1] (bf f 0 24) 2 = true)
include hl hr hd hrun hform heven hown hsource

theorem does_rpush_full (hfull : l.ringFill r = l.ringCap r) : Does (.rpush t th f) s (l.enterWait t th (.ring r)) := by
  subst hl hr hd
  exact does_issue_hold hrun rfl (legal_and hform heven) (by simp [hown, hsource, hfull])

/-- With room the entry is written and TAIL advances; a ring that is empty becomes busy. -/
theorem does_rpush {n : Mod} (hn : n = (l.setRingEntryBytes r (l.ringTail r) (l.ldDowelWords t d (bf f 0 24) 2)).setRingTail r
      (((l.setRingEntryBytes r (l.ringTail r) (l.ldDowelWords t d (bf f 0 24) 2)).ringTail r + 1) % 2 ^ 32))
    (hroom : l.ringFill r ≠ l.ringCap r) :
    Does (.rpush t th f) s (((if n.ringState r = 1 then n.setRingState r 2 else n).issued t th false).modThread t th Mod.retire) := by
  subst hl hr hd hn
  exact does_issue_leaves hrun rfl (legal_and hform heven) (by simp [hown, hsource, hroom])

end

/-! ## The exchange (R220, R223) -/

section
variable {e : Nat} (he : e = bf f 40 16) (hrun : CanRun s.m t th []) (hform : only (fm 40 16) f = true) (hentry : e < 1024)
include he hrun hform hentry

theorem does_xarm (hcheck : (Fetched s.m t th).armCheck t e = 0) : Does (.xarm t th f) s (Retired s.m t th fun k => k.arm t e) := by
  subst he
  exact does_issue_go hrun (legal_and hform hentry) rfl (if_pos hcheck)
theorem does_xarm_refused (hcheck : (Fetched s.m t th).armCheck t e ≠ 0) :
    Does (.xarm t th f) s ((Fetched s.m t th).trapThread t th (s.m.thread t th).pc 0x032F ((Fetched s.m t th).armCheck t e)) := by
  subst he
  exact does_issue_trap hrun (legal_and hform hentry) rfl (if_neg hcheck)
theorem does_xwait_released (hdone : ((Fetched s.m t th).tile t).xDone.contains e = true) : Does (.xwait t th f) s (Retired s.m t th id) := by
  subst he
  exact does_issue_go hrun (legal_and hform hentry) rfl (if_pos hdone)
theorem does_xwait_armed (harmed : ((Fetched s.m t th).tile t).xDone.contains e = false) : Does (.xwait t th f) s (Waits s.m t th (.exchange e)) := by
  subst he
  exact does_issue_wait hrun (legal_and hform hentry) rfl (if_neg (by rw [harmed]; decide))

end
end

/-- Settles O23: each instruction by the effect of its body, a breakpoint by the loop over the tile's threads. -/
theorem threadsBuoysRingsExchange : Obligations.ThreadsBuoysRingsExchange := by
  refine ⟨?_, ?_⟩
  · rintro s t th f x l rfl rfl
    refine ⟨fun hrun => ⟨does_tstart hrun, does_endThread hrun, fun hform => ⟨does_fence_done hrun hform, does_fence_busy hrun hform⟩, does_trapI hrun,
      does_brk_closed hrun, fun hf hgate hth => ?_, fun w => does_issue_illegal hrun rfl rfl⟩, fun c heven hc hrun hform => ?_⟩
    · obtain ⟨hst, hheld, hothers⟩ := thread_broken_issued (s := s) (t := t) hth
      exact ⟨_, does_brk_open hrun hf hgate, hst, hheld, fun k hk hne _ => hothers k hk hne⟩
    · exact ⟨does_mwait_passed hc heven hrun hform, does_mwait_ahead hc heven hrun hform⟩
  · rintro s t th f x l rfl hl
    subst hl
    refine ⟨does_bsig, does_bcas, does_bwait, does_bread, fun r d hr hd hrun hform heven hown hsource => ⟨does_rpush_full rfl hr hd hrun hform heven hown hsource, ?_⟩,
      fun e he hrun hform hentry => ⟨does_xarm he hrun hform hentry, does_xarm_refused he hrun hform hentry, does_xwait_released he hrun hform hentry,
        does_xwait_armed he hrun hform hentry⟩⟩
    rintro n rfl hroom
    have hpush := does_rpush rfl hr hd hrun hform heven hown hsource rfl hroom
    refine ⟨fun hbusy => ?_, fun hempty => ?_⟩
    · rwa [if_neg hbusy] at hpush
    · rwa [if_pos hempty] at hpush

end Sys2Proof.Machine
end

section
/-! PROOF. The events of the sequencer (R100, R105, R107 to R110, R278): a wake by what its thread waits for, and the signals that leave and reach a tile. -/

open Sys2Proof.Safety

namespace Sys2Proof.Machine

/-- A tile that runs has power and a clock. -/
theorem runs_of_tileRuns {m : Mod} {t : Nat} (h : m.tileRuns t = true) : m.mainUp = true ∧ t < 1280 ∧ m.tileClocked t = true := by
  simp only [Mod.tileRuns, Bool.and_eq_true, decide_eq_true_eq] at h
  obtain ⟨⟨⟨⟨hup, ht⟩, -⟩, -⟩, hclk⟩ := h
  exact ⟨hup, ht, hclk⟩

namespace Mod

/-! ## What a wake does, by what the thread waits for (R107) -/

section
variable {m : Mod} {t th : Nat}

section
variable (hon : ∃ b c v k, (m.thread t th).waitOn = .buoy b c v k)
include hon

theorem wake_buoy_met (hrel : (m.thread t th).release = .met) : m.wake t th = m.wakeDone t th id := by
  obtain ⟨b, c, v, k, hon⟩ := hon
  simp only [wake, hon, hrel]
theorem wake_buoy_broken (hrel : (m.thread t th).release = .broken) : m.wake t th = m.trapThread t th (m.thread t th).pc 0x0328 0 := by
  obtain ⟨b, c, v, k, hon⟩ := hon
  simp only [wake, hon, hrel]
theorem wake_buoy_refused (hrel : (m.thread t th).release = .refused) : m.wake t th = m.trapThread t th (m.thread t th).pc 0x0823 0 := by
  obtain ⟨b, c, v, k, hon⟩ := hon
  simp only [wake, hon, hrel]

end

theorem wake_mark {c : W64} (hon : (m.thread t th).waitOn = .mark c) (h : m.markPassed c = true) : m.wake t th = m.wakeDone t th id := by
  simp only [wake, hon, if_pos h]
theorem wake_ring {r : Nat} (hon : (m.thread t th).waitOn = .ring r) (h : m.ringRoom r = true) : m.wake t th = m.wakeAgain t th := by
  simp only [wake, hon, if_pos h]
theorem wake_fence {k : Byte} (hon : (m.thread t th).waitOn = .fence k) (h : m.fenceDone t k = true) : m.wake t th = m.wakeDone t th id := by
  simp only [wake, hon, if_pos h]
theorem wake_jig {k : BitVec 6} (hon : (m.thread t th).waitOn = .jig k) (h : m.jigsDone t ((upto 6).filter fun j => bit k j) = true) :
    m.wake t th = m.wakeDone t th id := by
  simp only [wake, hon, if_pos h]
theorem wake_exchange {e : Nat} (hon : (m.thread t th).waitOn = .exchange e) (h : (m.tile t).xDone.contains e = true) :
    m.wake t th = m.wakeDone t th id := by
  simp only [wake, hon, if_pos h]
theorem wake_queue {u : TileUnit} (hon : (m.thread t th).waitOn = .queue u) (h : (m.queue t (unitNo u)).length < 4) : m.wake t th = m.wakeAgain t th := by
  simp only [wake, hon, if_pos h]
theorem wake_remote_reply {b d : Nat} {c : Option (W32 × W32)} {v : W32} (hon : (m.thread t th).waitOn = .remote b d c)
    (hrel : (m.thread t th).release = .reply v) : m.wake t th = m.wakeDone t th fun x => x.setG d v := by
  simp only [wake, hon, hrel]
theorem wake_remote_refused (hon : ∃ b d c, (m.thread t th).waitOn = .remote b d c) (hrel : (m.thread t th).release = .refused) :
    m.wake t th = m.trapThread t th (m.thread t th).pc 0x0823 0 := by
  obtain ⟨b, d, c, hon⟩ := hon
  simp only [wake, hon, hrel]

end

/-! ## A refused signal (R278) -/

section
variable {m : Mod} {t : Nat} {o : SentOp} {r : List SentOp}

theorem firstRefused (hsent : (m.tile t).sent = o :: r) (href : o.refused = true) : (m.tile t).sent.find? (fun o => o.refused) = some o := by
  rw [hsent, List.find?_cons_of_pos href]

/-- Taking an operation off the list of those on their way leaves the threads. -/
theorem thread_dropSent (o : SentOp) (u k : Nat) : (m.modTile t fun x => { x with sent := x.sent.erase o }).thread u k = m.thread u k :=
  thread_modTile m t (f := fun x => { x with sent := x.sent.erase o }) (fun _ => rfl) u k

end
end Mod

section
variable {s : State} {t th : Nat} (hrun : s.m.tileRuns t = true)
include hrun

theorem does_icLineFill (hth : th < 4) (hwait : (s.m.thread t th).st = .wait) (hon : (s.m.thread t th).waitOn = .fetch) :
    Does (.icLineFill t th) s ((s.m.icInstall t (Mod.icLine (s.m.thread t th).pc)).wakeAgain t th) :=
  does_of_next (f := fun m => if (m.thread t th).st = .wait ∧ (m.thread t th).waitOn = .fetch then
      (m.icInstall t (Mod.icLine (m.thread t th).pc)).wakeAgain t th else m)
    (Mod.onWhen_next (by rw [hrun, decide_eq_true hth]; rfl)) rfl (if_pos ⟨hwait, hon⟩)

theorem does_seqClockGate (hidle : ∀ n, n < 4 → (s.m.thread t n).st ≠ .ready) (hempty : s.m.allQueuesEmpty t = true) :
    Does (.seqClockGate t) s (s.m.setFlag (SEQ_STATUS t) 32 true) := by
  obtain ⟨hup, ht, -⟩ := runs_of_tileRuns hrun
  refine does_of_next (Mod.onTile_next hup ht) rfl (if_pos ?_)
  rw [hempty, Bool.and_true, List.all_eq_true]
  exact fun n hn => decide_eq_true (hidle n (List.mem_range.mp hn))

theorem does_tileDoneSignal (hvalid : s.m.doneValid t = true) (hsent : (s.m.tile t).doneSent = false)
    (hended : ∀ n, n < 4 → s.m.inMask t n = true → (s.m.thread t n).st = .ended) (hempty : s.m.allQueuesEmpty t = true) :
    Does (.tileDoneSignal t) s (s.m.modTile t fun x => { x with doneSent := true, doneFlight := true }) := by
  refine does_of_next (Mod.onWhen_next hrun) rfl (if_pos ?_)
  rw [hvalid, hsent, hempty, Bool.and_true, Bool.not_false, Bool.true_and, Bool.true_and, List.all_eq_true]
  intro n hn
  cases hmask : s.m.inMask t n with
  | false => rfl
  | true => exact decide_eq_true (hended n (List.mem_range.mp hn) hmask)

section
variable {o : SentOp} {r : List SentOp} (hsent : (s.m.tile t).sent = o :: r) (href : o.refused = true)
include hsent href

/-- The thread of a refused signal that still runs traps. -/
theorem does_buoyRefusal_trap {n : Mod} (hlive : o.live = true) (hn : n = s.m.modTile t fun x => { x with sent := x.sent.erase o }) (hon : n.tileEnabled t = true)
    (htrap : (n.thread t o.th).st ≠ .trapped) (hoff : (n.thread t o.th).st ≠ .off) : Does (.buoyRefusalArrival t) s (n.trapForSignal t o.th o.pc) := by
  obtain ⟨hup, ht, hclk⟩ := runs_of_tileRuns hrun
  subst hn
  refine does_of_next (Mod.onTileClock_next hup ht hclk) (Eq.refl (execBuoyRefusalArrival t s)) ?_
  simp only [Mod.firstRefused hsent href]
  exact if_pos ⟨hon, hlive, htrap, hoff⟩

/-- For any other the error alone is raised. -/
theorem does_buoyRefusal_raise (hgone : o.live = false ∨ (s.m.thread t o.th).st = .trapped ∨ (s.m.thread t o.th).st = .off) :
    Does (.buoyRefusalArrival t) s ((s.m.modTile t fun x => { x with sent := x.sent.erase o }).raiseTile t 0x0823 o.th) := by
  obtain ⟨hup, ht, hclk⟩ := runs_of_tileRuns hrun
  refine does_of_next (Mod.onTileClock_next hup ht hclk) (Eq.refl (execBuoyRefusalArrival t s)) ?_
  simp only [Mod.firstRefused hsent href, Mod.thread_dropSent]
  refine if_neg ?_
  rintro ⟨-, hlive, htrap, hoff⟩
  obtain hdead | htrapped | hstopped := hgone
  · rw [hlive] at hdead
    exact Bool.noConfusion hdead
  · exact htrap htrapped
  · exact hoff hstopped

end
end

/-- Settles O24: a wake by what its thread waits for, the other events by their conditions. -/
theorem sequencerEvents : Obligations.SequencerEvents := by
  intro s t th hrun hth
  refine ⟨fun hwait => ?_, does_seqClockGate hrun, does_tileDoneSignal hrun, fun o r n hsent href hlive => does_buoyRefusal_trap hrun hsent href hlive,
    fun o r hsent href => does_buoyRefusal_raise hrun hsent href⟩
  have hwake : ∀ {m'}, s.m.wake t th = m' → Does (.threadWake t th) s m' := does_threadWake hrun hth hwait
  refine ⟨does_icLineFill hrun hth hwait, ?_, ?_, ?_, ?_, ?_, ?_, ?_, ?_, ?_, ?_⟩
  · exact fun hon hrel => hwake (Mod.wake_buoy_met hon hrel)
  · exact fun hon hrel => hwake (Mod.wake_buoy_broken hon hrel)
  · exact fun c hon hmark => hwake (Mod.wake_mark hon hmark)
  · exact fun r hon hroom => hwake (Mod.wake_ring hon hroom)
  · exact fun k hon hdone => hwake (Mod.wake_fence hon hdone)
  · exact fun k hon hdone => hwake (Mod.wake_jig hon hdone)
  · exact fun e hon hdone => hwake (Mod.wake_exchange hon hdone)
  · exact fun u hon hroom => hwake (Mod.wake_queue hon hroom)
  · exact fun b d c v hon hrel => hwake (Mod.wake_remote_reply hon hrel)
  · exact fun hon hrel => hwake (hon.elim (fun h => Mod.wake_buoy_refused h hrel) fun h => Mod.wake_remote_refused h hrel)

end Sys2Proof.Machine
end

section
/-! PROOF. The unit instructions at issue (R102, R124, R136, R142, R153, R178, R183, R196, R201, R204): each joins its unit's queue, or waits where the queue is full. -/

open Sys2Proof.Safety

namespace Sys2Proof.Machine

/-! ## An instruction at its unit's queue (R102) -/

namespace Mod
section
variable {m : Mod} {t th u op : Nat} {f : BitVec 56} {args : List W32} {gen : Option Nat} {x : Thread} {unit : TileUnit}

theorem queue_setFlag (a i : Nat) (b : Bool) : (m.setFlag a i b).queue t u = m.queue t u := rfl
theorem tile_setFlag (m : Mod) (a i : Nat) (b : Bool) (t : Nat) : (m.setFlag a i b).tile t = m.tile t := tile_setF _ _ _ _ _ _
/-- The next issue number, whichever way it is written. -/
theorem modTile_nextSeq {n : Nat} (h : (m.tile t).issueSeq = n) :
    (m.modTile t fun y => { y with issueSeq := n + 1 }) = m.modTile t fun y => { y with issueSeq := y.issueSeq + 1 } := by
  subst h
  rfl

theorem push_full (hfull : 4 ≤ (m.queue t u).length) : m.push t th u op f args gen x unit = .hold m (.queue unit) := if_pos hfull

/-- With room the instruction is the queue's last. -/
theorem push_room (hroom : (m.queue t u).length < 4) (hplain : (decide (op = 0x4B) && m.flag (tileReg t 0x3_0010) 0) = false) :
    m.push t th u op f args gen x unit = .go ((m.modTile t fun y => { y with issueSeq := y.issueSeq + 1 }).setQueue t u (m.queue t u ++
      [{ op := BitVec.ofNat 8 op, f := f, th := th, pc := x.pc, layer := x.layer, role := x.role, args := args, seq := (m.tile t).issueSeq, gen := gen }])) := by
  simp only [push, if_neg (Nat.not_le.mpr hroom), hplain, Bool.false_eq_true, if_false]
  rfl

/-- A drain under REF_NEXT is a reference drain, and clears it (R192). -/
theorem push_reference (hroom : (m.queue t u).length < 4) (href : m.flag (tileReg t 0x3_0010) 0 = true) :
    m.push t th u 0x4B f args gen x unit =
      .go (((m.setFlag (tileReg t 0x3_0010) 0 false).modTile t fun y => { y with issueSeq := y.issueSeq + 1 }).setQueue t u (m.queue t u ++
        [{ op := 0x4B, f := f, th := th, pc := x.pc, layer := x.layer, role := x.role, args := args, seq := (m.tile t).issueSeq, gen := gen, reference := true }])) := by
  simp only [push, if_neg (Nat.not_le.mpr hroom), href, decide_true, Bool.and_self, if_true]
  rw [queue_setFlag, modTile_nextSeq (m := m.setFlag (tileReg t 0x3_0010) 0 false) (congrArg Tile.issueSeq (tile_setFlag m _ 0 false t))]
  rfl

theorem queue_Fetched (m : Mod) (t th : Nat) : (Fetched m t th).queue t = m.queue t := queue_icTouch _ _ _
theorem issueSeq_Fetched (m : Mod) (t th : Nat) : ((Fetched m t th).tile t).issueSeq = (m.tile t).issueSeq := issueSeq_icTouch _ _ _
theorem flag_Fetched (m : Mod) (t th a i : Nat) : (Fetched m t th).flag a i = m.flag a i := rfl

end
end Mod

section
variable {s : State} {c : Instr} {t th u op : Nat} {f : BitVec 56} {regs : List Nat} {legal : Bool} {body : Thread → Mod → Eff}
  {args : List W32} {gen : Option Nat} {unit : TileUnit}
  (hrun : CanRun s.m t th regs) (hl : legal = true) (hc : exec c s = onUnit s t th regs legal body)
  (hb : body (s.m.thread t th) (Fetched s.m t th) = (Fetched s.m t th).push t th u op f args gen (s.m.thread t th) unit)
include hrun hl hc hb

/-- A unit instruction that finds room joins its queue, and what can start starts. -/
theorem does_unit_joins (hroom : (s.m.queue t u).length < 4) (hplain : (decide (op = 0x4B) && s.m.flag (tileReg t 0x3_0010) 0) = false) :
    Does c s ((Queued s.m t th u (entryOf s.m t th (BitVec.ofNat 8 op) f args gen)).startUnits t) := by
  refine Mod.does_unit hc hrun hl ?_
  have hpush := Mod.push_room (th := th) (f := f) (args := args) (gen := gen) (x := s.m.thread t th) (unit := unit)
    ((congrArg List.length (congrFun (Mod.queue_Fetched s.m t th) u)).trans_lt hroom) hplain
  rw [Mod.issueSeq_Fetched] at hpush
  exact congrArg (Mod.finish t th _) (hb.trans hpush)

/-- One that finds its queue full waits for it. -/
theorem does_unit_waits (hfull : 4 ≤ (s.m.queue t u).length) :
    Does c s (((Fetched s.m t th).enterWait t th (.queue unit)).startUnits t) :=
  Mod.does_unit hc hrun hl (congrArg (Mod.finish t th _)
    (hb.trans (Mod.push_full (hfull.trans_eq (congrArg List.length (congrFun (Mod.queue_Fetched s.m t th) u)).symm))))

end

/-! ## The instructions, with room and without -/

section
variable {s : State} {t th : Nat} {f : BitVec 56}

/-- The checks of OVEC (R153). -/
theorem ovec_push {d : Nat} {m : Mod} {x : Thread} (hvalid : m.dowelValid t d = true) (h2 : m.dowelMode t d ≠ 2) (h3 : m.dowelMode t d ≠ 3) :
    (if ¬ m.dowelValid t d ∨ m.dowelMode t d = 2 ∨ m.dowelMode t d = 3 then Eff.trap m 0x032F 0x0403 else m.push t th 1 0x49 f [] none x .output) =
      m.push t th 1 0x49 f [] none x .output := by
  refine if_neg ?_
  rintro (h | h | h)
  · exact h hvalid
  · exact h2 h
  · exact h3 h

/-- The checks of OCLAMP (R153): no NaN, and bounds in order, where the two zeros are one. -/
theorem oclamp_push {lo hi : W32} {m : Mod} {x : Thread} (hlo : (val32 lo).isNan = false) (hhi : (val32 hi).isNan = false)
    (horder : Val.less (val32 hi) (val32 lo) = true → (val32 lo).isZero = true ∧ (val32 hi).isZero = true) :
    (if (val32 lo).isNan ∨ (val32 hi).isNan ∨ (Val.less (val32 hi) (val32 lo) ∧ ¬ ((val32 lo).isZero ∧ (val32 hi).isZero)) then Eff.trap m 0x032F 0x0401
      else m.push t th 1 0x4A f [lo, hi] none x .output) = m.push t th 1 0x4A f [lo, hi] none x .output := by
  refine if_neg ?_
  rintro (h | h | ⟨hless, hzero⟩)
  · exact absurd h (by rw [hlo]; decide)
  · exact absurd h (by rw [hhi]; decide)
  · exact hzero (horder hless)

/-- A drain under REF_NEXT joins as a reference drain (R192). -/
theorem does_odrain_reference (hrun : CanRun s.m t th []) (hroom : (s.m.queue t 1).length < 4) (hform : only (fm 44 1) f = true)
    (href : s.m.flag (tileReg t 0x3_0010) 0 = true) :
    Does (.odrain t th f) s ((Retired s.m t th fun k => ((k.setFlag (tileReg t 0x3_0010) 0 false).modTile t fun y => { y with issueSeq := y.issueSeq + 1 }).setQueue t 1
      (k.queue t 1 ++ [{ entryOf s.m t th 0x4B f [] ((Fetched s.m t th).drainGen t) with reference := true }])).startUnits t) := by
  refine Mod.does_unit rfl hrun hform ?_
  have hpush := Mod.push_reference (th := th) (f := f) (args := []) (gen := (Fetched s.m t th).drainGen t) (x := s.m.thread t th) (unit := .output)
    ((congrArg List.length (congrFun (Mod.queue_Fetched s.m t th) 1)).trans_lt hroom) ((Mod.flag_Fetched s.m t th _ _).trans href)
  rw [Mod.issueSeq_Fetched] at hpush
  exact congrArg (Mod.finish t th _) hpush

end

/-- Settles O25: each instruction by its checks and its queue. -/
theorem unitInstructions : Obligations.UnitInstructions := by
  refine ⟨?_, ?_⟩
  · rintro s t th f x l rfl rfl joins
    refine ⟨fun hrun => ⟨?_, ?_, ?_, ?_, ?_, ?_, ?_, ?_⟩, ?_, ?_, ?_, ?_, ?_⟩
    · exact fun hroom hform => does_unit_joins hrun hform rfl rfl hroom rfl
    · exact fun hroom hform => does_unit_joins hrun hform rfl rfl hroom rfl
    · exact fun hroom hform => does_unit_joins hrun hform rfl rfl hroom rfl
    · exact fun hroom hform hop hvalid h2 h3 => does_unit_joins hrun (legal_and hform hop) rfl (ovec_push hvalid h2 h3) hroom rfl
    · exact fun hroom hform hplain => does_unit_joins hrun hform rfl rfl hroom (by rw [hplain]; rfl)
    · exact fun hroom hform href => does_odrain_reference hrun hroom hform href
    · exact fun hroom hform => does_unit_joins hrun hform rfl rfl hroom rfl
    · exact fun hroom hform => does_unit_joins hrun hform rfl rfl hroom rfl
    · exact fun hrun hroom hform => does_unit_joins hrun hform rfl rfl hroom rfl
    · exact fun hrun hroom hform => does_unit_joins hrun hform rfl rfl hroom rfl
    · exact fun hrun hroom hform hlo hhi horder => does_unit_joins hrun hform rfl (oclamp_push hlo hhi horder) hroom rfl
    · exact fun hrun hroom hlast => ⟨fun hform => does_unit_joins hrun (legal_and hform hlast) rfl rfl hroom rfl,
        fun hform => does_unit_joins hrun (legal_and hform hlast) rfl rfl hroom rfl⟩
    · exact fun hrun hroom hform => does_unit_joins hrun hform rfl rfl hroom rfl
  · rintro s t th f x rfl waits
    refine ⟨fun hrun => ⟨?_, ?_, ?_, ?_⟩, ?_, ?_, ?_, ?_, ?_⟩
    · exact fun hfull => ⟨fun hform => does_unit_waits hrun hform rfl rfl hfull, fun hform => does_unit_waits hrun hform rfl rfl hfull⟩
    · exact fun hfull => ⟨fun hform => does_unit_waits hrun hform rfl rfl hfull, fun hform => does_unit_waits hrun hform rfl rfl hfull,
        fun hform hop hvalid h2 h3 => does_unit_waits hrun (legal_and hform hop) rfl (ovec_push hvalid h2 h3) hfull⟩
    · exact fun hfull hform => does_unit_waits hrun hform rfl rfl hfull
    · exact fun hfull hform => does_unit_waits hrun hform rfl rfl hfull
    · exact fun hrun hfull hform => does_unit_waits hrun hform rfl rfl hfull
    · exact fun hrun hfull hform => does_unit_waits hrun hform rfl rfl hfull
    · exact fun hrun hfull hform hlo hhi horder => does_unit_waits hrun hform rfl (oclamp_push hlo hhi horder) hfull
    · exact fun hrun hfull hlast => ⟨fun hform => does_unit_waits hrun (legal_and hform hlast) rfl rfl hfull,
        fun hform => does_unit_waits hrun (legal_and hform hlast) rfl rfl hfull⟩
    · exact fun hrun hfull hform => does_unit_waits hrun hform rfl rfl hfull

end Sys2Proof.Machine
end

section
/-! PROOF. The completion of unit instructions (R102, R160, R187 to R190): the head of a queue delivers, and the counts reach the numeric table. -/

open Sys2Proof.Safety

namespace Sys2Proof.Machine
namespace Mod
section
variable {m : Mod} {t u : Nat} {e : QEntry} {r : List QEntry}

/-- A started head leaves its queue, delivers its results and counts, and the next may start. -/
theorem finishUnit_started (hqueue : m.queue t u = e :: r) (hstarted : e.started = true) :
    m.finishUnit t u = (((e.counts.foldl (fun m c => m.countConv t c)
      ((fun m => if e.op = 0x4B then m.addCnt (CNT_DRAIN t) 1 else m)
        (e.results.foldl (fun m p => m.modThread t e.th fun x => x.setG p.1 p.2) (m.setQueue t u r)))).startUnits t).settlePort t) := by
  simp only [finishUnit, hqueue, hstarted, Bool.not_true, Bool.false_eq_true, if_false]

end

/-- The update of the table that NUM_TABLE_UPDATE makes: the oldest counts are added, or the table is found faulty. -/
def updateTable (m : Mod) (t : Nat) : Mod :=
  match (m.tile t).tableQ with
  | [] => m
  | x :: r =>
    let n := m.modTile t fun y => { y with tableQ := r }
    if !n.tableActive t then n else if n.tableUsable t then n.tableAdd t x else n.tableFault t

section
variable {m n : Mod} {t : Nat} {x : TableUpd} {r : List TableUpd} (hcounts : (m.tile t).tableQ = x :: r)
  (hn : n = m.modTile t fun y => { y with tableQ := r }) (hactive : n.tableActive t = true)
include hcounts hn hactive

theorem updateTable_usable (h : n.tableUsable t = true) : m.updateTable t = n.tableAdd t x := by
  subst hn
  simp only [updateTable, hcounts, hactive, h, Bool.not_true, Bool.false_eq_true, if_false, if_true]
theorem updateTable_unusable (h : n.tableUsable t = false) : m.updateTable t = n.tableFault t := by
  subst hn
  simp only [updateTable, hcounts, hactive, h, Bool.not_true, Bool.false_eq_true, if_false]

end
end Mod

theorem exec_unitInstructionDone (t : Nat) (u : TileUnit) (s : State) :
    exec (.unitInstructionDone t u) s = onWhen s (s.m.tileRuns t) fun m => m.finishUnit t (Mod.unitNo u) := rfl
theorem exec_numTableUpdate (t : Nat) (s : State) : exec (.numTableUpdate t) s = onTileClock s t fun m => m.updateTable t := rfl

/-- Settles O26: a completion by the head of its queue, a table update by the oldest counts. -/
theorem unitCompletions : Obligations.UnitCompletions := by
  refine ⟨fun s t u e r hrun hqueue hstarted => ?_, fun s t x r n hup ht hclk hcounts hn hactive => ⟨fun husable => ?_, fun hfault => ?_⟩⟩
  · exact does_of_next (Mod.onWhen_next hrun) (exec_unitInstructionDone t u s) (Mod.finishUnit_started hqueue hstarted)
  · exact does_of_next (Mod.onTileClock_next hup ht hclk) (exec_numTableUpdate t s) (Mod.updateTable_usable hcounts hn hactive husable)
  · exact does_of_next (Mod.onTileClock_next hup ht hclk) (exec_numTableUpdate t s) (Mod.updateTable_unusable hcounts hn hactive hfault)

end Sys2Proof.Machine
end

section
/-! PROOF. Writes that reach a tile's window (R54, R55, R69 to R73, R85, R89, R90, R97 to R99, R126, R207): the word that a write leaves, the register that it reaches, and the answer. -/

open Sys2Proof.Safety

namespace Sys2Proof

/-! ## The word that a write leaves (R7) -/

theorem getLsbD_merge {n : Nat} (mask old new : BitVec n) (i : Nat) :
    (merge mask old new).getLsbD i = if mask.getLsbD i = true then new.getLsbD i else old.getLsbD i := by
  unfold merge
  rw [BitVec.getLsbD_or, BitVec.getLsbD_and, BitVec.getLsbD_and, BitVec.getLsbD_not]
  by_cases hi : i < n
  · cases mask.getLsbD i <;> simp [hi]
  · simp [BitVec.getLsbD_of_ge _ _ (Nat.le_of_not_lt hi)]

/-- Bits that a later mask covers do not show what an earlier one chose. -/
theorem merge_merge {n : Nat} {a b : BitVec n} (h : a &&& b = a) (old mid new : BitVec n) : merge b (merge a old mid) new = merge b old new := by
  apply BitVec.eq_of_getLsbD_eq
  intro i _
  have hbit := congrArg (fun w => w.getLsbD i) h
  simp only [BitVec.getLsbD_and] at hbit
  simp only [getLsbD_merge]
  cases hb : b.getLsbD i
  · rw [hb, Bool.and_false] at hbit
    simp [← hbit]
  · rfl

theorem bit_merge {n : Nat} (mask old new : BitVec n) (i : Nat) : bit (merge mask old new) i = if bit mask i = true then bit new i else bit old i :=
  getLsbD_merge mask old new i

namespace Machine.Mod

theorem rws_sub_writable (sp : RegSpec) : sp.rws &&& RegSpec.writable sp = sp.rws := by
  apply BitVec.eq_of_getLsbD_eq
  intro i _
  simp only [RegSpec.writable, BitVec.getLsbD_and, BitVec.getLsbD_or]
  cases sp.rws.getLsbD i <;> simp

section
variable {m : Mod} {a i : Nat} {sp : RegSpec} {v : W64}

/-- A full write leaves the writable bits of the value and the other bits of the register. -/
theorem written_full {mask : W64} (hmask : RegSpec.writable sp = mask) (hwo : sp.wo = 0) (hw1c : sp.w1c = 0) :
    m.written a sp (BitVec.allOnes 64) v = merge mask (m.rd a) v := by
  subst hmask
  have hkeep : ~~~(sp.wo ||| sp.w1c) = BitVec.allOnes 64 := by
    rw [hwo, hw1c]
    decide
  simp only [written, hkeep, BitVec.and_allOnes, BitVec.allOnes_and]
  exact merge_merge (rws_sub_writable sp) _ _ _

/-- A writable bit takes the value's. -/
theorem bit_written (h : bit (RegSpec.writable sp) i = true) : bit (m.written a sp (BitVec.allOnes 64) v) i = bit v i := by
  rw [written, BitVec.allOnes_and, bit_merge, if_pos h]

end

/-! ## The end of an access -/

/-- Only the codes of chapters 11, 0x0E and 0x11 stand in a status register (R399, R522, R580). -/
theorem noteRange_low {m : Mod} {c : W16} {o : Option Nat} (h : c.toNat < 0x0B00) : m.noteRange c o = m := by
  have hrange : c.toNat / 256 < 0x0B := by omega
  unfold noteRange
  split
  · next h11 => omega
  · next h14 => omega
  · next h17 => omega
  · rfl

/-- A result whose answer is known is that answer with its other part. -/
theorem pair_of_fst {r : W16 × Mod} {c : W16} (h : r.1 = c) : r = (c, r.2) := Prod.ext h rfl

theorem commit_done {m n : Mod} {who : Requester} {a : Nat} {r : W16 × Mod} (h : r = (0, n)) : m.commit who a r = n.answer 0 := by
  subst h
  rw [commit, finishAccess, if_pos (.inl rfl)]
  exact noteRange_low (show (0 : W16).toNat < 0x0B00 by decide)
theorem commit_refused {m n : Mod} {who : Requester} {a : Nat} {r : W16 × Mod} {c : W16} (h : r = (c, n)) (hc : c.toNat < 0x0B00) (hwho : who ≠ .host) :
    m.commit who a r = n.answer c := by
  subst h
  rw [commit, finishAccess, if_pos (.inr hwho)]
  exact noteRange_low hc

/-! ## Registers of a tile's window (R87, R90) -/

section
variable {m : Mod} {t o : Nat} {w : W64}

theorem tileSpec_dowel0 {d : Nat} (hd : d < 256) :
    tileSpec t (0x1000 + 16 * d) = some { rwl := 0x7803_FF00_3FFF_1FFF, rw := 0x8000_0000_0000_0000 } := by
  unfold tileSpec
  iterate 7 rw [if_neg (by omega)]
  rw [if_pos (by omega), if_pos (by omega)]
theorem tileSpec_jigCtl {j : Nat} (hj : j < 6) : tileSpec t (0x2000 + 0x100 * j + 0) = some { rwl := 0xFFFC_0000, rw := 1 } := by
  unfold tileSpec
  iterate 8 rw [if_neg (by omega)]
  rw [if_pos (by omega), jigSpec, if_pos (by omega)]

theorem writeTile_dowel0 {d : Nat} (hd : d < 256) : m.writeTile t (0x1000 + 16 * d) w = m.writeDowel0 t d w := by
  have hindex : (0x1000 + 16 * d - 0x1000) / 16 = d := by omega
  unfold writeTile
  dsimp only
  rw [if_neg (by omega), if_neg (by omega), if_pos (by omega), if_pos (by omega), hindex]
theorem writeTile_jigCtl {j : Nat} (hj : j < 6) : m.writeTile t (0x2000 + 0x100 * j + 0) w = m.writeJigCtl t j w := by
  have hindex : (0x2000 + 0x100 * j + 0 - 0x2000) / 0x100 = j := by omega
  unfold writeTile
  dsimp only
  rw [if_neg (by omega), if_neg (by omega), if_neg (by omega), if_pos (by omega), if_pos (by omega), hindex]

theorem writeTile_tileCtl : m.writeTile t 0x08 w = m.writeTileCtl t w := by
  unfold writeTile
  dsimp only
  rw [if_pos rfl]
theorem writeTile_veneerCtl : m.writeTile t 0x20 w = m.writeVeneerCtl t w := by
  unfold writeTile
  dsimp only
  rw [if_neg (by decide), if_pos rfl]
theorem writeTile_numCtl : m.writeTile t 0x3_0000 w = m.writeNumCtl t w := by
  unfold writeTile
  dsimp only
  iterate 5 rw [if_neg (by decide)]
  rw [if_pos rfl]
theorem writeTile_resume : m.writeTile t 0x1_0030 w = if !m.gateOpen t then (0x0309, m) else (0, if bit w 0 then m.resumeDebug t else m) := by
  unfold writeTile
  dsimp only
  iterate 4 rw [if_neg (by decide)]
  rw [if_pos rfl]

/-! ## Tile enable (R97) -/

theorem enableCheck_low (m : Mod) (t : Nat) : (m.enableCheck t).toNat < 0x0B00 := by
  unfold enableCheck
  dsimp only
  repeat' split
  all_goals decide

/-- A disabled tile of an unlocked slot is enabled by R97's checks alone. -/
theorem enableTile_checked (hoff : m.tileEnabled t = false) (hopen : m.lockedOwner (m.slotOfTile t) = false) :
    m.enableTile t = if m.enableCheck t = 0 then (0, m.startTile t) else (m.enableCheck t, m) := by
  simp only [enableTile, hoff, hopen, Bool.false_eq_true, if_false, Bool.false_and]

/-! ## Dowels (R54, R55) -/

/-- VALID is set where the checks pass on the fields as written. -/
theorem writeDowel0_set {d : Nat} (hoff : m.dowelValid t d = false) (hset : bit w 63 = true)
    (hcheck : (m.wr (DOWEL0 t d) (setBit w 63 false)).dowelCheck t d = 0) :
    m.writeDowel0 t d w = (0, (m.wr (DOWEL0 t d) (setBit w 63 false)).setFlag (DOWEL0 t d) 63 true) := by
  simp only [writeDowel0, hoff, hset, hcheck, Bool.false_eq_true, if_false, if_true]
theorem writeDowel0_clear {d : Nat} (hon : m.dowelValid t d = true) (hclear : bit w 63 = false) :
    m.writeDowel0 t d w = if m.dowelInUse t d then (0x020B, m) else (0, m.setFlag (DOWEL0 t d) 63 false) := by
  simp only [writeDowel0, hon, hclear, Bool.false_eq_true, if_false, if_true]

/-! ## Jigs (R69, R70) -/

theorem writeJigCtl_enable {j : Nat} (hoff : m.jigOn t j = false) (hset : bit w 0 = true) :
    m.writeJigCtl t j w = (m.wr (JIG_CTL t j) (setBit w 0 false)).enableJig t j := by
  simp only [writeJigCtl, hoff, hset, Bool.false_eq_true, if_false, if_true]
theorem writeJigCtl_disable {j : Nat} (hon : m.jigOn t j = true) (hclear : bit w 0 = false) : m.writeJigCtl t j w = (0, m.disableJig t j) := by
  simp only [writeJigCtl, hon, hclear, Bool.false_eq_true, if_false, if_true]

/-! ## Staged registers (R207) -/

theorem writeNumCtl_legal (hlayers : bf w 16 12 ≤ 1024) (hphase : bf w 32 4 = 15 ∨ bf w 48 16 < 2 ^ bf w 32 4) :
    m.writeNumCtl t w = (0, m.stage (NUM_CTL t) w) := by
  refine if_neg ?_
  rintro (h | ⟨hshift, hlong⟩)
  · omega
  · exact hphase.elim hshift (Nat.not_lt.mpr hlong)

end

/-! ## The way to a tile's window (R85, R89) -/

section
variable {m : Mod} {who : Requester} {t o : Nat} (ho : o < 0x10_0000) (ht : t < 1280)
include ho ht

theorem tileReg_bounds : 0x1000_0000 ≤ tileReg t o ∧ tileReg t o < 0x6000_0000 ∧ (tileReg t o - 0x1000_0000) / 0x10_0000 = t ∧ tileReg t o % 0x10_0000 = o := by
  simp only [tileReg, tileBase]
  omega
theorem mapped_tileReg : mapped (tileReg t o) = true := by
  obtain ⟨hlow, hhigh, -, -⟩ := tileReg_bounds ho ht
  simp [mapped, hlow, hhigh]

theorem writeReg_window (hup : m.mainUp = true) (mask v : W64) : m.writeReg who (tileReg t o) mask v = m.writeTileWin who t o mask v := by
  obtain ⟨hlow, hhigh, htile, hoff⟩ := tileReg_bounds ho ht
  unfold writeReg
  rw [mapped_tileReg ho ht, if_neg (by decide), if_pos ⟨hlow, hhigh⟩, hup, if_neg (by decide), htile, hoff]
theorem readReg_window : m.readReg who (tileReg t o) = m.readTileWin who t o := by
  obtain ⟨hlow, hhigh, htile, hoff⟩ := tileReg_bounds ho ht
  unfold readReg
  have hcount : tileReg t o ≠ BCN_COUNT := by
    simp only [BCN_COUNT, bcnReg]
    omega
  rw [mapped_tileReg ho ht, if_neg (by decide), if_neg (by omega), if_neg hcount]
  iterate 5 rw [if_neg (by omega)]
  rw [if_pos hhigh, htile, hoff]

end

/-- The eight bytes that the aperture selects (R89). -/
theorem writeTileWin_aperture {m : Mod} {who : Requester} {t o x : Nat} {v : W64} (h : TileOpen m who t) (haddr : m.apertureAddr t o = .ok x) :
    m.writeTileWin who t (0x8_0000 + o) (BitVec.allOnes 64) v = (0, m.stNat (scratchAt t x) 8 v.toNat) := by
  obtain ⟨-, -, -, hshut, hscrub, hstate⟩ := h
  have hoff : 0x8_0000 + o - 0x8_0000 = o := by omega
  have hword : ∀ old : W64, merge (BitVec.allOnes 64) old v = v := fun old => by rw [merge, BitVec.not_allOnes, BitVec.and_zero, BitVec.zero_or, BitVec.and_allOnes]
  simp only [writeTileWin, hshut, hscrub, hstate, hoff, haddr, hword, Bool.false_and, Bool.false_eq_true, if_false, Nat.le_add_right, if_true]
theorem readTileWin_aperture {m : Mod} {who : Requester} {t o x : Nat} (h : TileOpen m who t) (haddr : m.apertureAddr t o = .ok x) :
    m.readTileWin who t (0x8_0000 + o) = .ok (BitVec.ofNat 64 (m.ldNat (scratchAt t x) 8)) := by
  obtain ⟨-, -, -, hshut, hscrub, -⟩ := h
  have hoff : 0x8_0000 + o - 0x8_0000 = o := by omega
  simp only [readTileWin, hshut, hscrub, hoff, haddr, Bool.false_and, Bool.false_eq_true, if_false, Nat.le_add_right, if_true]

end Machine.Mod

/-! ## The commands -/

namespace Machine
section
variable {s : State} {who : Requester} {t : Nat}

theorem does_regWrite {c : Instr} {a : Nat} {v : W64} {m' : Mod} (hup : s.m.modState ≠ 0) (hc : exec c s = regWrite who a v s)
    (hm : s.m.commit who a (s.m.writeReg who a (BitVec.allOnes 64) v) = m') : Does c s m' :=
  does_of_next (Mod.onWhen_next (decide_eq_true hup)) hc hm

section
variable {o : Nat} {sp : RegSpec} {v w : W64} (h : TileOpen s.m who t) (ho : o < 0x8_0000) (hspec : tileSpec t o = some sp) (hkg : sp.kg = 0)
  (hw : s.m.written (tileReg t o) sp (BitVec.allOnes 64) v = w)
include h ho hspec hkg hw

/-- A full write of a register of an open tile reaches its unit. -/
theorem writeReg_open : s.m.writeReg who (tileReg t o) (BitVec.allOnes 64) v = s.m.writeTile t o w := by
  subst hw
  exact Mod.writeReg_tile h o ho sp hspec _ _ (by simp [hkg])

section
variable {c : Instr} {n : Mod} (hc : exec c s = regWrite who (tileReg t o) v s)
include hc

theorem does_tileWrite (hm : s.m.writeTile t o w = (0, n)) : Does c s (n.answer 0) :=
  does_regWrite h.1 hc (Mod.commit_done ((writeReg_open h ho hspec hkg hw).trans hm))
theorem does_tileWrite_refused {code : W16} (hm : s.m.writeTile t o w = (code, n)) (hcode : code.toNat < 0x0B00) (hwho : who ≠ .host) :
    Does c s (n.answer code) :=
  does_regWrite h.1 hc (Mod.commit_refused ((writeReg_open h ho hspec hkg hw).trans hm) hcode hwho)

end
end
end

/-- How a read of the word at `a` answers: its value, or the code of its refusal with all ones. -/
def answerRead (who : Requester) (a : Nat) (m : Mod) : Except W16 W64 → Mod
  | .ok v => m.answerValue v
  | .error c => { m.finishAccess who a false c with reply := { code := c, value := BitVec.allOnes 64 } }

/-- The read form of an aperture access. -/
theorem exec_apertureAccess (who : Requester) (t o : Nat) (s : State) : exec (.scratchpadApertureAccess who t o none) s =
    onWhen s (decide (s.m.modState ≠ 0))
      (fun m => answerRead who (tileReg (t % 1280) (0x8_0000 + o % 0x8_0000 / 8 * 8)) m (m.readReg who (tileReg (t % 1280) (0x8_0000 + o % 0x8_0000 / 8 * 8)))) := by
  change execScratchpadApertureAccess who t o none s = _
  unfold execScratchpadApertureAccess
  refine congrArg (onWhen s _) (funext fun m => ?_)
  generalize tileReg (t % 1280) (0x8_0000 + o % 0x8_0000 / 8 * 8) = a
  generalize m.readReg who a = r
  cases r <;> rfl

/-! ### Tile control (R97 to R99, R126) -/

section
variable {m : Mod} {t : Nat} {v : W64}

/-- The word that a write of TILE_CTL leaves has the value's ENABLE. -/
theorem writeTile_enable :
    m.writeTile t 0x08 (m.written (tileReg t 0x08) { rw := 1 } (BitVec.allOnes 64) v) = if bit v 0 then m.enableTile t else (0, m.stopTile t) := by
  rw [Mod.writeTile_tileCtl, Mod.writeTileCtl, Mod.bit_written (by decide)]
/-- RESUME acts where the debug gate is open. -/
theorem writeTile_resume (hv : bit v 0 = true) : m.writeTile t 0x1_0030 (m.written (tileReg t 0x1_0030) { wo := 1 } (BitVec.allOnes 64) v) =
    if !m.gateOpen t then (0x0309, m) else (0, m.resumeDebug t) := by
  rw [Mod.writeTile_resume, Mod.bit_written (by decide), hv, if_pos rfl]

/-- The word that clears VALID alone. -/
theorem writeTile_dowelClear {d : Nat} (hd : d < 256) (hon : m.dowelValid t d = true) :
    m.writeTile t (0x1000 + 16 * d) (merge 0xF803_FF00_3FFF_1FFF (m.rd (DOWEL0 t d)) (setBit (m.rd (DOWEL0 t d)) 63 false)) =
      if m.dowelInUse t d then (0x020B, m) else (0, m.setFlag (DOWEL0 t d) 63 false) := by
  rw [Mod.writeTile_dowel0 hd]
  exact Mod.writeDowel0_clear hon (by rw [bit_merge, if_pos (by decide), bit_setBit _ _ _ (by decide)])

/-- The word that clears a jig's ENABLE alone. -/
theorem writeTile_jigClear {j : Nat} (hj : j < 6) (hon : m.jigOn t j = true) :
    m.writeTile t (0x2000 + 0x100 * j + 0) (merge 0xFFFC_0001 (m.rd (JIG_CTL t j)) (setBit (m.rd (JIG_CTL t j)) 0 false)) = (0, m.disableJig t j) := by
  rw [Mod.writeTile_jigCtl hj]
  exact Mod.writeJigCtl_disable hon (by rw [bit_merge, if_pos (by decide), bit_setBit _ _ _ (by decide)])

end

section
variable {s : State} {who : Requester} {t : Nat} (h : TileOpen s.m who t)
include h

theorem tile_mod_of_open : t % 1280 = t := by
  obtain ⟨-, -, ht, -⟩ := h
  exact Nat.mod_eq_of_lt ht

theorem exec_tileEnable : exec (.tileEnable who t) s = regWrite who (tileReg t 0x08) 1 s :=
  congrArg (fun u => regWrite who (TILE_CTL u) 1 s) (tile_mod_of_open h)
theorem exec_tileDisable : exec (.tileDisable who t) s = regWrite who (tileReg t 0x08) 0 s :=
  congrArg (fun u => regWrite who (TILE_CTL u) 0 s) (tile_mod_of_open h)
theorem exec_seqDbgResume : exec (.seqDbgResume who t) s = regWrite who (tileReg t 0x1_0030) 1 s :=
  congrArg (fun u => regWrite who (tileReg u 0x1_0030) 1 s) (tile_mod_of_open h)

section
variable (hoff : s.m.tileEnabled t = false) (hopen : s.m.lockedOwner (s.m.slotOfTile t) = false)
include hoff hopen

theorem does_tileEnable (hcheck : s.m.enableCheck t = 0) : Does (.tileEnable who t) s ((s.m.startTile t).answer 0) :=
  does_tileWrite h (by decide) rfl rfl rfl (exec_tileEnable h)
    ((writeTile_enable.trans (if_pos (by decide))).trans ((Mod.enableTile_checked hoff hopen).trans (if_pos hcheck)))
theorem does_tileEnable_refused (hcheck : s.m.enableCheck t ≠ 0) (hwho : who ≠ .host) :
    Does (.tileEnable who t) s (s.m.answer (s.m.enableCheck t)) :=
  does_tileWrite_refused h (by decide) rfl rfl rfl (exec_tileEnable h)
    ((writeTile_enable.trans (if_pos (by decide))).trans ((Mod.enableTile_checked hoff hopen).trans (if_neg hcheck))) (Mod.enableCheck_low _ _) hwho

end

theorem does_tileDisable : Does (.tileDisable who t) s ((s.m.stopTile t).answer 0) :=
  does_tileWrite h (by decide) rfl rfl rfl (exec_tileDisable h) (writeTile_enable.trans (if_neg (by decide)))
theorem does_seqDbgResume (hgate : s.m.gateOpen t = true) : Does (.seqDbgResume who t) s ((s.m.resumeDebug t).answer 0) :=
  does_tileWrite h (by decide) rfl rfl rfl (exec_seqDbgResume h) ((writeTile_resume (by decide)).trans (if_neg (by rw [hgate]; decide)))
theorem does_seqDbgResume_refused (hgate : s.m.gateOpen t = false) (hwho : who ≠ .host) : Does (.seqDbgResume who t) s (s.m.answer 0x0309) :=
  does_tileWrite_refused h (by decide) rfl rfl rfl (exec_seqDbgResume h) ((writeTile_resume (by decide)).trans (if_pos (by rw [hgate]; rfl))) (by decide) hwho

/-! ### Dowels (R54, R55) -/

section
variable {d : Nat} (hd : d < 256)
include hd

theorem exec_dowelValidSet (v : W64) : exec (.dowelValidSet who t d v) s = regWrite who (tileReg t (0x1000 + 16 * d)) (setBit v 63 true) s :=
  congrArg₂ (fun u k => regWrite who (DOWEL0 u k) (setBit v 63 true) s) (tile_mod_of_open h) (Nat.mod_eq_of_lt hd)
theorem exec_dowelValidClear :
    exec (.dowelValidClear who t d) s = regWrite who (tileReg t (0x1000 + 16 * d)) (setBit (s.m.rd (DOWEL0 t d)) 63 false) s :=
  congrArg₂ (fun u k => regWrite who (DOWEL0 u k) (setBit (s.m.rd (DOWEL0 u k)) 63 false) s) (tile_mod_of_open h) (Nat.mod_eq_of_lt hd)

theorem does_dowelValidSet {v w : W64} (hoff : s.m.dowelValid t d = false) (hw : w = merge 0xF803_FF00_3FFF_1FFF (s.m.rd (DOWEL0 t d)) (setBit v 63 true))
    (hcheck : (s.m.wr (DOWEL0 t d) (setBit w 63 false)).dowelCheck t d = 0) :
    Does (.dowelValidSet who t d v) s (((s.m.wr (DOWEL0 t d) (setBit w 63 false)).setFlag (DOWEL0 t d) 63 true).answer 0) := by
  have hset : bit w 63 = true := by rw [hw, bit_merge, if_pos (by decide), bit_setBit _ _ _ (by decide)]
  exact does_tileWrite h (by omega) (Mod.tileSpec_dowel0 hd) rfl ((Mod.written_full (by decide) rfl rfl).trans hw.symm) (exec_dowelValidSet h hd v) ((Mod.writeTile_dowel0 hd).trans (Mod.writeDowel0_set hoff hset hcheck))

theorem does_dowelValidClear (hon : s.m.dowelValid t d = true) (hfree : s.m.dowelInUse t d = false) :
    Does (.dowelValidClear who t d) s ((s.m.setFlag (DOWEL0 t d) 63 false).answer 0) :=
  does_tileWrite h (by omega) (Mod.tileSpec_dowel0 hd) rfl (Mod.written_full (by decide) rfl rfl) (exec_dowelValidClear h hd)
    ((writeTile_dowelClear hd hon).trans (if_neg (by rw [hfree]; decide)))
theorem does_dowelValidClear_refused (hon : s.m.dowelValid t d = true) (hused : s.m.dowelInUse t d = true) (hwho : who ≠ .host) :
    Does (.dowelValidClear who t d) s (s.m.answer 0x020B) :=
  does_tileWrite_refused h (by omega) (Mod.tileSpec_dowel0 hd) rfl (Mod.written_full (by decide) rfl rfl) (exec_dowelValidClear h hd)
    ((writeTile_dowelClear hd hon).trans (if_pos hused)) (by decide) hwho

end

/-! ### Jigs (R69, R70) -/

section
variable {j : Nat} (hj : j < 6)
include hj

theorem exec_jigEnable (v : W64) : exec (.jigEnable who t j v) s = regWrite who (tileReg t (0x2000 + 0x100 * j + 0)) (setBit v 0 true) s :=
  congrArg₂ (fun u k => regWrite who (JIG_CTL u k) (setBit v 0 true) s) (tile_mod_of_open h) (Nat.mod_eq_of_lt hj)
theorem exec_jigDisable :
    exec (.jigDisable who t j) s = regWrite who (tileReg t (0x2000 + 0x100 * j + 0)) (setBit (s.m.rd (JIG_CTL t j)) 0 false) s :=
  congrArg₂ (fun u k => regWrite who (JIG_CTL u k) (setBit (s.m.rd (JIG_CTL u k)) 0 false) s) (tile_mod_of_open h) (Nat.mod_eq_of_lt hj)

theorem does_jigEnable {v w : W64} (hoff : s.m.jigOn t j = false) (hw : w = merge 0xFFFC_0001 (s.m.rd (JIG_CTL t j)) (setBit v 0 true))
    (hcheck : ((s.m.wr (JIG_CTL t j) (setBit w 0 false)).enableJig t j).1 = 0) :
    Does (.jigEnable who t j v) s (((s.m.wr (JIG_CTL t j) (setBit w 0 false)).enableJig t j).2.answer 0) := by
  have hset : bit w 0 = true := by rw [hw, bit_merge, if_pos (by decide), bit_setBit _ _ _ (by decide)]
  exact does_tileWrite h (by omega) (Mod.tileSpec_jigCtl hj) rfl ((Mod.written_full (by decide) rfl rfl).trans hw.symm) (exec_jigEnable h hj v)
    ((Mod.writeTile_jigCtl hj).trans ((Mod.writeJigCtl_enable hoff hset).trans (Mod.pair_of_fst hcheck)))
theorem does_jigDisable (hon : s.m.jigOn t j = true) : Does (.jigDisable who t j) s ((s.m.disableJig t j).answer 0) :=
  does_tileWrite h (by omega) (Mod.tileSpec_jigCtl hj) rfl (Mod.written_full (by decide) rfl rfl) (exec_jigDisable h hj) (writeTile_jigClear hj hon)

end

/-! ### Staged registers (R72, R207) -/

section
variable {v w : W64}

theorem exec_veneerCtlWrite : exec (.veneerCtlWrite who t v) s = regWrite who (tileReg t 0x20) v s :=
  congrArg (fun u => regWrite who (VENEER_CTL u) v s) (tile_mod_of_open h)
theorem exec_numCtlWrite : exec (.numCtlWrite who t v) s = regWrite who (tileReg t 0x3_0000) v s :=
  congrArg (fun u => regWrite who (NUM_CTL u) v s) (tile_mod_of_open h)

theorem does_veneerCtlWrite (hw : w = merge 0xF (s.m.rd (VENEER_CTL t)) v) (hlegal : (s.m.writeVeneerCtl t w).1 = 0) :
    Does (.veneerCtlWrite who t v) s ((s.m.writeVeneerCtl t w).2.answer 0) :=
  does_tileWrite h (by decide) rfl rfl ((Mod.written_full (by decide) rfl rfl).trans hw.symm) (exec_veneerCtlWrite h)
    (Mod.writeTile_veneerCtl.trans (Mod.pair_of_fst hlegal))
theorem does_numCtlWrite (hw : w = merge 0xFFFF_000F_0FFF_FF01 (s.m.rd (NUM_CTL t)) v) (hlayers : bf w 16 12 ≤ 1024)
    (hphase : bf w 32 4 = 15 ∨ bf w 48 16 < 2 ^ bf w 32 4) : Does (.numCtlWrite who t v) s ((s.m.stage (NUM_CTL t) w).answer 0) :=
  does_tileWrite h (by decide) rfl rfl ((Mod.written_full (by decide) rfl rfl).trans hw.symm) (exec_numCtlWrite h)
    (Mod.writeTile_numCtl.trans (Mod.writeNumCtl_legal hlayers hphase))

end

/-! ### The aperture (R89) -/

section
variable {o : Nat} (ho : o < 0x8_0000) (halign : o % 8 = 0)
include ho halign

theorem aperture_reg : tileReg (t % 1280) (0x8_0000 + o % 0x8_0000 / 8 * 8) = tileReg t (0x8_0000 + o) := by
  have hword : o % 0x8_0000 / 8 * 8 = o := by omega
  rw [tile_mod_of_open h, hword]
theorem exec_apertureWrite (v : W64) : exec (.scratchpadApertureAccess who t o (some v)) s = regWrite who (tileReg t (0x8_0000 + o)) v s :=
  congrArg (fun a => regWrite who a v s) (aperture_reg h ho halign)
theorem exec_apertureRead : exec (.scratchpadApertureAccess who t o none) s =
    onWhen s (decide (s.m.modState ≠ 0)) (fun m => answerRead who (tileReg t (0x8_0000 + o)) m (m.readReg who (tileReg t (0x8_0000 + o)))) :=
  (exec_apertureAccess who t o s).trans
    (congrArg (fun a => onWhen s (decide (s.m.modState ≠ 0)) (fun m => answerRead who a m (m.readReg who a))) (aperture_reg h ho halign))

section
variable {x : Nat} (haddr : s.m.apertureAddr t o = .ok x)
include haddr

theorem does_apertureWrite (v : W64) :
    Does (.scratchpadApertureAccess who t o (some v)) s ((s.m.stNat (scratchAt t x) 8 v.toNat).answer 0) := by
  obtain ⟨hup, hmain, ht, -⟩ := id h
  have hreg := (Mod.writeReg_window (by omega) ht hmain _ _).trans (Mod.writeTileWin_aperture (v := v) h haddr)
  exact does_regWrite hup (exec_apertureWrite h ho halign v) (Mod.commit_done hreg)
theorem does_apertureRead :
    Does (.scratchpadApertureAccess who t o none) s (s.m.answerValue (BitVec.ofNat 64 (s.m.ldNat (scratchAt t x) 8))) := by
  obtain ⟨hup, -, ht, -⟩ := id h
  have hreg := (Mod.readReg_window (by omega) ht).trans (Mod.readTileWin_aperture h haddr)
  exact does_of_next (Mod.onWhen_next (decide_eq_true hup)) (exec_apertureRead h ho halign) (congrArg (answerRead who _ s.m) hreg)

end
end
end
end Machine

open Machine

/-- Settles O11: each command is one full write of a register of the open window, so it leaves what the register's own unit does with the word written. -/
theorem tileControlAndDowels : Obligations.TileControlAndDowels := by
  unfold Obligations.TileControlAndDowels
  refine ⟨fun s who t h => ⟨does_tileEnable h, does_tileEnable_refused h, does_tileDisable h, does_seqDbgResume h, does_seqDbgResume_refused h⟩,
    fun s who t h => ⟨?_, ?_, ?_, ?_, ?_⟩, fun s who t h => ⟨?_, ?_, ?_⟩⟩
  · exact fun d v w hd => does_dowelValidSet h hd
  · exact fun d hd => does_dowelValidClear h hd
  · exact fun d hd => does_dowelValidClear_refused h hd
  · exact fun j v w hj => does_jigEnable h hj
  · exact fun j hj => does_jigDisable h hj
  · exact fun v w => does_veneerCtlWrite h
  · exact fun v w => does_numCtlWrite h
  · exact fun o v x ho halign haddr => ⟨does_apertureWrite h ho halign haddr v, does_apertureRead h ho halign haddr⟩

end Sys2Proof
end

section
/-! PROOF. Every command answers a next state with the queue it was given, and the idle step is one beacon strobe (R249, R250, log entry 7). -/

namespace Sys2Proof.Machine

/-- A command's meaning is a lift, and a lift answers the state with another module; three commands choose their lift by an operand. -/
theorem exec_answers_next (c : Instr) (s : State) : ∃ m, exec c s = .next { s with m := m } := by
  cases c with
  | eccCorrectionWrite f => cases f <;> exact ⟨_, rfl⟩
  | scratchpadApertureAccess who t o write => cases write <;> exact ⟨_, rfl⟩
  | nodeWordCombine node a => cases node <;> exact ⟨_, rfl⟩
  | _ => exact ⟨_, rfl⟩

/-- Out of HALTED and HOLDOVER nothing but the count moves (R249, R256). -/
theorem Mod.advance_plain {m : Mod} (hrun : m.halted = false) (hstate : m.bcnState ≠ 4) (n : Nat) :
    m.advance n = { m with count := m.count + BitVec.ofNat 64 n } := by
  have hpause : m.pauseDeadlines n = m := by rw [pauseDeadlines, hrun, if_neg Bool.false_ne_true]
  rw [advance, hpause]
  exact if_neg hstate

theorem step_idle {s : State} (hqueue : s.pending = []) : step s = .next (idle s) := by rw [step, hqueue]

/-- The strobe of a count that runs, away from a mark (R249). -/
theorem idle_advances {s : State} (h : s.m.running = true ∧ (s.m.count.toNat + 1) % s.m.markPeriod ≠ 0) : idle s = { s with m := s.m.advance 1 } := by
  rw [idle, if_pos h]

/-- A mark is reached only by the MARK command (R250). -/
theorem idle_stays {s : State} (h : s.m.running = false ∨ (s.m.count.toNat + 1) % s.m.markPeriod = 0) : idle s = s := by
  refine congrArg (fun m => { s with m := m }) (if_neg ?_)
  rintro ⟨hrun, hmark⟩
  exact h.elim (fun hstop => absurd (hrun.symm.trans hstop) (by decide)) hmark

/-- Settles O2: the strobe by the conditions under which the count advances, the commands by their lifts. -/
theorem everyStepAnswersNext : Obligations.EveryStepAnswersNext := by
  refine ⟨fun s hqueue hrun hstate => ⟨fun h => ?_, fun h => ?_⟩, fun c s => ?_⟩
  · rw [step_idle hqueue, idle_advances h, Mod.advance_plain hrun hstate]
    rfl
  · rw [step_idle hqueue, idle_stays h]
  · obtain ⟨m, hm⟩ := exec_answers_next c s
    exact ⟨_, hm, rfl⟩

end Sys2Proof.Machine
end

section
/-! PROOF. The Beacon: the writes that reach its window, the fields of BCN_STATUS that its state changes leave, and the pulse per second (R253 to R258, R262, R267, R269). -/

open Sys2Proof.Safety

namespace Sys2Proof.Machine
namespace Mod

/-! ## The way to the Beacon's window (R33, R268) -/

section
variable {m : Mod} {who : Requester} {o : Nat} {sp : RegSpec}

theorem regSpec_bcnReg (ho : o < 0x1000) (halign : o % 8 = 0) : regSpec (bcnReg o) = bcnSpec o := by
  have hoff : bcnReg o - 0x10_0000 = o := Nat.add_sub_cancel_left ..
  have hbase : bcnReg o = 0x10_0000 + o := rfl
  rw [regSpec, if_neg (by omega), if_neg (by omega), if_pos (by omega), hoff]
theorem bcnSpec_halfClk {i : Nat} (hi : i < 16) : bcnSpec (0x100 + 8 * i) = some { reset := 0x7D_008C_007D, rws := 0xFF_00FF } := by
  unfold bcnSpec
  iterate 6 rw [if_neg (by omega)]
  rw [if_pos (by omega)]

/-- The window stands on the standby rails, so a write needs no main rails (R559). -/
theorem writeReg_bcn (ho : o < 0x1000) (halign : o % 8 = 0) (hspec : bcnSpec o = some sp) (mask v : W64) :
    m.writeReg who (bcnReg o) mask v = m.writeBcn o sp mask v := by
  have hbase : bcnReg o = 0x10_0000 + o := rfl
  have hoff : bcnReg o - 0x10_0000 = o := Nat.add_sub_cancel_left ..
  have hmapped : mapped (bcnReg o) = true := by
    simp [mapped, hbase]
    omega
  have hrails : onStandby (bcnReg o) = true := by
    simp [onStandby, hbase]
    omega
  unfold writeReg
  rw [hmapped, if_neg (by decide), if_neg (by omega), if_neg (by omega), if_neg (by omega), hrails, if_neg (by simp), (regSpec_bcnReg ho halign).trans hspec]
  dsimp only
  rw [if_neg (by omega), if_pos (by omega), hoff]

end

section
variable {m : Mod} {who : Requester} {v w : W64}

theorem writeReg_bcnCmd : m.writeReg who BCN_CMD (BitVec.allOnes 64) v = m.writeBcnCmd v := by
  refine (writeReg_bcn (by decide) (by decide) (sp := { wo := 3 }) rfl _ _).trans ?_
  rw [writeBcn, if_neg (by decide), if_pos rfl, BitVec.and_allOnes]
theorem writeReg_bcnCtl : m.writeReg who BCN_CTL (BitVec.allOnes 64) v = m.writeBcnCtl (merge 0x1F_0777 (m.rd BCN_CTL) v) := by
  refine (writeReg_bcn (by decide) (by decide) (sp := { reset := 0x6_0770, rwl := 0x1F_0777 }) rfl _ _).trans ?_
  rw [writeBcn, if_pos rfl, written_full (mask := 0x1F_0777) (by decide) rfl rfl]
theorem writeReg_halfClk {i : Nat} (hi : i < 16) : m.writeReg who (HALF_CLK i) (BitVec.allOnes 64) v = m.writeHalfClk i v (BitVec.allOnes 64) := by
  refine (writeReg_bcn (by omega) (by omega) (bcnSpec_halfClk hi) _ _).trans ?_
  have hindex : (0x100 + 8 * i - 0x100) / 8 = i := by omega
  rw [writeBcn, if_neg (by omega), if_neg (by omega), if_pos (by omega), hindex]

/-! ## What the writes do (R254, R255, R262, R269) -/

theorem writeBcnCmd_align (hstate : m.modState ≠ 3) (hparts : m.rd MOD_PART_MAP = 0) : m.writeBcnCmd 1 = (0, m.enterAligning) :=
  if_neg fun h => h.2.elim hstate (absurd hparts)
theorem writeBcnCmd_align_refused (h : m.modState = 3 ∨ m.rd MOD_PART_MAP ≠ 0) : m.writeBcnCmd 1 = (0x0704, m) := if_pos ⟨rfl, h⟩
theorem writeBcnCmd_recal : m.writeBcnCmd 2 = (0, m.recalibrate) := if_neg fun h => Bool.false_ne_true h.1

theorem writeBcnCtl_legal (hstate : m.modState ≠ 3) (hnew : w ≠ m.rd BCN_CTL) (hlegal : bcnCtlOk w = true) : m.writeBcnCtl w = (0, m.wr BCN_CTL w) := by
  rw [writeBcnCtl, if_neg hnew, if_neg hstate, if_pos hlegal]

theorem writeHalfClk_legal {i : Nat} (hopen : m.halfSealedSteering i = false) (hw : w = merge 0xFF_00FF (m.stagedWord (HALF_CLK i)) v)
    (hfreq : m.freqOk (bf w 0 8) = true) (hcap : m.freqOk (bf w 16 8) = true) :
    m.writeHalfClk i v (BitVec.allOnes 64) = (0, (m.stage (HALF_CLK i) w).retarget i) := by
  subst hw
  simp only [writeHalfClk, hopen, BitVec.allOnes_and, Bool.false_eq_true, if_false, false_and, hfreq, hcap, not_true_eq_false, and_false, or_self]

end

/-! ## BCN_STATUS and the operations that change it (R253) -/

section
variable (m : Mod)

theorem fld_lt (a lo len : Nat) : m.fld a lo len < 2 ^ len := bf_lt _ _ _
theorem fld_addCnt_other {a b : Nat} (n p q : Nat) (h : b ≠ a) : (m.addCnt a n).fld b p q = m.fld b p q := fld_wr_other m _ p q h
theorem bcnState_setBcnState {v : Nat} (h : v < 16) : (m.setBcnState v).bcnState = v := (fld_setF_same m _ _ _ v (by decide)).trans (Nat.mod_eq_of_lt h)
theorem bcnState_setF {lo : Nat} (len v : Nat) (h : 4 ≤ lo) : (m.setF BCN_STATUS lo len v).bcnState = m.bcnState :=
  fld_setF_disjoint m _ _ _ _ _ _ (by decide) (.inl h)
theorem bcnState_addCnt {a : Nat} (n : Nat) (h : BCN_STATUS ≠ a) : (m.addCnt a n).bcnState = m.bcnState := fld_addCnt_other m _ _ _ h

theorem bcnState_enterLocked : m.enterLocked.bcnState = 3 := bcnState_setBcnState m (by decide)
theorem fld_enterLocked {p q : Nat} (hp : 4 ≤ p) (hq : p + q ≤ 64) : m.enterLocked.fld BCN_STATUS p q = m.fld BCN_STATUS p q :=
  fld_setF_disjoint m _ _ _ _ _ _ hq (.inr hp)

/-- A measurement of the delays only queues control blocks (R254). -/
theorem recalibrate_changes : ∃ p, m.recalibrate = { m with ports := p } := by
  refine forEach_keeps (P := fun n => ∃ p, n = { m with ports := p }) _ _ (fun n j _ hn => ?_) m ⟨_, rfl⟩
  obtain ⟨p, rfl⟩ := hn
  exact ⟨_, rfl⟩

end

section
variable {m : Mod} {r : W16}

/-! ## Alignment (R253, R254) -/

theorem enterAligning_master (h : m.bcnSource = 0) : m.enterAligning = (((m.setF BCN_STATUS 8 5 0).setF BCN_STATUS 4 3 7).loadCount 0).enterLocked := if_pos h
theorem enterAligning_follower (h : m.bcnSource ≠ 0) :
    ∃ p, m.enterAligning = { ((m.setBcnState 2).setF BCN_STATUS 8 5 31).setF BCN_STATUS 4 3 m.srcPort with ports := p, countLoaded := false, calDone := [] } := by
  obtain ⟨p, hp⟩ := recalibrate_changes (((m.setBcnState 2).setF BCN_STATUS 8 5 31).setF BCN_STATUS 4 3 m.srcPort)
  refine ⟨p, ?_⟩
  rw [enterAligning, if_neg h, hp]

/-! ## Residuals (R254, R258) -/

/-- A residual beyond 4 bt does not lie below 0.25 bt. -/
theorem residNear_of_far (h : residFar r = true) : residNear r = false := by
  have hfar : 256 < r.toInt.natAbs := of_decide_eq_true h
  exact decide_eq_false (by omega)

/-- In LOCKED a residual within 4 bt lets CROSS records be voted ready. -/
theorem measure_close (hstate : m.bcnState = 3) (h : residFar r = false) : m.measure r = { m.setF BCN_STATUS 32 16 r.toNat with crossLost := false } := by
  rw [measure, h, if_neg Bool.false_ne_true, if_pos ((bcnState_setF m _ _ (by decide)).trans hstate)]
theorem measure_far (h : residFar r = true) :
    m.measure r = { (m.setF BCN_STATUS 32 16 r.toNat).raise { code := 0x0723, kind := 9, unit := 0xFFFF } with crossLost := true } := by
  rw [measure, if_pos h]

end
end Mod

/-! ## The events of the Beacon's states (R253 to R258) -/

section
variable {s : State} {f : Mod → Mod} {m' : Mod}

theorem onWhen_next_of {b : Bool} (hb : b = true) (hm : f s.m = m') : onWhen s b f = .next { s with m := m' } := (Mod.onWhen_next hb).trans (by rw [hm])
theorem onModule_next_of (hm : f s.m = m') : onModule s f = .next { s with m := m' } := by rw [onModule, hm]

end

section
variable {s : State} {r : W16}

theorem does_modulePllLocked (hstate : s.m.bcnState = 1) : Does .modulePllLocked s s.m.enterAligning :=
  show execModulePllLocked s = _ from onWhen_next_of (decide_eq_true hstate) rfl

theorem modulePllLocked_master (hstate : s.m.bcnState = 1) (hsource : s.m.bcnSource = 0) :
    ∃ t, exec .modulePllLocked s = .next t ∧ t.m.bcnState = 3 ∧ t.m.count = 0 ∧ t.m.running = true ∧ t.m.fld BCN_STATUS 8 5 = 0 ∧ t.m.srcActive = 7 ∧ t.m.mem = s.m.mem := by
  refine ⟨_, does_modulePllLocked hstate, ?_⟩
  rw [Mod.enterAligning_master hsource]
  refine ⟨Mod.bcnState_enterLocked _, rfl, rfl, (Mod.fld_enterLocked _ (by decide) (by decide)).trans ?_, (Mod.fld_enterLocked _ (by decide) (by decide)).trans ?_, rfl⟩
  · exact (Mod.fld_setF_disjoint _ _ 4 3 7 8 5 (by decide) (by decide)).trans (Mod.fld_setF_same _ _ 8 5 0 (by decide))
  · exact Mod.fld_setF_same _ _ 4 3 7 (by decide)

theorem modulePllLocked_follower (hstate : s.m.bcnState = 1) (hsource : s.m.bcnSource ≠ 0) :
    ∃ t, exec .modulePllLocked s = .next t ∧ t.m.bcnState = 2 ∧ t.m.count = s.m.count ∧ t.m.srcActive = s.m.srcPort ∧ t.m.fld BCN_STATUS 8 5 = 31 ∧ t.m.aligned = false := by
  obtain ⟨p, hp⟩ := Mod.enterAligning_follower hsource
  refine ⟨_, does_modulePllLocked hstate, ?_⟩
  rw [hp]
  refine ⟨?_, rfl, ?_, ?_, rfl⟩
  · calc _ = ((s.m.setBcnState 2).setF BCN_STATUS 8 5 31).bcnState := Mod.bcnState_setF _ _ _ (by decide)
      _ = (s.m.setBcnState 2).bcnState := Mod.bcnState_setF _ _ _ (by decide)
      _ = 2 := Mod.bcnState_setBcnState _ (by decide)
  · exact (Mod.fld_setF_same _ _ 4 3 _ (by decide)).trans (Nat.mod_eq_of_lt (Mod.fld_lt _ _ _ _))
  · exact (Mod.fld_setF_disjoint _ _ 4 3 _ 8 5 (by decide) (by decide)).trans (Mod.fld_setF_same _ _ 8 5 31 (by decide))

theorem beaconAligned_near (hstate : s.m.bcnState = 2) (haligned : s.m.aligned = true) (hr : Mod.residNear r = true) :
    ∃ t, exec (.beaconAligned r) s = .next t ∧ t.m.bcnState = 3 ∧ t.m.fld BCN_STATUS 32 16 = r.toNat ∧ t.m.count = s.m.count := by
  have hdoes : Does (.beaconAligned r) s (s.m.setF BCN_STATUS 32 16 r.toNat).enterLocked :=
    show execBeaconAligned r s = _ from onWhen_next_of (by simp [hstate, haligned]) (if_pos hr)
  refine ⟨_, hdoes, Mod.bcnState_enterLocked _, (Mod.fld_enterLocked _ (by decide) (by decide)).trans ?_, rfl⟩
  exact (Mod.fld_setF_same _ _ 32 16 _ (by decide)).trans (Nat.mod_eq_of_lt r.isLt)

theorem does_modulePllLockLoss (hstate : 1 ≤ s.m.bcnState) :
    Does .modulePllLockLoss s ((((s.m.setBcnState 0).setF BCN_STATUS 8 5 31).setF BCN_STATUS 4 3 7).raise { code := 0x0725, kind := 9, unit := 0xFFFF }) :=
  show execModulePllLockLoss s = _ from onWhen_next_of (decide_eq_true hstate) rfl

/-- With no valid ALT_PORT the follower stands in HOLDOVER without a source. -/
theorem does_holdoverEntry (hstate : s.m.bcnState = 3) (hsource : s.m.bcnSource ≠ 0) : Does (.holdoverEntry false) s s.m.enterHoldover :=
  show execHoldoverEntry false s = _ from onWhen_next_of (by simp [hstate, hsource]) (if_neg fun h => Bool.false_ne_true h.1)

theorem does_holdoverLimit (hstate : s.m.bcnState = 4) (hlong : 1_000_000 ≤ s.m.holdoverBt) (hcross : s.m.crossLost = false) :
    Does .holdoverLimit s { s.m.raise { code := 0x0722, kind := 9, unit := 0xFFFF } with crossLost := true } :=
  show execHoldoverLimit s = _ from onWhen_next_of (by simp [hstate, hlong, hcross]) rfl

section
variable (hsource : s.m.bcnSource ≠ 0) (hstate : s.m.bcnState = 3)
include hsource hstate

/-- A steering that does not end a HOLDOVER leaves what its measurement does. -/
theorem does_beaconSteer {n : Mod} (hn : (s.m.addCnt CNT_STEER 1).measure r = n) (hstay : n.bcnState ≠ 4 ∨ Mod.residNear r = false) :
    Does (.beaconSteer r) s n := by
  subst hn
  refine show execBeaconSteer r s = _ from onWhen_next_of (by simp [hsource, hstate]) (if_neg ?_)
  rintro ⟨hholdover, hnear, -⟩
  exact hstay.elim (absurd hholdover) fun hfar => Bool.false_ne_true (hfar.symm.trans hnear)

theorem does_beaconSteer_close (hr : Mod.residFar r = false) :
    Does (.beaconSteer r) s { (s.m.addCnt CNT_STEER 1).setF BCN_STATUS 32 16 r.toNat with crossLost := false } := by
  have hcounted : (s.m.addCnt CNT_STEER 1).bcnState = 3 := (Mod.bcnState_addCnt s.m 1 (by decide)).trans hstate
  have hkept : ((s.m.addCnt CNT_STEER 1).setF BCN_STATUS 32 16 r.toNat).bcnState = 3 := (Mod.bcnState_setF _ _ _ (by decide)).trans hcounted
  exact does_beaconSteer hsource hstate (Mod.measure_close hcounted hr) (.inl fun h => absurd (hkept.symm.trans h) (by decide))
theorem does_beaconSteer_far (hr : Mod.residFar r = true) :
    Does (.beaconSteer r) s { ((s.m.addCnt CNT_STEER 1).setF BCN_STATUS 32 16 r.toNat).raise { code := 0x0723, kind := 9, unit := 0xFFFF } with crossLost := true } :=
  does_beaconSteer hsource hstate (Mod.measure_far hr) (.inr (Mod.residNear_of_far hr))

end

/-! ## The pulse per second (R267) -/

theorem does_ppsInEdge_captured (hon : s.m.flag BCN_PPS_CTL 1 = true) : Does .ppsInEdge s ((s.m.wr BCN_PPS_CAPTURE s.m.count).addCnt CNT_PPS_IN 1) :=
  show execPpsInEdge s = _ from onModule_next_of (if_pos hon)
theorem does_ppsInEdge_ignored (hoff : s.m.flag BCN_PPS_CTL 1 = false) : Does .ppsInEdge s s.m :=
  show execPpsInEdge s = _ from onModule_next_of (if_neg (Bool.eq_false_iff.mp hoff))
theorem does_ppsOutRise (hon : s.m.flag BCN_PPS_CTL 0 = true) (hrun : s.m.running = true) (hcount : s.m.count.toNat % 1_250_000_000 = 0) :
    Does .ppsOutRise s { s.m with board := { s.m.board with ppsOut := true } } :=
  show execPpsOutRise s = _ from onWhen_next_of (by simp [hon, hrun, hcount]) rfl
theorem does_ppsOutFall (hon : s.m.board.ppsOut = true) (hcount : 125_000 ≤ s.m.count.toNat % 1_250_000_000) :
    Does .ppsOutFall s { s.m with board := { s.m.board with ppsOut := false } } :=
  show execPpsOutFall s = _ from onWhen_next_of (by simp [hon, hcount]) rfl

/-! ## The registers (R254, R255, R262, R269) -/

section
variable {who : Requester}

theorem exec_halfClkWrite {i : Nat} (hi : i < 16) (v : W64) : exec (.halfClkWrite who i v) s = regWrite who (HALF_CLK i) v s :=
  congrArg (fun k => regWrite who (HALF_CLK k) v s) (Nat.mod_eq_of_lt hi)

variable (hup : s.m.modState ≠ 0)
include hup

theorem does_bcnCmdAlign (hstate : s.m.modState ≠ 3) (hparts : s.m.rd MOD_PART_MAP = 0) : Does (.bcnCmdAlign who) s (s.m.enterAligning.answer 0) :=
  does_regWrite hup rfl (Mod.commit_done (Mod.writeReg_bcnCmd.trans (Mod.writeBcnCmd_align hstate hparts)))
theorem does_bcnCmdAlign_refused (h : s.m.modState = 3 ∨ s.m.rd MOD_PART_MAP ≠ 0) (hwho : who ≠ .host) : Does (.bcnCmdAlign who) s (s.m.answer 0x0704) :=
  does_regWrite hup rfl (Mod.commit_refused (Mod.writeReg_bcnCmd.trans (Mod.writeBcnCmd_align_refused h)) (by decide) hwho)
theorem does_bcnCmdRecal : Does (.bcnCmdRecal who) s (s.m.recalibrate.answer 0) :=
  does_regWrite hup rfl (Mod.commit_done (Mod.writeReg_bcnCmd.trans Mod.writeBcnCmd_recal))

theorem does_bcnCtlWrite {v w : W64} (hstate : s.m.modState ≠ 3) (hw : w = merge 0x1F_0777 (s.m.rd BCN_CTL) v) (hnew : w ≠ s.m.rd BCN_CTL)
    (hlegal : Mod.bcnCtlOk w = true) : Does (.bcnCtlWrite who v) s ((s.m.wr BCN_CTL w).answer 0) := by
  subst hw
  exact does_regWrite hup rfl (Mod.commit_done (Mod.writeReg_bcnCtl.trans (Mod.writeBcnCtl_legal hstate hnew hlegal)))

theorem does_halfClkWrite {i : Nat} {v w : W64} (hi : i < 16) (hopen : s.m.halfSealedSteering i = false)
    (hw : w = merge 0xFF_00FF (s.m.stagedWord (HALF_CLK i)) v) (hfreq : s.m.freqOk (bf w 0 8) = true) (hcap : s.m.freqOk (bf w 16 8) = true) :
    Does (.halfClkWrite who i v) s (((s.m.stage (HALF_CLK i) w).retarget i).answer 0) :=
  does_regWrite hup (exec_halfClkWrite hi v) (Mod.commit_done ((Mod.writeReg_halfClk hi).trans (Mod.writeHalfClk_legal hopen hw hfreq hcap)))

end
end

/-- Settles O9: the writes by the way to the Beacon's window, the states by the fields of BCN_STATUS, the pulses by their conditions. -/
theorem beaconStatesAndWrites : Obligations.BeaconStatesAndWrites := by
  refine ⟨fun s who hup => ⟨?_, ?_, ?_, ?_, ?_⟩, fun s => ⟨?_, ?_, ?_, ?_, ?_, ?_, ?_, ?_⟩, fun s => ⟨?_, ?_, ?_, ?_⟩⟩
  · exact does_bcnCmdAlign hup
  · exact does_bcnCmdAlign_refused hup
  · exact does_bcnCmdRecal hup
  · exact fun v w => does_bcnCtlWrite hup
  · exact fun i v w => does_halfClkWrite hup
  · exact modulePllLocked_master
  · exact modulePllLocked_follower
  · exact fun r => beaconAligned_near
  · exact does_modulePllLockLoss
  · exact does_holdoverEntry
  · exact does_holdoverLimit
  · exact fun r => does_beaconSteer_close
  · exact fun r => does_beaconSteer_far
  · exact does_ppsInEdge_captured
  · exact does_ppsInEdge_ignored
  · exact does_ppsOutRise
  · exact does_ppsOutFall

end Sys2Proof.Machine
end

section
/-! PROOF. Marks and step boundaries (R250, R388, R389, R511, R519), and the events of the half clocks and of a die's copy of the count (R251, R257, R263, R264, R272). -/

open Sys2Proof.Safety

namespace Sys2Proof.Machine
namespace Mod

/-! ## Where the next mark stands (R250) -/

section
variable (m : Mod)

theorem markPeriod_pos : 0 < m.markPeriod := Nat.two_pow_pos _
theorem nextMark_multiple : m.nextMark % m.markPeriod = 0 := Nat.mul_mod_left _ _
theorem nextMark_eq : m.nextMark = m.count.toNat / m.markPeriod * m.markPeriod + m.markPeriod := Nat.succ_mul _ _
theorem count_lt_nextMark : m.count.toNat < m.nextMark := by
  rw [nextMark_eq]
  exact Nat.lt_div_mul_add m.markPeriod_pos
theorem nextMark_le : m.nextMark ≤ m.count.toNat + m.markPeriod := by
  rw [nextMark_eq]
  exact Nat.add_le_add_right (Nat.div_mul_le_self _ _) _

theorem count_advance (n : Nat) : (m.advance n).count = m.count + BitVec.ofNat 64 n := by
  simp only [advance]
  split <;> rfl

/-- The count stands at the mark when the staged fields take effect (R519). -/
theorem count_advance_nextMark : (m.advance (m.nextMark - m.count.toNat)).count = BitVec.ofNat 64 m.nextMark := by
  have hahead : m.count.toNat + (m.nextMark - m.count.toNat) = m.nextMark := Nat.add_sub_cancel' m.count_lt_nextMark.le
  have hcount : BitVec.ofNat 64 m.count.toNat = m.count := (BitVec.ofNat_toNat 64 _).trans (BitVec.setWidth_eq _)
  calc _ = m.count + BitVec.ofNat 64 (m.nextMark - m.count.toNat) := m.count_advance _
    _ = BitVec.ofNat 64 (m.count.toNat + (m.nextMark - m.count.toNat)) := by rw [BitVec.ofNat_add, hcount]
    _ = BitVec.ofNat 64 m.nextMark := by rw [hahead]

end

/-! ## What a step boundary mark does (R388, R389, R511) -/

section
variable {m : Mod} {p : Nat} {j : Job}

theorem boundary_without_job (hjob : (m.part p).job = none) : m.boundary p = m := by rw [boundary, hjob]
theorem boundary_out_of_place (h : m.atMark = false ∨ m.halted = true) : m.boundary p = m := by
  rw [boundary]
  split
  · rfl
  · exact if_pos (by rcases h with hmark | hhalt <;> simp [*])

variable (hjob : (m.part p).job = some j) (hmark : m.atMark = true) (hrun : m.halted = false) (hhandling : m.handling p < 2) (hfatal : m.fatalStopped = false)
include hjob hmark hrun hhandling hfatal

theorem boundary_of_job : m.boundary p = if !j.started then m.firstMark p else if m.stepEnds p then m.endStep p j else m := by
  have hplace : (!m.atMark || m.halted || decide (2 ≤ m.handling p) || m.fatalStopped) = false := by
    simp [hmark, hrun, hfatal]
    omega
  rw [boundary, hjob]
  exact if_neg (Bool.eq_false_iff.mp hplace)

end
end Mod

/-! ## The half clocks and the copies of the count (R251, R257, R263, R264, R272) -/

section
variable {s : State} {i : Nat}

section
variable (hup : s.m.mainUp = true) (hi : i < 16)
include hup hi

theorem does_halfPllLocked (htarget : (s.m.half i).target.isSome = true) : Does (.halfPllLocked i) s (s.m.setHalf i { s.m.half i with pllLocked := true }) :=
  show execHalfPllLocked i s = _ from onWhen_next_of (by simp [hup, hi]) (if_pos htarget)
theorem does_halfClockSwitchDone :
    Does (.halfClockSwitchDone i) s (forEach (s.m.setHalf i { s.m.half i with switching := false }) (upto 80) (fun m k => m.settlePort (80 * i + k))) :=
  show execHalfClockSwitchDone i s = _ from onWhen_next_of (by simp [hup, hi]) rfl
theorem does_halfPllLockLoss :
    Does (.halfPllLockLoss i) s ((s.m.setHalf i { s.m.half i with activeLost := true }).raise { code := 0x0726, slot := s.m.slotOfDie (i / 2), kind := 9, unit := i }) :=
  show execHalfPllLockLoss i s = _ from onWhen_next_of (by simp [hup, hi]) rfl

end

section
variable (hrun : s.m.running = true) (hi : i < 32)
include hrun hi

theorem does_trimRecalibration (v : W16) : Does (.trimRecalibration i v) s { s.m with trims := Sparse.put (fun _ => 0) s.m.trims i v } :=
  show execTrimRecalibration i v s = _ from onWhen_next_of (by simp [hrun, hi]) rfl

theorem does_beaconCheckWord_differs {c : W64} (hc : c ≠ s.m.count) :
    Does (.beaconCheckWord i c) s ({ s.m with dieCounts := Sparse.put (fun _ => 0) s.m.dieCounts i (c - s.m.count) }.raise
      { code := 0x0724, slot := s.m.slotOfDie (computeDieOf i), kind := 9, unit := 0xFFFF }) :=
  show execBeaconCheckWord i c s = _ from onWhen_next_of (by simp [hrun, hi]) (if_neg hc)
theorem does_beaconCheckWord_agrees :
    Does (.beaconCheckWord i s.m.count) s { s.m with dieCounts := Sparse.put (fun _ => 0) s.m.dieCounts i (s.m.count - s.m.count) } :=
  show execBeaconCheckWord i s.m.count s = _ from onWhen_next_of (by simp [hrun, hi]) (if_pos rfl)

end

/-! ## The marks -/

theorem does_mark (hrun : s.m.running = true) : Does .mark s (s.m.advance (s.m.nextMark - s.m.count.toNat)).markIdle :=
  show execMark s = _ from onWhen_next_of hrun rfl
theorem does_stepBoundaryMark {p : Nat} {n : Mod} (hup : s.m.mainUp = true) (hp : p < 8) (hn : s.m.boundary p = n) : Does (.stepBoundaryMark p) s n :=
  does_onSlot (f := fun m => m.boundary p) hup hp rfl hn

end

/-- Settles O10: the events by their conditions, the marks by the arithmetic of the period, the boundary by the job of its slot. -/
theorem marksAndBoundaries : Obligations.MarksAndBoundaries := by
  refine ⟨fun s i => ⟨?_, ?_, ?_, ?_, ?_, fun hrun hi => ?_⟩, fun s hrun => ?_, fun s p hup hp => ⟨fun j hjob hmark hrun hhandling hfatal => ?_, fun h => ?_⟩⟩
  · exact does_halfPllLocked
  · exact does_halfClockSwitchDone
  · exact does_halfPllLockLoss
  · exact fun v hrun hi => does_trimRecalibration hrun hi v
  · exact fun c hrun hi => does_beaconCheckWord_differs hrun hi
  · exact ⟨_, does_beaconCheckWord_agrees hrun hi, (Sparse.get_put_same _ _ _).trans (BitVec.sub_self _), rfl, rfl⟩
  · exact ⟨does_mark hrun, s.m.nextMark_multiple, s.m.count_lt_nextMark, s.m.nextMark_le, s.m.count_advance_nextMark⟩
  · have hboundary := Mod.boundary_of_job hjob hmark hrun hhandling hfatal
    refine ⟨fun hnew => ?_, fun hold hends => ?_, fun hold hstays => ?_⟩ <;> refine does_stepBoundaryMark hup hp (hboundary.trans ?_)
    · rw [hnew, Bool.not_false, if_pos rfl]
    · rw [hold, hends, Bool.not_true, if_neg Bool.false_ne_true, if_pos rfl]
    · rw [hold, hstays, Bool.not_true, if_neg Bool.false_ne_true, if_neg Bool.false_ne_true]
  · exact does_stepBoundaryMark hup hp (h.elim Mod.boundary_without_job Mod.boundary_out_of_place)

end Sys2Proof.Machine
end

section
/-! PROOF. The control blocks of a port (R254, R256, R413, R422 to R424): a vote word by its checks, a TIME block by the source that it comes from, the two halves of a calibration. -/

open Sys2Proof.Safety

namespace Sys2Proof.Machine

/-- The combination of two words' flags does not depend on their order (R423). -/
theorem combineFlags_comm (kind : Nat) (a b : W16) : combineFlags kind a b = combineFlags kind b a := by
  simp only [combineFlags, BitVec.and_comm a b, BitVec.or_comm a b]

namespace Mod

/-! ## A vote word that arrives (R422 to R424) -/

section
variable {m : Mod} {j p : Nat} {v : VoteBlock} {w : VoteWord}

/-- A word that is appended stands last among those held of its vote and phase. -/
theorem votesHeld_append : (m.modPart p (fun x => { x with votes := x.votes ++ [w] })).votesHeld p w = m.votesHeld p w ++ [w] := by
  simp [votesHeld, modPart]

/-- What a vote word that has passed its checks leaves: it goes on as far as it reaches, is held unless its origin's is, and may complete its line (R423). -/
def keepVote (m : Mod) (p j hops : Nat) (w : VoteWord) : Mod :=
  let m := if m.voteGoes p w.group w.phase hops (decide (j % 2 = 0)) then m.queueVote p (facingPort j) w (hops + 1) else m
  if (m.votesHeld p w).any (fun y => decide (y.origin = w.origin)) then m
  else
    let m := m.modPart p (fun x => { x with votes := x.votes ++ [w] })
    match (m.votesHeld p w).find? (fun y => decide (y.origin = m.moduleId)) with
    | some own => m.advanceVote p own 5
    | none => m

/-- A word that goes no further, the first of its vote and phase and from another module, is held, and completes no line. -/
theorem keepVote_held {hops : Nat} (hends : m.voteGoes p w.group w.phase hops (decide (j % 2 = 0)) = false) (hfirst : m.votesHeld p w = []) (hforeign : w.origin ≠ m.moduleId) :
    m.keepVote p j hops w = m.modPart p (fun x => { x with votes := x.votes ++ [w] }) := by
  have hown : ((m.modPart p (fun x => { x with votes := x.votes ++ [w] })).votesHeld p w).find? (fun y => decide (y.origin = m.moduleId)) = none := by
    rw [votesHeld_append, hfirst]
    exact List.find?_eq_none.mpr fun y hy => by simpa [List.mem_singleton.mp hy] using hforeign
  rw [keepVote, hends, if_neg Bool.false_ne_true]
  refine (if_neg (by simp [hfirst])).trans ?_
  dsimp only
  split
  · next own h => exact absurd (hown.symm.trans h) (Option.some_ne_none own).symm
  · rfl

variable (hslot : m.slotOfJob v.job = some p)
include hslot

theorem takeVote_bad_tag (htag : v.tagOk = false) : m.takeVote j v = m.raisePortIn j 0x0C28 (some p) := by
  rw [takeVote, hslot, htag]
  exact if_pos rfl

section
variable (htag : v.tagOk = true) (hkind : v.kind.toNat = 1 ∨ v.kind.toNat = 2 ∨ v.kind.toNat = 3) (hphase : v.phase.toNat = j / 2) (hjob : m.jobRuns p = true)
include htag hkind hphase hjob

/-- A verified word of the kinds 1 to 3, of this port's dimension, for a running job, is taken unless it names another step. -/
theorem takeVote_checked : m.takeVote j v =
    if 2 ≤ v.kind.toNat ∧ v.refr ≠ (m.rd (STEP_NUM p)).truncate 32 then m.raiseStepBlock p 0x0B27
    else m.keepVote p j v.hops.toNat { kind := v.kind.toNat, phase := v.phase.toNat, group := v.group.toNat, origin := v.origin.toNat, refr := v.refr, count := v.count.toNat, flags := v.flags } := by
  have hpass : ¬ (v.kind.toNat = 0 ∨ 3 < v.kind.toNat ∨ v.phase.toNat ≠ j / 2 ∨ m.jobRuns p = false) := by
    rintro (hzero | hbig | hother | hidle)
    · omega
    · omega
    · exact hother hphase
    · exact Bool.false_ne_true (hidle.symm.trans hjob)
  rw [takeVote, hslot, htag]
  exact if_neg hpass

end
end

/-! ## A TIME block (R254, R256, R413) -/

/-- The module once it has taken depth and master from a TIME word of its source. -/
def sourced (m : Mod) (w : TimeWord) : Mod := { m.setF BCN_STATUS 8 5 (min (w.depth.toNat + 1) 31) with master := w.master, badTimes := 0 }

section
variable {m : Mod} {j : Nat} {w : TimeWord}

theorem status_ne_portCount (j : Nat) : BCN_STATUS ≠ JC_CNT j 10 := by
  simp only [BCN_STATUS, JC_CNT, bcnReg, portReg]
  omega
theorem portDelay_ne_status (j : Nat) : BCN_PORT_DELAY j ≠ BCN_STATUS := by
  simp only [BCN_STATUS, BCN_PORT_DELAY, bcnReg]
  omega
theorem badTimes_addCnt (m : Mod) (a n : Nat) : (m.addCnt a n).badTimes = m.badTimes := rfl
theorem srcActive_portCount (m : Mod) (j : Nat) : (m.addCnt (JC_CNT j 10) 1).srcActive = m.srcActive := fld_addCnt_other m _ _ _ (status_ne_portCount j)
theorem bcnState_portCount (m : Mod) (j : Nat) : (m.addCnt (JC_CNT j 10) 1).bcnState = m.bcnState := bcnState_addCnt m _ (status_ne_portCount j)

section
variable (hbad : w.ok = false)
include hbad

theorem takeTime_bad_elsewhere (hsource : m.bcnSource = 0 ∨ m.srcActive ≠ j) : m.takeTime j w = m.addCnt (JC_CNT j 10) 1 := by
  rw [takeTime, hbad]
  refine (if_pos rfl).trans (if_pos ?_)
  rw [srcActive_portCount]
  rcases hsource with h | h <;> simp [h]

/-- From the source of a LOCKED follower sixteen in a row are HOLDOVER (R256). -/
theorem takeTime_bad_source (hsource : m.bcnSource ≠ 0) (hactive : m.srcActive = j) (hstate : m.bcnState = 3) :
    m.takeTime j w = if 15 ≤ m.badTimes then (m.addCnt (JC_CNT j 10) 1).enterHoldover else { m.addCnt (JC_CNT j 10) 1 with badTimes := m.badTimes + 1 } := by
  have hfollows : (!(decide (m.bcnSource ≠ 0) && decide (2 ≤ m.bcnState)) || decide ((m.addCnt (JC_CNT j 10) 1).srcActive ≠ j)) ≠ true := by
    rw [srcActive_portCount]
    simp [hsource, hstate, hactive]
  have hlocked : (m.addCnt (JC_CNT j 10) 1).bcnState = 3 := (bcnState_portCount m j).trans hstate
  rw [takeTime, hbad]
  simp only [Bool.not_false, if_true, if_neg hfollows, hlocked, true_and]
  rw [badTimes_addCnt]

end

/-- In ALIGNING the calibrated source loads its count with the whole bt of the port's delay (R254). -/
theorem takeTime_loads (hok : w.ok = true) (hsource : m.bcnSource ≠ 0) (hactive : m.srcActive = j) (hstate : m.bcnState = 2) (hcal : m.calDone.contains j = true) :
    m.takeTime j w = ((m.sourced w).setF BCN_STATUS 32 16 w.resid.toNat).loadCount (w.count + BitVec.ofNat 64 (m.fld (BCN_PORT_DELAY j) 0 32 / 64)) := by
  have haligning : (m.sourced w).bcnState = 2 := (bcnState_setF m _ _ (by decide)).trans hstate
  have hdelay : (m.sourced w).fld (BCN_PORT_DELAY j) 0 32 = m.fld (BCN_PORT_DELAY j) 0 32 := fld_setF_other m _ _ _ _ _ (portDelay_ne_status j)
  have hplace : ¬ (m.bcnState = 4 ∧ j = m.altPort) := fun h => absurd (hstate.symm.trans h.1) (by decide)
  rw [takeTime, hok, if_neg hplace]
  refine (if_neg (by decide)).trans ((if_neg (by simp [hsource, hstate])).trans ((if_neg (not_not_intro hactive)).trans ((if_pos haligning).trans ((if_pos hcal).trans ?_))))
  rw [← hdelay]
  rfl

end
end Mod

/-! ## The blocks of a port that has trained -/

section
variable {s : State} {j : Nat} (hup : s.m.mainUp = true) (hj : j < 6)
include hup hj

theorem does_onPort {c : Instr} {f : Mod → Mod} {n : Mod} (hc : exec c s = onPort s j f) (hn : f s.m = n) : Does c s n :=
  does_of_next (Mod.onPort_next hup hj) hc hn

theorem does_reservedControlBlock {ty : Byte} {ok : Bool} (h : 8 ≤ ty.toNat ∨ ok = false) : Does (.reservedControlBlock j ty ok) s (s.m.addCnt (JC_CNT j 10) 1) :=
  does_onPort (f := fun m => if 8 ≤ ty.toNat ∨ ok = false then m.addCnt (JC_CNT j 10) 1 else m) hup hj rfl (if_pos h)

variable (htrained : s.m.portTrained j = true)
include htrained

/-- A trained port takes a block as its meaning says. -/
theorem does_trained {c : Instr} (f : Mod → Mod) {n : Mod} (hc : exec c s = onPort s j (fun m => if m.portTrained j then f m else m)) (hn : f s.m = n) : Does c s n :=
  does_onPort hup hj hc ((if_pos htrained).trans hn)

theorem does_vote {v : VoteBlock} {n : Mod} (hn : s.m.takeVote j v = n) : Does (.vote j v) s n :=
  does_trained hup hj htrained (fun m => m.takeVote j v) rfl hn
theorem does_time {w : TimeWord} {n : Mod} (hn : s.m.takeTime j w = n) : Does (.time j w) s n :=
  does_trained hup hj htrained (fun m => m.takeTime j w) rfl hn
theorem does_calReq (g : Byte) : Does (.calReq j g) s (s.m.takeCalReq j g) := does_trained hup hj htrained (fun m => m.takeCalReq j g) rfl rfl
theorem does_calRsp (c : CalRsp) : Does (.calRsp j c) s (s.m.takeCalRsp j c) := does_trained hup hj htrained (fun m => m.takeCalRsp j c) rfl rfl

theorem time_loads {w : TimeWord} (hok : w.ok = true) (hsource : s.m.bcnSource ≠ 0) (hactive : s.m.srcActive = j) (hstate : s.m.bcnState = 2)
    (hcal : s.m.calDone.contains j = true) :
    ∃ t, exec (.time j w) s = .next t ∧ t.m.running = true ∧ t.m.countLoaded = true ∧ t.m.count = w.count + BitVec.ofNat 64 (s.m.fld (BCN_PORT_DELAY j) 0 32 / 64) ∧
      t.m.fld BCN_STATUS 8 5 = min (w.depth.toNat + 1) 31 ∧ t.m.master = w.master ∧ t.m.mem = s.m.mem := by
  refine ⟨_, does_time hup hj htrained (Mod.takeTime_loads hok hsource hactive hstate hcal), rfl, rfl, rfl, ?_, rfl, rfl⟩
  calc _ = (s.m.sourced w).fld BCN_STATUS 8 5 := Mod.fld_setF_disjoint _ _ 32 16 _ 8 5 (by decide) (by decide)
    _ = min (w.depth.toNat + 1) 31 % 2 ^ 5 := Mod.fld_setF_same _ _ 8 5 _ (by decide)
    _ = min (w.depth.toNat + 1) 31 := Nat.mod_eq_of_lt (by omega)

end

/-- Settles O45: a vote by the checks it passes, a TIME block by its source and state, the other blocks by their conditions. -/
theorem votesAndTime : Obligations.VotesAndTime := by
  refine fun s j hup hj htrained => ⟨fun v p hslot => ⟨fun htag => ?_, fun htag hkind hphase hjob hstep => ?_, fun w htag hkind hphase hjob hstep hw hfirst hends hforeign => ?_⟩,
    fun w hok hsource hactive hstate hcal => ?_, fun w hbad hsource => ?_, fun w hbad hsource hactive hstate => ?_, fun g => ?_, fun c => ?_, fun ty ok h => ?_, combineFlags_comm⟩
  · exact does_vote hup hj htrained (Mod.takeVote_bad_tag hslot htag)
  · exact does_vote hup hj htrained ((Mod.takeVote_checked hslot htag (.inr hkind) hphase hjob).trans (if_pos ⟨by omega, hstep⟩))
  · subst hw
    refine does_vote hup hj htrained ((Mod.takeVote_checked hslot htag hkind hphase hjob).trans ((if_neg ?_).trans (Mod.keepVote_held hends hfirst hforeign)))
    exact fun h => hstep.elim (by omega) h.2
  · exact time_loads hup hj htrained hok hsource hactive hstate hcal
  · exact does_time hup hj htrained (Mod.takeTime_bad_elsewhere hbad hsource)
  · have htaken := Mod.takeTime_bad_source hbad hsource hactive hstate
    exact ⟨fun hlong => does_time hup hj htrained (htaken.trans (if_pos hlong)), fun hshort => does_time hup hj htrained (htaken.trans (if_neg (Nat.not_le.mpr hshort)))⟩
  · exact ⟨_, _, does_calReq hup hj htrained g, rfl, rfl⟩
  · exact does_calRsp hup hj htrained c
  · exact does_reservedControlBlock hup hj h

end Sys2Proof.Machine
end

section
/-! PROOF. Buoy homes (R274 to R286): what an evaluation leaves, the operations by the source that they come from, waits, watches and subscriptions, the loss of an owner and its return. -/

open Sys2Proof.Safety

namespace Sys2Proof.Machine

/-! ## What a home sends (R280, R283, R284) -/

/-- `n` has the buoys and the memory of `m`: releases, watch messages and gate messages change neither. -/
structure Mod.SameHomes (m n : Mod) : Prop where
  buoy : ∀ k, n.buoy k = m.buoy k
  mem : n.mem = m.mem

namespace Mod.SameHomes
section
variable {m n : Mod} {b status : Nat}

theorem refl (m : Mod) : SameHomes m m := ⟨fun _ => rfl, rfl⟩
theorem sendRelease {w : Waiter} {x : Release} (h : SameHomes m n) : SameHomes m (n.sendRelease w x) := by
  cases w <;> exact ⟨h.buoy, h.mem⟩
theorem sendOut {o : Out} (h : SameHomes m n) : SameHomes m (n.sendOut o) := by
  cases o with
  | msix v =>
    unfold Mod.sendOut
    dsimp only
    split <;> exact ⟨h.buoy, h.mem⟩
  | _ => exact ⟨h.buoy, h.mem⟩
theorem answerWatch {w : Watch} {msg : List Byte} (h : SameHomes m n) : SameHomes m (n.answerWatch b w msg) := by
  unfold Mod.answerWatch
  split
  · split <;> exact ⟨h.buoy, h.mem⟩
  · exact h
theorem sendWatch {w : Watch} {v : W32} (h : SameHomes m n) : SameHomes m (n.sendWatch b w status v) := by
  unfold Mod.sendWatch
  dsimp only
  split
  · exact h.sendOut.answerWatch
  · exact h.sendOut
theorem sendGates {subs v : W32} (h : SameHomes m n) : SameHomes m (n.sendGates b subs status v) :=
  forEach_keeps _ _ (fun _ _ _ hk => hk.sendOut) _ h
theorem releases {l : List WaitEntry} {x : Release} (h : SameHomes m n) : SameHomes m (l.foldl (fun m w => m.sendRelease w.who x) n) :=
  foldl_keeps _ _ (fun _ _ _ hk => hk.sendRelease) _ h
theorem watches {l : List Watch} {v : W32} (h : SameHomes m n) : SameHomes m (l.foldl (fun m w => m.sendWatch b w status v) n) :=
  foldl_keeps _ _ (fun _ _ _ hk => hk.sendWatch) _ h

end
end Mod.SameHomes

/-! ## The buoy that an evaluation, a write, a break, a save and a return leave (R274, R275, R281, R285, R286) -/

/-- A buoy once everything at it is evaluated: who meets the value has left. -/
def Buoy.evaluated (x : Buoy) : Buoy :=
  { x with
    waiters := x.waiters.filter (fun w => !condHolds w.cond x.value w.value w.mask)
    watches := x.watches.filter (fun w => !condHolds w.cond x.value w.value w.mask)
    subs := if x.value ≠ 0 then 0 else x.subs }

/-- A buoy once its owner is lost. -/
def Buoy.lost (x : Buoy) : Buoy := { x with st := .broken, waiters := [], watches := [], subs := 0, savedWaiters := [], away := false }

/-- A buoy as its saved context brings it back. -/
def Buoy.returned (x : Buoy) : Buoy :=
  { x with st := .live, value := x.savedValue, waiters := x.savedWaiters ++ x.waiters, savedWaiters := [], savedValue := 0, away := false }

namespace Mod
section
variable (m : Mod) (b : Nat)

theorem sameHomes_evalBuoy : SameHomes (m.setBuoy b (m.buoy b).evaluated) (m.evalBuoy b) := (SameHomes.refl _).releases.watches.sendGates
theorem sameHomes_breakBuoy : SameHomes (m.setBuoy b (m.buoy b).lost) (m.breakBuoy b) := (SameHomes.refl _).releases.watches.sendGates

theorem buoy_setBuoy_other {k : Nat} (x : Buoy) (h : k ≠ b) : (m.setBuoy b x).buoy k = m.buoy k := (buoy_setBuoy _ _ _ _).trans (if_neg h)

/-- Writing a buoy and evaluating it leaves it evaluated. -/
theorem buoy_evalBuoy_setBuoy (x : Buoy) : ((m.setBuoy b x).evalBuoy b).buoy b = x.evaluated := by
  rw [(sameHomes_evalBuoy _ b).buoy, buoy_setBuoy_same, buoy_setBuoy_same]

theorem buoy_buoyWrite_same (v src : W32) :
    (m.buoyWrite b v src).buoy b = Buoy.evaluated { m.buoy b with value := v, lastSrc := src, lastTime := m.count } := buoy_evalBuoy_setBuoy m b _
theorem buoy_buoyWrite_other {k : Nat} (v src : W32) (h : k ≠ b) : (m.buoyWrite b v src).buoy k = m.buoy k := by
  rw [buoyWrite, (sameHomes_evalBuoy _ b).buoy, buoy_setBuoy_other _ _ _ h, buoy_setBuoy_other _ _ _ h]
theorem mem_buoyWrite (v src : W32) : (m.buoyWrite b v src).mem = m.mem := (sameHomes_evalBuoy _ b).mem

theorem value_buoyAddOp (x src : W32) : ((m.buoyAddOp b x src).buoy b).value = (m.buoy b).value + x := congrArg Buoy.value (buoy_buoyWrite_same m b _ src)
theorem value_buoySetOp (x src : W32) : ((m.buoySetOp b x src).buoy b).value = x := congrArg Buoy.value (buoy_buoyWrite_same m b x src)
theorem waiters_buoySetOp (x src : W32) : ((m.buoySetOp b x src).buoy b).waiters = (m.buoy b).waiters.filter (fun w => !condHolds w.cond x w.value w.mask) :=
  congrArg Buoy.waiters (buoy_buoyWrite_same m b x src)

theorem buoyCasOp_equal {c : W32} (x src : W32) (h : (m.buoy b).value = c) : m.buoyCasOp b c x src = m.buoySetOp b x src := if_pos h
theorem buoyCasOp_unequal {c : W32} (x src : W32) (h : (m.buoy b).value ≠ c) : m.buoyCasOp b c x src = m := if_neg h
theorem value_buoyCasOp (c x src : W32) : ((m.buoyCasOp b c x src).buoy b).value = if (m.buoy b).value = c then x else (m.buoy b).value := by
  split
  · next h => rw [buoyCasOp_equal m b x src h, value_buoySetOp]
  · next h => rw [buoyCasOp_unequal m b x src h]

theorem buoy_breakBuoy_same : (m.breakBuoy b).buoy b = (m.buoy b).lost := by rw [(sameHomes_breakBuoy m b).buoy, buoy_setBuoy_same]
theorem buoy_breakBuoy_other {k : Nat} (h : k ≠ b) : (m.breakBuoy b).buoy k = m.buoy k := by
  rw [(sameHomes_breakBuoy m b).buoy, buoy_setBuoy_other _ _ _ h]
theorem buoy_restoreBuoy : (m.restoreBuoy b).buoy b = (m.buoy b).returned.evaluated := buoy_evalBuoy_setBuoy m b _
theorem buoy_preemptBuoy : (m.preemptBuoy b).buoy b =
    { m.buoy b with
      st := .saved
      savedValue := (m.buoy b).value
      savedWaiters := (m.buoy b).waiters.filter (m.waiterOf (m.buoy b).owner (m.slotOfBuoy b))
      waiters := (m.buoy b).waiters.filter (fun w => !m.waiterOf (m.buoy b).owner (m.slotOfBuoy b) w) } := buoy_setBuoy_same _ _ _

end

end Mod

/-- Settles O30: the waiters that stay are those whose condition the value does not meet. -/
theorem waitConditions : Obligations.WaitConditions := by
  intro m b v src e he
  have hstays : e ∈ ((m.buoySetOp b v src).buoy b).waiters ↔ condHolds e.cond v e.value e.mask = false := by
    rw [Mod.waiters_buoySetOp, List.mem_filter, Bool.not_eq_true']
    exact and_iff_right he
  refine ⟨fun h => ?_, fun h => ?_, fun h => ?_, fun h => ?_⟩ <;> rw [hstays, h] <;> exact decide_eq_false_iff_not

/-- Settles O32: the buoys that a break, a save and a return leave. -/
theorem buoyBreakAndRestore : Obligations.BuoyBreakAndRestore := by
  intro m b
  have hback : ((m.preemptBuoy b).restoreBuoy b).buoy b = ((m.preemptBuoy b).buoy b).returned.evaluated := Mod.buoy_restoreBuoy _ b
  rw [Mod.buoy_breakBuoy_same, hback, Mod.buoy_preemptBuoy]
  refine ⟨rfl, rfl, rfl, rfl, fun k hk => Mod.buoy_breakBuoy_other m b hk, rfl, rfl, rfl, fun e => ?_⟩
  refine List.mem_filter.trans ?_
  rw [Bool.not_eq_true']
  exact and_congr_left' (List.filter_append_perm _ _).mem_iff

end Sys2Proof.Machine
end

section
/-! PROOF. The four operations on a buoy by the source that they come from (R275 to R278): who may do what, and what the home answers. -/

open Sys2Proof.Safety

namespace Sys2Proof.Machine
namespace Mod

/-! ## An add or a set that arrives (R276, R278) -/

section
variable {m : Mod} {b : Nat} {x : W32} {isSet : Bool}

/-- The module once the answer to source `src` is that its operation was done. -/
def homeDone (m : Mod) (src : Source) (b : Nat) (isSet : Bool) (x : W32) : Mod := (m.buoyApply b isSet x (Source.id src)).answer 0

section
variable {who : Requester} (hopen : m.shut who (m.slotOfBuoy b) = false)
include hopen

theorem buoyOpWrite_open : m.buoyOpWrite who b isSet x =
    if !m.buoyLive b then (0x0806, m) else (0, m.buoyApply b isSet x (Source.id (Requester.source who))) := by
  rw [buoyOpWrite, hopen]
  rfl
theorem buoyOp_live (hlive : m.buoyLive b = true) : m.buoyOp who b isSet x = m.homeDone (Requester.source who) b isSet x :=
  commit_done (buoyOpWrite_open hopen |>.trans (if_neg (by rw [hlive]; decide)))
theorem buoyOp_refused (hdead : m.buoyLive b = false) (hwho : who ≠ .host) : m.buoyOp who b isSet x = m.answer 0x0806 :=
  commit_refused (buoyOpWrite_open hopen |>.trans (if_pos (by rw [hdead]; rfl))) (by decide) hwho

end

/-- A plane reaches only the buoys of its own partition. -/
theorem buoyArrive_plane_refused {k : Nat} (h : m.slotOfBuoy b ≠ m.slotOfStack k) : m.buoyArrive (.plane k) b isSet x = m.answer 0x0804 := if_pos (.inr h)

section
variable (hlive : m.buoyLive b = true)
include hlive

theorem buoyArrive_keeper : m.buoyArrive .keeper b isSet x = m.homeDone .keeper b isSet x := if_pos hlive
theorem buoyArrive_gallery {c : Nat} (hopen : m.shut .gallery (m.slotOfBuoy b) = false) :
    m.buoyArrive (.gallery c) b isSet x = m.homeDone (.gallery c) b isSet x := by
  rw [buoyArrive, hopen]
  exact if_pos hlive
theorem buoyArrive_plane {k : Nat} (howned : m.slotOfStack k ≠ none) (hslot : m.slotOfBuoy b = m.slotOfStack k) :
    m.buoyArrive (.plane k) b isSet x = m.homeDone (.plane k) b isSet x :=
  (if_neg (not_or.mpr ⟨howned, fun h => h hslot⟩)).trans (if_pos hlive)
theorem buoyArrive_jicen {n : Nat} (hreach : m.jicenReaches b = true) : m.buoyArrive (.jicen n) b isSet x = m.homeDone (.jicen n) b isSet x := by
  rw [buoyArrive, hreach]
  exact if_pos hlive

/-- The oldest signal that a tile has sent and that no home has refused. -/
theorem buoyArrive_thread {t : Nat} {o : SentOp} {r : List SentOp} (hsent : (m.tile t).sent = o :: r) (hnew : o.refused = false) (hb : o.b = b) (hset : o.isSet = isSet) :
    m.buoyArrive (.thread t o.th) b isSet o.x = (m.modTile t fun y => { y with sent := y.sent.erase o }).buoyApply b isSet o.x (Source.id (.thread t o.th)) := by
  have hfind : (m.tile t).sent.find? (fun p => decide (p.th = o.th ∧ p.b = b ∧ p.isSet = isSet ∧ p.x = o.x) && !p.refused) = some o := by
    rw [hsent]
    exact List.find?_cons_of_pos (by simp [hnew, hb, hset])
  rw [buoyArrive, hfind]
  exact if_pos hlive
theorem buoyArrive_done {t : Nat} (hflight : (m.tile t).doneFlight = true) (hb : m.doneBuoy t = b) :
    m.buoyArrive (.done t) b false 1 = (m.modTile t fun y => { y with doneFlight := false }).buoyApply b false 1 (Source.id (.done t)) :=
  (if_pos ⟨hflight, hb, rfl, rfl⟩).trans (if_pos hlive)
/-- The signal of a ring's oldest entry, which has its answer then (R302). -/
theorem buoyArrive_ring {r : Nat} {e : RingEntry} {q : List RingEntry} (hprog : (m.ringOf r).prog = e :: q) (hsent : e.signalled = true) (hwaits : e.answered = false)
    (hb : num e.image 6 2 % 8192 = b) (hset : isSet = decide (num e.image 6 2 / 8192 % 4 = 1)) (hx : num e.image 0x10 4 = x.toNat) :
    m.buoyArrive (.ring r) b isSet x =
      (m.setRing r { m.ringOf r with prog := { e with answered := true, refusedSig := false } :: q }).buoyApply b isSet x (Source.id (.ring r)) := by
  simp only [buoyArrive, ringSignal, hprog, hlive, Bool.not_true]
  exact (if_pos ⟨hsent, Bool.eq_false_iff.mp hwaits, hb, hset.symm, hx⟩).trans (if_pos hlive)

end
end

/-! ## A compare-and-set or a read that arrives (R275 to R277) -/

theorem remoteWaits_of_waitOn {m : Mod} {t th b d : Nat} {cas : Option (W32 × W32)} (hwait : (m.thread t th).st = .wait) (hnone : (m.thread t th).release = .none)
    (hon : (m.thread t th).waitOn = .remote b d cas) : m.remoteWaits t th b cas = true := by
  simp [remoteWaits, hwait, hnone, hon]

theorem release_sendRelease_thread (m : Mod) (t th : Nat) (x : Release) : ((m.sendRelease (.thread t th) x).thread t th).release = x :=
  congrArg Thread.release (thread_modThread_same m t th _)

section
variable {m : Mod} {b : Nat} (hlive : m.buoyLive b = true)
include hlive

theorem buoyAsk_jicen {n : Nat} (c x : W32) (hreach : m.jicenReaches b = true) :
    m.buoyAsk (.jicen n) b (some (c, x)) = (m.buoyCasOp b c x (Source.id (.jicen n))).answerValue ((m.buoy b).value.zeroExtend 64) := by
  simp only [buoyAsk, hreach, hlive]
  rfl

section
variable {t th d : Nat} (hwait : (m.thread t th).st = .wait) (hnone : (m.thread t th).release = .none)
include hwait hnone

theorem buoyAsk_thread_cas {c x : W32} (hon : (m.thread t th).waitOn = .remote b d (some (c, x))) :
    m.buoyAsk (.thread t th) b (some (c, x)) = (m.buoyCasOp b c x (Source.id (.thread t th))).sendRelease (.thread t th) (.reply (m.buoy b).value) :=
  (if_pos (remoteWaits_of_waitOn hwait hnone hon)).trans (if_pos hlive)
theorem buoyAsk_thread_read (hon : (m.thread t th).waitOn = .remote b d none) :
    m.buoyAsk (.thread t th) b none = m.sendRelease (.thread t th) (.reply (m.buoy b).value) :=
  (if_pos (remoteWaits_of_waitOn hwait hnone hon)).trans (if_pos hlive)

end
end
end Mod

/-! ## The commands -/

section
variable {s : State} {b : Nat} (hup : s.m.mainUp = true) (hb : b < 8192)
include hup hb

theorem does_onBuoy {c : Instr} {f : Mod → Mod} {n : Mod} (hc : exec c s = onBuoy s b f) (hn : f s.m = n) : Does c s n :=
  does_of_next (Mod.onBuoy_next hup hb) hc hn

section
variable {n : Mod} {src : Source} {x : W32}

theorem does_buoyAdd (hn : s.m.buoyArrive src b false x = n) : Does (.buoyAdd src b x) s n := does_onBuoy (f := fun m => m.buoyArrive src b false x) hup hb rfl hn
theorem does_buoySet (hn : s.m.buoyArrive src b true x = n) : Does (.buoySet src b x) s n := does_onBuoy (f := fun m => m.buoyArrive src b true x) hup hb rfl hn
theorem does_buoyCas {c : W32} (hn : s.m.buoyAsk src b (some (c, x)) = n) : Does (.buoyCas src b c x) s n := does_onBuoy (f := fun m => m.buoyAsk src b (some (c, x))) hup hb rfl hn
theorem does_buoyRead (hn : s.m.buoyAsk src b none = n) : Does (.buoyRead src b) s n := does_onBuoy (f := fun m => m.buoyAsk src b none) hup hb rfl hn

end

/-- A source whose adds and sets the home does and answers. -/
theorem does_buoyAdd_and_buoySet {src : Source} {x : W32} (h : ∀ isSet, s.m.buoyArrive src b isSet x = s.m.homeDone src b isSet x) :
    Does (.buoyAdd src b x) s ((s.m.buoyAddOp b x (Source.id src)).answer 0) ∧ Does (.buoySet src b x) s ((s.m.buoySetOp b x (Source.id src)).answer 0) :=
  ⟨does_buoyAdd hup hb (h false), does_buoySet hup hb (h true)⟩

theorem does_buoyOpAdd {who : Requester} {x : W32} {n : Mod} (hn : s.m.buoyOp who b false x = n) : Does (.buoyOpAdd who b x) s n := does_onBuoy (f := fun m => m.buoyOp who b false x) hup hb rfl hn
theorem does_buoyOpSet {who : Requester} {x : W32} {n : Mod} (hn : s.m.buoyOp who b true x = n) : Does (.buoyOpSet who b x) s n := does_onBuoy (f := fun m => m.buoyOp who b true x) hup hb rfl hn

end

/-- Settles O28: an operation by the buoy that the write leaves, a source by what reaches its home. -/
theorem buoyOperations : Obligations.BuoyOperations := by
  refine ⟨fun m b x src => ⟨?_, fun c h => Mod.buoyCasOp_unequal m b x src h, fun c h => Mod.buoyCasOp_equal m b x src h⟩, fun s b hup hb => ⟨fun hlive x => ⟨?_, ?_⟩, fun hdead x who hopen hwho => ?_, ?_⟩⟩
  · intro n v h
    obtain rfl : n = m.buoyWrite b v src := by rcases h with ⟨rfl, rfl⟩ | ⟨rfl, rfl⟩ <;> rfl
    rw [Mod.buoy_buoyWrite_same]
    exact ⟨rfl, rfl, rfl, rfl, rfl, rfl, fun k hk => Mod.buoy_buoyWrite_other m b v src hk, Mod.mem_buoyWrite m b v src⟩
  · exact fun who hopen => ⟨does_buoyOpAdd hup hb (Mod.buoyOp_live hopen hlive), does_buoyOpSet hup hb (Mod.buoyOp_live hopen hlive)⟩
  · obtain ⟨hadd, hset⟩ := does_buoyAdd_and_buoySet hup hb (x := x) fun _ => Mod.buoyArrive_keeper hlive
    refine ⟨hadd, hset, fun src h => does_buoyAdd_and_buoySet hup hb fun isSet => ?_, fun n c hreach => does_buoyCas hup hb (Mod.buoyAsk_jicen hlive c x hreach), ?_, ?_, ?_, ?_⟩
    · rcases h with ⟨c, rfl, hopen⟩ | ⟨k, rfl, howned, hslot⟩ | ⟨n, rfl, hreach⟩
      · exact Mod.buoyArrive_gallery hlive hopen
      · exact Mod.buoyArrive_plane hlive howned hslot
      · exact Mod.buoyArrive_jicen hlive hreach
    · rintro t th o r n hsent hnew rfl ho rfl
      exact ⟨fun hset => does_buoyAdd hup hb (Mod.buoyArrive_thread hlive hsent hnew ho hset), fun hset => does_buoySet hup hb (Mod.buoyArrive_thread hlive hsent hnew ho hset)⟩
    · exact fun t hflight ht => does_buoyAdd hup hb (Mod.buoyArrive_done hlive hflight ht)
    · intro r e q isSet hprog hsent hwaits he hset hx
      exact ⟨_, rfl, fun h => does_buoyAdd hup hb (Mod.buoyArrive_ring hlive hprog hsent hwaits he (h.symm.trans hset) hx),
        fun h => does_buoySet hup hb (Mod.buoyArrive_ring hlive hprog hsent hwaits he (h.symm.trans hset) hx)⟩
    · exact fun t th d c hwait hnone => ⟨fun hon => does_buoyCas hup hb (Mod.buoyAsk_thread_cas hlive hwait hnone hon), fun hon => does_buoyRead hup hb (Mod.buoyAsk_thread_read hlive hwait hnone hon)⟩
  · exact ⟨does_buoyOpAdd hup hb (Mod.buoyOp_refused hopen hdead hwho), does_buoyOpSet hup hb (Mod.buoyOp_refused hopen hdead hwho)⟩
  · intro x c k
    exact ⟨fun hslot => ⟨does_buoyAdd hup hb (Mod.buoyArrive_plane_refused hslot), does_buoySet hup hb (Mod.buoyArrive_plane_refused hslot)⟩,
      does_buoyCas hup hb rfl, does_buoyRead hup hb rfl, does_buoyCas hup hb rfl, does_buoyRead hup hb rfl⟩

/-- Settles O29: the value that each operation leaves, and the reply that the issuing thread gets. -/
theorem buoyArithmetic : Obligations.BuoyArithmetic := by
  intro s b t th d x c v hup hb hlive hv
  subst hv
  refine ⟨⟨_, does_buoyAdd hup hb (Mod.buoyArrive_keeper hlive), ?_⟩, ⟨_, does_buoySet hup hb (Mod.buoyArrive_keeper hlive), Mod.value_buoySetOp s.m b x _⟩, fun _ _ hwait hnone => ⟨fun hon => ?_, fun hon => ?_⟩⟩
  · exact (congrArg BitVec.toNat (Mod.value_buoyAddOp s.m b x _)).trans (BitVec.toNat_add _ _)
  · refine ⟨_, does_buoyCas hup hb (Mod.buoyAsk_thread_cas hlive hwait hnone hon), ?_, Mod.release_sendRelease_thread _ _ _ _⟩
    exact (congrArg Buoy.value (Mod.buoy_sendRelease _ _ _ b)).trans (Mod.value_buoyCasOp s.m b c x _)
  · exact ⟨_, does_buoyRead hup hb (Mod.buoyAsk_thread_read hlive hwait hnone hon), Mod.release_sendRelease_thread _ _ _ _, Mod.buoy_sendRelease _ _ _, rfl, rfl⟩

end Sys2Proof.Machine
end

section
/-! PROOF. Waits, watches, gate subscriptions and the loss of an owner (R278 to R286): what the home does with each, by its state and its value. -/

open Sys2Proof.Safety

namespace Sys2Proof.Machine
namespace Mod

/-! ## Waits (R278, R280) -/

section
variable {m : Mod} {b : Nat} {e : WaitEntry}

/-- A wait that is sent names its own waiter. -/
theorem who_of_waitSent {w : Waiter} (h : m.waitSent w b = some e) : e.who = w := by
  cases w with
  | thread t th =>
    simp only [waitSent] at h
    split at h
    · obtain ⟨-, he⟩ := Option.ite_none_right_eq_some.mp h
      exact (congrArg WaitEntry.who (Option.some.inj he)).symm
    · exact absurd h (Option.some_ne_none e).symm
  | ringHead r =>
    obtain ⟨-, he⟩ := Option.ite_none_right_eq_some.mp h
    exact (congrArg WaitEntry.who (Option.some.inj he)).symm

theorem waitArrive_live (hst : (m.buoy b).st = .live) : m.waitArrive e b =
    if condHolds e.cond (m.buoy b).value e.value e.mask then m.sendRelease e.who .met
    else m.setBuoy b { m.buoy b with waiters := (m.buoy b).waiters ++ [e] } := by
  simp only [waitArrive, hst]
theorem waitArrive_broken_thread {t th : Nat} (hst : (m.buoy b).st = .broken) (hwho : e.who = .thread t th) :
    m.waitArrive e b = m.sendRelease (.thread t th) .broken := by
  simp only [waitArrive, hst, hwho]
theorem waitArrive_broken_ringHead {r : Nat} (hst : (m.buoy b).st = .broken) (hwho : e.who = .ringHead r) :
    m.waitArrive e b = m.sendRelease (.ringHead r) .refused := by
  simp only [waitArrive, hst, hwho]
theorem waitArrive_free_or_saved (hst : (m.buoy b).st = .free ∨ (m.buoy b).st = .saved) : m.waitArrive e b = m.sendRelease e.who .refused := by
  rcases hst with hst | hst <;> simp only [waitArrive, hst]

end

/-! ## Watches and subscriptions (R282 to R284) -/

section
variable {m : Mod} {b : Nat}

/-- A legal registration at a LIVE buoy is answered at once, is listed, or finds the list full. -/
theorem registerWatch_live {who : Requester} {w : Watch} (hopen : m.shut who (m.slotOfBuoy b) = false) (hcond : w.cond.toNat < 4) (htarget : targetOk w.target = true)
    (hst : (m.buoy b).st = .live) : m.registerWatch who b w =
      if condHolds w.cond (m.buoy b).value w.value w.mask then (0, m.sendWatch b w 0 (m.buoy b).value)
      else if 4 ≤ (m.buoy b).watches.length then (0x080A, m)
      else (0, m.setBuoy b { m.buoy b with watches := (m.buoy b).watches ++ [w] }) := by
  have hform : ¬ (4 ≤ w.cond.toNat ∨ targetOk w.target = false) := by
    rw [htarget]
    exact not_or.mpr ⟨Nat.not_le.mpr hcond, Bool.noConfusion⟩
  simp only [registerWatch, hopen, Bool.false_and, Bool.false_eq_true, if_false, if_neg hform, hst, ne_eq, not_true]

theorem endWatch_at {n status : Nat} {w : Watch} (hw : (m.buoy b).watches[n]? = some w) :
    m.endWatch b n status = (m.setBuoy b { m.buoy b with watches := (m.buoy b).watches.eraseIdx n }).sendWatch b w status 0 := by
  simp only [endWatch, hw]

theorem subscribe_live {k : Nat} (hst : (m.buoy b).st = .live) : m.subscribe k b =
    if (m.buoy b).value ≠ 0 then m.sendGates b (BitVec.ofNat 32 (2 ^ k)) 0 (m.buoy b).value
    else m.setBuoy b { m.buoy b with subs := (m.buoy b).subs ||| BitVec.ofNat 32 (2 ^ k) } := by
  simp only [subscribe, hst]

end
end Mod

/-! ## The commands -/

section
variable {s : State} {b : Nat} {n : Mod} (hup : s.m.mainUp = true) (hb : b < 8192)
include hup

theorem does_onStack {c : Instr} {k : Nat} {f : Mod → Mod} (hk : k < 32) (hc : exec c s = onStack s k f) (hn : f s.m = n) : Does c s n :=
  does_of_next (Mod.onStack_next hup hk) hc hn

/-- A plane that has a shard gated by the buoy and has not subscribed asks the home. -/
theorem does_gateSubscribe {k : Nat} (hk : k < 32) (hgated : s.m.gatedShards k b ≠ []) (hnew : bit (s.m.buoy b).subs k = false) (hn : s.m.subscribe k b = n) :
    Does (.gateSubscribe k b) s n :=
  does_onStack (f := fun m => if (m.gatedShards k b).isEmpty || bit (m.buoy b).subs k then m else m.subscribe k b) hup hk rfl
    ((if_neg (by simp [hgated, hnew])).trans hn)

include hb

theorem does_buoyWaitRequest {w : Waiter} {e : WaitEntry} (hsent : s.m.waitSent w b = some e) (hn : s.m.waitArrive e b = n) : Does (.buoyWaitRequest w b) s n :=
  does_onBuoy (f := fun m => match m.waitSent w b with
    | some e => m.waitArrive e b
    | none => m) hup hb rfl (by simp only [hsent, hn])

theorem does_watchRegistration {who : Requester} {w : Watch} {c : W16} (hr : s.m.registerWatch who b w = (c, n)) : Does (.watchRegistration who b w) s (n.answer c) :=
  does_onBuoy (f := fun m => let r := m.registerWatch who b w; r.2.answer r.1) hup hb rfl (by simp only [hr])

theorem does_watchTimeout {i : Nat} {w : Watch} (hw : (s.m.buoy b).watches[i]? = some w) (hset : w.deadline ≠ 0) (hpast : w.deadline.toNat ≤ s.m.count.toNat) :
    Does (.watchTimeout b i) s (s.m.endWatch b i 2) :=
  does_onBuoy (f := fun m => match (m.buoy b).watches[i]? with
    | some w => if w.deadline ≠ 0 ∧ w.deadline.toNat ≤ m.count.toNat then m.endWatch b i 2 else m
    | none => m) hup hb rfl (by simp only [hw, if_pos (And.intro hset hpast)])

theorem does_watchCancel {g : Byte} {c : W32} {i : Nat} (hat : s.m.watchAt b g c = some i) : Does (.watchCancel b g c) s (s.m.endWatch b i 3) :=
  does_onBuoy (f := fun m => match m.watchAt b g c with
    | some n => m.endWatch b n 3
    | none => m) hup hb rfl (by simp only [hat])

theorem does_buoyOwnerReset (hst : (s.m.buoy b).st = .live ∨ (s.m.buoy b).st = .saved) : Does (.buoyOwnerReset b) s (s.m.breakBuoy b) :=
  does_onBuoy (f := fun m => match (m.buoy b).st with
    | .live => m.breakBuoy b
    | .saved => m.breakBuoy b
    | _ => m) hup hb rfl (by rcases hst with hst | hst <;> simp only [hst])

theorem does_buoyPreempt (hst : (s.m.buoy b).st = .live) : Does (.buoyPreempt b) s (s.m.preemptBuoy b) :=
  does_onBuoy (f := fun m => if m.buoyLive b then m.preemptBuoy b else m) hup hb rfl (if_pos (decide_eq_true hst))

end

/-- Settles O31: each request by the state of the home and by whether the value meets its condition. -/
theorem buoyWaits : Obligations.BuoyWaits := by
  refine fun s b hup hb => ⟨fun w e hsent => ?_, fun who w hopen hcond htarget hst => ?_, fun n w hw hset hpast => ?_, fun g c n => does_watchCancel hup hb,
    fun k hk hst hgated hnew => ?_, does_buoyOwnerReset hup hb, does_buoyPreempt hup hb⟩
  · have hwho := Mod.who_of_waitSent hsent
    refine ⟨fun hst hmet => ?_, fun hst hunmet => ?_, fun t th hw hst => ?_, fun r hw hst => ?_, fun hst => ?_⟩ <;> refine does_buoyWaitRequest hup hb hsent ?_
    · exact (Mod.waitArrive_live hst).trans (if_pos hmet)
    · exact (Mod.waitArrive_live hst).trans (if_neg (Bool.eq_false_iff.mp hunmet))
    · exact hw ▸ Mod.waitArrive_broken_thread hst (hwho.trans hw)
    · exact hw ▸ Mod.waitArrive_broken_ringHead hst (hwho.trans hw)
    · exact hwho ▸ Mod.waitArrive_free_or_saved hst
  · have hlive := Mod.registerWatch_live hopen hcond htarget hst
    refine ⟨fun hmet => ?_, fun hunmet hroom => ?_, fun hunmet hfull => ?_⟩ <;> refine does_watchRegistration hup hb (hlive.trans ?_)
    · exact if_pos hmet
    · rw [hunmet, if_neg Bool.false_ne_true, if_neg (Nat.not_le.mpr hroom)]
    · rw [hunmet, if_neg Bool.false_ne_true, if_pos hfull]
  · exact Mod.endWatch_at hw ▸ does_watchTimeout hup hb hw hset hpast
  · have hlive := Mod.subscribe_live (k := k) hst
    exact ⟨fun hvalue => does_gateSubscribe hup hk hgated hnew (hlive.trans (if_pos hvalue)),
      fun hzero => does_gateSubscribe hup hk hgated hnew (hlive.trans (if_neg (not_not.mpr hzero)))⟩

end Sys2Proof.Machine
end

section
/-! PROOF. Control of a ring (R294 to R298): its enable by the checks of R295 and R431, its disable, and its doorbells by the room that the pointers leave. -/

open Sys2Proof.Safety

namespace Sys2Proof.Machine
namespace Mod

/-! ## The registers of a ring (R294) -/

section
variable {m : Mod} {r : Nat}

theorem ringReg_ne {r a b : Nat} (h : a ≠ b) : ringReg r a ≠ ringReg r b := by
  simp only [ringReg]
  omega

theorem ringState_setRingTail (v : Nat) : (m.setRingTail r v).ringState r = m.ringState r := fld_setF_other m 32 32 v 1 3 (ringReg_ne (by decide))

/-- RING_CTL of a ring: its kind is read-only, and its fields but ENABLE are locked by ENABLE. -/
def ringCtlSpec (r : Nat) : RegSpec := { reset := BitVec.ofNat 64 (ringKind r * 2 ^ 16), rwl := 0xFFFF_FF1F_0F88_0000, rw := 1 }

theorem ringSpec_ctl (r : Nat) : ringSpec r 0 = some (ringCtlSpec r) := if_pos rfl
theorem written_ringCtl {a : Nat} {v : W64} : m.written a (ringCtlSpec r) (BitVec.allOnes 64) v = merge 0xFFFF_FF1F_0F88_0001 (m.rd a) v :=
  written_full (show (1 : W64) ||| 0 ||| 0xFFFF_FF1F_0F88_0000 ||| 0 ||| 0 = 0xFFFF_FF1F_0F88_0001 by decide) rfl rfl

end

/-! ## Writes of RING_CTL (R294 to R296) -/

section
variable {m : Mod} {r : Nat} {w : W64}

/-- The module once an enable with the word `w` is accepted: the ring is empty and IDLE. -/
def ringOpened (m : Mod) (r : Nat) (w : W64) : Mod := (((m.wr (RING_CTL r) w).wr (RING_PTR r) 0).setRingState r 1).setRing r {}

/-- The module once an enable with the word `w` is refused with a code: the other fields are written. -/
def ringKeptOff (m : Mod) (r : Nat) (w : W64) (c : W16) : Mod := (m.wr (RING_CTL r) (setBit w 0 false)).ringCode r c

/-- An enable by its two checks: the descriptor's, and the flow's of a FEED ring. -/
theorem writeRingCtl_enable (hoff : m.ringEnabled r = false) (hset : bit w 0 = true) : m.writeRingCtl r w =
    if !(m.wr (RING_CTL r) w).ringEnableOk r then (0x0802, m.ringKeptOff r w 0x0802)
    else if ringKind r = 4 ∧ ¬ (m.wr (RING_CTL r) w).feedEnableOk r then (0x0D02, m.ringKeptOff r w 0x0D02)
    else (0, if ringKind r = 4 then (m.ringOpened r w).setFlowState (ifaceOfRing r) (flowOfRing r) 1 else m.ringOpened r w) := by
  rw [writeRingCtl, if_neg (Bool.eq_false_iff.mp hoff), if_neg (by rw [hset]; decide)]
  rfl
theorem writeRingCtl_disable (hon : m.ringEnabled r = true) (hclear : bit w 0 = false) : m.writeRingCtl r w = (0, m.stopRing r) :=
  (if_pos hon).trans (if_pos hclear)

/-- A write of RING_CTL that would leave the word `w`, by the locks of the slots that it concerns (R308, R468). -/
def ringCtlWrite (m : Mod) (who : Requester) (r : Nat) (w : W64) : W16 × Mod := if m.ringShut who r w then (0x0F01, m) else m.writeRingCtl r w

section
variable (hoff : m.ringEnabled r = false) (hset : bit w 0 = true)
include hoff hset

theorem writeRingCtl_refused (hbad : (m.wr (RING_CTL r) w).ringEnableOk r = false) : m.writeRingCtl r w = (0x0802, m.ringKeptOff r w 0x0802) := by
  rw [writeRingCtl_enable hoff hset, hbad]
  rfl

section
variable (hok : (m.wr (RING_CTL r) w).ringEnableOk r = true)
include hok

theorem writeRingCtl_opens (hkind : ringKind r ≠ 4) : m.writeRingCtl r w = (0, m.ringOpened r w) := by
  rw [writeRingCtl_enable hoff hset, hok, if_neg (by decide), if_neg (fun h => hkind h.1), if_neg hkind]
theorem writeRingCtl_opens_feed (hkind : ringKind r = 4) (hflow : (m.wr (RING_CTL r) w).feedEnableOk r = true) :
    m.writeRingCtl r w = (0, (m.ringOpened r w).setFlowState (ifaceOfRing r) (flowOfRing r) 1) := by
  rw [writeRingCtl_enable hoff hset, hok, if_neg (by decide), if_neg (fun h => h.2 hflow), if_pos hkind]
theorem writeRingCtl_refused_feed (hkind : ringKind r = 4) (hflow : (m.wr (RING_CTL r) w).feedEnableOk r = false) :
    m.writeRingCtl r w = (0x0D02, m.ringKeptOff r w 0x0D02) := by
  rw [writeRingCtl_enable hoff hset, hok, if_neg (by decide), if_pos ⟨hkind, Bool.eq_false_iff.mp hflow⟩]

end
end
end

/-- A code of a chapter that has no status register of its own is shown nowhere (R399, R522, R580). -/
theorem noteRange_unshown {m : Mod} {c : W16} {o : Option Nat} (h11 : c.toNat / 256 ≠ 0x0B) (h14 : c.toNat / 256 ≠ 0x0E) (h17 : c.toNat / 256 ≠ 0x11) :
    m.noteRange c o = m := by
  unfold noteRange
  split
  · next h => exact absurd h h11
  · next h => exact absurd h h14
  · next h => exact absurd h h17
  · rfl
theorem commit_refused_unshown {m n : Mod} {who : Requester} {a : Nat} {p : W16 × Mod} {c : W16} (h : p = (c, n)) (h11 : c.toNat / 256 ≠ 0x0B) (h14 : c.toNat / 256 ≠ 0x0E)
    (h17 : c.toNat / 256 ≠ 0x11) (hwho : who ≠ .host) : m.commit who a p = n.answer c := by
  subst h
  rw [commit, finishAccess, if_pos (.inr hwho)]
  exact noteRange_unshown h11 h14 h17

/-! ## Doorbells (R297, R298) -/

section
variable {m : Mod} {who : Requester} {r : Nat} {v : W32} (hopen : m.shut who (m.slotOfRing r) = false) (hon : m.ringState r ≠ 0) (hsaved : m.ringState r ≠ 6)
include hopen hon hsaved

theorem ringDb_running : m.ringDb who r v =
    if m.flag (RING_CTL r) 19 then
      (0, if (v.toNat + 2 ^ 32 - m.ringHead r) % 2 ^ 32 ≤ m.ringFill r then (m.setRingHead r v.toNat).settleRing r else m.ignoreDoorbell r 0x0807)
    else if !m.mayPush who r then (0, m.ignoreDoorbell r 0x0808)
    else if (v.toNat + 2 ^ 32 - m.ringTail r) % 2 ^ 32 ≤ m.ringCap r - m.ringFill r then
      (0, if m.ringState r = 1 then (m.setRingTail r v.toNat).setRingState r 2 else m.setRingTail r v.toNat)
    else (0, m.ignoreDoorbell r 0x0807) := by
  simp only [ringDb, hopen, Bool.false_and, Bool.false_eq_true, if_false, if_neg (not_or.mpr ⟨hon, hsaved⟩), ringState_setRingTail]

theorem ringDb_completion (hcompl : m.flag (RING_CTL r) 19 = true) (hfits : (v.toNat + 2 ^ 32 - m.ringHead r) % 2 ^ 32 ≤ m.ringFill r) :
    m.ringDb who r v = (0, (m.setRingHead r v.toNat).settleRing r) := by
  rw [ringDb_running hopen hon hsaved, if_pos hcompl, if_pos hfits]

section
variable (hplain : m.flag (RING_CTL r) 19 = false)
include hplain

theorem ringDb_no_right (hpush : m.mayPush who r = false) : m.ringDb who r v = (0, m.ignoreDoorbell r 0x0808) := by
  rw [ringDb_running hopen hon hsaved, if_neg (Bool.eq_false_iff.mp hplain), hpush]
  rfl

section
variable (hpush : m.mayPush who r = true)
include hpush

theorem ringDb_fits (hfits : (v.toNat + 2 ^ 32 - m.ringTail r) % 2 ^ 32 ≤ m.ringCap r - m.ringFill r) : m.ringDb who r v =
    (0, if m.ringState r = 1 then (m.setRingTail r v.toNat).setRingState r 2 else m.setRingTail r v.toNat) := by
  rw [ringDb_running hopen hon hsaved, if_neg (Bool.eq_false_iff.mp hplain), hpush, if_neg (by decide), if_pos hfits]
theorem ringDb_overflows (hover : m.ringCap r - m.ringFill r < (v.toNat + 2 ^ 32 - m.ringTail r) % 2 ^ 32) : m.ringDb who r v = (0, m.ignoreDoorbell r 0x0807) := by
  rw [ringDb_running hopen hon hsaved, if_neg (Bool.eq_false_iff.mp hplain), hpush, if_neg (by decide), if_neg (Nat.not_le.mpr hover)]

end
end
end
end Mod

/-! ## The commands -/

section
variable {s : State} {r : Nat} {n : Mod} {who : Requester} (hup : s.m.mainUp = true) (hr : r < 65536)
include hup hr

theorem does_onRing {c : Instr} {f : Mod → Mod} (hc : exec c s = onRing s r f) (hn : f s.m = n) : Does c s n :=
  does_of_next (Mod.onRing_next hup hr) hc hn

/-- An enable is a full write of RING_CTL with ENABLE set. -/
theorem does_ringEnable {v w : W64} (hw : w = merge 0xFFFF_FF1F_0F88_0001 (s.m.rd (RING_CTL r)) (v ||| 1)) (hopen : s.m.ringShut who r w = false)
    (hn : s.m.commit who (RING_CTL r) (s.m.writeRingCtl r w) = n) : Does (.ringEnable who r v) s n := by
  have hword : s.m.written (RING_CTL r) (Mod.ringCtlSpec r) (BitVec.allOnes 64) (v ||| 1) = w := Mod.written_ringCtl.trans hw.symm
  refine does_onRing (f := fun m => m.commit who (RING_CTL r) (m.ringCtlWrite who r (m.written (RING_CTL r) (Mod.ringCtlSpec r) (BitVec.allOnes 64) (v ||| 1)))) hup hr ?_ ?_
  · change execRingEnable who r v s = _
    simp only [execRingEnable, Mod.ringSpec_ctl]
    rfl
  · rw [hword, Mod.ringCtlWrite, hopen]
    exact hn

theorem does_ringDisable (hon : s.m.ringEnabled r = true) : Does (.ringDisable who r) s ((s.m.stopRing r).answer 0) :=
  does_onRing (f := fun m => m.commit who (RING_CTL r) (m.writeRingCtl r (m.rd (RING_CTL r) &&& ~~~1))) hup hr rfl
    (Mod.commit_done (Mod.writeRingCtl_disable hon (by simp [bit])))

theorem does_ringStopped (hstops : (s.m.ringOf r).stopping = true) (hempty : (s.m.ringOf r).prog = []) : Does (.ringStopped r) s (s.m.stopRingNow r) :=
  does_onRing (f := fun m => if (m.ringOf r).stopping ∧ (m.ringOf r).prog = [] then m.stopRingNow r else m) hup hr rfl (if_pos ⟨hstops, hempty⟩)

section
variable {v : W32} (hdb : s.m.ringDb who r v = (0, n))
include hdb

theorem does_ringDoorbell (hplain : s.m.flag (RING_CTL r) 19 = false) : Does (.ringDoorbell who r v) s (n.answer 0) :=
  does_onRing (f := fun m => if m.flag (RING_CTL r) 19 then m else m.doorbell who r v) hup hr rfl
    ((if_neg (Bool.eq_false_iff.mp hplain)).trans (Mod.commit_done hdb))
theorem does_completionDoorbell (hcompl : s.m.flag (RING_CTL r) 19 = true) : Does (.completionDoorbell who r v) s (n.answer 0) :=
  does_onRing (f := fun m => if m.flag (RING_CTL r) 19 then m.doorbell who r v else m) hup hr rfl ((if_pos hcompl).trans (Mod.commit_done hdb))

end
end

/-- Settles O33: an enable by its checks, a doorbell by the rights of its producer and the room between the pointers. -/
theorem ringControl : Obligations.RingControl := by
  refine fun s r hup hr => ⟨fun who v w n hoff _ hw hn hopen => ?_, fun who => does_ringDisable hup hr, does_ringStopped hup hr, fun who v hopen hon hsaved => ⟨fun hplain hpush => ⟨fun hfits => ?_, fun hover => ?_⟩, fun hplain hpush => ?_, fun hcompl hfits => ?_⟩⟩
  · subst hn
    have hset : bit w 0 = true := by rw [hw, bit_merge, if_pos (by decide), bit, BitVec.getLsbD_or]; simp
    refine ⟨fun hok hkind => ?_, fun hok hkind hflow => ?_, fun hwho hbad => ?_, fun hwho hok hkind hflow => ?_⟩ <;> refine does_ringEnable hup hr hw hopen ?_
    · exact Mod.commit_done (Mod.writeRingCtl_opens hoff hset hok hkind)
    · exact Mod.commit_done (Mod.writeRingCtl_opens_feed hoff hset hok hkind hflow)
    · exact Mod.commit_refused (Mod.writeRingCtl_refused hoff hset hbad) (by decide) hwho
    · exact Mod.commit_refused_unshown (Mod.writeRingCtl_refused_feed hoff hset hok hkind hflow) (by decide) (by decide) (by decide) hwho
  · have hdb := Mod.ringDb_fits hopen hon hsaved hplain hpush hfits
    exact ⟨fun hactive => does_ringDoorbell hup hr (hdb.trans (congrArg (Prod.mk 0) (if_neg hactive))) hplain,
      fun hidle => does_ringDoorbell hup hr (hdb.trans (congrArg (Prod.mk 0) (if_pos hidle))) hplain⟩
  · exact does_ringDoorbell hup hr (Mod.ringDb_overflows hopen hon hsaved hplain hpush hover) hplain
  · exact does_ringDoorbell hup hr (Mod.ringDb_no_right hopen hon hsaved hplain hpush) hplain
  · exact does_completionDoorbell hup hr (Mod.ringDb_completion hopen hon hsaved hcompl hfits) hcompl

end Sys2Proof.Machine
end

section
/-! PROOF. The life of a ring entry (R278, R280, R299, R302 to R304): the check of a head, its release, the signal and the end of the oldest entry, and what its end leaves. -/

open Sys2Proof.Safety

namespace Sys2Proof.Machine
namespace Mod

/-! ## The head of a ring (R302, R303) -/

/-- What a waiting head does at the answer `x` of its home. -/
def headAnswered (m : Mod) (r : Nat) (b : List Byte) (x : Release) : Mod :=
  let n := (m.setRing r { m.ringOf r with waitOn := none }).settleRing r
  match x with
  | .met => if n.consumerRuns r && decide (n.ringState r ≠ 5) then n.beginEntry r b else n
  | .broken => m.failHead r b 0x0822
  | .refused => m.failHead r b 0x0823
  | _ => m

section
variable {m : Mod} {r : Nat} {b : List Byte} (hb : b = m.ringEntryBytes r (m.nextIndex r))
include hb

section
variable (hon : m.ringEnabled r = true) (hactive : m.ringState r = 2) (hfree : (m.ringOf r).waitOn = none) (hhas : (m.ringOf r).prog.length < m.ringFill r)
  (hruns : m.consumerRuns r = true)
include hon hactive hfree hhas hruns

/-- The head of an ACTIVE ring whose consumer runs is fetched and checked. -/
theorem startEntry_active (fetchOk : Bool) : m.startEntry r fetchOk =
    if !fetchOk then m.failHead r b 0x0824
    else if m.headCode r b ≠ 0 then m.refuseEntry r b (m.headCode r b)
    else if ringKind r = 0 then m
    else if entryWaits (ringKind r) b ∧ (m.ringOf r).headRelease ≠ .met then
      (m.setRing r { m.ringOf r with waitOn := some (entryWaitBuoy b), headRelease := .none }).settleRing r
    else m.beginEntry r b := by
  subst hb
  exact if_neg (by simp [hon, hactive, hfree, hhas, hruns])

theorem startEntry_fetch_failed : m.startEntry r false = m.failHead r b 0x0824 :=
  (startEntry_active hb hon hactive hfree hhas hruns false).trans (if_pos rfl)
theorem startEntry_fetched : m.startEntry r true =
    if m.headCode r b ≠ 0 then m.refuseEntry r b (m.headCode r b)
    else if ringKind r = 0 then m
    else if entryWaits (ringKind r) b ∧ (m.ringOf r).headRelease ≠ .met then
      (m.setRing r { m.ringOf r with waitOn := some (entryWaitBuoy b), headRelease := .none }).settleRing r
    else m.beginEntry r b :=
  (startEntry_active hb hon hactive hfree hhas hruns true).trans (if_neg (by decide))
theorem startEntry_illformed (hbad : m.headCode r b ≠ 0) : m.startEntry r true = m.refuseEntry r b (m.headCode r b) :=
  (startEntry_fetched hb hon hactive hfree hhas hruns).trans (if_pos hbad)

section
variable (hok : m.headCode r b = 0) (hkind : ringKind r ≠ 0)
include hok hkind

theorem startEntry_wellformed : m.startEntry r true =
    if entryWaits (ringKind r) b ∧ (m.ringOf r).headRelease ≠ .met then
      (m.setRing r { m.ringOf r with waitOn := some (entryWaitBuoy b), headRelease := .none }).settleRing r
    else m.beginEntry r b :=
  (startEntry_fetched hb hon hactive hfree hhas hruns).trans ((if_neg (not_not.mpr hok)).trans (if_neg hkind))
theorem startEntry_begins (hplain : entryWaits (ringKind r) b = false) : m.startEntry r true = m.beginEntry r b :=
  (startEntry_wellformed hb hon hactive hfree hhas hruns hok hkind).trans (if_neg fun h => Bool.false_ne_true (hplain.symm.trans h.1))
theorem startEntry_waits (hwaits : entryWaits (ringKind r) b = true) (hnone : (m.ringOf r).headRelease = .none) :
    m.startEntry r true = (m.setRing r { m.ringOf r with waitOn := some (entryWaitBuoy b), headRelease := .none }).settleRing r :=
  (startEntry_wellformed hb hon hactive hfree hhas hruns hok hkind).trans (if_pos ⟨hwaits, by rw [hnone]; exact Release.noConfusion⟩)

end
end

/-! ### The answer of the home (R278, R280, R285) -/

section
variable {k : Nat} (hwait : (m.ringOf r).waitOn = some k) (hrun : m.ringState r ≠ 6)
include hwait hrun

theorem releaseHead_waiting : m.releaseHead r = m.headAnswered r b (m.ringOf r).headRelease := by
  subst hb
  exact if_neg (by simp [hwait, hrun])
theorem releaseHead_met {n : Mod} (hn : n = (m.setRing r { m.ringOf r with waitOn := none }).settleRing r) (hrel : (m.ringOf r).headRelease = .met)
    (hruns : n.consumerRuns r = true) (hstate : n.ringState r ≠ 5) : m.releaseHead r = n.beginEntry r b := by
  subst hn
  rw [releaseHead_waiting hb hwait hrun, hrel]
  exact if_pos (by rw [hruns, decide_eq_true hstate]; rfl)
theorem releaseHead_broken (hrel : (m.ringOf r).headRelease = .broken) : m.releaseHead r = m.failHead r b 0x0822 := by
  rw [releaseHead_waiting hb hwait hrun, hrel]
  rfl
theorem releaseHead_refused (hrel : (m.ringOf r).headRelease = .refused) : m.releaseHead r = m.failHead r b 0x0823 := by
  rw [releaseHead_waiting hb hwait hrun, hrel]
  rfl

end
end

/-! ## The oldest entry (R299, R302) -/

section
variable {m : Mod} {r : Nat} {e : RingEntry} {q : List RingEntry} {ok : Bool} (hprog : (m.ringOf r).prog = e :: q) (hrun : m.ringState r ≠ 4)
  (hdone : e.done = true) (hnew : e.signalled = false)
include hprog hrun hdone hnew

/-- The oldest entry, once its work is done, sends its SIGNAL or ends. -/
theorem completeEntry_done : m.completeEntry r ok =
    if wantsSignal (ringKind r) e.image && !e.refused then m.setRing r { m.ringOf r with prog := { e with signalled := true } :: q } else m.finishEntry r e ok := by
  simp only [completeEntry, hprog, hdone, hnew, hrun, Bool.true_eq_false, Bool.false_eq_true, or_self, if_false]
theorem completeEntry_signals (hsignal : wantsSignal (ringKind r) e.image = true) (hgood : e.refused = false) :
    m.completeEntry r ok = m.setRing r { m.ringOf r with prog := { e with signalled := true } :: q } :=
  (completeEntry_done hprog hrun hdone hnew).trans (if_pos (by rw [hsignal, hgood]; rfl))
theorem completeEntry_ends (hplain : wantsSignal (ringKind r) e.image = false ∨ e.refused = true) : m.completeEntry r ok = m.finishEntry r e ok :=
  (completeEntry_done hprog hrun hdone hnew).trans (if_neg (by rcases hplain with h | h <;> simp [h]))

end

/-! ## What the end of an entry leaves (R302 to R304) -/

/-- `n` is `m` but for the state of ring `r`: the register words but RING_CTL, its entries in progress and the memory are those of `m`. -/
structure SameEntries (r : Nat) (m n : Mod) : Prop where
  rd : ∀ a, a ≠ RING_CTL r → n.rd a = m.rd a
  prog : (n.ringOf r).prog = (m.ringOf r).prog
  mem : n.mem = m.mem

namespace SameEntries
section
variable {m n : Mod} {r : Nat}

theorem refl (m : Mod) (r : Nat) : SameEntries r m m := ⟨fun _ _ => rfl, rfl, rfl⟩
theorem setRingState {v : Nat} (h : SameEntries r m n) : SameEntries r m (n.setRingState r v) :=
  ⟨fun a ha => (rd_setF_other n 1 3 v ha).trans (h.rd a ha), h.prog, h.mem⟩
theorem errRing (h : SameEntries r m n) : SameEntries r m (n.errRing r) :=
  ⟨h.setRingState.rd, (congrArg Ring.prog (ringOf_setRing_same _ r _)).trans h.prog, h.mem⟩
theorem settleRing (h : SameEntries r m n) : SameEntries r m (n.settleRing r) := by
  unfold Mod.settleRing
  split_ifs
  · exact h
  · exact h.errRing
  all_goals exact h.setRingState

end
end SameEntries

section
variable {m : Mod} {r : Nat}

theorem ringState_errRing : (m.errRing r).ringState r = 5 := fld_setF_same m (RING_CTL r) 1 3 5 (by decide)

/-- The module with the oldest entry of ring `r` counted, and HEAD past it. -/
def entryCounted (m : Mod) (r : Nat) : Mod := (m.setRingHead r ((m.ringHead r + 1) % 2 ^ 32)).addCnt (RING_CNT_DONE r) 1
/-- And the entry gone, before the ring settles. -/
def entryGone (m : Mod) (r : Nat) : Mod := (m.entryCounted r).setRing r { (m.entryCounted r).ringOf r with prog := ((m.entryCounted r).ringOf r).prog.drop 1 }

theorem ptr_ne_ctl : RING_PTR r ≠ RING_CTL r := ringReg_ne (by decide)
theorem done_ne_ctl : RING_CNT_DONE r ≠ RING_CTL r := ringReg_ne (by decide)
theorem done_ne_ptr : RING_CNT_DONE r ≠ RING_PTR r := ringReg_ne (by decide)

theorem rd_entryCounted_ptr : (m.entryCounted r).rd (RING_PTR r) = setBf (m.rd (RING_PTR r)) 0 32 ((m.ringHead r + 1) % 2 ^ 32) := by
  rw [entryCounted, rd_addCnt_other _ _ done_ne_ptr.symm, setRingHead, setF, rd_wr_same]
theorem rd_entryCounted_done : (m.entryCounted r).rd (RING_CNT_DONE r) = satAdd (m.rd (RING_CNT_DONE r)) 1 := by
  rw [entryCounted, rd_addCnt_same, setRingHead, rd_setF_other _ _ _ _ done_ne_ptr]
theorem ringOf_entryCounted : (m.entryCounted r).ringOf r = m.ringOf r := by
  rw [ringOf, entryCounted, rings_addCnt, setRingHead, rings_setF, ringOf]
theorem rd_entryGone (a : Nat) : (m.entryGone r).rd a = (m.entryCounted r).rd a := by
  rw [entryGone, rd_of_regs (regs_setRing _ _ _)]
theorem prog_entryGone : ((m.entryGone r).ringOf r).prog = (m.ringOf r).prog.drop 1 := by
  rw [entryGone, ringOf_setRing_same, ringOf_entryCounted]
theorem mem_entryGone : (m.entryGone r).mem = m.mem := by
  rw [entryGone, mem_setRing, entryCounted, mem_addCnt, setRingHead, mem_setF]

section
variable {e : RingEntry}

/-- The ring of an entry that is gone runs again, and a refused entry leaves it in ERROR. -/
theorem closeEntry_eq (hsignal : e.refused = true ∨ e.refusedSig = false) : m.closeEntry r e =
    if e.refused then (if (m.entryGone r).ringState r = 4 then (m.entryGone r).setRingState r 2 else m.entryGone r).errRing r
    else (if (m.entryGone r).ringState r = 4 then (m.entryGone r).setRingState r 2 else m.entryGone r).settleRing r := by
  rcases hsignal with h | h
  · simp only [closeEntry, h, if_true]
    rfl
  · simp only [closeEntry, h, Bool.false_eq_true, if_false]
    rfl

variable (hsignal : e.refused = true ∨ e.refusedSig = false)
include hsignal

theorem sameEntries_closeEntry : SameEntries r (m.entryGone r) (m.closeEntry r e) := by
  rw [closeEntry_eq hsignal]
  have hgone := SameEntries.refl (m.entryGone r) r
  split_ifs
  · exact hgone.setRingState.errRing
  · exact hgone.errRing
  · exact hgone.setRingState.settleRing
  · exact hgone.settleRing
theorem rd_closeEntry_ptr : (m.closeEntry r e).rd (RING_PTR r) = setBf (m.rd (RING_PTR r)) 0 32 ((m.ringHead r + 1) % 2 ^ 32) :=
  ((sameEntries_closeEntry hsignal).rd _ ptr_ne_ctl).trans ((rd_entryGone _).trans rd_entryCounted_ptr)
theorem ringHead_closeEntry : (m.closeEntry r e).ringHead r = (m.ringHead r + 1) % 2 ^ 32 := by
  rw [ringHead, fld, rd_closeEntry_ptr hsignal, bf_setBf _ _ _ _ (by decide), Nat.mod_mod]
theorem ringTail_closeEntry : (m.closeEntry r e).ringTail r = m.ringTail r := by
  rw [ringTail, fld, rd_closeEntry_ptr hsignal, bf_setBf_disjoint _ _ _ _ _ _ (by decide) (by decide)]
  rfl
theorem rd_closeEntry_done : (m.closeEntry r e).rd (RING_CNT_DONE r) = satAdd (m.rd (RING_CNT_DONE r)) 1 :=
  ((sameEntries_closeEntry hsignal).rd _ done_ne_ctl).trans ((rd_entryGone _).trans rd_entryCounted_done)
theorem prog_closeEntry {q : List RingEntry} (hprog : (m.ringOf r).prog = e :: q) : ((m.closeEntry r e).ringOf r).prog = q := by
  rw [(sameEntries_closeEntry hsignal).prog, prog_entryGone, hprog, List.drop_one, List.tail_cons]

end

theorem ringState_closeEntry_refused {e : RingEntry} (h : e.refused = true) : (m.closeEntry r e).ringState r = 5 := by
  rw [closeEntry_eq (.inl h), if_pos h]
  exact ringState_errRing

end
end Mod

/-! ## The commands -/

section
variable {s : State} {r : Nat} {n : Mod} {ok : Bool} (hup : s.m.mainUp = true) (hr : r < 65536) (hclk : ringKind r ≠ 1 ∨ s.m.tileClocked (tileOfRing r) = true)
include hup hr hclk

/-- The consumer of a ring acts while the clock of its tile runs, where it is a tile's. -/
theorem does_onConsumer {c : Instr} {f : Mod → Mod} (hc : exec c s = onConsumer s r f) (hn : f s.m = n) : Does c s n :=
  does_of_next (Mod.onWhen_next (by rcases hclk with h | h <;> simp [hup, hr, numRings, h])) hc hn

theorem does_ringEntryStart (hn : s.m.startEntry r ok = n) : Does (.ringEntryStart r ok) s n :=
  does_onConsumer (f := fun m => m.startEntry r ok) hup hr hclk rfl hn
theorem does_ringHeadRelease (hn : s.m.releaseHead r = n) : Does (.ringHeadRelease r) s n :=
  does_onConsumer (f := fun m => m.releaseHead r) hup hr hclk rfl hn
theorem does_ringEntryComplete (hn : s.m.completeEntry r ok = n) : Does (.ringEntryComplete r ok) s n :=
  does_onConsumer (f := fun m => m.completeEntry r ok) hup hr hclk rfl hn

section
variable {e : RingEntry} {q : List RingEntry} (hprog : (s.m.ringOf r).prog = e :: q)
include hprog

theorem does_ringSignalAnswer (hsent : e.signalled = true) (hanswer : e.answered = true) (hrun : s.m.ringState r ≠ 4) :
    Does (.ringSignalAnswer r ok) s (s.m.finishEntry r e ok) :=
  does_onConsumer (f := fun m => match (m.ringOf r).prog with
    | [] => m
    | e :: _ => if e.signalled ∧ e.answered ∧ m.ringState r ≠ 4 then m.finishEntry r e ok else m) hup hr hclk rfl
    (by simp only [hprog, if_pos (And.intro hsent (And.intro hanswer hrun))])
theorem does_ringStallRelease (hstall : s.m.ringState r = 4) : Does (.ringStallRelease r) s (s.m.finishEntry r e true) :=
  does_onConsumer (f := fun m => match (m.ringOf r).prog with
    | [] => m
    | e :: _ => if m.ringState r = 4 then m.finishEntry r e true else m) hup hr hclk rfl (by simp only [hprog, if_pos hstall])

end
end

/-- Settles O34: a head by its checks and the answer of its home, the oldest entry by what is left of it to do, its end by what it changes of the ring. -/
theorem ringEntries : Obligations.RingEntries := by
  refine ⟨fun s r b hup hr hclk hb => ⟨fun hon hactive hfree hhas hruns => ⟨?_, ?_, ?_, ?_⟩, fun k hwait hrun => ⟨?_, ?_, ?_⟩, fun e q ok hprog hrun => ⟨?_, ?_, ?_⟩, ?_⟩,
    fun m r e q _ hprog hsignal => ⟨?_, ?_, ?_, ?_, fun hroom => ?_, ?_⟩⟩
  · exact does_ringEntryStart hup hr hclk (Mod.startEntry_fetch_failed hb hon hactive hfree hhas hruns)
  · exact fun hbad => does_ringEntryStart hup hr hclk (Mod.startEntry_illformed hb hon hactive hfree hhas hruns hbad)
  · exact fun hok hkind hplain => does_ringEntryStart hup hr hclk (Mod.startEntry_begins hb hon hactive hfree hhas hruns hok hkind hplain)
  · exact fun hok hkind hwaits hnone => does_ringEntryStart hup hr hclk (Mod.startEntry_waits hb hon hactive hfree hhas hruns hok hkind hwaits hnone)
  · exact fun hrel hruns hstate => does_ringHeadRelease hup hr hclk (Mod.releaseHead_met hb hwait hrun rfl hrel hruns hstate)
  · exact fun hrel => does_ringHeadRelease hup hr hclk (Mod.releaseHead_broken hb hwait hrun hrel)
  · exact fun hrel => does_ringHeadRelease hup hr hclk (Mod.releaseHead_refused hb hwait hrun hrel)
  · exact fun hdone hnew hsignal hgood => does_ringEntryComplete hup hr hclk (Mod.completeEntry_signals hprog hrun hdone hnew hsignal hgood)
  · exact fun hdone hnew hplain => does_ringEntryComplete hup hr hclk (Mod.completeEntry_ends hprog hrun hdone hnew hplain)
  · exact fun hsent hanswer => does_ringSignalAnswer hup hr hclk hprog hsent hanswer hrun
  · exact fun e q hprog hstall => does_ringStallRelease hup hr hclk hprog hstall
  · exact Mod.ringHead_closeEntry hsignal
  · exact Mod.ringTail_closeEntry hsignal
  · exact Mod.prog_closeEntry hsignal hprog
  · exact Mod.ringState_closeEntry_refused
  · rw [Mod.rd_closeEntry_done hsignal, satAdd_toNat _ _ hroom]
  · exact (Mod.sameEntries_closeEntry hsignal).mem.trans Mod.mem_entryGone

end Sys2Proof.Machine
end

section
/-! PROOF. The arbiters of a stack (R332, R333): they see the requesters 0 to 104 alone, so not every pair of requests has its older one granted at the Nth grant. -/

open Sys2Proof.Safety

namespace Sys2Proof.Machine

/-- Stack 0 is READY in a module that runs; its arbiter of pseudo-channel 0 has made three grants, and NTH is 4. -/
def nthGrantDue : State :=
  { pending := [], m := (((Mod.goState {} 2 0).setHbmState 0 3).setF (ARB_CTL 0) 0 7 4).setStack 0 { arbs := [(0, { grants := 3 })] } }

/-- A request of number 105, which no requester of R332 has, is not presented, however old it is. -/
theorem presented_unnumbered : Mod.presented [{ x := 0, age := 0 }, { x := 105, age := 1 }] = [{ x := 0, age := 0 }] := by decide

theorem nthGrantDue_owner : ((nthGrantDue.m.grantOne 0 0 [{ x := 0, age := 0 }, { x := 105, age := 1 }]).arbOf 0 0).owner = some 0 := by
  rw [Mod.grantOne, presented_unnumbered]
  decide

theorem exec_nthGrantDue (l : List ArbRequest) : exec (.arbiterGrant 0 0 l) nthGrantDue = .next { nthGrantDue with m := nthGrantDue.m.grantOne 0 0 l } :=
  does_onStack (f := fun m => if 0 < 32 ∧ m.hbmState 0 = 3 then m.grantOne 0 0 l else m) (by decide) (by decide) rfl (if_pos (by decide))

/-- Refutes O36: the clause on the Nth grant bounds neither requester by 105, as the clause before it does.  Of requester 0 and an older request of the
number 105, which R332 gives to nobody, the fourth grant goes to requester 0, the only one that is presented. -/
theorem not_hbmAndSparing : ¬ Obligations.HbmAndSparing := by
  rintro ⟨-, harbitration⟩
  obtain ⟨-, hnth, -⟩ := harbitration nthGrantDue 0 0 (by decide) (by decide) (by decide)
  obtain ⟨t, hexec, howner, -⟩ := hnth 105 1 0 0 (by decide) (by decide) (by decide) (by decide)
  rw [exec_nthGrantDue] at hexec
  injection hexec with ht
  subst ht
  exact absurd (nthGrantDue_owner.symm.trans howner) (by decide)

end Sys2Proof.Machine
end

section
/-! PROOF. The entries of a plane's rings (R325, R326, R377): each by the checks that it passes and the work that it then does. -/

open Sys2Proof.Safety

namespace Sys2Proof.Machine
namespace Mod

/-! ## Reads of a stack that holds no marked line (R338) -/

section
variable {m : Mod} {k off n : Nat} (hbad : (m.stack k).bad = [])
include hbad

theorem hbmBad_of_unmarked : m.hbmBad k off n = false := by
  rw [hbmBad, hbad]
  rfl
theorem readBad_of_unmarked : m.readBad k off n = m := by rw [readBad, hbmBad_of_unmarked hbad, if_neg Bool.false_ne_true]

end

/-! ## The oldest entry at work (R302) -/

section
variable {m : Mod} {r : Nat} {x : RingEntry}

theorem workOf_head {kind op : Nat} {q : List RingEntry} (hwork : m.working r = x :: q) (hkind : ringKind r = kind) (hop : entryOp x.image = op) :
    m.workOf r kind op = some x := by
  rw [workOf, hwork]
  exact if_pos ⟨hkind, hop⟩

/-! ## GRAD (R325, R326) -/

/-- The module once a GRAD entry `b` of shard `e` has added its contributions to the staging and COUNT has taken it (R326, R327). -/
def gradTaken (m : Mod) (k e : Nat) (b : List Byte) : Mod :=
  let a := m.stageGrad k (m.shardStage k e + 4 * num b 0x1C 4) (m.gradElems k b)
  (((a.setF (PSTATE k e) 0 16 (a.shardCount k e + 1)).setShardState k e 1).addCnt (CNT_GRAD k) 1).settleCount k e

section
variable (hx : m.workOf r 2 1 = some x)
include hx

theorem gradWork_refused (hrefused : m.gradRefused (stackOfRing r) (num x.image 0x18 1) x.image = true) : m.gradWork r = m.refuseWork r x 0x0903 := by
  rw [gradWork, hx]
  exact if_pos hrefused

theorem gradWork_accepted {k e : Nat} {n : Mod} (hk : k = stackOfRing r) (he : e = num x.image 0x18 1) (htaken : m.gradRefused k e x.image = false)
    (hcode : m.stackCode k = 0) (hclk : m.gradClocked x.image = true) (hbad : (m.stack k).bad = []) (hn : n = m.gradTaken k e x.image) :
    m.gradWork r = n.doneEntry r x.index 0 (gradBytes x.image) (bytesOf 4 (n.shardState k e) ++ bytesOf 4 (n.shardCount k e)) := by
  subst hk he hn
  rw [gradWork, hx]
  simp only [htaken, hcode, hclk, readBad_of_unmarked hbad, ite_self]
  rfl

end

/-! ## DISCARD, REDO, SET_RULE and SET_SHARD (R325, R377) -/

/-- An entry whose check passes and whose pass has not begun does its work. -/
theorem planeWork_accepted {op : Nat} {f : Mod → Nat → Nat → RingEntry → Mod} (hx : m.workOf r 2 op = some x)
    (hidle : ((m.stack (stackOfRing r)).updating ++ (m.stack (stackOfRing r)).zeroing).any (fun p => decide (p.ring = some (r, x.index))) = false)
    (hcode : m.planeCode (stackOfRing r) x.image = 0) : m.planeWork r op f = f m (stackOfRing r) (num x.image 0x18 1) x := by
  rw [planeWork, hx]
  simp only [hidle, hcode]
  rfl

theorem redoShard_recorded {k e : Nat} {c : CommitRecord} (hc : m.shardRecord k e = some c) (ring : Option (Nat × W32)) (again : Bool) :
    m.redoShard k e ring again = if c.step = m.stackStep k then m.startZeroing k e ring again false else m.startUpdate k e ring again := by
  rw [redoShard, hc]

end
end Mod

/-! ## The commands -/

section
variable {s : State} {r : Nat} {x : RingEntry} {n : Mod} (hup : s.m.mainUp = true) (hr : r < 65536)
include hup hr

theorem does_grad (hn : s.m.gradWork r = n) : Does (.grad r) s n := does_onRing (f := fun m => m.gradWork r) hup hr rfl hn

variable (hidle : ((s.m.stack (stackOfRing r)).updating ++ (s.m.stack (stackOfRing r)).zeroing).any (fun p => decide (p.ring = some (r, x.index))) = false)
  (hcode : s.m.planeCode (stackOfRing r) x.image = 0)
include hidle hcode

/-- A command of an entry other than GRAD does the entry's work. -/
theorem does_planeWork {c : Instr} {op : Nat} {f : Mod → Nat → Nat → RingEntry → Mod} (hx : s.m.workOf r 2 op = some x)
    (hc : exec c s = onRing s r (fun m => m.planeWork r op f)) (hn : f s.m (stackOfRing r) (num x.image 0x18 1) x = n) : Does c s n :=
  does_onRing (f := fun m => m.planeWork r op f) hup hr hc ((Mod.planeWork_accepted hx hidle hcode).trans hn)

theorem does_discard (hx : s.m.workOf r 2 2 = some x) :
    Does (.discard r) s (s.m.startZeroing (stackOfRing r) (num x.image 0x18 1) (some (r, x.index)) false true) :=
  does_planeWork (f := fun m k e x => m.startZeroing k e (some (r, x.index)) false true) hup hr hidle hcode hx rfl rfl
theorem does_redo (hx : s.m.workOf r 2 3 = some x) (hn : s.m.redoShard (stackOfRing r) (num x.image 0x18 1) (some (r, x.index)) false = n) : Does (.redo r) s n :=
  does_planeWork (f := fun m k e x => m.redoShard k e (some (r, x.index)) false) hup hr hidle hcode hx rfl hn
theorem does_setRule (hx : s.m.workOf r 2 4 = some x) :
    Does (.setRule r) s ((s.m.stageBlock (RULE (stackOfRing r) (num x.image 0x18 1)) ((x.image.drop 0x1C).take 0x24 ++ List.replicate 28 0)).endPlaneEntry
      (stackOfRing r) (num x.image 0x18 1) (some (r, x.index)) 0) :=
  does_planeWork (f := fun m k e x => (m.stageBlock (RULE k e) ((x.image.drop 0x1C).take 0x24 ++ List.replicate 28 0)).endPlaneEntry k e (some (r, x.index)) 0)
    hup hr hidle hcode hx rfl rfl
theorem does_setShard (hx : s.m.workOf r 2 5 = some x) (hkey : s.m.stackCode (stackOfRing r) = 0) (hbad : (s.m.stack (stackOfRing r)).bad = []) :
    Does (.setShard r) s ((s.m.stageBlock (SHARD (stackOfRing r) (num x.image 0x18 1)) (s.m.ld (hbmAt (stackOfRing r) (num x.image 0x20 8)) 64)).endPlaneEntry
      (stackOfRing r) (num x.image 0x18 1) (some (r, x.index)) 0) :=
  does_planeWork (f := fun m k e x => if m.stackCode k ≠ 0 then m.stopPlaneEntry k r x (m.stackCode k) (num x.image 0x20 8)
    else ((m.readBad k (num x.image 0x20 8) 64).stageBlock (SHARD k e) (m.ld (hbmAt k (num x.image 0x20 8)) 64)).endPlaneEntry k e (some (r, x.index)) 0)
    hup hr hidle hcode hx rfl (by rw [if_neg (not_not_intro hkey), Mod.readBad_of_unmarked hbad])

end

/-- Settles O37: each entry is the oldest at work, passes its check and does its own work. -/
theorem planeEntries : Obligations.PlaneEntries := by
  rintro s r k e x hup hr hkind hk he ⟨q, hwork⟩ hidle
  have hentry {op : Nat} (hop : entryOp x.image = op) : s.m.workOf r 2 op = some x := Mod.workOf_head hwork hkind hop
  refine ⟨fun hop hrefused => ?_, fun a b hop htaken hkey hclk hbad ha hb => ?_, fun hop hcode => ?_, fun c hop hcode hc => ⟨fun hnew => ?_, fun hold => ?_⟩,
    fun hop hcode => ?_, fun hop hcode hkey hbad => ?_⟩
  · subst hk he
    exact does_grad hup hr (Mod.gradWork_refused (hentry hop) hrefused)
  · subst ha
    exact does_grad hup hr (Mod.gradWork_accepted (hentry hop) hk he htaken hkey hclk hbad hb)
  all_goals subst hk he
  · exact does_discard hup hr hidle hcode (hentry hop)
  · exact does_redo hup hr hidle hcode (hentry hop) ((Mod.redoShard_recorded hc _ _).trans (if_pos hnew))
  · exact does_redo hup hr hidle hcode (hentry hop) ((Mod.redoShard_recorded hc _ _).trans (if_neg hold))
  · exact does_setRule hup hr hidle hcode (hentry hop)
  · exact does_setShard hup hr hidle hcode (hentry hop) hkey hbad

end Sys2Proof.Machine
end

section
/-! PROOF. The gates and the passes of a plane (R327 to R330, R376, R379): a gate by the answer of its buoy, the end of an update pass by its record and its burst, the end of a zeroing pass by the staging that it clears. -/

open Sys2Proof.Safety

namespace Sys2Proof.Machine
namespace Mod

/-! ## Gates (R327) -/

section
variable {m : Mod} {k b : Nat}

theorem gateArrives_gated (hgated : m.gatedShards k b ≠ []) (st : Byte) (v : W32) : m.gateArrives k b st v =
    if st = 0 ∧ v = 1 then forEach m (m.gatedShards k b) (fun m e => m.startUpdate k e none false)
    else if st = 0 ∧ v = 2 then forEach m (m.gatedShards k b) (fun m e => m.setShardState k e 6)
    else m.raisePlane k 0x0924 ((m.gatedShards k b).headD 0) := by
  rw [gateArrives]
  exact if_neg (by simpa using hgated)

end

/-! ## What the record of an error leaves of the stacks' windows (R339, R537, R551) -/

/-- The registers from the stacks' windows upward are in `n` as in `m`. -/
def SameStackWindows (m n : Mod) : Prop := ∀ a, stackReg 0 0 ≤ a → n.rd a = m.rd a

namespace SameStackWindows
section
variable {m n : Mod}

theorem refl (m : Mod) : SameStackWindows m m := fun _ _ => rfl
theorem ite {c : Prop} [Decidable c] {l : Mod} (hn : SameStackWindows m n) (hl : SameStackWindows m l) : SameStackWindows m (if c then n else l) := by
  split <;> assumption
theorem of_regs {l : Mod} (h : SameStackWindows m n) (hregs : l.regs = n.regs) : SameStackWindows m l := fun a ha => (rd_of_regs hregs a).trans (h a ha)
/-- The error block and the Keeper's window lie below the stacks'. -/
theorem wr {a : Nat} {v : W64} (h : SameStackWindows m n) (ha : a < stackReg 0 0) : SameStackWindows m (n.wr a v) :=
  fun c hc => (rd_wr_other n v (Nat.ne_of_gt (Nat.lt_of_lt_of_le ha hc))).trans (h c hc)
theorem sendErrVec (h : SameStackWindows m n) : SameStackWindows m n.sendErrVec := by
  refine .ite (h.of_regs ?_) h
  rw [sendOut]
  split <;> rfl
theorem appendErr {r : ErrRec} (h : SameStackWindows m n) : SameStackWindows m (n.appendErr r) := by
  have hring : SameStackWindows m { n with ring := Sparse.put (fun _ => {}) n.ring ((n.rd ERR_RING_TAIL).toNat % 1024) r } := h.of_regs rfl
  exact .ite (h.wr (by decide)) (.ite (hring.wr (by decide)).sendErrVec (hring.wr (by decide)))
theorem nestErr {k : Nat} {r : ErrRec} (h : SameStackWindows m n) : SameStackWindows m (n.nestErr k r) := by
  have hcounted : SameStackWindows m ((n.setFirst k { n.first k with also := (n.first k).also + 1 }).addCnt CNT_ALSO 1) := (h.of_regs rfl).wr (by decide)
  exact .ite hcounted hcounted.appendErr
theorem capture {k : Nat} {r : ErrRec} (h : SameStackWindows m n) : SameStackWindows m (n.capture k r) :=
  .ite h ((h.of_regs (l := n.setFirst k _) rfl).wr (by decide)).sendErrVec
theorem noteCode {c : W16} {o : Option Nat} (h : SameStackWindows m n) (hc : c.toNat < 0x0B00) : SameStackWindows m (n.noteCode c o) := by
  rw [Mod.noteCode, noteRange_low hc]
  exact (if_neg (show ¬ c.toNat / 256 = 0x0F by omega)).symm ▸ h.wr (by decide)
theorem countErr {sev : Nat} (h : SameStackWindows m n) : SameStackWindows m (n.countErr sev) := by
  refine wr h ?_
  repeat' split
  all_goals decide
theorem errSeq {v : Nat} (h : SameStackWindows m n) : SameStackWindows m { n with errSeq := v } := h.of_regs rfl
/-- An error of the chapters up to 0x0A is recorded below the stacks' windows (R379). -/
theorem recordError {e : ErrIn} (h : SameStackWindows m n) (hc : e.code.toNat < 0x0B00) : SameStackWindows m (n.recordError e) := by
  have hcounted := (h.errSeq (v := n.errSeq + 1)).noteCode (o := e.slot) hc |>.countErr (sev := 1)
  rw [Mod.recordError]
  exact .ite hcounted.nestErr (.ite hcounted.nestErr hcounted.capture.appendErr)

end
end SameStackWindows

/-! ## The end of an update pass (R376, R379) -/

section
variable {m : Mod} {k e : Nat} {w : PlaneWork}

section
variable (hw : (m.stack k).updating.find? (fun p => decide (p.shard = e)) = some w)
include hw

theorem endUpdate_recorded {c : CommitRecord} (hc : m.shardRecord k e = some c) (ok : Bool) : m.endUpdate k e ok =
    if (m.passFault k e ok c).1 = 0 then m.updatePass k e w c else m.interrupt k e w (m.passFault k e ok c) := by
  rw [endUpdate, hw]
  simp only [hc]
theorem endUpdate_unreadable (hc : m.shardRecord k e = none) (ok : Bool) :
    m.endUpdate k e ok = (((m.dropUpdate k e).setShardState k e 2).endPlaneEntry k e w.ring 0x0B22).badRecord k e := by
  rw [endUpdate, hw]
  simp only [hc]

end

/-- In a keyed stack without a marked line only the pass's own burst can interrupt it. -/
theorem passFault_unmarked (hkey : m.stackCode k = 0) (hbad : (m.stack k).bad = []) (ok : Bool) (c : CommitRecord) :
    m.passFault k e ok c = if ok then (0, 0) else (0x0922, m.shardSlot k e (decide (c.slot = 1))) := by
  cases ok <;> simp [passFault, hkey, hbmBad_of_unmarked hbad]

/-- The module whose update pass over shard `e` an uncorrectable burst has cut: the burst is counted and the shard is READY (R379). -/
def passCut (m : Mod) (k e : Nat) : Mod := ((m.addCnt (CNT_HBM_UNCORR k) 1).dropUpdate k e).setShardState k e 2
/-- The module with the uncorrectable burst at a stack offset in its records (R379). -/
def burstRecorded (m : Mod) (k off : Nat) : Mod := (m.setF (HBM_STATUS k) 48 16 0x0922).recordError (m.stackErr k 0x0922 (m.hbmSpot k off))

theorem shardStage_burstRecorded (off : Nat) : (m.burstRecorded k off).shardStage k e = m.shardStage k e := by
  have hwindow : stackReg 0 0 ≤ SHARD k e 2 := by
    simp only [SHARD, stackReg]
    omega
  have hother : SHARD k e 2 ≠ HBM_STATUS k := by
    simp only [SHARD, HBM_STATUS, stackReg]
    omega
  have hrecord : SameStackWindows (m.setF (HBM_STATUS k) 48 16 0x0922) (m.burstRecorded k off) := (SameStackWindows.refl _).recordError (show (0x0922 : W16).toNat < 0x0B00 by decide)
  rw [shardStage, hrecord _ hwindow, rd_setF_other m _ _ _ hother, shardStage]

/-- What an interrupted pass leaves, where its stack has a slot (R379).  The slot's lookup is made a variable before the definition's branches are compared: the kernel would otherwise evaluate it on the changed registers. -/
theorem interrupt_in_slot {p off : Nat} {n : Mod} (hn : n = m.passCut k e) (hslot : n.slotOfStack k = some p) : m.interrupt k e w (0x0922, off) =
    if n.stepPhase p ≠ 3 then (n.endPlaneEntry k e w.ring 0x0922).raiseStack k 0x0922 off
    else if w.again || decide (off = (n.burstRecorded k off).shardStage k e) then ((n.burstRecorded k off).endPlaneEntry k e w.ring 0x0B26).raiseStepBlock p 0x0B26
    else ((n.burstRecorded k off).addCnt (CNT_REDO p) 1).startUpdate k e w.ring true := by
  obtain ⟨f, hf⟩ : ∃ f, f = @interrupt := ⟨_, rfl⟩
  rw [← hf]
  delta interrupt at hf
  generalize @slotOfStack = slot at hf hslot
  subst hf hn
  have hburst : (0x0922 : W16).toNat = 0x0922 := by decide
  simp only [passCut] at hslot
  simp only [passCut, burstRecorded, if_true, hslot, hburst]
  exact if_neg (by decide)

section
variable {p off : Nat} {n : Mod} (hn : n = m.passCut k e) (hslot : n.slotOfStack k = some p)
include hn hslot

/-- Outside UPDATE the error is raised like any other. -/
theorem interrupt_outside_update (hphase : n.stepPhase p ≠ 3) : m.interrupt k e w (0x0922, off) = (n.endPlaneEntry k e w.ring 0x0922).raiseStack k 0x0922 off :=
  (interrupt_in_slot hn hslot).trans (if_pos hphase)

variable (hphase : n.stepPhase p = 3)
include hphase

/-- In UPDATE the first error outside the staging has the pass run again. -/
theorem interrupt_first (hfirst : w.again = false) (hslots : off ≠ n.shardStage k e) :
    m.interrupt k e w (0x0922, off) = ((n.burstRecorded k off).addCnt (CNT_REDO p) 1).startUpdate k e w.ring true := by
  rw [interrupt_in_slot hn hslot, if_neg (not_not_intro hphase), shardStage_burstRecorded, hfirst, decide_eq_false hslots]
  rfl
/-- In UPDATE the second error ends the pass with 0x0B26. -/
theorem interrupt_second (hsecond : w.again = true) :
    m.interrupt k e w (0x0922, off) = ((n.burstRecorded k off).endPlaneEntry k e w.ring 0x0B26).raiseStepBlock p 0x0B26 := by
  rw [interrupt_in_slot hn hslot, if_neg (not_not_intro hphase), hsecond, Bool.true_or, if_pos rfl]

end

/-! ## The end of a zeroing pass (R328, R330) -/

section
variable {a len : Nat}

theorem hbmAt_add (k o n : Nat) : hbmAt k (o + n) = hbmAt k o + n := (Nat.add_assoc _ _ _).symm
theorem mem_healHbm : (m.healHbm k a len).mem = m.mem := by
  rw [healHbm]
  split <;> rfl
theorem zeroing_healHbm : ((m.healHbm k a len).stack k).zeroing = (m.stack k).zeroing := by
  rw [healHbm]
  split
  · rfl
  · rw [stack_setStack_same]
/-- An entry that ends with success shows in its ring alone. -/
theorem endPlaneEntry_changes (ring : Option (Nat × W32)) : ∃ r, m.endPlaneEntry k e ring 0 = { m with rings := r } := by
  rcases ring with _ | ⟨r, i⟩ <;> exact ⟨_, rfl⟩

end

/-- The module with the staging of shard `e` zero and fresh (R328). -/
def stagingZeroed (m : Mod) (k e : Nat) : Mod :=
  (m.clearMem (hbmAt k (m.shardStage k e)) (hbmAt k (m.shardStage k e) + 4 * m.shardElems k e)).healHbm k (m.shardStage k e) (4 * m.shardElems k e)
/-- The module without the zeroing pass over shard `e`. -/
def dropZeroing (m : Mod) (k e : Nat) : Mod := m.setStack k { m.stack k with zeroing := (m.stack k).zeroing.filter (fun p => decide (p.shard ≠ e)) }
/-- The module once the zeroing pass `w` over shard `e` has ended (R328, R330). -/
def zeroed (m : Mod) (k e : Nat) (w : PlaneWork) : Mod :=
  if w.toIdle then ((m.stagingZeroed k e).dropZeroing k e).wr (PSTATE k e) 0 else ((m.stagingZeroed k e).dropZeroing k e).setShardState k e 4

theorem mem_zeroed : (m.zeroed k e w).mem = (m.clearMem (hbmAt k (m.shardStage k e)) (hbmAt k (m.shardStage k e) + 4 * m.shardElems k e)).mem := by
  rw [zeroed]
  split
  · rw [mem_wr, dropZeroing, mem_setStack, stagingZeroed, mem_healHbm]
  · rw [setShardState, mem_setF, dropZeroing, mem_setStack, stagingZeroed, mem_healHbm]
theorem ldByte_zeroed (o : Nat) : (m.zeroed k e w).ldByte o =
    if hbmAt k (m.shardStage k e) ≤ o ∧ o < hbmAt k (m.shardStage k e) + 4 * m.shardElems k e then 0 else m.ldByte o := by
  rw [ldByte_of_mem mem_zeroed, ldByte_clearMem]
theorem shardState_zeroed : (m.zeroed k e w).shardState k e = if w.toIdle then 0 else 4 := by
  rw [zeroed]
  split
  · rw [shardState, fld, rd_wr_same]
    rfl
  · exact fld_setF_same _ _ _ _ _ (by decide)
theorem shardCount_zeroed (hidle : w.toIdle = true) : (m.zeroed k e w).shardCount k e = 0 := by
  rw [zeroed, hidle, if_pos rfl, shardCount, fld, rd_wr_same]
  rfl
theorem zeroing_zeroed : ((m.zeroed k e w).stack k).zeroing = (m.stack k).zeroing.filter (fun p => decide (p.shard ≠ e)) := by
  have hstack : (m.zeroed k e w).hbmStacks = ((m.stagingZeroed k e).dropZeroing k e).hbmStacks := by
    rw [zeroed]
    split
    · rw [hbmStacks_wr]
    · rw [setShardState, hbmStacks_setF]
  have hkept : ((m.stagingZeroed k e).stack k).zeroing = (m.stack k).zeroing := by
    rw [stagingZeroed, zeroing_healHbm, stack, hbmStacks_clearMem, stack]
  rw [stack, hstack, ← stack, dropZeroing, stack_setStack_same, hkept]

theorem endZeroing_alone (halone : (m.stack k).zeroing = [w]) (hkey : m.stackCode k = 0) (hshard : w.shard = e) (hfirst : w.again = false) :
    m.endZeroing k e = (m.zeroed k e w).endPlaneEntry k e w.ring 0 := by
  have hw : (m.stack k).zeroing.find? (fun p => decide (p.shard = e)) = some w := by
    rw [halone]
    exact List.find?_cons_of_pos (decide_eq_true hshard)
  rw [endZeroing, hw]
  simp only [hkey, hfirst, ne_eq, not_true_eq_false, Bool.false_eq_true, if_false]
  rw [zeroed, dropZeroing, stagingZeroed]

end
end Mod

/-! ## The commands -/

section
variable {s : State} {k e b : Nat} {n : Mod} (hup : s.m.mainUp = true) (hk : k < 32)
include hup hk

theorem does_gateMessage {st : Byte} {v : W32} (hn : s.m.gateArrives k b st v = n) : Does (.gateMessage k b st v) s n :=
  does_onStack (f := fun m => m.gateArrives k b st v) hup hk rfl hn
theorem does_planeUpdatePassEnd {ok : Bool} (hn : s.m.endUpdate k e ok = n) : Does (.planeUpdatePassEnd k e ok) s n :=
  does_onStack (f := fun m => m.endUpdate k e ok) hup hk rfl hn
theorem does_planeZeroingDone (hn : s.m.endZeroing k e = n) : Does (.planeZeroingDone k e) s n :=
  does_onStack (f := fun m => m.endZeroing k e) hup hk rfl hn

/-- What the end of a zeroing pass that runs alone leaves. -/
theorem planeZeroingDone_alone {w : PlaneWork} (halone : (s.m.stack k).zeroing = [w]) (hkey : s.m.stackCode k = 0) (hshard : w.shard = e) (hfirst : w.again = false) :
    ∃ t, exec (.planeZeroingDone k e) s = .next t ∧ (t.m.stack k).zeroing = [] ∧
      t.m.shardState k e = (if w.toIdle then 0 else 4) ∧ (w.toIdle = true → t.m.shardCount k e = 0) ∧
      (∀ o, s.m.shardStage k e ≤ o → o < s.m.shardStage k e + 4 * s.m.shardElems k e → t.m.ldByte (hbmAt k o) = 0) ∧
      (∀ o, o < hbmAt k (s.m.shardStage k e) ∨ hbmAt k (s.m.shardStage k e + 4 * s.m.shardElems k e) ≤ o → t.m.ldByte o = s.m.ldByte o) := by
  obtain ⟨r, hr⟩ := Mod.endPlaneEntry_changes (m := s.m.zeroed k e w) (k := k) (e := e) w.ring
  refine ⟨_, does_planeZeroingDone hup hk ((Mod.endZeroing_alone halone hkey hshard hfirst).trans hr), ?_, Mod.shardState_zeroed, Mod.shardCount_zeroed, fun o hlow hhigh => ?_, fun o hout => ?_⟩
  · refine Mod.zeroing_zeroed.trans ?_
    rw [halone]
    exact List.filter_cons_of_neg (by simp [hshard])
  · refine (Mod.ldByte_zeroed _).trans (if_pos ?_)
    simp only [hbmAt]
    omega
  · refine (Mod.ldByte_zeroed _).trans (if_neg ?_)
    rw [Mod.hbmAt_add] at hout
    omega

end

/-- Settles O38: a gate by its answer, an update pass by its record and its burst, a zeroing pass by the module that it leaves. -/
theorem planePasses : Obligations.PlanePasses := by
  refine fun s k e hup hk _ => ⟨fun b hgated => ⟨?_, ?_, fun st v hbad => ?_⟩, fun w hw hkey => ⟨fun c hc hbad => ⟨?_, fun p n now hnow hn hslot hslots => ?_⟩, fun hc ok => ?_⟩,
    fun w halone hkey hshard hfirst _ => planeZeroingDone_alone hup hk halone hkey hshard hfirst⟩
  · exact does_gateMessage hup hk ((Mod.gateArrives_gated hgated 0 1).trans (if_pos ⟨rfl, rfl⟩))
  · exact does_gateMessage hup hk ((Mod.gateArrives_gated hgated 0 2).trans ((if_neg (by decide)).trans (if_pos ⟨rfl, rfl⟩)))
  · refine does_gateMessage hup hk ((Mod.gateArrives_gated hgated st v).trans ((if_neg fun h => ?_).trans (if_neg fun h => ?_)))
    · exact hbad.elim (fun hst => hst h.1) (fun hv => hv.1 h.2)
    · exact hbad.elim (fun hst => hst h.1) (fun hv => hv.2 h.2)
  · refine does_planeUpdatePassEnd hup hk ((Mod.endUpdate_recorded hw hc true).trans ?_)
    rw [Mod.passFault_unmarked hkey hbad]
    exact if_pos rfl
  · have hend : s.m.endUpdate k e false = s.m.interrupt k e w (0x0922, now) := by
      rw [Mod.endUpdate_recorded hw hc, Mod.passFault_unmarked hkey hbad, hnow]
      exact if_neg (show (0x0922 : W16) ≠ 0 by decide)
    exact ⟨fun hphase hfirst => does_planeUpdatePassEnd hup hk (hend.trans (Mod.interrupt_first hn hslot hphase hfirst hslots)),
      fun hphase hsecond => does_planeUpdatePassEnd hup hk (hend.trans (Mod.interrupt_second hn hslot hphase hsecond)),
      fun hphase => does_planeUpdatePassEnd hup hk (hend.trans (Mod.interrupt_outside_update hn hslot hphase))⟩
  · exact does_planeUpdatePassEnd hup hk (Mod.endUpdate_unreadable hw hc ok)

end Sys2Proof.Machine
end

section
/-! PROOF. The end of a context save (R99, R223, R514): clearing the enables of the held tiles lets a port write the words that a pass had kept it from writing, so the save does not leave all memory as it was. -/

open Sys2Proof.Safety

namespace Sys2Proof.Machine

/-- A command leads to one module only. -/
theorem does_unique {c : Instr} {s : State} {m n : Mod} (hm : Does c s m) (hn : Does c s n) : m = n :=
  congrArg State.m (Host.Outcome.next.inj (hm.symm.trans hn))

namespace Mod

/-! ## A completion on the module command channel stores nothing (R498, R499) -/

theorem mem_noteRange (m : Mod) (code : W16) (o : Option Nat) : (m.noteRange code o).mem = m.mem := by
  unfold noteRange
  split <;> rfl
theorem mem_noteCmd (m : Mod) (slot : Nat) (code : W16) : (m.noteCmd slot code).mem = m.mem := by
  unfold noteCmd
  repeat' split
  all_goals simp [mem_noteRange]
theorem mem_putRegs (m : Mod) (a : Nat → Nat) (n : Nat) (b : List Byte) : (m.putRegs a n b).mem = m.mem :=
  forEach_keeps (P := fun k => k.mem = m.mem) (fun k w => k.wr (a w) (BitVec.ofNat 64 (num b (8 * w) 8))) _ (fun _ _ _ hk => hk) m rfl
theorem mem_sendOut (m : Mod) (o : Out) : (m.sendOut o).mem = m.mem := by
  unfold sendOut
  repeat' split
  all_goals rfl
theorem mem_completeCmd {c : HostCmd} (hc : c.ch = .mcmd) (m : Mod) (code : W16) (n : Nat) (b : List Byte) : (m.completeCmd c code n b).mem = m.mem := by
  simp only [completeCmd, hc]
  split <;> simp [mem_sendOut, mem_putRegs, mem_noteCmd]

/-! ## The end of a save (R514) -/

/-- A tile held for a save is let go: its enable is cleared (R99) and the hold ends. -/
def releaseHeld (m : Mod) (t : Nat) : Mod := (m.stopTile t).modTile t fun y => { y with heldSave := false }

/-- A save without PREEMPT of a slot that is not locked sends its stream and lets the slot's tiles go. -/
theorem mem_saveWritten {m n : Mod} {s : Nat} {x : HostCmd} (hsaving : (m.part s).saving = true) (hx : m.cmdOf s 0x30 = some x) (hch : x.ch = .mcmd)
    (hlocked : m.locked s = false) (hmode : pkPar x.packet 4 1 % 2 = 0) (hn : n = m.sendOut (.stream s (pkPar x.packet 2 2 % 4096) (m.saveStream s (pkPar x.packet 0 2)))) :
    (m.saveWritten s).mem = (forEach n (n.tilesOf s) releaseHeld).mem := by
  have hnot : ¬ pkPar x.packet 4 1 % 2 = 1 := by omega
  subst hn
  simp only [saveWritten, hsaving, hx, hlocked, if_neg hnot]
  exact mem_completeCmd hch _ _ _ _

/-! ## Tiles at rest -/

/-- Memory, registers and tiles are in `n` as in `m`. -/
structure SameTiles (m n : Mod) : Prop where
  mem : n.mem = m.mem
  regs : n.regs = m.regs
  tile : ∀ u, n.tile u = m.tile u

/-- A tile whose enable is clear, and which holds nothing besides its registers. -/
structure AtRest (m : Mod) (t : Nat) : Prop where
  off : m.tileEnabled t = false
  empty : m.tile t = {}

theorem SameTiles.modTile {m n : Mod} {t : Nat} {f : Tile → Tile} (h : SameTiles m n) (hf : f (m.tile t) = m.tile t) : SameTiles m (n.modTile t f) := by
  refine ⟨h.mem, h.regs, fun u => ?_⟩
  rw [Mod.modTile, tile_setTile, h.tile, hf]
  split
  · next hu => rw [hu]
  · exact h.tile u

theorem SameTiles.atRest {m n : Mod} {t : Nat} (h : SameTiles m n) (ht : m.AtRest t) : n.AtRest t := by
  refine ⟨?_, (h.tile t).trans ht.empty⟩
  rw [tileEnabled, flag, rd_of_regs h.regs]
  exact ht.off

/-- A tile at rest has no word to write and no wait to withdraw. -/
theorem SameTiles.releaseHeld {m n : Mod} {t : Nat} (h : SameTiles m n) (ht : m.AtRest t) : SameTiles m (n.releaseHeld t) := by
  obtain ⟨hoff, hempty⟩ := h.atRest ht
  have hfill : n.fillSend t = n := by rw [fillSend, hempty]
  have hdrain : SameTiles m (n.drainRecv t) := by
    rw [drainRecv]
    split
    · rw [hempty]
      exact h.modTile (by rw [ht.empty])
    · exact h
  have hport : n.settlePort t = n.drainRecv t := by
    rw [settlePort, hfill, hdrain.tile, ht.empty]
  rw [Mod.releaseHeld, stopTile, disableTile, if_neg (by rw [hoff]; decide), hport]
  exact hdrain.modTile (by rw [ht.empty])

/-- Where the other tiles of a list rest, letting the first one go is all that reaches the memory. -/
theorem mem_releaseHeld_first {m : Mod} {t : Nat} {l : List Nat} (hl : ∀ u ∈ l, (m.releaseHeld t).AtRest u) :
    (forEach m (t :: l) releaseHeld).mem = (m.releaseHeld t).mem :=
  (forEach_keeps (P := SameTiles (m.releaseHeld t)) _ l (fun _ u hu hn => hn.releaseHeld (hl u hu)) _ ⟨rfl, rfl, fun _ => rfl⟩).mem

end Mod

/-! ## The counterexample -/

/-- An MMA of shape W8 in progress: it keeps the exchange port from the quarters (R222). -/
def runningPass : QEntry := { op := 0x40, f := 2#56 <<< 53, th := 0, pc := 0, layer := 0, role := 0, args := [], seq := 0, started := true }
/-- A tile held for a save whose pass is in progress; the kerf of its phase has ended, and its port still holds a received word, of value 1 (R223). -/
def lateTile : Tile := { heldSave := true, queues := [(0, [runningPass])], xEntry := some 0, xOver := some 0, xIn := [{ desc := 0, num := 0, word := 1 }] }
/-- CTX_SAVE of context 0 of slot 0, without PREEMPT. -/
def saveCommand : HostCmd := { ch := .mcmd, packet := bytesOf 2 0x30 ++ List.replicate 62 0, index := 0 }
/-- The save of slot 0, on die 0, is in progress, and tile 0 is such a tile. -/
def saveWithLatePort : State :=
  { pending := []
    m := { ((((Mod.goState {} 2 0).setF MOD_PART_MAP 0 4 8).setFlag (TILE_CTL 0) 0 true).setTile 0 lateTile).modPart 0 fun y => { y with saving := true } with
      cmds := [saveCommand] } }
/-- The module once the stream of that save has left. -/
def saveSent : Mod := saveWithLatePort.m.sendOut (.stream 0 (pkPar saveCommand.packet 2 2 % 4096) (saveWithLatePort.m.saveStream 0 (pkPar saveCommand.packet 0 2)))

theorem saveSent_tiles : saveSent.tilesOf 0 = 0 :: (upto 160).tail := by decide +kernel
theorem saveSent_rest : ∀ t ∈ (upto 160).tail, (saveSent.releaseHeld 0).tileEnabled t = false ∧ (saveSent.releaseHeld 0).tile t = {} := by decide +kernel
theorem saveSent_byte : (saveSent.releaseHeld 0).ldByte 0 = 1 := by decide +kernel

/-- Tile 0 is the only one of the slot that stores anything as it is let go. -/
theorem saveWritten_byte : (saveWithLatePort.m.saveWritten 0).ldByte 0 = 1 := by
  have hmem : (saveWithLatePort.m.saveWritten 0).mem = (saveSent.releaseHeld 0).mem := calc
    (saveWithLatePort.m.saveWritten 0).mem = (forEach saveSent (saveSent.tilesOf 0) Mod.releaseHeld).mem :=
      Mod.mem_saveWritten (by decide) (x := saveCommand) (by decide) rfl (by decide) (by decide) rfl
    _ = (saveSent.releaseHeld 0).mem := by
      rw [saveSent_tiles]
      exact Mod.mem_releaseHeld_first fun u hu => ⟨(saveSent_rest u hu).1, (saveSent_rest u hu).2⟩
  rw [Mod.ldByte, hmem]
  exact saveSent_byte

/-- Refutes O55: the clause on the end of a save has it leave all memory as it was.  Where a pass in progress has kept a tile's port from the quarters, clearing
the tile's enable stops the pass (R99), and the port then writes the received word that it still holds (R222, R223). -/
theorem not_contextsAndCheckpoints : ¬ Obligations.ContextsAndCheckpoints := by
  intro h
  obtain ⟨-, -, -, -, -, hwritten, -⟩ := h saveWithLatePort .mcmd [] _ _ _ rfl rfl rfl
  obtain ⟨k, hdoes, -, -, hkept⟩ := hwritten 0 saveCommand (by decide) (by decide) (by decide) (by decide) (by decide) (by decide) (by decide)
  have hactual : Does (.ctxSaveWritten 0) saveWithLatePort (saveWithLatePort.m.saveWritten 0) :=
    does_onSlot (f := fun m => if m.halted then m else m.saveWritten 0) (by decide) (by decide) rfl (if_neg (by decide))
  have hmem : (saveWithLatePort.m.saveWritten 0).mem = saveWithLatePort.m.mem := by
    rw [does_unique hactual hdoes, Mod.mem_completeCmd rfl, hkept]
  have hbyte : saveWithLatePort.m.ldByte 0 = 1 := by
    rw [Mod.ldByte, ← hmem]
    exact saveWritten_byte
  exact absurd hbyte (by decide)

end Sys2Proof.Machine
end

section
/-! PROOF. Byte strings by their pieces (R5), and the commit record: what is written reads back, and a wrong MAGIC does not read (R373, R375). -/

namespace Sys2Proof

/-! ## Numbers in a string that is put together from pieces (R5) -/

/-- The piece in front spells its own number. -/
theorem num_bytesOf_append (n v : Nat) (b : List Byte) : num (bytesOf n v ++ b) 0 n = v % 256 ^ n := by
  rw [num, List.drop_zero, List.take_left' (bytesOf_length n v), natOf_bytesOf]

/-- What lies behind the piece in front is found in the rest. -/
theorem num_bytesOf_append_behind {k o : Nat} (h : k ≤ o) (v n : Nat) (b : List Byte) : num (bytesOf k v ++ b) o n = num b (o - k) n := by
  rw [num, List.drop_append, bytesOf_length, List.drop_eq_nil_of_le (by rwa [bytesOf_length]), List.nil_append, num]

/-- The first byte is the lowest of the number (R5). -/
theorem num_cons_mod (x : Byte) (b : List Byte) (n : Nat) : num (x :: b) 0 (n + 1) % 256 = x.toNat := by
  have hx : x.toNat < 256 := x.isLt
  rw [num, List.drop_zero, List.take_succ_cons, natOf]
  omega

namespace Machine

/-! ## The commit record (R373) -/

section
variable (c : CommitRecord)

theorem length_commitHead : (commitHead c).length = 0x18 := by simp [commitHead]
theorem length_commitBytes : (commitBytes c).length = 64 := by simp [commitBytes, length_commitHead]

/-- The checked part of a record is its head. -/
theorem take_commitBytes : (commitBytes c).take 0x18 = commitHead c := by
  simp only [commitBytes, List.append_assoc]
  exact List.take_left' (length_commitHead c)

/-- The fields of a record that has been written. -/
theorem num_commitBytes :
    num (commitBytes c) 0 4 = 0x4D43_4454 % 256 ^ 4 ∧ num (commitBytes c) 4 1 = c.slot % 256 ^ 1 ∧ num (commitBytes c) 8 8 = c.step % 256 ^ 8 ∧
    num (commitBytes c) 0x10 4 = c.tensor % 256 ^ 4 ∧ num (commitBytes c) 0x14 4 = c.elems % 256 ^ 4 ∧
    num (commitBytes c) 0x18 4 = (crc32 (commitHead c)).toNat % 256 ^ 4 ∧ num (commitBytes c) 0x20 8 = c.prev % 256 ^ 8 := by
  generalize hcheck : (crc32 (commitHead c)).toNat = check
  rw [commitBytes, hcheck, commitHead]
  refine ⟨?_, ?_, ?_, ?_, ?_, ?_, ?_⟩ <;> simp [num_bytesOf_append, num_bytesOf_append_behind, -Nat.reducePow, -Nat.reduceMod]

end

/-- A record whose MAGIC starts with a wrong byte is none (R375). -/
theorem readCommit_wrong_magic {x : Byte} (hx : x ≠ 0x54) (b : List Byte) : readCommit (x :: b) = none := by
  refine if_neg fun ⟨hmagic, _, _⟩ => hx ?_
  have hlow := num_cons_mod x b 3
  rw [hmagic] at hlow
  exact BitVec.eq_of_toNat_eq hlow.symm

/-- A record whose fields fit reads back (R373, R375). -/
theorem readCommit_commitBytes {c : CommitRecord} (hslot : c.slot < 2) (hstep : c.step < 2 ^ 64) (htensor : c.tensor < 2 ^ 32) (helems : c.elems < 2 ^ 32)
    (hprev : c.prev < 2 ^ 64) : readCommit (commitBytes c) = some c := by
  obtain ⟨hmagic, hs, ht, hn, he, hcheck, hp⟩ := num_commitBytes c
  rw [Nat.mod_eq_of_lt (by omega)] at hmagic hs ht hn he hp
  rw [Nat.mod_eq_of_lt (show _ < 256 ^ 4 from (crc32 (commitHead c)).isLt)] at hcheck
  rw [readCommit, take_commitBytes, hmagic, hs, ht, hn, he, hp, if_pos ⟨rfl, hslot, hcheck⟩]

/-- Settles O39: the fields of the written pieces, and the lowest byte of MAGIC. -/
theorem commitRecordReadsBack : Obligations.CommitRecordReadsBack := by
  intro c hslot hstep htensor helems hprev
  exact ⟨readCommit_commitBytes hslot hstep htensor helems hprev, length_commitBytes c, fun x hx => readCommit_wrong_magic hx _⟩

end Machine
end Sys2Proof
end

section
/-! PROOF. The step block (R383 to R387): the buoys that it sets, what the two decisions leave, and what ends its waits. -/

open Sys2Proof.Safety

namespace Sys2Proof.Machine
namespace Mod

/-! ## What a home's messages leave of registers and time (R280, R283, R284, R516) -/

/-- Registers and time are in `n` as in `m`, but for the count of ended commands, which the answer to a watch advances. -/
structure SameButEnded (m n : Mod) : Prop where
  rd : ∀ a, a ≠ CNT_CMD_DONE → n.rd a = m.rd a
  count : n.count = m.count
  haltAt : n.haltAt = m.haltAt

namespace SameButEnded
section
variable {m n : Mod} {b : Nat}

theorem refl (m : Mod) : SameButEnded m m := ⟨fun _ _ => rfl, rfl, rfl⟩
theorem setBuoy {x : Buoy} (h : SameButEnded m n) : SameButEnded m (n.setBuoy b x) := ⟨h.rd, h.count, h.haltAt⟩
theorem sendRelease {w : Waiter} {x : Release} (h : SameButEnded m n) : SameButEnded m (n.sendRelease w x) := by
  cases w <;> exact ⟨h.rd, h.count, h.haltAt⟩
theorem sendOut {o : Out} (h : SameButEnded m n) : SameButEnded m (n.sendOut o) := by
  unfold Mod.sendOut
  split
  · split <;> exact ⟨h.rd, h.count, h.haltAt⟩
  · exact ⟨h.rd, h.count, h.haltAt⟩
theorem answerWatch {w : Watch} {msg : List Byte} (h : SameButEnded m n) : SameButEnded m (n.answerWatch b w msg) := by
  unfold Mod.answerWatch
  split
  · split
    · exact ⟨fun a ha => (rd_addCnt_other n 1 ha).trans (h.rd a ha), h.count, h.haltAt⟩
    · exact h
  · exact h
theorem sendWatch {w : Watch} {v : W32} {status : Nat} (h : SameButEnded m n) : SameButEnded m (n.sendWatch b w status v) := by
  unfold Mod.sendWatch
  dsimp only
  split
  · exact h.sendOut.answerWatch
  · exact h.sendOut
theorem evalBuoy (h : SameButEnded m n) : SameButEnded m (n.evalBuoy b) := by
  unfold Mod.evalBuoy
  exact forEach_keeps _ _ (fun _ _ _ hk => hk.sendOut) _
    (foldl_keeps _ _ (fun _ _ _ hk => hk.sendWatch) _ (foldl_keeps _ _ (fun _ _ _ hk => hk.sendRelease) _ h.setBuoy))
theorem setStepBuoy {v : Nat} (h : SameButEnded m n) : SameButEnded m (n.setStepBuoy b v) := by
  unfold Mod.setStepBuoy buoySetBy
  split
  · exact h.setBuoy.evalBuoy
  · exact h

theorem fld {a : Nat} (h : SameButEnded m n) (ha : a ≠ CNT_CMD_DONE) (p q : Nat) : n.fld a p q = m.fld a p q := by rw [Mod.fld, h.rd a ha, Mod.fld]
/-- A clock that pauses in HALTED shows the same. -/
theorem pausedCount (h : SameButEnded m n) : n.pausedCount = m.pausedCount := by
  rw [Mod.pausedCount, halted, modState, h.fld (by decide), h.count, h.haltAt, Mod.pausedCount, halted, modState]

end
end SameButEnded

/-- The registers of a slot lie below the host interface's. -/
theorem partReg_ne_cmdDone {p o : Nat} (hp : p < 8) (ho : o < 0x1_0000) : partReg p o ≠ CNT_CMD_DONE := by
  simp only [partReg, CNT_CMD_DONE, hostReg]
  omega

/-! ## A buoy that the step block sets (R385) -/

theorem setStepBuoy_live {m : Mod} {b : Nat} (hlive : m.buoyLive b = true) (v : Nat) : m.setStepBuoy b v = m.buoySetOp b (BitVec.ofNat 32 v) 0 := if_pos hlive
theorem value_setStepBuoy {m : Mod} {b : Nat} (hlive : m.buoyLive b = true) (v : Nat) : ((m.setStepBuoy b v).buoy b).value = BitVec.ofNat 32 v := by
  rw [setStepBuoy_live hlive, value_buoySetOp]

section
variable (m : Mod) (b v : Nat)

theorem buoy_setStepBuoy_other {k : Nat} (h : k ≠ b) : (m.setStepBuoy b v).buoy k = m.buoy k := by
  unfold setStepBuoy buoySetBy
  split
  · exact buoy_buoyWrite_other m b _ _ h
  · rfl
theorem mem_setStepBuoy : (m.setStepBuoy b v).mem = m.mem := by
  unfold setStepBuoy buoySetBy
  split
  · exact mem_buoyWrite m b _ _
  · rfl
theorem buoyLive_setStepBuoy_other {k : Nat} (h : k ≠ b) : (m.setStepBuoy b v).buoyLive k = m.buoyLive k := by
  rw [buoyLive, buoy_setStepBuoy_other m b v h, buoyLive]

theorem locGateBuoy_setStepBuoy {p : Nat} (hp : p < 8) : (m.setStepBuoy b v).locGateBuoy p = m.locGateBuoy p :=
  (SameButEnded.refl m).setStepBuoy.fld (partReg_ne_cmdDone hp (by decide)) _ _

end

section
variable (m : Mod) (p v : Nat)

theorem mem_setStepPhase : (m.setStepPhase p v).mem = m.mem := by rw [setStepPhase, mem_setF]
theorem buoy_setStepPhase (b : Nat) : (m.setStepPhase p v).buoy b = m.buoy b := by rw [setStepPhase, buoy, buoys_setF, buoy]
theorem part_setStepPhase (k : Nat) : (m.setStepPhase p v).part k = m.part k := by rw [setStepPhase, part, parts_setF, part]

end

theorem stepPhase_setStepPhase (m : Mod) (p : Nat) {v : Nat} (h : v < 16) : (m.setStepPhase p v).stepPhase p = v :=
  (fld_setF_same m (STEP_STATUS p) 0 4 v (by decide)).trans (Nat.mod_eq_of_lt h)

/-! ## Decision 1 (R385) -/

section
variable {m : Mod} {p : Nat}

/-- The module once both gates are signalled. -/
def gatesSet (m : Mod) (p g l : Nat) : Mod := (m.setStepBuoy (m.repGateBuoy p) g).setStepBuoy (m.locGateBuoy p) l
/-- The module once decision 1 has signalled the gates and gone to a phase. -/
def decided1 (m : Mod) (p g l ph : Nat) : Mod := ((m.gatesSet p g l).modPart p (fun x => { x with decision1At := m.pausedCount })).setStepPhase p ph

theorem decide1_complete (hp : p < 8) (hjob : m.jobRuns p = true) (hphase : m.stepPhase p = 2) (hvotes : m.voteComplete p 2 = true) :
    m.decide1 p = m.decided1 p (if bit (m.part p).vote1.flags 1 || bit (m.part p).vote1.flags 0 then 2 else 1) (if bit (m.part p).vote1.flags 1 then 2 else 1)
      (if bit (m.part p).vote1.flags 1 then 6 else 3) := by
  rw [decide1, if_pos (by simp [hjob, hphase, hvotes])]
  dsimp only
  rw [locGateBuoy_setStepBuoy m _ _ hp, (SameButEnded.refl m).setStepBuoy.setStepBuoy.pausedCount]
  rfl

variable (g l ph : Nat)

theorem mem_decided1 : (m.decided1 p g l ph).mem = m.mem := by
  rw [decided1, mem_setStepPhase, modPart, mem_setPart, gatesSet, mem_setStepBuoy, mem_setStepBuoy]
theorem decision1At_decided1 : ((m.decided1 p g l ph).part p).decision1At = m.pausedCount := by
  rw [decided1, part_setStepPhase, modPart, part_setPart_same]
theorem buoy_decided1 (k : Nat) : (m.decided1 p g l ph).buoy k = (m.gatesSet p g l).buoy k := by
  rw [decided1, buoy_setStepPhase, modPart, buoy, buoys_setPart, buoy]
theorem stepPhase_decided1 {ph : Nat} (h : ph < 16) : (m.decided1 p g l ph).stepPhase p = ph := stepPhase_setStepPhase _ p h
theorem buoy_gatesSet_other {k : Nat} (hrep : k ≠ m.repGateBuoy p) (hloc : k ≠ m.locGateBuoy p) : (m.gatesSet p g l).buoy k = m.buoy k :=
  (buoy_setStepBuoy_other _ _ _ hloc).trans (buoy_setStepBuoy_other _ _ _ hrep)

section
variable (hne : m.repGateBuoy p ≠ m.locGateBuoy p)
include hne

theorem value_gatesSet_rep (hlive : m.buoyLive (m.repGateBuoy p) = true) : ((m.gatesSet p g l).buoy (m.repGateBuoy p)).value = BitVec.ofNat 32 g := by
  rw [gatesSet, buoy_setStepBuoy_other _ _ _ hne, value_setStepBuoy hlive]
theorem value_gatesSet_loc (hlive : m.buoyLive (m.locGateBuoy p) = true) : ((m.gatesSet p g l).buoy (m.locGateBuoy p)).value = BitVec.ofNat 32 l :=
  value_setStepBuoy ((buoyLive_setStepBuoy_other _ _ _ hne.symm).trans hlive) l

end
end

/-! ## Decision 2 (R385, R398) -/

/-- The step status of slot `p`, the buoys and the memory are in `n` as in `m`. -/
structure SameOutcome (p : Nat) (m n : Mod) : Prop where
  status : n.rd (STEP_STATUS p) = m.rd (STEP_STATUS p)
  buoys : n.buoys = m.buoys
  mem : n.mem = m.mem

namespace SameOutcome
section
variable {p : Nat} {m n : Mod}

theorem refl (p : Nat) (m : Mod) : SameOutcome p m m := ⟨rfl, rfl, rfl⟩
theorem wr {a : Nat} {v : W64} (h : SameOutcome p m n) (ha : STEP_STATUS p ≠ a) : SameOutcome p m (n.wr a v) :=
  ⟨(rd_wr_other n v ha).trans h.status, h.buoys, h.mem⟩
theorem setStack {k : Nat} {x : Stack} (h : SameOutcome p m n) : SameOutcome p m (n.setStack k x) := ⟨(rd_of_regs rfl _).trans h.status, h.buoys, h.mem⟩
/-- The shard states stand in the stacks' windows, which lie above the slots' (R339, R399). -/
theorem startZeroing {k e : Nat} {ring : Option (Nat × W32)} {again toIdle : Bool} (h : SameOutcome p m n) (hp : p < 8) :
    SameOutcome p m (n.startZeroing k e ring again toIdle) := by
  have hne : STEP_STATUS p ≠ PSTATE k e := by
    simp only [STEP_STATUS, partReg, PSTATE, stackReg]
    omega
  exact (h.wr hne).setStack
theorem fillView (h : SameOutcome p m n) : SameOutcome p m (n.fillView p) := by
  have hview (w : Nat) : STEP_STATUS p ≠ STEER_VIEW p w := by
    simp only [STEP_STATUS, STEER_VIEW, partReg]
    omega
  have hviewG : STEP_STATUS p ≠ STEER_VIEW_G p := by
    simp only [STEP_STATUS, STEER_VIEW_G, partReg]
    omega
  rw [Mod.fillView]
  exact forEach_keeps _ _ (fun _ _ _ hk => (hk.wr (hview _)).wr (hview _)) _ (h.wr hviewG)
theorem stepPhase (h : SameOutcome p m n) : n.stepPhase p = m.stepPhase p := by rw [Mod.stepPhase, Mod.fld, h.status, Mod.stepPhase, Mod.fld]
theorem buoy (h : SameOutcome p m n) (b : Nat) : n.buoy b = m.buoy b := by rw [Mod.buoy, h.buoys, Mod.buoy]

end
end SameOutcome

section
variable {m : Mod} {p : Nat}

theorem timedOut_of_le (hrun : m.halted = false) {since : W64} (h : since.toNat + m.fld (STEP_TIMING p) 0 32 ≤ m.count.toNat) : m.timedOut p since = true := by
  simp [timedOut, hrun, h]

variable (hjob : m.jobRuns p = true)
include hjob

section
variable (hphase : m.stepPhase p = 4) (hvotes : m.voteComplete p 3 = true)
include hphase hvotes

theorem decide2_fatal (hfatal : bit (m.part p).vote2.flags 1 = true) : m.decide2 p = (m.setStepBuoy (m.finalBuoy p) 2).setStepPhase p 6 := by
  rw [decide2, if_pos (by simp [hjob, hphase, hvotes]), if_pos hfatal]
/-- FINAL: the buoy and the phase; the discards and the view change neither, nor any memory. -/
theorem decide2_final (hp : p < 8) (hgood : bit (m.part p).vote2.flags 1 = false) :
    SameOutcome p ((m.setStepBuoy (m.finalBuoy p) 1).setStepPhase p 5) (m.decide2 p) := by
  rw [decide2, if_pos (by simp [hjob, hphase, hvotes]), if_neg (by simp [hgood])]
  refine SameOutcome.fillView (foldl_keeps _ _ (fun n i _ hn => ?_) _ (SameOutcome.refl p _))
  split
  · exact hn.startZeroing hp
  · exact hn

end

/-! ## Settling, rollback and what ends a wait (R383, R384, R387) -/

theorem settleStep_settled (hphase : m.stepPhase p = 3) (hsettled : m.settled p = true) {h : Nat}
    (hh : h = ((m.validShards p).filter (fun i => decide (m.shardState i.1 i.2 = 5))).length + (m.buoy (m.settleBuoy p)).value.toNat / 2 ^ 16) :
    m.settleStep p = (((((m.setF (STEP_RESULT p) 16 16 (min h 0xFFFF)).addCnt (CNT_WITHHELD p) h).setStepPhase p 4).followSteer p).takeVote2 p) := by
  rw [settleStep, if_pos (by simp [hjob, hphase, hsettled]), hh]

theorem rollback_idle (hphase : m.stepPhase p = 6) (hfirst : (m.part p).rollbackDone = false) (hidle : m.planesIdle p = true) :
    m.rollback p = ((m.validShards p).foldl (fun m i => m.rollShard i.1 i.2) m).modPart p (fun x => { x with rollbackDone := true }) :=
  if_pos (by simp [hjob, hphase, hfirst, hidle])

section
variable (hrun : m.halted = false)
include hrun

theorem voteMissing_vote1 (hphase : m.stepPhase p = 2) (hsent : (m.part p).vote1.sent = true) (hopen : m.voteComplete p 2 = false)
    (hlate : (m.part p).vote1.at_.toNat + m.fld (STEP_TIMING p) 0 32 ≤ m.count.toNat) : m.voteMissing p = m.raiseStepBlock p 0x0B21 :=
  if_pos (by simp [hjob, hphase, hsent, hopen, timedOut_of_le hrun hlate])
theorem voteMissing_vote2 (hphase : m.stepPhase p = 4) (hsent : (m.part p).vote2.sent = true) (hopen : m.voteComplete p 3 = false)
    (hlate : (m.part p).vote2.at_.toNat + m.fld (STEP_TIMING p) 0 32 ≤ m.count.toNat) : m.voteMissing p = m.raiseStepBlock p 0x0B21 :=
  if_pos (by simp [hjob, hphase, hsent, hopen, timedOut_of_le hrun hlate])
theorem settleMissing_late (hphase : m.stepPhase p = 3) (hopen : m.settled p = false)
    (hlate : (m.part p).decision1At.toNat + m.fld (STEP_TIMING p) 0 32 ≤ m.count.toNat) :
    m.settleMissing p = (((((m.raiseStepBlock p 0x0B28).setFlag (STEP_STATUS p) 8 true).setStepPhase p 4).followSteer p).takeVote2 p) :=
  if_pos (by simp [hjob, hphase, hopen, timedOut_of_le hrun hlate])

end
end
end Mod

/-! ## The commands -/

section
variable {s : State} {p : Nat} {n : Mod} (hup : s.m.mainUp = true) (hp : p < 8)
include hup hp

theorem does_stepDecision1 (hn : s.m.decide1 p = n) : Does (.stepDecision1 p) s n := does_onSlot (f := fun m => m.decide1 p) hup hp rfl hn
theorem does_stepSettle (hn : s.m.settleStep p = n) : Does (.stepSettle p) s n := does_onSlot (f := fun m => m.settleStep p) hup hp rfl hn
theorem does_stepDecision2 (hn : s.m.decide2 p = n) : Does (.stepDecision2 p) s n := does_onSlot (f := fun m => m.decide2 p) hup hp rfl hn
theorem does_stepRollback (hn : s.m.rollback p = n) : Does (.stepRollback p) s n := does_onSlot (f := fun m => m.rollback p) hup hp rfl hn
theorem does_voteTimeout (hn : s.m.voteMissing p = n) : Does (.voteTimeout p) s n := does_onSlot (f := fun m => m.voteMissing p) hup hp rfl hn
theorem does_settleTimeout (hn : s.m.settleMissing p = n) : Does (.settleTimeout p) s n := does_onSlot (f := fun m => m.settleMissing p) hup hp rfl hn

end

/-- Decision 1 of a complete vote: the phase, both gates, the time of the decision, and no other buoy. -/
theorem stepDecision1_complete {s : State} {p : Nat} (hup : s.m.mainUp = true) (hp : p < 8) (hjob : s.m.jobRuns p = true) (hphase : s.m.stepPhase p = 2)
    (hvotes : s.m.voteComplete p 2 = true) (hne : s.m.repGateBuoy p ≠ s.m.locGateBuoy p) (hrep : s.m.buoyLive (s.m.repGateBuoy p) = true)
    (hloc : s.m.buoyLive (s.m.locGateBuoy p) = true) :
    ∃ t, exec (.stepDecision1 p) s = .next t ∧ t.pending = s.pending ∧ t.m.mem = s.m.mem ∧
      t.m.stepPhase p = (if bit (s.m.part p).vote1.flags 1 then 6 else 3) ∧
      (t.m.buoy (s.m.repGateBuoy p)).value = (if bit (s.m.part p).vote1.flags 1 || bit (s.m.part p).vote1.flags 0 then 2 else 1) ∧
      (t.m.buoy (s.m.locGateBuoy p)).value = (if bit (s.m.part p).vote1.flags 1 then 2 else 1) ∧
      (t.m.part p).decision1At = s.m.pausedCount ∧ (∀ b, b ≠ s.m.repGateBuoy p → b ≠ s.m.locGateBuoy p → t.m.buoy b = s.m.buoy b) := by
  refine ⟨_, does_stepDecision1 hup hp (Mod.decide1_complete hp hjob hphase hvotes), rfl, Mod.mem_decided1 _ _ _, Mod.stepPhase_decided1 _ _ (by split <;> decide),
    ?_, ?_, Mod.decision1At_decided1 _ _ _, fun b hr hl => (Mod.buoy_decided1 _ _ _ b).trans (Mod.buoy_gatesSet_other _ _ hr hl)⟩
  · rw [Mod.buoy_decided1, Mod.value_gatesSet_rep _ _ hne hrep]
    split <;> rfl
  · rw [Mod.buoy_decided1, Mod.value_gatesSet_loc _ _ hne hloc]
    split <;> rfl

/-- Decision 2 without a FATAL: the phase, the buoy FINAL, and no other buoy. -/
theorem stepDecision2_final {s : State} {p : Nat} (hup : s.m.mainUp = true) (hp : p < 8) (hjob : s.m.jobRuns p = true) (hphase : s.m.stepPhase p = 4)
    (hvotes : s.m.voteComplete p 3 = true) (hgood : bit (s.m.part p).vote2.flags 1 = false) (hlive : s.m.buoyLive (s.m.finalBuoy p) = true) :
    ∃ t, exec (.stepDecision2 p) s = .next t ∧ t.m.stepPhase p = 5 ∧ (t.m.buoy (s.m.finalBuoy p)).value = 1 ∧
      (∀ b, b ≠ s.m.finalBuoy p → t.m.buoy b = s.m.buoy b) ∧ t.m.mem = s.m.mem := by
  have hsame := Mod.decide2_final hjob hphase hvotes hp hgood
  have hbuoy (b : Nat) : (s.m.decide2 p).buoy b = (s.m.setStepBuoy (s.m.finalBuoy p) 1).buoy b := (hsame.buoy b).trans (Mod.buoy_setStepPhase _ _ _ b)
  refine ⟨_, does_stepDecision2 hup hp rfl, hsame.stepPhase.trans (Mod.stepPhase_setStepPhase _ p (by decide)), ?_, fun b hb => ?_, ?_⟩
  · rw [hbuoy, Mod.value_setStepBuoy hlive]
    rfl
  · rw [hbuoy, Mod.buoy_setStepBuoy_other _ _ _ hb]
  · rw [hsame.mem, Mod.mem_setStepPhase, Mod.mem_setStepBuoy]

/-- Settles O40: the decisions by the buoys that they set, the rest by the condition of its branch. -/
theorem stepDecisions : Obligations.StepDecisions := by
  refine ⟨fun s p hup hp hjob => ⟨?_, ?_, fun hphase hvotes => ⟨?_, ?_⟩, ?_⟩, fun s p hup hp hjob hrun => ⟨?_, ?_, ?_⟩⟩
  · exact stepDecision1_complete hup hp hjob
  · rintro h a hphase hsettled hh rfl
    exact does_stepSettle hup hp (Mod.settleStep_settled hjob hphase hsettled hh)
  · exact fun hfatal => does_stepDecision2 hup hp (Mod.decide2_fatal hjob hphase hvotes hfatal)
  · exact stepDecision2_final hup hp hjob hphase hvotes
  · exact fun hphase hfirst hidle => does_stepRollback hup hp (Mod.rollback_idle hjob hphase hfirst hidle)
  · exact fun hphase hsent hopen hlate => does_voteTimeout hup hp (Mod.voteMissing_vote1 hjob hrun hphase hsent hopen hlate)
  · exact fun hphase hsent hopen hlate => does_voteTimeout hup hp (Mod.voteMissing_vote2 hjob hrun hphase hsent hopen hlate)
  · exact fun hphase hopen hlate => does_settleTimeout hup hp (Mod.settleMissing_late hjob hrun hphase hopen hlate)

end Sys2Proof.Machine
end

section
/-! PROOF. Steering entries (R395, R398, R401): what an accepted entry stages, how a refused one is reported, and what a push writes. -/

open Sys2Proof.Safety

namespace Sys2Proof

/-! ## Byte strings (R5) -/

theorem natOf_lt (b : List Byte) : natOf b < 256 ^ b.length := by
  induction b with
  | nil => decide
  | cons x r ih =>
    have hx : x.toNat < 256 := x.isLt
    rw [natOf, List.length_cons, Nat.pow_succ]
    omega
theorem num_lt (b : List Byte) (o n : Nat) : num b o n < 256 ^ n :=
  (natOf_lt _).trans_le (Nat.pow_le_pow_right (by decide) (by simp))

/-- Pieces of one length, one after the other. -/
theorem length_flatMap_of_length {α : Type} {f : α → List Byte} {k : Nat} (hf : ∀ x, (f x).length = k) (l : List α) : (l.flatMap f).length = l.length * k := by
  simp [List.length_flatMap, hf]
/-- A piece is found at its place. -/
theorem slice_flatMap_upto {f : Nat → List Byte} {k : Nat} (hf : ∀ i, (f i).length = k) {n i : Nat} (hi : i < n) : (((upto n).flatMap f).drop (k * i)).take k = f i := by
  obtain ⟨d, rfl⟩ := Nat.exists_eq_add_of_lt hi
  have hpieces : (upto (i + d + 1)).flatMap f = (upto i).flatMap f ++ (f i ++ (List.range' (i + 1) d).flatMap f) := by
    simp only [upto, List.range_eq_range', Nat.add_assoc i d 1, ← List.range'_append_1, List.flatMap_append, Nat.zero_add, List.range'_succ, List.flatMap_cons]
  have hbefore : ((upto i).flatMap f).length = k * i := by rw [length_flatMap_of_length hf, upto, List.length_range, Nat.mul_comm]
  rw [hpieces, List.drop_left' hbefore, List.take_left' (hf i)]

/-! ## A list of pairs searched by key -/

namespace Sparse
section
variable {α : Type}

theorem find?_erase_other (l : List (Nat × α)) {k j : Nat} (h : j ≠ k) : (erase k l).find? (fun p => decide (p.1 = j)) = l.find? (fun p => decide (p.1 = j)) := by
  induction l with
  | nil => rfl
  | cons p r ih =>
    by_cases hk : p.1 = k
    · rw [erase, if_pos hk, ih, List.find?_cons_of_neg (by simpa [hk] using h.symm)]
    · rw [erase, if_neg hk, List.find?_cons, ih, List.find?_cons]
theorem find?_insertAt_other (l : List (Nat × α)) {k j : Nat} (v : α) (h : j ≠ k) :
    (insertAt k v l).find? (fun p => decide (p.1 = j)) = l.find? (fun p => decide (p.1 = j)) := by
  have hskip (r : List (Nat × α)) : ((k, v) :: r).find? (fun p => decide (p.1 = j)) = r.find? (fun p => decide (p.1 = j)) :=
    List.find?_cons_of_neg (by simpa using h.symm)
  induction l with
  | nil => exact hskip []
  | cons p r ih =>
    rw [insertAt]
    split
    · exact hskip _
    · rw [List.find?_cons, ih, List.find?_cons]
theorem find?_insertAt_same {l : List (Nat × α)} {k : Nat} (v : α) (h : ∀ x, (k, x) ∉ l) : (insertAt k v l).find? (fun p => decide (p.1 = k)) = some (k, v) := by
  induction l with
  | nil => exact List.find?_cons_of_pos (by simp)
  | cons p r ih =>
    rw [insertAt]
    split
    · exact List.find?_cons_of_pos (by simp)
    · have hp : p.1 ≠ k := fun hk => h p.2 (by simp [← hk])
      rw [List.find?_cons_of_neg (by simpa using hp), ih fun x hx => h x (List.mem_cons_of_mem _ hx)]

end
end Sparse

namespace Machine
namespace Mod

/-- A loop whose step for `i` changes what `view` shows of `i` alone. -/
theorem forEach_pointwise {α : Type} {view : Mod → Nat → α} {f : Mod → Nat → Mod} {g : Nat → α → α}
    (hf : ∀ m i k, view (f m i) k = if k = i then g k (view m k) else view m k) {l : List Nat} (hl : l.Nodup) (m : Mod) (k : Nat) :
    view (forEach m l f) k = if k ∈ l then g k (view m k) else view m k := by
  induction l generalizing m with
  | nil => rfl
  | cons i l ih =>
    obtain ⟨hi, hl⟩ := List.nodup_cons.mp hl
    have hrest : view (forEach m (i :: l) f) k = _ := ih hl (f m i)
    rw [hrest, hf]
    by_cases hk : k = i
    · subst hk
      simp [hi]
    · simp [hk]

/-! ## Staged words (R8) -/

theorem stagedWord_of_same {m n : Mod} (hstaged : n.staged = m.staged) (hregs : n.regs = m.regs) (a : Nat) : n.stagedWord a = m.stagedWord a := by
  unfold stagedWord
  rw [hstaged, rd_of_regs hregs]
theorem stagedWord_stage (m : Mod) (a b : Nat) (v : W64) : (m.stage a v).stagedWord b = if b = a then v else m.stagedWord b := by
  have hstaged : (m.stage a v).staged = Sparse.insertAt a v (Sparse.erase a m.staged) := rfl
  have hrd : (m.stage a v).rd b = m.rd b := rd_of_regs (regs_stage m a v) b
  unfold stagedWord
  rw [hstaged, hrd]
  split_ifs with h
  · subst h
    rw [Sparse.find?_insertAt_same v (Sparse.not_mem_erase m.staged b)]
  · rw [Sparse.find?_insertAt_other _ v h, Sparse.find?_erase_other _ h]

/-- `n` is `m` but for what is staged and for where the halves' PLLs start. -/
def SameButStaging (m n : Mod) : Prop := ∃ st hv, n = { m with staged := st, halves := hv }

namespace SameButStaging
section
variable {m n : Mod}

theorem refl (m : Mod) : SameButStaging m m := ⟨_, _, rfl⟩
theorem stage {a : Nat} {v : W64} (h : SameButStaging m n) : SameButStaging m (n.stage a v) := by
  obtain ⟨st, hv, rfl⟩ := h
  exact ⟨_, _, rfl⟩
theorem setHalf {i : Nat} {x : Half} (h : SameButStaging m n) : SameButStaging m (n.setHalf i x) := by
  obtain ⟨st, hv, rfl⟩ := h
  exact ⟨_, _, rfl⟩
theorem retarget {i : Nat} (h : SameButStaging m n) : SameButStaging m (n.retarget i) := by
  unfold Mod.retarget
  dsimp only
  split_ifs
  · exact h.setHalf
  · exact h
  · exact h.setHalf
theorem regs (h : SameButStaging m n) : n.regs = m.regs := by
  obtain ⟨st, hv, rfl⟩ := h
  rfl
theorem mem (h : SameButStaging m n) : n.mem = m.mem := by
  obtain ⟨st, hv, rfl⟩ := h
  rfl

end
end SameButStaging

theorem stagedWord_retarget (m : Mod) (i a : Nat) : (m.retarget i).stagedWord a = m.stagedWord a := by
  refine stagedWord_of_same ?_ (SameButStaging.refl m).retarget.regs a
  unfold retarget
  dsimp only
  split_ifs <;> rfl

/-! ## What an entry stages (R395) -/

section
variable (m : Mod) (p : Nat) (b : List Byte)

/-- KERF_MARGIN_BT of an entry goes into its staged copy. -/
def kerfStaged : Mod := if num b 0x12 2 = 0xFFFF then m else m.stage (XCH_CTL p) (setBf (m.stagedWord (XCH_CTL p)) 0 12 (num b 0x12 2))
/-- FREQ of an entry for half `i` goes into its staged copy, and the idle PLL starts. -/
def freqStaged (i : Nat) : Mod := if num b (0x20 + i) 1 = 0 then m else (m.stage (HALF_CLK i) (setBf (m.stagedWord (HALF_CLK i)) 0 8 (num b (0x20 + i) 1))).retarget i

/-- The frequency that an entry leaves for half `i`, which had `old` (R394). -/
def namedFreq (b : List Byte) (i old : Nat) : Nat := if num b (0x20 + i) 1 = 0 then old else num b (0x20 + i) 1

theorem stageSteer_eq : m.stageSteer p b = forEach (m.kerfStaged p b) (upto 16) (fun m i => m.freqStaged b i) := rfl

theorem sameButStaging_stageSteer : SameButStaging m (m.stageSteer p b) := by
  have hkerf : SameButStaging m (m.kerfStaged p b) := by
    rw [kerfStaged]
    split
    · exact .refl m
    · exact (SameButStaging.refl m).stage
  rw [stageSteer_eq]
  refine forEach_keeps _ _ (fun n i _ hn => ?_) _ hkerf
  rw [freqStaged]
  split
  · exact hn
  · exact hn.stage.retarget

theorem stagedWord_kerfStaged_other {a : Nat} (h : a ≠ XCH_CTL p) : (m.kerfStaged p b).stagedWord a = m.stagedWord a := by
  rw [kerfStaged]
  split
  · rfl
  · rw [stagedWord_stage, if_neg h]
theorem stagedWord_freqStaged_other {a i : Nat} (h : a ≠ HALF_CLK i) : (m.freqStaged b i).stagedWord a = m.stagedWord a := by
  rw [freqStaged]
  split
  · rfl
  · rw [stagedWord_retarget, stagedWord_stage, if_neg h]

theorem halfClk_ne_xchCtl {h : Nat} (hh : h < 16) : HALF_CLK h ≠ XCH_CTL p := by
  simp only [HALF_CLK, bcnReg, XCH_CTL, partReg]
  omega

/-- The staged margin: the entry's, or the one before where the entry names none. -/
theorem kerf_stageSteer (hfits : num b 0x12 2 < 4096 ∨ num b 0x12 2 = 0xFFFF) : bf ((m.stageSteer p b).stagedWord (XCH_CTL p)) 0 12 =
    if num b 0x12 2 = 0xFFFF then bf (m.stagedWord (XCH_CTL p)) 0 12 else num b 0x12 2 := by
  have hloop : (m.stageSteer p b).stagedWord (XCH_CTL p) = (m.kerfStaged p b).stagedWord (XCH_CTL p) := by
    rw [stageSteer_eq]
    refine forEach_keeps (P := fun n => n.stagedWord (XCH_CTL p) = _) _ _ (fun n i hi hn => ?_) _ rfl
    rw [stagedWord_freqStaged_other n b (halfClk_ne_xchCtl p (List.mem_range.mp hi)).symm, hn]
  rw [hloop, kerfStaged]
  split
  · rfl
  · next hnamed =>
    rw [stagedWord_stage, if_pos rfl, bf_setBf _ _ _ _ (by decide)]
    exact Nat.mod_eq_of_lt (hfits.resolve_right hnamed)

/-- The staged frequency of a half: the entry's, or the one before where the entry names none. -/
theorem freq_stageSteer {h : Nat} (hh : h < 16) :
    bf ((m.stageSteer p b).stagedWord (HALF_CLK h)) 0 8 = namedFreq b h (bf (m.stagedWord (HALF_CLK h)) 0 8) := by
  have hstep (n : Mod) (i k : Nat) : bf ((n.freqStaged b i).stagedWord (HALF_CLK k)) 0 8 =
      if k = i then namedFreq b k (bf (n.stagedWord (HALF_CLK k)) 0 8) else bf (n.stagedWord (HALF_CLK k)) 0 8 := by
    by_cases hk : k = i
    · subst hk
      rw [freqStaged, namedFreq, if_pos rfl]
      split
      · rfl
      · rw [stagedWord_retarget, stagedWord_stage, if_pos rfl, bf_setBf _ _ _ _ (by decide)]
        exact Nat.mod_eq_of_lt (num_lt b _ 1)
    · have hne : HALF_CLK k ≠ HALF_CLK i := by
        simp only [HALF_CLK, bcnReg]
        omega
      rw [stagedWord_freqStaged_other n b hne, if_neg hk]
  have hnodup : (upto 16).Nodup := List.nodup_range
  have hmem : h ∈ upto 16 := List.mem_range.mpr hh
  rw [stageSteer_eq, forEach_pointwise (view := fun n k => bf (n.stagedWord (HALF_CLK k)) 0 8) (g := namedFreq b) hstep hnodup,
    if_pos hmem, stagedWord_kerfStaged_other m p b (halfClk_ne_xchCtl p hh)]

end

section
variable {m : Mod} {p : Nat}

/-- The margin of an entry that the checks accept fits its field (R395). -/
theorem kerf_of_steerEntryOk {b : List Byte} (h : m.steerEntryOk p b = true) : num b 0x12 2 < 4096 ∨ num b 0x12 2 = 0xFFFF := by
  simp only [steerEntryOk, Bool.and_eq_true, Bool.or_eq_true, decide_eq_true_eq] at h
  obtain ⟨⟨⟨⟨⟨⟨⟨-, hkerf⟩, -⟩, -⟩, -⟩, -⟩, -⟩, -⟩ := h
  exact hkerf

/-- The module once it has taken entry `i` of the log whole. -/
def entryTaken (m : Mod) (p i : Nat) : Mod := (m.stageSteer p (m.logEntry p i)).modPart p (fun x => { x with steerOk := true, steerNew := some i })

section
variable (hjob : m.jobRuns p = true) (hopen : m.steerFollow p = false) (hlive : m.buoyLive (m.steerPendBuoy p) = true) {n i : Nat}
  (hn : n = (m.rd (STEER_INDEX p)).toNat) (hi : i = n + ((m.buoy (m.steerPendBuoy p)).value - BitVec.ofNat 32 n).toNat)
include hjob hopen hlive hn hi

theorem checkSteer_open : m.checkSteer p = if m.steerEntryOk p (m.logEntry p i) then m.entryTaken p i else m.raiseStepBlock p 0x0B24 := by
  subst hn hi
  rw [checkSteer, if_pos (by simp [hjob, hopen, hlive])]
  rfl

end

theorem part_entryTaken (i : Nat) : ((m.entryTaken p i).part p).steerOk = true ∧ ((m.entryTaken p i).part p).steerNew = some i := by
  rw [entryTaken, modPart, part_setPart_same]
  exact ⟨rfl, rfl⟩
theorem stagedWord_entryTaken (i a : Nat) : (m.entryTaken p i).stagedWord a = (m.stageSteer p (m.logEntry p i)).stagedWord a := by
  rw [entryTaken, modPart]
  exact stagedWord_of_same (staged_setPart _ _ _) (regs_setPart _ _ _) a

end

/-! ## A corrected error of the step block (R530, R537, R541) -/

/-- `n` is `m` but for the records and registers of the error block and what they send. -/
structure OnlyLogged (m n : Mod) : Prop where
  rd : ∀ a, a < errReg 0 → n.rd a = m.rd a
  staged : n.staged = m.staged
  mem : n.mem = m.mem
  parts : n.parts = m.parts

namespace OnlyLogged
section
variable {m n : Mod}

theorem refl (m : Mod) : OnlyLogged m m := ⟨fun _ _ => rfl, rfl, rfl, rfl⟩
theorem wr {a : Nat} {v : W64} (h : OnlyLogged m n) (ha : errReg 0 ≤ a) : OnlyLogged m (n.wr a v) :=
  ⟨fun c hc => (rd_wr_other n v (Nat.ne_of_lt (Nat.lt_of_lt_of_le hc ha))).trans (h.rd c hc), h.staged, h.mem, h.parts⟩
theorem setFirst {k : Nat} {x : ErrRec} (h : OnlyLogged m n) : OnlyLogged m (n.setFirst k x) := ⟨h.rd, h.staged, h.mem, h.parts⟩
theorem sendErrVec (h : OnlyLogged m n) : OnlyLogged m n.sendErrVec := by
  rw [Mod.sendErrVec]
  split
  · rw [sendOut]
    split <;> exact ⟨h.rd, h.staged, h.mem, h.parts⟩
  · exact h
theorem appendErr {r : ErrRec} (h : OnlyLogged m n) : OnlyLogged m (n.appendErr r) := by
  have hring : OnlyLogged m { n with ring := Sparse.put (fun _ => {}) n.ring ((n.rd ERR_RING_TAIL).toNat % 1024) r } := ⟨h.rd, h.staged, h.mem, h.parts⟩
  rw [Mod.appendErr]
  dsimp only
  split_ifs
  · exact h.wr (by decide)
  · exact (hring.wr (by decide)).sendErrVec
  · exact hring.wr (by decide)
theorem nestErr {k : Nat} {r : ErrRec} (h : OnlyLogged m n) : OnlyLogged m (n.nestErr k r) := by
  rw [Mod.nestErr]
  split_ifs
  · exact h.setFirst.wr (by decide)
  · exact (h.setFirst.wr (by decide)).appendErr

end
end OnlyLogged

/-- The module once the code of a corrected error is shown and the error counted and numbered (R541, R551). -/
def correctedCounted (m : Mod) (e : ErrIn) : Mod := { (m.noteCode e.code e.slot).countErr 0 with errSeq := ((m.noteCode e.code e.slot).countErr 0).errSeq + 1 }
/-- The record of a corrected error. -/
def correctedRec (m : Mod) (e : ErrIn) : ErrRec := ((m.noteCode e.code e.slot).countErr 0).mkRec e e.slot 0

section
variable {m : Mod} {e : ErrIn} (hsev : severityOf e.code e.slot.isSome = 0)
include hsev

/-- A corrected error nests in a handling, else it goes to the ring while LOG_CORR is 1 (R537, R538). -/
theorem raise_corrected : m.raise e =
    if (m.correctedCounted e).fatalStopped then (m.correctedCounted e).nestErr 8 (m.correctedRec e)
    else if 0 < (m.correctedCounted e).handling (scopeKey e.slot) then (m.correctedCounted e).nestErr (scopeKey e.slot) (m.correctedRec e)
    else if (m.correctedCounted e).flag ERR_CTL 0 then (m.correctedCounted e).appendErr (m.correctedRec e) else m.correctedCounted e := by
  have hplain : ¬ (0 : Nat) = 3 := by decide
  simp only [Mod.raise, hsev, hplain, false_and, if_false, Nat.zero_le, and_true]
  rfl

theorem onlyLogged_raise : OnlyLogged (m.noteCode e.code e.slot) (m.raise e) := by
  have hcounted : OnlyLogged (m.noteCode e.code e.slot) (m.correctedCounted e) := by
    obtain ⟨hrd, hstaged, hmem, hparts⟩ := (OnlyLogged.refl (m.noteCode e.code e.slot)).wr (a := CNT_CORR) (v := satAdd ((m.noteCode e.code e.slot).rd CNT_CORR) 1) (by decide)
    exact ⟨hrd, hstaged, hmem, hparts⟩
  rw [raise_corrected hsev]
  split_ifs
  · exact hcounted.nestErr
  · exact hcounted.nestErr
  · exact hcounted.appendErr
  · exact hcounted

end

theorem noteCode_badEntry (m : Mod) (p : Nat) : m.noteCode 0x0B24 (some p) = (m.setF ERR_STATUS 48 16 0x0B24).setF (STEP_STATUS p) 48 16 0x0B24 := rfl

/-- The step block's error 0x0B24 shows in the status of its slot, and nothing staged, stored or kept of the slot changes (R395, R399). -/
theorem raiseStepBlock_badEntry (m : Mod) {p : Nat} (hp : p < 8) : (m.raiseStepBlock p 0x0B24).parts = m.parts ∧ (m.raiseStepBlock p 0x0B24).staged = m.staged ∧
    (m.raiseStepBlock p 0x0B24).mem = m.mem ∧ (m.raiseStepBlock p 0x0B24).fld (STEP_STATUS p) 48 16 = 0x0B24 := by
  have hlogged : OnlyLogged (m.noteCode 0x0B24 (some p)) (m.raiseStepBlock p 0x0B24) :=
    onlyLogged_raise (e := { code := 0x0B24, slot := some p, kind := 0x0B, unit := p }) (show severityOf 0x0B24 true = 0 by decide)
  rw [noteCode_badEntry] at hlogged
  have hbelow : STEP_STATUS p < errReg 0 := by
    simp only [STEP_STATUS, partReg, errReg]
    omega
  refine ⟨?_, ?_, ?_, ?_⟩
  · rw [hlogged.parts, parts_setF, parts_setF]
  · rw [hlogged.staged, staged_setF, staged_setF]
  · rw [hlogged.mem, mem_setF, mem_setF]
  · have hshown : (m.raiseStepBlock p 0x0B24).fld (STEP_STATUS p) 48 16 = ((m.setF ERR_STATUS 48 16 0x0B24).setF (STEP_STATUS p) 48 16 0x0B24).fld (STEP_STATUS p) 48 16 := by
      simp only [fld, hlogged.rd _ hbelow]
    exact hshown.trans ((fld_setF_same _ _ _ _ _ (by decide)).trans (Nat.mod_eq_of_lt (by decide)))

/-! ## A push (R398, R401) -/

section
variable {m : Mod} {p : Nat}

/-- The 2,048 bytes of the staged entry. -/
def stagedEntry (m : Mod) (p : Nat) : List Byte := (upto 256).flatMap (fun w => bytesOf 8 (m.rd (STEER_STAGE p w)).toNat)
/-- The module with the staged entry in the next entry of the log. -/
def entryLogged (m : Mod) (p : Nat) : Mod := m.stHbm p (m.logAt p ((m.rd (STEER_INDEX p)).toNat + 1)) (m.stagedEntry p)

theorem length_stagedEntry : (m.stagedEntry p).length = 2048 := by
  rw [stagedEntry, length_flatMap_of_length (fun _ => bytesOf_length 8 _), upto, List.length_range]

theorem pushSteer_eq : m.pushSteer p = (m.entryLogged p).setStepBuoy (m.steerPendBuoy p) (((m.rd (STEER_INDEX p)).toNat + 1) % 2 ^ 32) := by
  have hpend : (m.entryLogged p).steerPendBuoy p = m.steerPendBuoy p := by
    rw [steerPendBuoy, fld, entryLogged, stHbm, rd_of_regs (regs_st m _ _), ← fld, ← steerPendBuoy]
  rw [← hpend]
  rfl

theorem mem_pushSteer : (m.pushSteer p).mem = (m.st (hbmByte p (m.logAt p ((m.rd (STEER_INDEX p)).toNat + 1))) (m.stagedEntry p)).mem := by
  rw [pushSteer_eq, mem_setStepBuoy, entryLogged, stHbm]
theorem rd_pushSteer {a : Nat} (ha : a ≠ CNT_CMD_DONE) : (m.pushSteer p).rd a = m.rd a := by
  rw [pushSteer_eq, (SameButEnded.refl _).setStepBuoy.rd a ha, entryLogged, stHbm]
  exact rd_of_regs (regs_st m _ _) a
theorem value_pushSteer (hlive : m.buoyLive (m.steerPendBuoy p) = true) :
    ((m.pushSteer p).buoy (m.steerPendBuoy p)).value = BitVec.ofNat 32 (((m.rd (STEER_INDEX p)).toNat + 1) % 2 ^ 32) := by
  rw [pushSteer_eq]
  refine value_setStepBuoy ?_ _
  rw [buoyLive, buoy, entryLogged, stHbm, buoys_st, ← buoy]
  exact hlive

/-- A word of the staged entry stands at its place in the log. -/
theorem ldNat_pushSteer {w : Nat} (hw : w < 256) :
    (m.pushSteer p).ldNat (hbmByte p (m.logAt p ((m.rd (STEER_INDEX p)).toNat + 1)) + 8 * w) 8 = (m.rd (STEER_STAGE p w)).toNat := by
  rw [ldNat, ld, mem_pushSteer, ← ld, ld_st _ _ _ _ _ (by rw [length_stagedEntry]; omega), stagedEntry, slice_flatMap_upto (fun _ => bytesOf_length 8 _) hw,
    natOf_bytesOf]
  exact Nat.mod_eq_of_lt (m.rd (STEER_STAGE p w)).isLt
theorem ldByte_pushSteer {a : Nat} (h : a < hbmByte p (m.logAt p ((m.rd (STEER_INDEX p)).toNat + 1)) ∨ hbmByte p (m.logAt p ((m.rd (STEER_INDEX p)).toNat + 1)) + 2048 ≤ a) :
    (m.pushSteer p).ldByte a = m.ldByte a := by
  rw [ldByte, mem_pushSteer, ← ldByte, ldByte_st, if_neg (by rw [length_stagedEntry]; omega)]

/-- The write of STEER_PUSH: the log is closed to all but the Keeper under sealed steering (R401). -/
def pushAccess (m : Mod) (who : Requester) (p : Nat) : W16 × Mod :=
  if decide (who ≠ .keeper) && m.sealedSteering p then (0x0F01, m) else (0, if m.jobRuns p then m.pushSteer p else m)

theorem pushAccess_open {who : Requester} (hjob : m.jobRuns p = true) (hopen : who = .keeper ∨ m.sealedSteering p = false) : m.pushAccess who p = (0, m.pushSteer p) := by
  have hpass : ¬ (decide (who ≠ .keeper) && m.sealedSteering p) = true := by
    rcases hopen with rfl | hplain
    · simp
    · simp [hplain]
  rw [pushAccess, if_neg hpass, if_pos hjob]
theorem pushAccess_sealed (hsealed : m.sealedSteering p = true) : m.pushAccess .gallery p = (0x0F01, m) := if_pos (by simp [hsealed])

end
end Mod

/-! ## The commands -/

section
variable {s : State} {p : Nat} (hup : s.m.mainUp = true) (hp : p < 8)
include hup hp

theorem does_steerEntryCheck {n : Mod} (hn : s.m.checkSteer p = n) : Does (.steerEntryCheck p) s n := does_onSlot (f := fun m => m.checkSteer p) hup hp rfl hn
theorem does_steerPush {who : Requester} {n : Mod} (hn : s.m.commit who (STEER_PUSH p) (s.m.pushAccess who p) = n) : Does (.steerPush who p) s n :=
  does_onSlot (f := fun m => m.commit who (STEER_PUSH p) (m.pushAccess who p)) hup hp rfl hn

section
variable (hjob : s.m.jobRuns p = true)
include hjob

theorem does_steerPush_open {who : Requester} (hopen : who = .keeper ∨ s.m.sealedSteering p = false) : Does (.steerPush who p) s ((s.m.pushSteer p).answer 0) :=
  does_steerPush hup hp (Mod.commit_done (Mod.pushAccess_open hjob hopen))

/-- What a push leaves: the log's next entry, the buoy that signals it, and nothing else of memory or index. -/
theorem steerPush_open {who : Requester} (hopen : who = .keeper ∨ s.m.sealedSteering p = false) (hlive : s.m.buoyLive (s.m.steerPendBuoy p) = true) {i at_ : Nat}
    (hi : i = (s.m.rd (STEER_INDEX p)).toNat + 1) (hat : at_ = Mod.hbmByte p (s.m.logAt p i)) :
    ∃ t, exec (.steerPush who p) s = .next t ∧ t.pending = s.pending ∧ t.m.reply.code = 0 ∧
      (∀ w, w < 256 → t.m.ldNat (at_ + 8 * w) 8 = (s.m.rd (STEER_STAGE p w)).toNat) ∧
      (∀ a, a < at_ ∨ at_ + 2048 ≤ a → t.m.ldByte a = s.m.ldByte a) ∧
      (t.m.buoy (s.m.steerPendBuoy p)).value = BitVec.ofNat 32 (i % 2 ^ 32) ∧ t.m.rd (STEER_INDEX p) = s.m.rd (STEER_INDEX p) := by
  subst hi hat
  refine ⟨_, does_steerPush_open hup hp hjob hopen, rfl, rfl, fun w hw => ?_, fun a ha => ?_, ?_, ?_⟩
  · rw [Mod.ldNat, Mod.ld, Mod.mem_answer, ← Mod.ld, ← Mod.ldNat, Mod.ldNat_pushSteer hw]
  · rw [Mod.ldByte, Mod.mem_answer, ← Mod.ldByte, Mod.ldByte_pushSteer ha]
  · rw [Mod.buoy, Mod.buoys_answer, ← Mod.buoy, Mod.value_pushSteer hlive]
  · rw [Mod.rd_of_regs (Mod.regs_answer _ _), Mod.rd_pushSteer (show STEER_INDEX p ≠ CNT_CMD_DONE from Mod.partReg_ne_cmdDone hp (by decide))]

end

theorem does_steerPush_sealed (hsealed : s.m.sealedSteering p = true) : Does (.steerPush .gallery p) s (s.m.answer 0x0F01) :=
  does_steerPush hup hp (Mod.commit_refused_unshown (Mod.pushAccess_sealed hsealed) (by decide) (by decide) (by decide) (by decide))

section
variable (hjob : s.m.jobRuns p = true) (hopen : s.m.steerFollow p = false) (hlive : s.m.buoyLive (s.m.steerPendBuoy p) = true) {n i : Nat}
  (hn : n = (s.m.rd (STEER_INDEX p)).toNat) (hi : i = n + ((s.m.buoy (s.m.steerPendBuoy p)).value - BitVec.ofNat 32 n).toNat)
include hjob hopen hlive hn hi

theorem does_steerEntryCheck_accepted (hok : s.m.steerEntryOk p (s.m.logEntry p i) = true) : Does (.steerEntryCheck p) s (s.m.entryTaken p i) :=
  does_steerEntryCheck hup hp ((Mod.checkSteer_open hjob hopen hlive hn hi).trans (if_pos hok))
theorem does_steerEntryCheck_refused (hbad : s.m.steerEntryOk p (s.m.logEntry p i) = false) : Does (.steerEntryCheck p) s (s.m.raiseStepBlock p 0x0B24) :=
  does_steerEntryCheck hup hp ((Mod.checkSteer_open hjob hopen hlive hn hi).trans (if_neg (Bool.eq_false_iff.mp hbad)))

/-- What an accepted entry leaves: its indication, its margin and its frequencies staged, no register and no byte changed. -/
theorem steerEntryCheck_accepted (hok : s.m.steerEntryOk p (s.m.logEntry p i) = true) {b : List Byte} (hb : b = s.m.logEntry p i) :
    ∃ t, exec (.steerEntryCheck p) s = .next t ∧ t.pending = s.pending ∧ (t.m.part p).steerOk = true ∧ (t.m.part p).steerNew = some i ∧
      t.m.regs = s.m.regs ∧ t.m.mem = s.m.mem ∧
      bf (t.m.stagedWord (XCH_CTL p)) 0 12 = (if num b 0x12 2 = 0xFFFF then bf (s.m.stagedWord (XCH_CTL p)) 0 12 else num b 0x12 2) ∧
      (∀ h, h < 16 → bf (t.m.stagedWord (HALF_CLK h)) 0 8 = (if num b (0x20 + h) 1 = 0 then bf (s.m.stagedWord (HALF_CLK h)) 0 8 else num b (0x20 + h) 1)) := by
  subst hb
  obtain ⟨hset, hnew⟩ := Mod.part_entryTaken (m := s.m) (p := p) i
  have hkept := Mod.sameButStaging_stageSteer s.m p (s.m.logEntry p i)
  refine ⟨_, does_steerEntryCheck_accepted hup hp hjob hopen hlive hn hi hok, rfl, hset, hnew, ?_, ?_, ?_, fun h hh => ?_⟩
  · rw [Mod.entryTaken, Mod.modPart, Mod.regs_setPart, hkept.regs]
  · rw [Mod.entryTaken, Mod.modPart, Mod.mem_setPart, hkept.mem]
  · rw [Mod.stagedWord_entryTaken, Mod.kerf_stageSteer _ _ _ (Mod.kerf_of_steerEntryOk hok)]
  · rw [Mod.stagedWord_entryTaken, Mod.freq_stageSteer _ _ _ hh, Mod.namedFreq]

/-- What a refused entry leaves: the error in the slot's status, nothing staged. -/
theorem steerEntryCheck_refused (hbad : s.m.steerEntryOk p (s.m.logEntry p i) = false) :
    ∃ t, exec (.steerEntryCheck p) s = .next t ∧ t.pending = s.pending ∧ (t.m.part p).steerNew = (s.m.part p).steerNew ∧
      t.m.staged = s.m.staged ∧ t.m.mem = s.m.mem ∧ t.m.fld (STEP_STATUS p) 48 16 = 0x0B24 := by
  obtain ⟨hparts, hstaged, hmem, hcode⟩ := Mod.raiseStepBlock_badEntry s.m hp
  refine ⟨_, does_steerEntryCheck_refused hup hp hjob hopen hlive hn hi hbad, rfl, ?_, hstaged, hmem, hcode⟩
  rw [Mod.part, hparts, Mod.part]

end
end

end Machine
end Sys2Proof
end

section
/-! PROOF. The Lampist (R391 to R394, R398): the bounds of what it decides for a layer, a half and the margin, and the head of the entry that it leaves. -/

open Sys2Proof.Safety

namespace Sys2Proof.Machine

/-! ## What it decides (R393) -/

/-- A layer keeps its byte or moves to a rung that FLOOR and CEIL allow, with its rotation or the one that it gains; only a steered layer moves. -/
theorem lampLayer_cases (par : List Byte) (policy old quiet : Nat) (f : List RoleFigures) :
    (lampLayer par policy old quiet f).1 = old ∨ (policy / 32 % 2 ≠ 0 ∧
      ((old % 4 < 2 ∧ old / 4 % 2 = 0 ∧ (lampLayer par policy old quiet f).1 = old % 4 + 4) ∨
       (lampLayer par policy old quiet f).1 = min (policy / 4 % 4) (old % 4 + 1) + 4 * (old / 4 % 2) ∨
       (lampLayer par policy old quiet f).1 = max (policy % 4) (old % 4 - 1) + 4 * (old / 4 % 2))) := by
  unfold lampLayer
  dsimp only
  split_ifs with hfixed hup hturn hcalm hlong
  · exact .inl rfl
  · exact .inr ⟨hfixed, .inl ⟨hturn.1, hturn.2.2.1, rfl⟩⟩
  · exact .inr ⟨hfixed, .inr (.inl rfl)⟩
  · exact .inr ⟨hfixed, .inr (.inr rfl)⟩
  · exact .inl rfl
  · exact .inl rfl

theorem lampLayer_bounds {par : List Byte} {policy old quiet : Nat} {f : List RoleFigures} (hold : old < 8) (hfloor : policy % 4 ≤ old % 4)
    (hceil : old % 4 ≤ policy / 4 % 4) :
    (lampLayer par policy old quiet f).1 < 8 ∧ policy % 4 ≤ (lampLayer par policy old quiet f).1 % 4 ∧ (lampLayer par policy old quiet f).1 % 4 ≤ policy / 4 % 4 ∧
    (policy / 32 % 2 = 0 → (lampLayer par policy old quiet f).1 = old) ∧
    ((lampLayer par policy old quiet f).1 / 4 % 2 = 0 → old / 4 % 2 = 0) := by
  rcases lampLayer_cases par policy old quiet f with h | ⟨hsteered, ⟨hlow, hplain, h⟩ | h | h⟩ <;> rw [h]
  · exact ⟨hold, hfloor, hceil, fun _ => rfl, id⟩
  · omega
  · omega
  · omega

theorem lampFreq_bounds {h : Int} {l : Bool} {freq cap : Nat} (hfreq : 50 ≤ freq) (htop : freq ≤ 140) (hlow : 50 ≤ cap) (hcap : cap ≤ 140) :
    lampFreq h l freq cap = 0 ∨ (50 ≤ lampFreq h l freq cap ∧ lampFreq h l freq cap ≤ 140) := by
  unfold lampFreq
  split_ifs
  · omega
  · omega
  · exact .inl rfl

theorem lampKerf_bounds {par : List Byte} {margin growth quiet : Nat} (hmargin : margin ≤ 4095) :
    (lampKerf par margin growth quiet).1 ≤ 4095 ∨ (lampKerf par margin growth quiet).1 = 0xFFFF := by
  unfold lampKerf
  split_ifs
  · exact .inl (min_le_left _ _)
  · exact .inl ((Nat.sub_le _ _).trans hmargin)
  · exact .inr rfl

namespace Mod

/-! ## The words of an entry (R394, R398) -/

section
variable {m : Mod} {a : Nat} {b : List Byte} {n : Nat}

theorem rd_putRegWords_below {c : Nat} (h : c < a) : (m.putRegWords a b n).rd c = m.rd c := by
  induction n generalizing m a b with
  | zero => rfl
  | succ n ih => rw [putRegWords, ih (by omega), rd_wr_other _ _ (by omega)]
theorem rd_putRegWords {k : Nat} (h : k < n) : (m.putRegWords a b n).rd (a + 8 * k) = BitVec.ofNat 64 (num b (8 * k) 8) := by
  induction n generalizing m a b k with
  | zero => exact absurd h (Nat.not_lt_zero k)
  | succ n ih =>
    rw [putRegWords]
    cases k with
    | zero => simp only [Nat.mul_zero, Nat.add_zero, rd_putRegWords_below (Nat.lt_add_of_pos_right (show 0 < 8 by decide)), rd_wr_same, num, List.drop_zero]
    | succ k => rw [show a + 8 * (k + 1) = a + 8 + 8 * k by omega, ih (by omega), num, List.drop_drop, num, show 8 + 8 * k = 8 * (k + 1) by omega]
theorem sameStores_putRegWords : SameStores m (m.putRegWords a b n) := by
  induction n generalizing m a b with
  | zero => exact .refl m
  | succ n ih =>
    obtain ⟨hmem, htiles⟩ := ih (m := m.wr a _) (a := a + 8) (b := b.drop 8)
    exact ⟨hmem, htiles⟩

end

section
variable {m : Mod} {p t : Nat} {c : Bool}

/-- An entry opens with its step and its index, and fills its 2,048 bytes. -/
theorem lampDecide_entry (m : Mod) (p t : Nat) (c : Bool) :
    ∃ r, (m.lampDecide p t c).1 = bytesOf 8 (t + 2) ++ (bytesOf 8 ((m.rd (STEER_INDEX p)).toNat + 1) ++ r) ∧ r.length = 2032 := by
  rw [lampDecide]
  simp only [List.append_assoc]
  refine ⟨_, rfl, ?_⟩
  simp only [List.length_append, bytesOf_length, length_flatMap_of_length (bytesOf_length 1), length_flatMap_of_length (fun x : Nat × Nat => bytesOf_length 1 x.1),
    List.length_map, upto, List.length_range]

theorem lampist_runs (h : m.lampistRuns p = true) :
    m.lampist p t c = (m.modPart p (fun x => { x with lampist := (m.lampDecide p t c).2 })).putRegWords (STEER_STAGE p 0) (m.lampDecide p t c).1 256 :=
  if_neg (by simp [h])

theorem sameStores_lampist (h : m.lampistRuns p = true) : SameStores m (m.lampist p t c) := by
  rw [lampist_runs h]
  obtain ⟨hmem, htiles⟩ := sameStores_putRegWords (m := m.modPart p (fun x => { x with lampist := (m.lampDecide p t c).2 })) (a := STEER_STAGE p 0) (b := (m.lampDecide p t c).1) (n := 256)
  exact ⟨hmem, htiles⟩

theorem rd_lampist (h : m.lampistRuns p = true) {w : Nat} (hw : w < 256) : (m.lampist p t c).rd (STEER_STAGE p w) = BitVec.ofNat 64 (num (m.lampDecide p t c).1 (8 * w) 8) := by
  rw [lampist_runs h, show STEER_STAGE p w = STEER_STAGE p 0 + 8 * w by simp only [STEER_STAGE, partReg]; omega, rd_putRegWords hw]

end
end Mod

/-- What the Lampist leaves after step `t`: an entry of 2,048 bytes that opens step t + 2 under the next index, and no change of memory or tiles. -/
theorem lampist_opens {m : Mod} {p t : Nat} (c : Bool) (hruns : m.lampistRuns p = true) (ht : t + 2 < 2 ^ 64) (hindex : (m.rd (STEER_INDEX p)).toNat + 1 < 2 ^ 64) :
    (m.lampDecide p t c).1.length = 2048 ∧ ((m.lampist p t c).rd (STEER_STAGE p 0)).toNat = t + 2 ∧
    ((m.lampist p t c).rd (STEER_STAGE p 1)).toNat = (m.rd (STEER_INDEX p)).toNat + 1 ∧ (m.lampist p t c).mem = m.mem ∧ (m.lampist p t c).tiles = m.tiles := by
  obtain ⟨r, hentry, hlen⟩ := Mod.lampDecide_entry m p t c
  obtain ⟨hmem, htiles⟩ := Mod.sameStores_lampist (t := t) (c := c) hruns
  refine ⟨?_, ?_, ?_, hmem, htiles⟩
  · rw [hentry, List.length_append, bytesOf_length, List.length_append, bytesOf_length, hlen]
  · rw [Mod.rd_lampist hruns (by decide), hentry, num_bytesOf_append, BitVec.toNat_ofNat]
    omega
  · rw [Mod.rd_lampist hruns (by decide), hentry, num_bytesOf_append_behind (by decide), num_bytesOf_append, BitVec.toNat_ofNat]
    omega

/-- Settles O41: an entry by the answer of its checks, a push by the bytes that it stores, the Lampist by its decisions and the head of its entry. -/
theorem steeringEntries : Obligations.SteeringEntries := by
  refine ⟨fun s p hup hp hjob => ⟨?_, ?_⟩, ?_, ?_, ?_, ?_, fun s p hup hp hjob => ⟨?_, ?_, ?_⟩⟩
  · exact fun n i b hopen hlive hn hi hb => ⟨fun hok => steerEntryCheck_accepted hup hp hjob hopen hlive hn hi (hb ▸ hok) hb,
      fun hbad => steerEntryCheck_refused hup hp hjob hopen hlive hn hi (hb ▸ hbad)⟩
  · exact fun who i at_ hopen hi hat hlive => steerPush_open hup hp hjob hopen hlive hi hat
  · exact fun par policy old quiet f => lampLayer_bounds
  · exact fun h l freq cap => lampFreq_bounds
  · exact fun par margin growth quiet => lampKerf_bounds
  · exact fun m p t c _ => lampist_opens c
  · exact fun n i hopen hlive hn hi => ⟨does_steerEntryCheck_accepted hup hp hjob hopen hlive hn hi, does_steerEntryCheck_refused hup hp hjob hopen hlive hn hi⟩
  · exact fun who => does_steerPush_open hup hp hjob
  · rintro _ rfl hsealed
    exact does_steerPush_sealed hup hp hsealed

end Sys2Proof.Machine
end

section
/-! PROOF. Jicen ports and their lanes (R404, R405, R408, R415, R427, R428): the registers of a port's window, writes of JC_CTL and JC_CMD, the identity of a neighbour, admission, the swap of a lane. -/

open Sys2Proof.Safety

namespace Sys2Proof.Machine
namespace Mod

/-! ## The registers and the record of a port -/

section
variable (m : Mod) {j a b : Nat}

theorem portReg_ne (h : a ≠ b) : portReg j a ≠ portReg j b := fun e => h (Nat.add_left_cancel e)
/-- The block that every port window shows stands above the registers of each port (R436). -/
theorem jcReg_ne_portReg (ha : a < 0x80_0000) (hb : b < 0x80_0000) : jcReg b ≠ portReg j a := by
  simp only [jcReg, portReg]
  omega

theorem port_of_ports {m n : Mod} (h : n.ports = m.ports) (i : Nat) : n.port i = m.port i := by rw [port, h, port]
@[simp] theorem port_wr (v : W64) (i : Nat) : (m.wr a v).port i = m.port i := port_of_ports (ports_wr m a v) i
@[simp] theorem port_setF (lo len v i : Nat) : (m.setF a lo len v).port i = m.port i := port_of_ports (ports_setF m a lo len v) i
@[simp] theorem port_addCnt (n i : Nat) : (m.addCnt a n).port i = m.port i := port_wr m _ i
@[simp] theorem rd_setPort (x : Port) : (m.setPort j x).rd a = m.rd a := rd_of_regs (regs_setPort m j x) a
theorem fld_of_rd {m n : Mod} (h : n.rd a = m.rd a) (lo len : Nat) : n.fld a lo len = m.fld a lo len := by rw [fld, h, fld]
@[simp] theorem fld_setPort (x : Port) (lo len : Nat) : (m.setPort j x).fld a lo len = m.fld a lo len := fld_of_rd (rd_setPort m x) lo len
@[simp] theorem portState_setPort (x : Port) (i : Nat) : (m.setPort j x).portState i = m.portState i := fld_setPort m x 0 4
theorem portState_setPortState {v : Nat} (h : v < 16) : (m.setPortState j v).portState j = v :=
  (fld_setF_same m _ 0 4 v (by decide)).trans (Nat.mod_eq_of_lt h)

end

/-! ## Writes of JC_CTL and JC_CMD (R405, R408, R427) -/

section
variable {m : Mod} {j l : Nat} {w : W64}

theorem writeJcCtl_enable (hoff : m.flag (JC_CTL j) 0 = false) (hset : bit w 0 = true) :
    m.writeJcCtl j w = (0, if (m.wr (JC_CTL j) w).portAllowed j then (m.wr (JC_CTL j) w).movePort j 1 else m.wr (JC_CTL j) w) := by
  simp only [writeJcCtl, hoff, hset, Bool.true_and, if_neg Bool.false_ne_true]
theorem writeJcCtl_disable (hon : m.flag (JC_CTL j) 0 = true) (hclear : bit w 0 = false) :
    m.writeJcCtl j w = (0, (m.setFlag (JC_CTL j) 0 false).movePort j 0) := by
  simp only [writeJcCtl, hon, hclear, if_true, if_neg Bool.false_ne_true]

theorem writeJcCmd_retrain (h : m.portState j = 2 ∨ m.portState j = 5) : m.writeJcCmd j 1 = (0, m.movePort j 1) := by
  have hstate : (decide (m.portState j = 2) || decide (m.portState j = 5)) = true := by simpa using h
  have hset : bit (1 : W64) 0 = true ∧ bit (1 : W64) 1 = false := by decide
  simp only [writeJcCmd, hstate, hset.1, hset.2, Bool.not_true, Bool.and_false, Bool.false_and, Bool.or_self, if_true, if_neg Bool.false_ne_true]
theorem writeJcCmd_retrain_refused (haligning : m.portState j ≠ 2) (hfailed : m.portState j ≠ 5) : m.writeJcCmd j 1 = (0x0C03, m) :=
  if_pos (by simp [haligning, hfailed, bit])

/-- The value that JC_CMD_SWAP writes: SWAP, with the lane in [13:8]. -/
def swapWord (l : Nat) : W64 := BitVec.ofNat 64 (2 + l % 64 * 256)

theorem retrain_swapWord : bit (swapWord l) 0 = false := bit_zero_of_even (by omega)
theorem swap_swapWord : bit (swapWord l) 1 = true := by
  simp only [bit, swapWord, BitVec.getLsbD_ofNat, Nat.testBit_eq_decide_div_mod_eq]
  simp
  omega
theorem lane_swapWord (h : l < 64) : bf (swapWord l) 8 6 = l := by
  simp only [bf, swapWord, BitVec.extractLsb'_toNat, BitVec.toNat_ofNat, Nat.shiftRight_eq_div_pow]
  omega

theorem writeJcCmd_swap (htrained : m.portTrained j = true) (hl : l < 40) (hactive : m.laneStatus j l = 0) (hspare : m.lanesWith j 1 ≠ [])
    (hidle : (m.port j).swap = none) : m.writeJcCmd j (swapWord l) = (0, m.beginSwap j l) := by
  simp only [writeJcCmd, retrain_swapWord, swap_swapWord, lane_swapWord (show l < 64 by omega)]
  simp [htrained, hl, hactive, hspare, hidle]
theorem writeJcCmd_swap_refused (h : m.portTrained j = false) : m.writeJcCmd j (swapWord l) = (0x0C03, m) :=
  if_pos (by simp [swap_swapWord, h])

end

/-! ## The identity of a neighbour (R405) -/

section
variable {m : Mod} {j : Nat} {x : Neighbour}

/-- The module once it shows what the neighbour sent: the measured delay, the latency, the far module and port. -/
def neighbourShown (m : Mod) (j : Nat) (x : Neighbour) : Mod :=
  (((m.wr (BCN_PORT_DELAY j) (x.delay64.zeroExtend 64)).wr (JC_LAT j) (BitVec.ofNat 64 ((104 + ceilDiv x.delay64.toNat 64) % 65536))).setF
    (JC_STATUS j) 16 12 x.id.toNat).setF (JC_STATUS j) 28 3 x.port.toNat

/-- The delay of a port stands in the Beacon's window, outside the ports'. -/
theorem portDelay_ne_portReg (hj : j < 6) (i a : Nat) : BCN_PORT_DELAY j ≠ portReg i a := by
  simp only [BCN_PORT_DELAY, bcnReg, portReg]
  omega

/-- What is shown touches only the delay, the latency and the status of the port. -/
theorem rd_neighbourShown_jc (hj : j < 6) {a : Nat} (ha : a < 0x80_0000) : (m.neighbourShown j x).rd (jcReg a) = m.rd (jcReg a) := by
  have hport {b : Nat} (hb : b < 0x80_0000) : jcReg a ≠ portReg j b := jcReg_ne_portReg hb ha
  have hstatus : jcReg a ≠ JC_STATUS j := hport (by decide)
  have hlat : jcReg a ≠ JC_LAT j := hport (by decide)
  have hdelay : jcReg a ≠ BCN_PORT_DELAY j := (portDelay_ne_portReg hj _ _).symm
  rw [neighbourShown, rd_setF_other _ _ _ _ hstatus, rd_setF_other _ _ _ _ hstatus, rd_wr_other _ _ hlat, rd_wr_other _ _ hdelay]

theorem rd_neighbourShown_delay (hj : j < 6) : (m.neighbourShown j x).rd (BCN_PORT_DELAY j) = x.delay64.zeroExtend 64 := by
  have hstatus : BCN_PORT_DELAY j ≠ JC_STATUS j := portDelay_ne_portReg hj _ _
  have hlat : BCN_PORT_DELAY j ≠ JC_LAT j := portDelay_ne_portReg hj _ _
  rw [neighbourShown, rd_setF_other _ _ _ _ hstatus, rd_setF_other _ _ _ _ hstatus, rd_wr_other _ _ hlat, rd_wr_same]

theorem rd_neighbourShown_lat : (m.neighbourShown j x).rd (JC_LAT j) = BitVec.ofNat 64 ((104 + ceilDiv x.delay64.toNat 64) % 65536) := by
  have hstatus : JC_LAT j ≠ JC_STATUS j := portReg_ne (by decide)
  rw [neighbourShown, rd_setF_other _ _ _ _ hstatus, rd_setF_other _ _ _ _ hstatus, rd_wr_same]

theorem portState_neighbourShown (hj : j < 6) : (m.neighbourShown j x).portState j = m.portState j := by
  have hlat : JC_STATUS j ≠ JC_LAT j := portReg_ne (by decide)
  have hdelay : JC_STATUS j ≠ BCN_PORT_DELAY j := (portDelay_ne_portReg hj _ _).symm
  rw [portState, neighbourShown, fld_setF_disjoint _ _ 28 3 _ 0 4 (by decide) (by decide), fld_setF_disjoint _ _ 16 12 _ 0 4 (by decide) (by decide),
    fld_wr_other _ _ _ _ hlat, fld_wr_other _ _ _ _ hdelay, portState]

/-- The module that faces a port follows from JC_TOPO (R404). -/
theorem facingId_of_topo {m n : Mod} (h : n.rd JC_TOPO = m.rd JC_TOPO) (j : Nat) : n.facingId j = m.facingId j := by
  simp only [facingId, dimSize, coord, fld_of_rd h]

/-- The neighbour is the module and port that the topology puts there, and its delay is in bounds (R405). -/
def neighbourFits (m : Mod) (j : Nat) (x : Neighbour) : Prop :=
  x.id.toNat = m.facingId j ∧ x.port.toNat = facingPort j ∧ x.dims.toNat = m.fld JC_TOPO 12 12 ∧ x.delay64.toNat ≤ 64 * m.fld JC_HOP_MAX 0 12

theorem neighbourFits_shown (hj : j < 6) (y : Neighbour) : (m.neighbourShown j x).neighbourFits j y ↔ m.neighbourFits j y := by
  have htopo : (m.neighbourShown j x).rd JC_TOPO = m.rd JC_TOPO := rd_neighbourShown_jc hj (by decide)
  have hhop : (m.neighbourShown j x).rd JC_HOP_MAX = m.rd JC_HOP_MAX := rd_neighbourShown_jc hj (by decide)
  simp only [neighbourFits, facingId_of_topo htopo, fld_of_rd htopo, fld_of_rd hhop]

/-- The module in WAITING, with the admission mark announced where this side announces it (R428). -/
def admitting (m : Mod) (j : Nat) : Mod :=
  if (m.setPortState j 3).sendsAdmit j then (m.setPortState j 3).announce j ((m.setPortState j 3).markAhead 64) else m.setPortState j 3

theorem rd_announce {k : W64} (a : Nat) : (m.announce j k).rd a = (m.wr (JC_ADMIT j) k).rd a := by
  simp only [announce, sendCtrl, queueCtrl, rd_setPort]
theorem rd_announce_other {k : W64} {a : Nat} (h : a ≠ JC_ADMIT j) : (m.announce j k).rd a = m.rd a := (rd_announce a).trans (rd_wr_other _ _ h)
theorem rd_announce_same {k : W64} : (m.announce j k).rd (JC_ADMIT j) = k := (rd_announce _).trans (rd_wr_same _ _ _)
theorem rd_admitting_other {a : Nat} (hadmit : a ≠ JC_ADMIT j) (hstatus : a ≠ JC_STATUS j) : (m.admitting j).rd a = m.rd a := by
  have hwaiting : (m.setPortState j 3).rd a = m.rd a := rd_setF_other _ _ _ _ hstatus
  rw [admitting]
  split
  · exact (rd_announce_other hadmit).trans hwaiting
  · exact hwaiting
theorem portState_admitting : (m.admitting j).portState j = 3 := by
  have hwaiting : (m.setPortState j 3).portState j = 3 := portState_setPortState m (by decide)
  rw [admitting]
  split
  · exact (fld_of_rd (rd_announce_other (portReg_ne (by decide))) _ _).trans hwaiting
  · exact hwaiting

section
variable (hj : j < 6) (hstate : m.portState j = 2) (hgood : (m.port j).badId = false)
include hj hstate hgood

theorem meetNeighbour_fits (hfits : m.neighbourFits j x) : m.meetNeighbour j x = (m.neighbourShown j x).admitting j :=
  (if_neg (by simp [hstate, hgood])).trans (if_pos ((neighbourFits_shown hj x).mpr hfits))
theorem meetNeighbour_other (hother : x.id.toNat ≠ m.facingId j) : m.meetNeighbour j x =
    ((m.neighbourShown j x).setPort j { (m.neighbourShown j x).port j with badId := true }).raisePort j 0x0C25 0 :=
  (if_neg (by simp [hstate, hgood])).trans (if_neg fun h => hother ((neighbourFits_shown hj x).mp h).1)

end
end

/-! ## Admission (R415, R428) -/

section
variable {m : Mod} {j : Nat}

theorem takeAdmit_answers {k : W64} (hwaiting : m.portState j = 3) (hanswers : m.sendsAdmit j = false) : m.takeAdmit j k = m.announce j k :=
  (if_neg (not_not_intro hwaiting)).trans (if_neg (Bool.eq_false_iff.mp hanswers))

/-- A port that starts afresh: sequences 0, nothing to replay, the credit of R415. -/
def freshPort (p : Port) : Port := { p with txSeq := 0, rxSeq := 0, replay := [], credits := [(0, 96), (1, 96), (2, 192), (3, 192)] }

theorem admitPort_due (hwaiting : m.portState j = 3) (hadmitted : (m.port j).admitted = true) (hmark : m.atMark = true) (hdue : m.rd (JC_ADMIT j) ≤ m.count) :
    m.admitPort j = (m.setPortState j 4).setPort j (freshPort (m.port j)) := if_pos ⟨hwaiting, hadmitted, hmark, hdue⟩
theorem creditLeft_setPort (p : Port) (c : Nat) : (m.setPort j p).creditLeft j c = Sparse.get (fun _ => 0) p.credits c := by rw [creditLeft, port_setPort_same]

end

/-! ## Lanes (R427) -/

section
variable {m : Mod} {j l sp : Nat}

theorem lane_ne_lane (h : sp ≠ l) : JC_LANE j sp ≠ JC_LANE j l := portReg_ne (by omega)
theorem lane_ne_count (n : Nat) (h : n < 16) : JC_LANE j l ≠ JC_CNT j n := portReg_ne (by omega)

/-- The module once a window's count of a lane is shown and counted. -/
def symbolsShown (m : Mod) (j l n : Nat) : Mod := (m.setF (JC_LANE j l) 32 32 n).addCnt (JC_CNT j 5) n

theorem laneStatus_symbolsShown (n k : Nat) : (m.symbolsShown j l n).laneStatus j k = m.laneStatus j k := by
  rw [laneStatus, symbolsShown, fld_addCnt_other _ _ _ _ (lane_ne_count 5 (by decide))]
  by_cases h : k = l
  · subst h
    exact fld_setF_disjoint _ _ _ _ _ _ _ (by decide) (by decide)
  · exact fld_setF_other _ _ _ _ _ _ (lane_ne_lane h)
theorem lanesWith_symbolsShown (n st : Nat) : (m.symbolsShown j l n).lanesWith j st = m.lanesWith j st := by simp only [lanesWith, laneStatus_symbolsShown]
theorem port_symbolsShown (n : Nat) : (m.symbolsShown j l n).port j = m.port j := by rw [symbolsShown, port_addCnt, port_setF]
theorem thresh_symbolsShown (n : Nat) : (m.symbolsShown j l n).fld (JC_LANE_THRESH j) 0 32 = m.fld (JC_LANE_THRESH j) 0 32 := by
  have hcount : JC_LANE_THRESH j ≠ JC_CNT j 5 := portReg_ne (by decide)
  have hlane : JC_LANE_THRESH j ≠ JC_LANE j l := portReg_ne (by omega)
  rw [symbolsShown, fld_addCnt_other _ _ _ _ hcount, fld_setF_other _ _ _ _ _ _ hlane]

section
variable {x : W32} (htrained : m.portTrained j = true) (hl : l < 40)
include htrained hl

theorem laneFault_swaps {lost : Bool} (hfault : lost = true ∨ m.fld (JC_LANE_THRESH j) 0 32 < x.toNat) (hactive : m.laneStatus j l = 0)
    (hspare : m.lanesWith j 1 ≠ []) (hidle : (m.port j).swap = none) : m.laneFault j l x lost = (m.symbolsShown j l x.toNat).beginSwap j l := by
  have hover : ¬ (lost = false ∧ x.toNat ≤ (m.symbolsShown j l x.toNat).fld (JC_LANE_THRESH j) 0 32) := by
    rw [thresh_symbolsShown]
    rintro ⟨rfl, hle⟩
    exact hfault.elim Bool.false_ne_true (Nat.not_lt.mpr hle)
  have hready : (m.symbolsShown j l x.toNat).laneStatus j l = 0 ∧ ((m.symbolsShown j l x.toNat).lanesWith j 1).isEmpty = false ∧
      ((m.symbolsShown j l x.toNat).port j).swap = none := by
    rw [laneStatus_symbolsShown, lanesWith_symbolsShown, port_symbolsShown]
    exact ⟨hactive, by simpa using hspare, hidle⟩
  exact (if_neg (by simp [htrained, hl])).trans ((if_neg hover).trans (if_pos hready))
theorem laneFault_tolerated (hbelow : x.toNat ≤ m.fld (JC_LANE_THRESH j) 0 32) : m.laneFault j l x false = m.symbolsShown j l x.toNat :=
  (if_neg (by simp [htrained, hl])).trans (if_pos ⟨rfl, (thresh_symbolsShown (m := m) x.toNat).symm ▸ hbelow⟩)

end

/-- The module once receive lane `l` has switched onto its spare: the spare ACTIVE, the old lane duplicating for one mark more. -/
def laneSwitched (m : Mod) (j l sp : Nat) : Mod :=
  (((m.setF (JC_LANE j sp) 0 3 0).setF (JC_LANE j l) 0 3 2).setPort j { m.port j with swap := none, dup := some (l, m.markAhead 1) }).addCnt (JC_CNT j 9) 1

theorem markAhead_setF_lane (lo len v n : Nat) : (m.setF (JC_LANE j l) lo len v).markAhead n = m.markAhead n := by
  have hctl : (m.setF (JC_LANE j l) lo len v).rd BCN_CTL = m.rd BCN_CTL :=
    rd_setF_other _ _ _ _ (by simp only [BCN_CTL, bcnReg, JC_LANE, portReg]; omega)
  rw [markAhead, markPeriod, fld_of_rd hctl, count_setF, markAhead, markPeriod]

section
variable {k : W64} (hpast : k ≤ m.count)
include hpast

theorem switchLane_receive (hidle : (m.port j).txSwap = none) (hswap : (m.port j).swap = some (l, sp, k)) :
    m.switchLane j l = (m.laneSwitched j l sp).raisePort j 0x0C21 l := by
  simp only [switchLane, hidle, hswap, markAhead_setF_lane, port_setF, laneSwitched, true_and, if_pos hpast]
theorem switchLane_transmit (hidle : (m.port j).swap = none) (hswap : (m.port j).txSwap = some (l, sp, k)) :
    m.switchLane j l = m.setPort j { m.port j with txSwap := none, txMap := (l, sp) :: (m.port j).txMap.filter (fun p => decide (p.1 ≠ l)) } := by
  simp only [switchLane, hswap, true_and, if_pos hpast, port_setPort_same, hidle]
theorem endDuplication_due (hdup : (m.port j).dup = some (l, k)) : m.endDuplication j l =
    (((m.setF (JC_LANE j l) 0 3 3).setPort j { m.port j with dup := none }).showSpares j).checkLanes j := by
  simp only [endDuplication, hdup, true_and, if_pos hpast]

end

theorem laneStatus_laneSwitched_spare (h : sp ≠ l) : (m.laneSwitched j l sp).laneStatus j sp = 0 := by
  rw [laneStatus, laneSwitched, fld_addCnt_other _ _ _ _ (lane_ne_count 9 (by decide)), fld_setPort, fld_setF_other _ _ _ _ _ _ (lane_ne_lane h)]
  exact fld_setF_same _ _ 0 3 0 (by decide)
theorem laneStatus_laneSwitched_old : (m.laneSwitched j l sp).laneStatus j l = 2 := by
  rw [laneStatus, laneSwitched, fld_addCnt_other _ _ _ _ (lane_ne_count 9 (by decide)), fld_setPort]
  exact fld_setF_same _ _ 0 3 2 (by decide)
theorem port_laneSwitched : (m.laneSwitched j l sp).port j = { m.port j with swap := none, dup := some (l, m.markAhead 1) } := by
  rw [laneSwitched, port_addCnt, port_setPort_same]
theorem mem_laneSwitched : (m.laneSwitched j l sp).mem = m.mem := by rw [laneSwitched, addCnt, mem_wr, mem_setPort, mem_setF, mem_setF]

theorem checkLanes_short (htrained : m.portTrained j = true) (h : 8 < (m.lanesWith j 3).length) : m.checkLanes j = (m.movePort j 5).raisePort j 0x0C22 0 :=
  if_pos (by simp [htrained, h])

end
end Mod

/-! ## The commands -/

section
variable {s : State} {j : Nat} (hup : s.m.mainUp = true) (hj : j < 6)
include hup hj

theorem does_jicenPortEnable {who : Requester} {v : W64} {n : Mod} (hoff : s.m.flag (JC_CTL j) 0 = false) (hn : n = s.m.wr (JC_CTL j) (v &&& 0x1F ||| 1)) :
    Does (.jicenPortEnable who j v) s ((if n.portAllowed j then n.movePort j 1 else n).answer 0) := by
  have hset : bit (jcCtlWord v ||| 1) 0 = true := by simp [bit]
  subst hn
  exact does_onPort (f := fun m => m.commit who (JC_CTL j) (m.writeJcCtl j (jcCtlWord v ||| 1))) hup hj rfl (Mod.commit_done (Mod.writeJcCtl_enable hoff hset))

theorem does_jicenPortDisable {who : Requester} (hon : s.m.flag (JC_CTL j) 0 = true) :
    Does (.jicenPortDisable who j) s (((s.m.setFlag (JC_CTL j) 0 false).movePort j 0).answer 0) :=
  does_onPort (f := fun m => m.commit who (JC_CTL j) (m.writeJcCtl j (m.rd (JC_CTL j) &&& ~~~1))) hup hj rfl
    (Mod.commit_done (Mod.writeJcCtl_disable hon (by simp [bit])))

theorem does_jicenTrainingDone (h : s.m.portState j = 1) : Does (.jicenTrainingDone j) s (((s.m.movePort j 2).firstMap j).showSpares j) :=
  does_onPort (f := fun m => if m.portState j = 1 then ((m.movePort j 2).firstMap j).showSpares j else m) hup hj rfl (if_pos h)
theorem does_jicenTrainingTimeout (h : s.m.portState j = 1) : Does (.jicenTrainingTimeout j) s ((s.m.movePort j 5).raisePort j 0x0C22 0) :=
  does_onPort (f := fun m => if m.portState j = 1 then (m.movePort j 5).raisePort j 0x0C22 0 else m) hup hj rfl (if_pos h)

theorem does_neighbourIdentity {x : Neighbour} {n : Mod} (hn : s.m.meetNeighbour j x = n) : Does (.neighbourIdentity j x) s n :=
  does_onPort (f := fun m => m.meetNeighbour j x) hup hj rfl hn
theorem does_portAdmit {k : W64} {n : Mod} (hn : s.m.takeAdmit j k = n) : Does (.portAdmit j k) s n := does_onPort (f := fun m => m.takeAdmit j k) hup hj rfl hn
theorem does_portAdmissionMark {n : Mod} (hn : s.m.admitPort j = n) : Does (.portAdmissionMark j) s n := does_onPort (f := fun m => m.admitPort j) hup hj rfl hn

theorem does_jcCmdRetrain {who : Requester} {n : Mod} (hn : s.m.commit who (portReg j 0x20) (s.m.writeJcCmd j 1) = n) : Does (.jcCmdRetrain who j) s n :=
  does_onPort (f := fun m => m.commit who (portReg j 0x20) (m.writeJcCmd j 1)) hup hj rfl hn
theorem does_jcCmdSwap {who : Requester} {l : Nat} {n : Mod} (hn : s.m.commit who (portReg j 0x20) (s.m.writeJcCmd j (Mod.swapWord l)) = n) : Does (.jcCmdSwap who j l) s n :=
  does_onPort (f := fun m => m.commit who (portReg j 0x20) (m.writeJcCmd j (Mod.swapWord l))) hup hj rfl hn

theorem does_laneFault {l : Nat} {x : W32} {lost : Bool} {n : Mod} (hn : s.m.laneFault j l x lost = n) : Does (.laneFault j l x lost) s n :=
  does_onPort (f := fun m => m.laneFault j l x lost) hup hj rfl hn
theorem does_laneSwap {l sp : Nat} (k : W64) (htrained : s.m.portTrained j = true) (hl : l < 40) (hsp : sp < 40) :
    Does (.laneSwap j l sp k) s (s.m.setPort j { s.m.port j with txSwap := some (l, sp, k) }) :=
  does_onPort (f := fun m => m.takeSwap j l sp k) hup hj rfl (if_pos (by simp [htrained, hl, hsp]))
theorem does_laneSwitch {l : Nat} {n : Mod} (hn : s.m.switchLane j l = n) : Does (.laneSwitch j l) s n := does_onPort (f := fun m => m.switchLane j l) hup hj rfl hn
theorem does_laneDuplicationEnd {l : Nat} {n : Mod} (hn : s.m.endDuplication j l = n) : Does (.laneDuplicationEnd j l) s n :=
  does_onPort (f := fun m => m.endDuplication j l) hup hj rfl hn

/-- A neighbour that fits is met: its delay and latency are shown and the port waits for admission (R405). -/
theorem neighbourIdentity_fits {x : Neighbour} (hstate : s.m.portState j = 2) (hgood : (s.m.port j).badId = false) (hfits : s.m.neighbourFits j x) :
    ∃ t, exec (.neighbourIdentity j x) s = .next t ∧ t.m.portState j = 3 ∧ (t.m.rd (BCN_PORT_DELAY j)).toNat = x.delay64.toNat ∧
      t.m.fld (JC_LAT j) 0 16 = 104 + ceilDiv x.delay64.toNat 64 := by
  have hhop := s.m.fld_lt JC_HOP_MAX 0 12
  have hdelay := hfits.2.2.2
  refine ⟨_, does_neighbourIdentity hup hj (Mod.meetNeighbour_fits hj hstate hgood hfits), Mod.portState_admitting, ?_, ?_⟩
  · rw [Mod.rd_admitting_other (Mod.portDelay_ne_portReg hj _ _) (Mod.portDelay_ne_portReg hj _ _), Mod.rd_neighbourShown_delay hj]
    simp
    omega
  · have hadmit : JC_LAT j ≠ JC_ADMIT j := Mod.portReg_ne (by decide)
    have hstatus : JC_LAT j ≠ JC_STATUS j := Mod.portReg_ne (by decide)
    rw [Mod.fld, Mod.rd_admitting_other hadmit hstatus, Mod.rd_neighbourShown_lat, bf, BitVec.extractLsb'_toNat]
    simp only [BitVec.toNat_ofNat, Nat.shiftRight_zero, ceilDiv]
    omega

/-- Another module, or one elsewhere, is refused in ALIGNING (R405). -/
theorem neighbourIdentity_other {x : Neighbour} (hstate : s.m.portState j = 2) (hgood : (s.m.port j).badId = false) (hother : x.id.toNat ≠ s.m.facingId j) :
    ∃ n : Mod, Does (.neighbourIdentity j x) s (n.raisePort j 0x0C25 0) ∧ n.portState j = 2 ∧ (n.port j).badId = true := by
  refine ⟨_, does_neighbourIdentity hup hj (Mod.meetNeighbour_other hj hstate hgood hother), ?_, by rw [Mod.port_setPort_same]⟩
  rw [Mod.portState_setPort, Mod.portState_neighbourShown hj, hstate]

/-- At its admission mark a port is ACTIVE and starts afresh (R415, R428). -/
theorem portAdmissionMark_due (hwaiting : s.m.portState j = 3) (hadmitted : (s.m.port j).admitted = true) (hmark : s.m.atMark = true)
    (hdue : s.m.rd (JC_ADMIT j) ≤ s.m.count) :
    ∃ t, exec (.portAdmissionMark j) s = .next t ∧ t.m.portState j = 4 ∧ (t.m.port j).txSeq = 0 ∧ (t.m.port j).rxSeq = 0 ∧ (t.m.port j).replay = [] ∧
      t.m.creditLeft j 0 = 96 ∧ t.m.creditLeft j 1 = 96 ∧ t.m.creditLeft j 2 = 192 ∧ t.m.creditLeft j 3 = 192 ∧ t.m.mem = s.m.mem := by
  refine ⟨_, does_portAdmissionMark hup hj (Mod.admitPort_due hwaiting hadmitted hmark hdue), ?_⟩
  have hmem : ((s.m.setPortState j 4).setPort j (Mod.freshPort (s.m.port j))).mem = s.m.mem := by rw [Mod.mem_setPort, Mod.setPortState, Mod.mem_setF]
  simp only [Mod.portState_setPort, Mod.portState_setPortState s.m (show 4 < 16 by decide), Mod.port_setPort_same, Mod.creditLeft_setPort, hmem]
  exact ⟨trivial, rfl, rfl, rfl, rfl, rfl, rfl, rfl, trivial⟩

/-- A switch that is due moves the receive side onto the spare (R427). -/
theorem laneSwitch_receive {l sp : Nat} {k : W64} (hne : sp ≠ l) (hidle : (s.m.port j).txSwap = none) (hswap : (s.m.port j).swap = some (l, sp, k)) (hpast : k ≤ s.m.count) :
    ∃ n : Mod, Does (.laneSwitch j l) s (n.raisePort j 0x0C21 l) ∧ n.laneStatus j sp = 0 ∧ n.laneStatus j l = 2 ∧ (n.port j).swap = none ∧
      (n.port j).dup = some (l, s.m.markAhead 1) ∧ n.mem = s.m.mem :=
  ⟨_, does_laneSwitch hup hj (Mod.switchLane_receive hpast hidle hswap), Mod.laneStatus_laneSwitched_spare hne, Mod.laneStatus_laneSwitched_old,
    by rw [Mod.port_laneSwitched], by rw [Mod.port_laneSwitched], Mod.mem_laneSwitched⟩

end

/-- Settles O42: a command by the write or the event that it is, an identity by what it shows, a lane by the status that the switch leaves. -/
theorem jicenPorts : Obligations.JicenPorts := by
  refine ⟨fun s j hup hj => ⟨fun who v n hoff hn => ?_, fun who hon => does_jicenPortDisable hup hj hon,
      fun h => ⟨does_jicenTrainingDone hup hj h, does_jicenTrainingTimeout hup hj h⟩, fun x hstate hgood => ⟨fun hid hport hdims hdelay => ?_, ?_⟩,
      fun k hwaiting hanswers => ?_, ?_, fun who h => ?_, fun l htrained hl hactive hspare hidle who => ?_, fun l who hwho => ⟨fun h => ?_, fun h2 h5 => ?_⟩⟩,
    fun s j l hup hj hl htrained => ⟨fun x lost hfault hactive hspare hidle => ?_, fun x hbelow => ?_, fun sp k hsp => does_laneSwap hup hj k htrained hl hsp,
      fun sp k _ hne hidle hswap hpast => laneSwitch_receive hup hj hne hidle hswap hpast, fun sp k hidle hswap hpast => ?_, fun k hdup hpast => ?_, ?_⟩⟩
  · have henable := does_jicenPortEnable hup hj (who := who) hoff hn
    exact ⟨fun h => by rwa [if_pos h] at henable, fun h => by rwa [if_neg (Bool.eq_false_iff.mp h)] at henable⟩
  · exact neighbourIdentity_fits hup hj hstate hgood ⟨hid, hport, hdims, hdelay⟩
  · exact neighbourIdentity_other hup hj hstate hgood
  · exact ⟨does_portAdmit hup hj (Mod.takeAdmit_answers hwaiting hanswers), Mod.rd_announce_same⟩
  · exact portAdmissionMark_due hup hj
  · exact does_jcCmdRetrain hup hj (Mod.commit_done (Mod.writeJcCmd_retrain h))
  · exact does_jcCmdSwap hup hj (Mod.commit_done (Mod.writeJcCmd_swap htrained hl hactive hspare hidle))
  · exact does_jcCmdSwap hup hj (Mod.commit_refused_unshown (Mod.writeJcCmd_swap_refused h) (by decide) (by decide) (by decide) hwho)
  · exact does_jcCmdRetrain hup hj (Mod.commit_refused_unshown (Mod.writeJcCmd_retrain_refused h2 h5) (by decide) (by decide) (by decide) hwho)
  · exact does_laneFault hup hj (Mod.laneFault_swaps htrained hl hfault hactive hspare hidle)
  · exact does_laneFault hup hj (Mod.laneFault_tolerated htrained hl hbelow)
  · exact does_laneSwitch hup hj (Mod.switchLane_transmit hpast hidle hswap)
  · exact does_laneDuplicationEnd hup hj (Mod.endDuplication_due hpast hdup)
  · exact Mod.checkLanes_short htrained

end Sys2Proof.Machine
end

section
/-! PROOF. The slots of a Jicen port and replay (R242, R407, R408, R413, R415, R416, R418): what leaves in a slot, what an arriving compiled frame does, acknowledgements, resends, frames out of sequence. -/

open Sys2Proof.Safety

namespace Sys2Proof.Machine
namespace Mod

/-! ## Frames, control blocks and compiled words leave a module (R413) -/

section
variable (m : Mod) (j : Nat)

theorem port_sendOut (o : Out) (i : Nat) : (m.sendOut o).port i = m.port i := by
  unfold sendOut
  split
  · split <;> rfl
  · rfl
theorem nextCtr_setPort (p : Port) (i : Nat) : ((m.setPort j p).nextCtr i).1 = (m.nextCtr i).1 := rfl
theorem mem_nextCtr (i : Nat) : (m.nextCtr i).2.mem = m.mem := rfl
theorem outbox_nextCtr (i : Nat) : (m.nextCtr i).2.outbox = m.outbox := rfl
theorem port_nextCtr (i k : Nat) : (m.nextCtr i).2.port k = m.port k := rfl
theorem outbox_sendOut_compiled (slot : BitVec 12) (job : W16) (ctr : W64) (w : List PortWord) :
    (m.sendOut (.compiled j slot job ctr w)).outbox = m.outbox ++ [.compiled j slot job ctr w] := rfl
theorem outbox_sendOut_frame (x : Frame) : (m.sendOut (.frame j x)).outbox = m.outbox ++ [.frame j x] := rfl

/-- The control block of a slot changes no memory. -/
theorem mem_slotCtrl : (m.slotCtrl j).mem = m.mem := by
  have hqueued : (if m.count.toNat / 4 % 64 = 0 then m.queueCtrl j [1] else m).mem = m.mem := by split <;> rfl
  unfold slotCtrl
  dsimp only
  generalize (if m.count.toNat / 4 % 64 = 0 then m.queueCtrl j [1] else m) = k at hqueued ⊢
  split
  · exact (mem_sendOut _ _).trans hqueued
  · exact (mem_sendOut _ _).trans hqueued

/-- Frames sent one by one stand in the outbox in their order. -/
theorem outbox_foldl_sendOut_frame (l : List SentFrame) : (l.foldl (fun m x => m.sendOut (.frame j x.frame)) m).outbox = m.outbox ++ l.map (fun x => .frame j x.frame) := by
  induction l generalizing m with
  | nil => exact (List.append_nil _).symm
  | cons x l ih => rw [List.foldl_cons, ih, outbox_sendOut_frame, List.append_assoc, List.map_cons, List.singleton_append]
theorem regs_foldl_sendOut_frame (l : List SentFrame) : (l.foldl (fun m x => m.sendOut (.frame j x.frame)) m).regs = m.regs := by
  induction l generalizing m with
  | nil => rfl
  | cons x l ih => exact ih _

end

/-! ## A slot (R407) -/

section
variable {m n : Mod} {j : Nat}

/-- The module once the rings whose next frame has no credit are counted (R417). -/
def stallsCounted (m : Mod) (j : Nat) : Mod := m.addCnt (JC_CNT j 8) (4 * (m.stalledRings j).length)
theorem port_stallsCounted : (m.stallsCounted j).port j = m.port j := by rw [stallsCounted, port_addCnt]
theorem mem_stallsCounted : (m.stallsCounted j).mem = m.mem := by rw [stallsCounted, mem_addCnt]
theorem outbox_stallsCounted : (m.stallsCounted j).outbox = m.outbox := by rw [stallsCounted, outbox_addCnt]

section
variable (hrun : m.running = true) (hup : 1 ≤ m.portState j) (hgood : m.portState j ≤ 4) (hnew : (m.port j).slotSent ≠ m.count.toNat / 4 + 1)
  (hn : n = (m.setPort j { m.port j with slotSent := m.count.toNat / 4 + 1 }).slotCtrl j)
include hrun hup hgood hnew hn

/-- A slot that is due sends its control block, then on an ACTIVE port its compiled words or a frame. -/
theorem slot_due : m.slot j = if !n.portActive j then n else
    if ((n.stallsCounted j).slotWords j).isEmpty then (n.stallsCounted j).slotFrame j else (n.stallsCounted j).slotCompiled j ((n.stallsCounted j).slotWords j) := by
  have hdue : (m.running && decide (1 ≤ m.portState j) && decide (m.portState j ≤ 4) && decide ((m.port j).slotSent ≠ m.count.toNat / 4 + 1)) ≠ false := by
    simp [hrun, hup, hgood, hnew]
  subst hn
  exact if_neg hdue

theorem slot_inactive (hidle : n.portActive j = false) : m.slot j = n := by
  rw [slot_due hrun hup hgood hnew hn, hidle]
  exact if_pos rfl
theorem slot_frame (hactive : n.portActive j = true) (hwords : (n.stallsCounted j).slotWords j = []) : m.slot j = (n.stallsCounted j).slotFrame j := by
  rw [slot_due hrun hup hgood hnew hn, hactive, hwords]
  exact (if_neg (by decide)).trans (if_pos rfl)
theorem slot_compiled (hactive : n.portActive j = true) (hwords : (n.stallsCounted j).slotWords j ≠ []) :
    m.slot j = (n.stallsCounted j).slotCompiled j ((n.stallsCounted j).slotWords j) := by
  rw [slot_due hrun hup hgood hnew hn, hactive]
  exact (if_neg (by decide)).trans (if_neg (by simpa using hwords))

end

/-! ## Compiled words that leave (R410, R418) -/

theorem keySlotOf_of_regs (h : n.regs = m.regs) (p : Nat) : n.keySlotOf p = m.keySlotOf p := by
  have hrd : n.rd = m.rd := funext (rd_of_regs h)
  unfold keySlotOf flag fld
  rw [hrd]
theorem jobTagOf_of_regs (h : n.regs = m.regs) (p : Nat) : n.jobTagOf p = m.jobTagOf p := by
  simp only [jobTagOf, keySlotOf_of_regs h, fld, rd_of_regs h]

/-- The words of a slot and those that are late stand no longer at the port. -/
def wordsGone (m : Mod) (j : Nat) : Mod :=
  m.setPort j { m.port j with compiledOut := (m.port j).compiledOut.filter (fun x => decide (m.count.toNat / 4 < ((m.rd (XCH_LAUNCH (m.fld (JC_CTL j) 2 3))).toNat + x.b) / 4)) }

theorem outq_wordsGone : ((m.wordsGone j).port j).outq = (m.port j).outq := by rw [wordsGone, port_setPort_same]

/-- The module once the words of a slot have left in one frame under key slot `i`. -/
def compiledSent (m : Mod) (j i : Nat) (w : List PortWord) : Mod :=
  ((((m.wordsGone j).nextCtr i).2.sendOut (.compiled j (BitVec.ofNat 12 ((m.wordsGone j).count.toNat / 4))
    (BitVec.ofNat 16 ((m.wordsGone j).jobTagOf (m.fld (JC_CTL j) 2 3))) ((m.wordsGone j).nextCtr i).1 w)).addCnt (JC_CNT j 2) 1).addCnt (JC_CNT j 0) 1

theorem keySlotOf_wordsGone (p : Nat) : (m.wordsGone j).keySlotOf p = m.keySlotOf p := keySlotOf_of_regs (regs_setPort m j _) p
theorem jobTagOf_wordsGone (p : Nat) : (m.wordsGone j).jobTagOf p = m.jobTagOf p := jobTagOf_of_regs (regs_setPort m j _) p

theorem slotCompiled_keyless (w : List PortWord) (hkey : m.keySlotOf (m.fld (JC_CTL j) 2 3) = none) : m.slotCompiled j w = m.wordsGone j := by
  rw [← keySlotOf_wordsGone (j := j), wordsGone] at hkey
  simp only [slotCompiled, hkey, wordsGone]
theorem slotCompiled_keyed (w : List PortWord) {i : Nat} (hkey : m.keySlotOf (m.fld (JC_CTL j) 2 3) = some i) : m.slotCompiled j w = m.compiledSent j i w := by
  rw [← keySlotOf_wordsGone (j := j), wordsGone] at hkey
  simp only [slotCompiled, hkey, compiledSent, wordsGone]

theorem outq_compiledSent (i : Nat) (w : List PortWord) : ((m.compiledSent j i w).port j).outq = (m.port j).outq := by
  rw [compiledSent, port_addCnt, port_addCnt, port_sendOut, port_nextCtr, outq_wordsGone]
theorem mem_compiledSent (i : Nat) (w : List PortWord) : (m.compiledSent j i w).mem = m.mem := by
  rw [compiledSent, mem_addCnt, mem_addCnt, mem_sendOut, mem_nextCtr, wordsGone, mem_setPort]
theorem outbox_compiledSent (i : Nat) (w : List PortWord) : (m.compiledSent j i w).outbox = m.outbox ++
    [.compiled j (BitVec.ofNat 12 (m.count.toNat / 4)) (BitVec.ofNat 16 (m.jobTagOf (m.fld (JC_CTL j) 2 3))) (m.nextCtr i).1 w] := by
  rw [compiledSent, jobTagOf_wordsGone, outbox_addCnt, outbox_addCnt, outbox_sendOut_compiled, outbox_nextCtr, wordsGone, nextCtr_setPort, outbox_setPort, count_setPort]

/-! ## A frame that leaves (R415 to R417) -/

/-- The first frame of the queue, of no ring, with credit, is next. -/
theorem pickFrame_first {f : SentFrame} {q : List SentFrame} (hq : (m.port j).outq = f :: q) (hring : f.ring = none) (hcredit : 0 < m.creditLeft j (creditOf f.frame)) :
    m.pickFrame j = some f := by
  simp [pickFrame, hq, hcredit, hring]

/-- A frame under its link sequence, as it stands in the replay buffer. -/
def stamped (x : SentFrame) (seq : BitVec 12) : SentFrame := { x with seq := seq, frame := { x.frame with seq := seq } }

/-- The port once it has sent a frame. -/
def sentPort (p : Port) (x : SentFrame) (now : W64) : Port :=
  { p with outq := p.outq.erase x, replay := p.replay ++ [stamped x p.txSeq], txSeq := p.txSeq + 1, rr := x.ring.getD p.rr, ackAt := if p.replay.isEmpty then now else p.ackAt }

/-- One credit of a class is spent. -/
def spendCredit (m : Mod) (j c : Nat) : Mod := m.setPort j { m.port j with credits := Sparse.put (fun _ => 0) (m.port j).credits c (m.creditLeft j c - 1) }

/-- The module once a frame of its own has left by a port. -/
def frameSent (m : Mod) (j : Nat) (x : SentFrame) : Mod :=
  (((m.setPort j (sentPort (m.port j) x m.count)).spendCredit j (creditOf x.frame)).sendOut (.frame j (stamped x (m.port j).txSeq).frame)).addCnt (JC_CNT j 0) 1

theorem slotFrame_own {x : SentFrame} (hroom : (m.port j).replay.length < 256) (hwaits : (m.port j).outq ≠ []) (hpick : m.pickFrame j = some x) (hown : x.inPort = none) :
    m.slotFrame j = m.frameSent j x := by
  have hgo : ¬ ((m.port j).outq.isEmpty = true ∨ 256 ≤ (m.port j).replay.length) := by
    simp only [List.isEmpty_iff, not_or, Nat.not_le]
    exact ⟨hwaits, hroom⟩
  simp only [slotFrame, if_neg hgo, hpick, hown, frameSent, spendCredit, sentPort, stamped]

theorem port_spendCredit (c : Nat) : (m.spendCredit j c).port j = { m.port j with credits := Sparse.put (fun _ => 0) (m.port j).credits c (m.creditLeft j c - 1) } :=
  port_setPort_same _ _ _
theorem port_frameSent (x : SentFrame) : (m.frameSent j x).port j =
    { sentPort (m.port j) x m.count with credits := Sparse.put (fun _ => 0) (m.port j).credits (creditOf x.frame) (m.creditLeft j (creditOf x.frame) - 1) } := by
  rw [frameSent, port_addCnt, port_sendOut, port_spendCredit, creditLeft, port_setPort_same]
  rfl
theorem creditLeft_frameSent (x : SentFrame) : (m.frameSent j x).creditLeft j (creditOf x.frame) = m.creditLeft j (creditOf x.frame) - 1 := by
  rw [creditLeft, port_frameSent, Sparse.get_put_same]
theorem outbox_frameSent (x : SentFrame) : (m.frameSent j x).outbox = m.outbox ++ [.frame j (stamped x (m.port j).txSeq).frame] := by
  rw [frameSent, outbox_addCnt, outbox_sendOut_frame, spendCredit, outbox_setPort, outbox_setPort]

/-! ## A compiled frame that arrives (R242, R418) -/

section
variable {a : CompiledArrival} (hactive : m.portActive j = true) (hon : m.flag (JC_CTL j) 1 = true)
include hactive hon

/-- The words of a good frame enter the link die's node, in their order. -/
theorem takeCompiled_good (hok : a.ok = true) : m.takeCompiled j a =
    a.words.foldl (fun m w => m.linkNodeWord j { stream := w.stream, lane := w.lane, bt := a.bt + w.b, word := w.word }) (m.addCnt (JC_CNT j 1) 1) := by
  simp only [takeCompiled, hactive, hon, hok, Bool.not_true, Bool.or_self, if_neg Bool.false_ne_true]

/-- The module once a lost compiled frame is counted. -/
def compiledLost (m : Mod) (j : Nat) (fecBad : Bool) : Mod :=
  if fecBad then (m.addCnt (JC_CNT j 1) 1).addCnt (JC_CNT j 6) 1 else m.addCnt (JC_CNT j 1) 1

theorem takeCompiled_lost (hbad : a.ok = false) : m.takeCompiled j a = (m.compiledLost j a.fecBad).raisePortIn j 0x0627 (some ((m.addCnt (JC_CNT j 1) 1).fld (JC_CTL j) 2 3)) := by
  simp only [takeCompiled, hactive, hon, hbad, Bool.not_true, Bool.not_false, Bool.or_self, if_neg Bool.false_ne_true, if_true, compiledLost]

end

/-- The last code of a port stands beside the far module that its errors name (R541). -/
theorem portErr_setF_code (code : W16) (o : Option Nat) (v lane : Nat) : (m.setF (JC_STATUS j) 48 16 v).portErr j code o lane = m.portErr j code o lane := by
  have hfar := fld_setF_disjoint m (JC_STATUS j) 48 16 v 16 12 (by decide) (by decide)
  unfold portErr
  rw [hfar]
theorem mem_compiledLost (fecBad : Bool) : (m.compiledLost j fecBad).mem = m.mem := by
  cases fecBad with
  | false => exact mem_addCnt _ _ _
  | true => exact (mem_addCnt _ _ _).trans (mem_addCnt _ _ _)

/-! ## Acknowledgements and resends (R416) -/

/-- The frames that an acknowledgement covers leave the replay buffer. -/
def framesAcked (m : Mod) (j : Nat) (seq : BitVec 12) : Mod :=
  m.setPort j { m.port j with replay := (m.port j).replay.filter (fun x => decide (2048 ≤ (seq - x.seq).toNat)), ackAt := m.count }
/-- The credit that an ACK block returns, class by class. -/
def creditReturned (m : Mod) (j : Nat) (a : AckBlock) : Mod := (((m.addCredit j 0 a.req0).addCredit j 1 a.req1).addCredit j 2 a.rsp0).addCredit j 3 a.rsp1

theorem takeAck_plain {a : AckBlock} (hactive : m.portActive j = true) (hplain : a.nak = false) : m.takeAck j a = (m.framesAcked j a.ackSeq).creditReturned j a := by
  simp only [takeAck, hactive, hplain, Bool.not_true, Bool.false_and, if_neg Bool.false_ne_true, framesAcked, creditReturned]

theorem creditLeft_addCredit (c k d : Nat) : (m.addCredit j c k).creditLeft j d = if d = c then m.creditLeft j c + k else m.creditLeft j d := by
  rw [addCredit, creditLeft_setPort, Sparse.get_put]
  rfl
theorem replay_addCredit (c k : Nat) : ((m.addCredit j c k).port j).replay = (m.port j).replay := by rw [addCredit, port_setPort_same]
theorem mem_addCredit (c k : Nat) : (m.addCredit j c k).mem = m.mem := by rw [addCredit, mem_setPort]
theorem regs_addCredit (c k : Nat) : (m.addCredit j c k).regs = m.regs := by rw [addCredit, regs_setPort]
theorem port_addCredit_other {i : Nat} (h : i ≠ j) (c k : Nat) : (m.addCredit j c k).port i = m.port i := (port_setPort _ _ _ _).trans (if_neg h)

/-- What an ACK block returns of a class. -/
def returned (a : AckBlock) (c : Nat) : Nat := if c = 0 then a.req0 else if c = 1 then a.req1 else if c = 2 then a.rsp0 else if c = 3 then a.rsp1 else 0

theorem creditLeft_creditReturned (a : AckBlock) (c : Nat) : (m.creditReturned j a).creditLeft j c = m.creditLeft j c + returned a c := by
  rw [creditReturned]
  simp only [creditLeft_addCredit, returned]
  split_ifs <;> simp_all
theorem replay_creditReturned (a : AckBlock) : ((m.creditReturned j a).port j).replay = (m.port j).replay := by
  rw [creditReturned, replay_addCredit, replay_addCredit, replay_addCredit, replay_addCredit]
theorem port_creditReturned_other {i : Nat} (h : i ≠ j) (a : AckBlock) : (m.creditReturned j a).port i = m.port i := by
  rw [creditReturned, port_addCredit_other h, port_addCredit_other h, port_addCredit_other h, port_addCredit_other h]
theorem mem_creditReturned (a : AckBlock) : (m.creditReturned j a).mem = m.mem := by
  rw [creditReturned, mem_addCredit, mem_addCredit, mem_addCredit, mem_addCredit]
theorem regs_creditReturned (a : AckBlock) : (m.creditReturned j a).regs = m.regs := by
  rw [creditReturned, regs_addCredit, regs_addCredit, regs_addCredit, regs_addCredit]

theorem creditLeft_framesAcked (seq : BitVec 12) (c : Nat) : (m.framesAcked j seq).creditLeft j c = m.creditLeft j c := by
  rw [framesAcked, creditLeft_setPort, creditLeft]

/-- The frames of the replay buffer, each sent once more. -/
def resentFrames (m : Mod) (j : Nat) : List SentFrame := (m.port j).replay.map (fun x => { x with resent := x.resent + 1 })
/-- The module once the frames of the replay buffer have been sent again, in order. -/
def resentAll (m : Mod) (j : Nat) : Mod :=
  (m.resentFrames j).foldl (fun m x => m.sendOut (.frame j x.frame))
    ((m.setPort j { m.port j with replay := m.resentFrames j, ackAt := m.count }).addCnt (JC_CNT j 3) (m.resentFrames j).length)

theorem resend_eq : m.resend j =
    if (m.resentFrames j).any (fun x => decide (8 ≤ x.resent)) then ((m.resentAll j).movePort j 1).raisePort j 0x0C23 0 else m.resentAll j := rfl
theorem resend_again (h : ∀ x, x ∈ (m.port j).replay → x.resent < 7) : m.resend j = m.resentAll j :=
  resend_eq.trans (if_neg (by simpa [resentFrames, Nat.lt_succ_iff] using h))
theorem resend_eighth {x : SentFrame} (hx : x ∈ (m.port j).replay) (h : 7 ≤ x.resent) : m.resend j = ((m.resentAll j).movePort j 1).raisePort j 0x0C23 0 := by
  have hsent : { x with resent := x.resent + 1 } ∈ m.resentFrames j := List.mem_map_of_mem hx
  exact resend_eq.trans (if_pos (List.any_eq_true.mpr ⟨_, hsent, decide_eq_true (Nat.succ_le_succ h)⟩))
theorem portState_resentAll : (m.resentAll j).portState j = m.portState j := by
  have hcount : JC_STATUS j ≠ JC_CNT j 3 := portReg_ne (by decide)
  rw [portState, resentAll, fld, rd_of_regs (regs_foldl_sendOut_frame _ _ _), rd_addCnt_other _ _ hcount, rd_setPort, portState, fld]
theorem outbox_resentAll : (m.resentAll j).outbox = m.outbox ++ (m.port j).replay.map (fun x => .frame j x.frame) := by
  rw [resentAll, outbox_foldl_sendOut_frame, outbox_addCnt, outbox_setPort, resentFrames, List.map_map]
  rfl

/-! ## A frame that is not taken (R416) -/

theorem takeFrame_refused {x : Frame} {f : Mod → Mod} (hactive : m.portActive j = true) (h : x.crcOk = false ∨ x.seq ≠ (m.port j).rxSeq) :
    m.takeFrame j x f = ((if x.fecBad then m.addCnt (JC_CNT j 6) 1 else m).addCnt (JC_CNT j 4) 1).sendAck j true none := by
  have hbad : (!x.crcOk || decide (x.seq ≠ (m.port j).rxSeq)) = true := by simpa using h
  simp only [takeFrame, hactive, hbad, Bool.not_true, if_neg Bool.false_ne_true, if_true]

end
end Mod

/-! ## The commands -/

section
variable {s : State} {j : Nat} (hup : s.m.mainUp = true) (hj : j < 6)
include hup hj

theorem does_jicenSlot {n : Mod} (hn : s.m.slot j = n) : Does (.jicenSlot j) s n := does_onPort (f := fun m => m.slot j) hup hj rfl hn
theorem does_compiledFrame {a : CompiledArrival} {n : Mod} (hn : s.m.takeCompiled j a = n) : Does (.compiledFrame j a) s n :=
  does_onPort (f := fun m => m.takeCompiled j a) hup hj rfl hn
theorem does_ackBlock {a : AckBlock} {n : Mod} (hn : s.m.takeAck j a = n) : Does (.ackBlock j a) s n := does_onPort (f := fun m => m.takeAck j a) hup hj rfl hn
theorem does_replayTimeout {n : Mod} (hn : (if s.m.portActive j && !(s.m.port j).replay.isEmpty && s.m.ackOverdue j then s.m.resend j else s.m) = n) : Does (.replayTimeout j) s n :=
  does_onPort (f := fun m => if m.portActive j && !(m.port j).replay.isEmpty && m.ackOverdue j then m.resend j else m) hup hj rfl hn

/-- A slot with compiled words sends them under the key of their partition, and without one sends nothing more. -/
theorem jicenSlot_keyed {n : Mod} {i : Nat} (hslot : s.m.slot j = (n.stallsCounted j).slotCompiled j ((n.stallsCounted j).slotWords j)) (hmem : n.mem = s.m.mem)
    (hkey : (n.stallsCounted j).keySlotOf ((n.stallsCounted j).fld (JC_CTL j) 2 3) = some i) :
    ∃ t, exec (.jicenSlot j) s = .next t ∧ (t.m.port j).outq = (n.port j).outq ∧ t.m.mem = s.m.mem ∧ t.m.outbox = n.outbox ++
      [.compiled j (BitVec.ofNat 12 ((n.stallsCounted j).count.toNat / 4)) (BitVec.ofNat 16 ((n.stallsCounted j).jobTagOf ((n.stallsCounted j).fld (JC_CTL j) 2 3)))
        ((n.stallsCounted j).nextCtr i).1 ((n.stallsCounted j).slotWords j)] := by
  refine ⟨_, does_jicenSlot hup hj (hslot.trans (Mod.slotCompiled_keyed _ hkey)), ?_, ?_, ?_⟩
  · rw [Mod.outq_compiledSent, Mod.port_stallsCounted]
  · rw [Mod.mem_compiledSent, Mod.mem_stallsCounted, hmem]
  · rw [Mod.outbox_compiledSent, Mod.outbox_stallsCounted]
theorem jicenSlot_keyless {n : Mod} (hslot : s.m.slot j = (n.stallsCounted j).slotCompiled j ((n.stallsCounted j).slotWords j)) (hmem : n.mem = s.m.mem)
    (hkey : (n.stallsCounted j).keySlotOf ((n.stallsCounted j).fld (JC_CTL j) 2 3) = none) :
    ∃ t, exec (.jicenSlot j) s = .next t ∧ (t.m.port j).outq = (n.port j).outq ∧ t.m.mem = s.m.mem ∧ t.m.outbox = n.outbox := by
  refine ⟨_, does_jicenSlot hup hj (hslot.trans (Mod.slotCompiled_keyless _ hkey)), ?_, ?_, ?_⟩
  · rw [Mod.outq_wordsGone, Mod.port_stallsCounted]
  · rw [Mod.wordsGone, Mod.mem_setPort, Mod.mem_stallsCounted, hmem]
  · rw [Mod.wordsGone, Mod.outbox_setPort, Mod.outbox_stallsCounted]

/-- A lost compiled frame is 0x0627 in the partition of the port (R242). -/
theorem compiledFrame_lost {a : CompiledArrival} (hactive : s.m.portActive j = true) (hon : s.m.flag (JC_CTL j) 1 = true) (hbad : a.ok = false) :
    ∃ k : Mod, Does (.compiledFrame j a) s (k.raise (k.portErr j 0x0627 (some (s.m.fld (JC_CTL j) 2 3)) 0)) ∧ k.fld (JC_STATUS j) 48 16 = 0x0627 ∧ k.mem = s.m.mem := by
  have hslot : (s.m.addCnt (JC_CNT j 1) 1).fld (JC_CTL j) 2 3 = s.m.fld (JC_CTL j) 2 3 := Mod.fld_addCnt_other _ _ _ _ (Mod.portReg_ne (by decide))
  refine ⟨(s.m.compiledLost j a.fecBad).setF (JC_STATUS j) 48 16 (0x0627 : W16).toNat, does_compiledFrame hup hj ?_, Mod.fld_setF_same _ _ _ _ _ (by decide), ?_⟩
  · rw [Mod.takeCompiled_lost hactive hon hbad, hslot, Mod.raisePortIn, Mod.portErr_setF_code]
  · rw [Mod.mem_setF, Mod.mem_compiledLost]

theorem ackBlock_plain {a : AckBlock} (hactive : s.m.portActive j = true) (hplain : a.nak = false) :
    ∃ t, exec (.ackBlock j a) s = .next t ∧ (t.m.port j).replay = (s.m.port j).replay.filter (fun x => decide (2048 ≤ (a.ackSeq - x.seq).toNat)) ∧
      t.m.creditLeft j 0 = s.m.creditLeft j 0 + a.req0 ∧ t.m.creditLeft j 1 = s.m.creditLeft j 1 + a.req1 ∧
      t.m.creditLeft j 2 = s.m.creditLeft j 2 + a.rsp0 ∧ t.m.creditLeft j 3 = s.m.creditLeft j 3 + a.rsp1 ∧
      (∀ k, k ≠ j → t.m.port k = s.m.port k) ∧ t.m.mem = s.m.mem ∧ t.m.regs = s.m.regs := by
  have hcredit (c : Nat) : ((s.m.framesAcked j a.ackSeq).creditReturned j a).creditLeft j c = s.m.creditLeft j c + Mod.returned a c := by
    rw [Mod.creditLeft_creditReturned, Mod.creditLeft_framesAcked]
  refine ⟨_, does_ackBlock hup hj (Mod.takeAck_plain hactive hplain), ?_, hcredit 0, hcredit 1, hcredit 2, hcredit 3, fun k hk => ?_, ?_, ?_⟩
  · rw [Mod.replay_creditReturned, Mod.framesAcked, Mod.port_setPort_same]
  · rw [Mod.port_creditReturned_other hk, Mod.framesAcked, Mod.port_setPort, if_neg hk]
  · rw [Mod.mem_creditReturned, Mod.framesAcked, Mod.mem_setPort]
  · rw [Mod.regs_creditReturned, Mod.framesAcked, Mod.regs_setPort]

/-- A PUT for this module that is damaged or out of sequence is only answered (R416). -/
theorem put_refused {x : Frame} (hactive : s.m.portActive j = true) (hdst : x.dst.toNat = s.m.moduleId) (hmsg : x.msg = 1) (hrsp : x.rsp = false)
    (h : x.crcOk = false ∨ x.seq ≠ (s.m.port j).rxSeq) :
    Does (.put j x) s (((if x.fecBad then s.m.addCnt (JC_CNT j 6) 1 else s.m).addCnt (JC_CNT j 4) 1).sendAck j true none) := by
  have hhere : ¬ (x.dst.toNat ≠ s.m.moduleId ∨ x.msg.toNat ≠ 1 ∨ x.rsp ≠ decide (1 % 2 = 0)) := by simp [hdst, hmsg, hrsp]
  exact does_onPort (f := fun m => m.endFrame j x 1 (fun m p => m.request j p x)) hup hj rfl ((if_neg hhere).trans (Mod.takeFrame_refused hactive h))

end

/-- Settles O43: a slot by the module that its control block leaves, a compiled frame by its checks, the replay buffer by what an acknowledgement or a timeout makes of it. -/
theorem jicenSlots : Obligations.JicenSlots := by
  refine ⟨fun s j n hup hj hn => ⟨fun hrun hlow hhigh hnew => ⟨fun hidle => ?_, fun k hactive hk => ⟨fun hwords => ?_, fun i hwords hkey => ?_, fun hwords hkey => ?_⟩⟩,
      fun f q hq hring hcredit hroom hown => ?_, fun a hactive hon => ⟨fun hok => ?_, fun hbad => compiledFrame_lost hup hj hactive hon hbad⟩⟩,
    fun s j hup hj hactive => ⟨fun a hplain => ackBlock_plain hup hj hactive hplain, fun hwaits hlate => ?_, fun hearly => ?_, fun hfew => ?_, fun x hx hmany => ?_,
      fun x hdst hmsg hrsp h => put_refused hup hj hactive hdst hmsg hrsp h⟩⟩
  · exact does_jicenSlot hup hj (Mod.slot_inactive hrun hlow hhigh hnew hn hidle)
  · subst hk
    exact does_jicenSlot hup hj (Mod.slot_frame hrun hlow hhigh hnew hn hactive hwords)
  · subst hk
    exact jicenSlot_keyed hup hj (Mod.slot_compiled hrun hlow hhigh hnew hn hactive hwords) (hn ▸ Mod.mem_slotCtrl _ _) hkey
  · subst hk
    exact jicenSlot_keyless hup hj (Mod.slot_compiled hrun hlow hhigh hnew hn hactive hwords) (hn ▸ Mod.mem_slotCtrl _ _) hkey
  · rw [Mod.slotFrame_own hroom (hq ▸ List.cons_ne_nil _ _) (Mod.pickFrame_first hq hring hcredit) hown]
    refine ⟨Mod.outbox_frameSent f, ?_, ?_, Mod.creditLeft_frameSent f, ?_⟩ <;> rw [Mod.port_frameSent]
    · rfl
    · rw [Mod.sentPort, hq, List.erase_cons_head]
    · exact List.length_append
  · exact does_compiledFrame hup hj (Mod.takeCompiled_good hactive hon hok)
  · exact does_replayTimeout hup hj (if_pos (by simp [hactive, hwaits, hlate]))
  · exact does_replayTimeout hup hj (if_neg (by simp [hearly]))
  · rw [Mod.resend_again hfew]
    exact ⟨Mod.outbox_resentAll, Mod.portState_resentAll.trans (of_decide_eq_true hactive)⟩
  · exact ⟨_, Mod.resend_eighth hx hmany⟩

end Sys2Proof.Machine
end

section
/-! PROOF. Records that arrive at a Feed interface (R429, R433, R434): the checks of a datagram in their order, CUM and what stands above it, frames of other kinds, the timers of an ingress flow. -/

open Sys2Proof.Safety

namespace Sys2Proof.Machine
namespace Mod

/-! ## The registers and the record of an interface -/

section
variable (m : Mod) {e a b : Nat}

theorem feedReg_ne (h : a ≠ b) : feedReg e a ≠ feedReg e b := fun x => h (Nat.add_left_cancel x)
theorem feed_of_feeds {m n : Mod} (h : n.feeds = m.feeds) (i : Nat) : n.feed i = m.feed i := by rw [feed, h, feed]
theorem flow_of_flows {m n : Mod} (h : n.flows = m.flows) (i k : Nat) : n.flow i k = m.flow i k := by rw [flow, h, flow]
theorem feed_feedCount (c i : Nat) : (m.feedCount e c).feed i = m.feed i := feed_of_feeds (feeds_addCnt m _ _) i
theorem flow_feedCount (c i k : Nat) : (m.feedCount e c).flow i k = m.flow i k := flow_of_flows (flows_addCnt m _ _) i k
theorem rd_feedCount {c : Nat} (h : a ≠ FD_CNT e c) : (m.feedCount e c).rd a = m.rd a := rd_addCnt_other m 1 h

end

/-! ## The buffer of an interface (R429) -/

section
variable {m : Mod} {e : Nat} {x : FeedDatagram}

/-- A datagram lifts the ingress buffer above XOFF_KIB, and no pause has been sent yet. -/
def pauseDue (m : Mod) (e fill : Nat) : Bool := m.flag (FD_CTL e) 1 && !(m.feed e).xoff && decide (1024 * m.fld (FD_PFC e) 0 16 < fill)

/-- The module once it has sent a pause. -/
def pauseSent (m : Mod) (e : Nat) : Mod := ((m.setFeed e { m.feed e with xoff := true }).feedCount e 6).sendOut (.pfc e true)

theorem pauseDue_feedCount (fill : Nat) : (m.feedCount e 0).pauseDue e fill = m.pauseDue e fill := by
  have hctl : (m.feedCount e 0).rd (FD_CTL e) = m.rd (FD_CTL e) := rd_feedCount m (feedReg_ne (by decide))
  have hpfc : (m.feedCount e 0).rd (FD_PFC e) = m.rd (FD_PFC e) := rd_feedCount m (feedReg_ne (by decide))
  rw [pauseDue, flag, hctl, feed_feedCount, fld_of_rd hpfc, pauseDue, flag]
theorem pauseDue_of_above {fill : Nat} (hpfc : m.flag (FD_CTL e) 1 = true) (hopen : (m.feed e).xoff = false) (habove : 1024 * m.fld (FD_PFC e) 0 16 < fill) :
    m.pauseDue e fill = true := by simp [pauseDue, hpfc, hopen, habove]
theorem not_pauseDue {fill : Nat} (h : m.flag (FD_CTL e) 1 = false ∨ (m.feed e).xoff = true ∨ fill ≤ 1024 * m.fld (FD_PFC e) 0 16) : m.pauseDue e fill = false := by
  rcases h with h | h | h <;> simp [pauseDue, h]

section
variable (hon : m.feedOn e = true) (hlink : m.feedLink e = true)
include hon hlink

theorem feedArrives_eq : m.feedArrives e x =
    if 2 ^ 22 < x.fill + 48 + x.len then (if m.pauseDue e x.fill then (m.feedCount e 0).pauseSent e else m.feedCount e 0).feedCount e 5
    else (if m.pauseDue e x.fill then (m.feedCount e 0).pauseSent e else m.feedCount e 0).takeDatagram e x := by
  have hup : ¬ ((!m.feedOn e || !m.feedLink e) = true) := by simp [hon, hlink]
  rw [← pauseDue_feedCount]
  exact if_neg hup

theorem feedArrives_pauses (hpause : m.pauseDue e x.fill = true) (hroom : x.fill + 48 + x.len ≤ 2 ^ 22) :
    m.feedArrives e x = ((m.feedCount e 0).pauseSent e).takeDatagram e x := by
  rw [feedArrives_eq hon hlink, if_neg (Nat.not_lt.mpr hroom), if_pos hpause]
theorem feedArrives_full (hquiet : m.pauseDue e x.fill = false) (hfull : 2 ^ 22 < x.fill + 48 + x.len) : m.feedArrives e x = (m.feedCount e 0).feedCount e 5 := by
  rw [feedArrives_eq hon hlink, if_pos hfull, if_neg (Bool.eq_false_iff.mp hquiet)]
theorem feedArrives_quiet (hquiet : m.pauseDue e x.fill = false) (hroom : x.fill + 48 + x.len ≤ 2 ^ 22) : m.feedArrives e x = (m.feedCount e 0).takeDatagram e x := by
  rw [feedArrives_eq hon hlink, if_neg (Nat.not_lt.mpr hroom), if_neg (Bool.eq_false_iff.mp hquiet)]

end

/-! ## The checks of a datagram (R433) -/

theorem takeDatagram_unknown (h : x.formOk = false ∨ m.ingressOpen e x.flow = false ∨ m.epochLoaded e x.flow x.epoch = false) : m.takeDatagram e x = m.feedCount e 4 :=
  if_pos (by rcases h with h | h | h <;> simp [h])

section
variable (hform : x.formOk = true) (hopen : m.ingressOpen e x.flow = true) (hepoch : m.epochLoaded e x.flow x.epoch = true)
include hform hopen hepoch

theorem known_datagram : ¬ ((!x.formOk || !m.ingressOpen e x.flow || !m.epochLoaded e x.flow x.epoch) = true) := by simp [hform, hopen, hepoch]

theorem takeDatagram_beyond (h : m.windowEnd e x.flow ≤ x.seq.toNat) : m.takeDatagram e x = m.feedCount e 1 :=
  (if_neg (known_datagram hform hopen hepoch)).trans (if_pos h)

section
variable (hwindow : x.seq.toNat < m.windowEnd e x.flow)
include hwindow

theorem takeDatagram_seen (h : x.seq.toNat < (m.flow e x.flow).cum.toNat ∨ (m.flow e x.flow).above.contains x.seq.toNat = true) : m.takeDatagram e x = m.feedCount e 2 :=
  (if_neg (known_datagram hform hopen hepoch)).trans ((if_neg (Nat.not_le.mpr hwindow)).trans (if_pos h))

section
variable (hcum : (m.flow e x.flow).cum.toNat ≤ x.seq.toNat) (hnew : (m.flow e x.flow).above.contains x.seq.toNat = false)
include hcum hnew

/-- A new record in the window stands or falls by its length, its tag and the key of its slot's memory. -/
theorem takeDatagram_new : m.takeDatagram e x =
    if x.len = 0 ∨ m.flowRecMax e x.flow < x.len then m.feedCount e 4 else if !x.tagOk then m.feedTagFail e x.flow
    else match m.slotAddr e x.flow (m.postedOf e x.flow) ((m.flow e x.flow).used + (x.seq.toNat - (m.flow e x.flow).cum.toNat)) with
      | none => m.feedCount e 1
      | some a => if m.hbmCode ((m.slotOfRing (ringOfFlow e x.flow)).getD 0) a ≠ 0 then (m.hbmFault ((m.slotOfRing (ringOfFlow e x.flow)).getD 0) a).feedCount e 4
        else m.acceptRecord e x a := by
  have hunseen : ¬ (x.seq.toNat < (m.flow e x.flow).cum.toNat ∨ (m.flow e x.flow).above.contains x.seq.toNat = true) :=
    not_or.mpr ⟨Nat.not_lt.mpr hcum, Bool.eq_false_iff.mp hnew⟩
  exact (if_neg (known_datagram hform hopen hepoch)).trans ((if_neg (Nat.not_le.mpr hwindow)).trans (if_neg hunseen))

theorem takeDatagram_length (h : x.len = 0 ∨ m.flowRecMax e x.flow < x.len) : m.takeDatagram e x = m.feedCount e 4 := by
  rw [takeDatagram_new hform hopen hepoch hwindow hcum hnew, if_pos h]

section
variable (hlen : 0 < x.len) (hmax : x.len ≤ m.flowRecMax e x.flow)
include hlen hmax

theorem takeDatagram_bad_tag (htag : x.tagOk = false) : m.takeDatagram e x = m.feedTagFail e x.flow := by
  rw [takeDatagram_new hform hopen hepoch hwindow hcum hnew, if_neg (by omega), htag]
  exact if_pos rfl
theorem takeDatagram_accepted {a : Nat} (htag : x.tagOk = true)
    (hslot : m.slotAddr e x.flow (m.postedOf e x.flow) ((m.flow e x.flow).used + (x.seq.toNat - (m.flow e x.flow).cum.toNat)) = some a)
    (hcode : m.hbmCode ((m.slotOfRing (ringOfFlow e x.flow)).getD 0) a = 0) : m.takeDatagram e x = m.acceptRecord e x a := by
  rw [takeDatagram_new hform hopen hepoch hwindow hcum hnew, if_neg (by omega), htag, if_neg (by decide), hslot]
  exact if_neg (not_not_intro hcode)

end
end
end
end
end

/-! ## CUM (R433) -/

section
variable {f : Flow} {n : Nat}

/-- The flow once the record at CUM counts as received in order. -/
def cumStep (f : Flow) : Flow := { f with above := f.above.erase f.cum.toNat, cum := f.cum + 1, used := f.used + 1 }

theorem moveCum_step (h : f.cum.toNat ∈ f.above) : moveCum f (n + 1) = moveCum (cumStep f) n := if_pos (List.contains_iff_mem.mpr h)
theorem moveCum_stop (h : f.cum.toNat ∉ f.above) : moveCum f (n + 1) = f := if_neg fun hc => h (List.contains_iff_mem.mp hc)
theorem cum_cumStep (h : f.cum.toNat + 1 < 2 ^ 64) : (cumStep f).cum.toNat = f.cum.toNat + 1 := by
  rw [cumStep, BitVec.toNat_add]
  exact Nat.mod_eq_of_lt h

/-- CUM never moves back, every record that it passes stood above it, and one slot fills with each. -/
theorem moveCum_passes (hroom : f.cum.toNat + n < 2 ^ 64) :
    f.cum.toNat ≤ (moveCum f n).cum.toNat ∧ (∀ q, f.cum.toNat ≤ q → q < (moveCum f n).cum.toNat → q ∈ f.above) ∧
    (moveCum f n).used + f.cum.toNat = f.used + (moveCum f n).cum.toNat := by
  induction n generalizing f with
  | zero => exact ⟨Nat.le_refl _, fun q hle hlt => absurd hlt (Nat.not_lt.mpr hle), rfl⟩
  | succ n ih =>
    by_cases hmem : f.cum.toNat ∈ f.above
    · have hnext := cum_cumStep (f := f) (by omega)
      have hused : (cumStep f).used = f.used + 1 := rfl
      obtain ⟨hle, hpassed, hfilled⟩ := ih (f := cumStep f) (by omega)
      rw [moveCum_step hmem]
      refine ⟨by omega, fun q hq hlt => ?_, by omega⟩
      rcases Nat.eq_or_lt_of_le hq with rfl | hbehind
      · exact hmem
      · exact List.mem_of_mem_erase (hpassed q (by omega) hlt)
    · rw [moveCum_stop hmem]
      exact ⟨Nat.le_refl _, fun q hle hlt => absurd hlt (Nat.not_lt.mpr hle), rfl⟩

/-- With a move for each record above it and one more, CUM stops where the next record is missing. -/
theorem moveCum_stops (hmoves : f.above.length < n) : (moveCum f n).cum.toNat ∉ (moveCum f n).above := by
  induction n generalizing f with
  | zero => exact absurd hmoves (Nat.not_lt_zero _)
  | succ n ih =>
    by_cases hmem : f.cum.toNat ∈ f.above
    · have hfewer : (cumStep f).above.length < n := by
        have hlen : (cumStep f).above.length = f.above.length - 1 := List.length_erase_of_mem hmem
        have hsome := List.length_pos_of_mem hmem
        omega
      rw [moveCum_step hmem]
      exact ih hfewer
    · rwa [moveCum_stop hmem]

end
end Mod

/-! ## The commands -/

section
variable {s : State} {e : Nat} (hup : s.m.mainUp = true) (he : e < 2)
include hup he

theorem does_onFeed {c : Instr} {f : Mod → Mod} {n : Mod} (hc : exec c s = onFeed s e f) (hn : f s.m = n) : Does c s n :=
  does_of_next (Mod.onFeed_next hup he) hc hn

theorem does_feedData {x : FeedDatagram} {n : Mod} (hn : s.m.feedArrives e x = n) : Does (.feedData e x) s n := does_onFeed (f := fun m => m.feedArrives e x) hup he rfl hn

theorem does_feedIdleTimeout {k : Nat} {y : RingEntry} {q : List RingEntry} {f : Flow} (hposted : s.m.postedOf e k = y :: q) (hopen : s.m.ingressOpen e k = true)
    (hf : f = s.m.flow e k) (hgap : f.above = []) :
    Does (.feedIdleTimeout e k) s (((s.m.doneEntry (Mod.ringOfFlow e k) y.index 0 (f.used * s.m.flowStride e k) (Mod.feedDetail (f.cum.toNat - f.used) f.used)).setFlow e k
      { f with used := 0 }).showWindow e k) := by
  subst hf
  refine does_onFeed hup he (show execFeedIdleTimeout e k s = onFeed s e _ from rfl) ?_
  dsimp only
  rw [hposted]
  exact if_pos (by simp [hopen, hgap])

section
variable (hon : s.m.feedOn e = true) (hlink : s.m.feedLink e = true)
include hon hlink

omit hup he in
theorem feed_up : ¬ ((!s.m.feedOn e || !s.m.feedLink e) = true) := by simp [hon, hlink]

/-- A datagram that starts no pause and finds room in the buffer goes to the checks of its flow. -/
theorem does_feedData_quiet {x : FeedDatagram} {n : Mod} (hquiet : s.m.flag (FD_CTL e) 1 = false ∨ (s.m.feed e).xoff = true ∨ x.fill ≤ 1024 * s.m.fld (FD_PFC e) 0 16)
    (hroom : x.fill + 48 + x.len ≤ 2 ^ 22) (hn : (s.m.feedCount e 0).takeDatagram e x = n) : Does (.feedData e x) s n :=
  does_feedData hup he ((Mod.feedArrives_quiet hon hlink (Mod.not_pauseDue hquiet) hroom).trans hn)

theorem does_nonFeedFrame_queued (b : List Byte) (hroom : (s.m.feed e).gallery.length < 64) :
    Does (.nonFeedFrame e (.other b)) s (s.m.setFeed e { s.m.feed e with gallery := (s.m.feed e).gallery ++ [b] }) :=
  does_onFeed hup he (show execNonFeedFrame e (.other b) s = onFeed s e _ from rfl) ((if_neg (feed_up hon hlink)).trans (if_pos hroom))
theorem does_nonFeedFrame_full (b : List Byte) (hfull : 64 ≤ (s.m.feed e).gallery.length) : Does (.nonFeedFrame e (.other b)) s (s.m.feedCount e 5) :=
  does_onFeed hup he (show execNonFeedFrame e (.other b) s = onFeed s e _ from rfl) ((if_neg (feed_up hon hlink)).trans (if_neg (Nat.not_lt.mpr hfull)))
theorem does_nonFeedFrame_pauseAnnex31B : Does (.nonFeedFrame e .pauseAnnex31B) s (s.m.feedCount e 4) :=
  does_onFeed hup he (show execNonFeedFrame e .pauseAnnex31B s = onFeed s e _ from rfl) (if_neg (feed_up hon hlink))
theorem does_nonFeedFrame_badUdpChecksum : Does (.nonFeedFrame e .badUdpChecksum) s (s.m.feedCount e 4) :=
  does_onFeed hup he (show execNonFeedFrame e .badUdpChecksum s = onFeed s e _ from rfl) (if_neg (feed_up hon hlink))
theorem does_nonFeedFrame_ipFragment : Does (.nonFeedFrame e .ipFragment) s (s.m.feedCount e 4) :=
  does_onFeed hup he (show execNonFeedFrame e .ipFragment s = onFeed s e _ from rfl) (if_neg (feed_up hon hlink))
omit hon in
theorem does_feedAckTimer {k : Nat} (hopen : s.m.ingressOpen e k = true) : Does (.feedAckTimer e k) s (s.m.sendFeedAck e k) :=
  does_onFeed (f := fun m => if m.ingressOpen e k && m.feedLink e then m.sendFeedAck e k else m) hup he rfl (if_pos (by simp [hopen, hlink]))

end
end

/-- Settles O46: a datagram by the checks of R429 and R433 in their order, CUM by the moves that a record in order starts. -/
theorem feedIngress : Obligations.FeedIngress := by
  refine ⟨fun s e x n hup he hon hlink hn => ?_, fun f hroom => ?_⟩
  · subst hn
    refine ⟨fun hpfc hopen habove hroom => ?_, fun hquiet hfull => ?_, fun hquiet hroom => ?_, does_nonFeedFrame_queued hup he hon hlink, does_nonFeedFrame_full hup he hon hlink,
      does_nonFeedFrame_pauseAnnex31B hup he hon hlink, does_nonFeedFrame_badUdpChecksum hup he hon hlink, does_nonFeedFrame_ipFragment hup he hon hlink,
      fun k hopen => does_feedAckTimer hup he hlink hopen, fun k y q f hposted hopen hf hgap => does_feedIdleTimeout hup he hposted hopen hf hgap⟩
    · exact does_feedData hup he (Mod.feedArrives_pauses hon hlink (Mod.pauseDue_of_above hpfc hopen habove) hroom)
    · exact does_feedData hup he (Mod.feedArrives_full hon hlink (Mod.not_pauseDue hquiet) hfull)
    · have htaken {n : Mod} := does_feedData_quiet (n := n) hup he hon hlink hquiet hroom
      refine ⟨fun hbad => htaken (Mod.takeDatagram_unknown hbad), fun hform hopen hepoch => ⟨fun hbeyond => ?_, fun hwindow hseen => ?_,
        fun hwindow hcum hnew => ⟨fun hlen => ?_, fun hlen hmax htag => ?_, fun a hlen hmax htag hslot hcode => ?_⟩⟩⟩
      · exact htaken (Mod.takeDatagram_beyond hform hopen hepoch hbeyond)
      · exact htaken (Mod.takeDatagram_seen hform hopen hepoch hwindow hseen)
      · exact htaken (Mod.takeDatagram_length hform hopen hepoch hwindow hcum hnew hlen)
      · exact htaken (Mod.takeDatagram_bad_tag hform hopen hepoch hwindow hcum hnew hlen hmax htag)
      · exact htaken (Mod.takeDatagram_accepted hform hopen hepoch hwindow hcum hnew hlen hmax htag hslot hcode)
  · obtain ⟨hforward, hpassed, hfilled⟩ := Mod.moveCum_passes (f := f) (n := f.above.length + 1) (by omega)
    exact ⟨hforward, hpassed, Mod.moveCum_stops (Nat.lt_succ_self _), hfilled⟩

end Sys2Proof.Machine
end

section
/-! PROOF. Records that leave by a Feed interface (R429, R432, R435, R440): the entries that post records, an acknowledgement, a resend and its limit, pauses and links. -/

open Sys2Proof.Safety

namespace Sys2Proof.Machine
namespace Mod

/-! ## The ring of a flow (R431) -/

section
variable {e k : Nat} (he : e < 2) (hk : k < 2048)
include he hk

theorem ringKind_ringOfFlow : ringKind (ringOfFlow e k) = 4 := by
  rw [ringKind, ringOfFlow, if_neg (by omega), if_neg (by omega), if_neg (by omega), if_neg (by omega), if_pos (by omega)]
theorem ifaceOfRing_ringOfFlow : ifaceOfRing (ringOfFlow e k) = e := by
  simp only [ifaceOfRing, ringOfFlow]
  omega
theorem ringOfFlow_lt : ringOfFlow e k < 65536 := by
  simp only [ringOfFlow]
  omega
omit he in
theorem flowOfRing_ringOfFlow : flowOfRing (ringOfFlow e k) = k := by
  simp only [flowOfRing, ringOfFlow]
  omega

end

/-! ## A flow with nothing posted -/

section
variable {m n : Mod} {e k : Nat}

theorem postedOf_of_rings (h : n.rings = m.rings) : n.postedOf e k = m.postedOf e k := by rw [postedOf, ringOf, h, postedOf, ringOf]

section
variable (hnone : m.postedOf e k = [])
include hnone

theorem closeSent_idle : m.closeSent e k = m := by rw [closeSent, hnone, List.foldl_nil]
theorem pump_idle : m.pump e k (m.waitingRecords e k) = m := by rw [waitingRecords, hnone, List.map_nil, List.sum_nil, pump]

end
end

/-! ## An acknowledgement (R434, R435) -/

section
variable {m : Mod} {e k : Nat} {x : FeedAck}

@[simp] theorem flow_setFlow_same (f : Flow) : (m.setFlow e k f).flow e k = f := Sparse.get_put_same _ _ _
theorem flow_wr (a : Nat) (v : W64) : (m.wr a v).flow e k = m.flow e k := flow_of_flows (flows_wr m a v) e k

theorem outbox_sendOut_feedData (m : Mod) (e k : Nat) (q : W64) (b : List Byte) : (m.sendOut (.feedData e k q b)).outbox = m.outbox ++ [.feedData e k q b] := rfl

/-- The counters of an interface stand below its flows. -/
theorem flowReg_ne_count {c : Nat} (hc : c < 16) (o : Nat) : flowReg e k o ≠ FD_CNT e c := feedReg_ne (by omega)
theorem flowEgress_feedCount {c : Nat} (hc : c < 16) : (m.feedCount e c).flowEgress e k = m.flowEgress e k := by
  rw [flowEgress, flowFlag, flag, rd_feedCount m (flowReg_ne_count hc 0), flowEgress, flowFlag, flag]
theorem flowState_feedCount {c : Nat} (hc : c < 16) : (m.feedCount e c).flowState e k = m.flowState e k := fld_of_rd (rd_feedCount m (flowReg_ne_count hc 56)) 0 8
theorem epochLoaded_feedCount (c : Nat) (ep : Byte) : (m.feedCount e c).epochLoaded e k ep = m.epochLoaded e k ep := by rw [epochLoaded, flow_feedCount, epochLoaded]

/-- An egress flow once an ACK without SACK bits has moved CUM to `x.cum`. -/
def ackedFlow (f : Flow) (x : FeedAck) : Flow :=
  { f with cum := x.cum, sent := f.sent.filter (fun r => decide (x.cum.toNat ≤ r.seq.toNat)), peerEnd := BitVec.ofNat 64 (max f.peerEnd.toNat x.windowEnd.toNat) }
/-- The module once such an ACK is taken, where nothing is posted. -/
def flowAcked (m : Mod) (e k : Nat) (x : FeedAck) : Mod := ((m.feedCount e 0).setFlow e k (ackedFlow (m.flow e k) x)).wr (flowReg e k 48) x.cum

theorem postedOf_flowAcked : (m.flowAcked e k x).postedOf e k = m.postedOf e k :=
  postedOf_of_rings (by rw [flowAcked, rings_wr, rings_setFlow, feedCount, rings_addCnt])

/-- Without SACK bits no record above CUM is acknowledged, and none is known to be missing. -/
theorem takeFeedAck_plain (hon : m.feedOn e = true) (hlink : m.feedLink e = true) (hk : k < 2048) (hflow : x.flow = k) (hegress : m.flowEgress e k = true) (hstate : m.flowState e k = 1)
    (hepoch : m.epochLoaded e k x.epoch = true) (htag : x.tagOk = true) (hsack : x.sack = 0) (hcum : (m.flow e k).cum.toNat ≤ x.cum.toNat) (hnone : m.postedOf e k = []) :
    m.takeFeedAck e x = m.flowAcked e k x := by
  have hup : ¬ ((!m.feedOn e || !m.feedLink e) = true) := by simp [hon, hlink]
  have hgood : ¬ (2048 ≤ k ∨ (m.feedCount e 0).flowEgress e k = false ∨ (m.feedCount e 0).flowState e k ≠ 1 ∨ (m.feedCount e 0).epochLoaded e k x.epoch = false) := by
    rw [flowEgress_feedCount (by decide), flowState_feedCount (by decide), epochLoaded_feedCount]
    simp [hk, hegress, hstate, hepoch]
  have hbits (i : Nat) : bit x.sack i = false := by simp [hsack, bit]
  have hidle : (m.flowAcked e k x).postedOf e k = [] := postedOf_flowAcked.trans hnone
  subst hflow
  rw [takeFeedAck, if_neg hup]
  simp only [if_neg hgood, htag, Bool.not_true, if_neg Bool.false_ne_true, flow_feedCount, hbits, Bool.and_false, Bool.not_false, Bool.and_true, List.foldl_fixed,
    Nat.not_lt_zero, decide_false, List.filter_false, forEach, List.foldl_nil, Nat.max_eq_right hcum, BitVec.ofNat_toNat, BitVec.setWidth_eq]
  simp only [flowAcked, ackedFlow] at hidle ⊢
  rw [closeSent_idle hidle, pump_idle hidle]

theorem flow_flowAcked : (m.flowAcked e k x).flow e k = ackedFlow (m.flow e k) x := by rw [flowAcked, flow_wr, flow_setFlow_same]
theorem rd_flowAcked_cum : (m.flowAcked e k x).rd (flowReg e k 48) = x.cum := rd_wr_same _ _ _
theorem mem_flowAcked : (m.flowAcked e k x).mem = m.mem := by rw [flowAcked, mem_wr, mem_setFlow, feedCount, mem_addCnt]
theorem outbox_flowAcked : (m.flowAcked e k x).outbox = m.outbox := by rw [flowAcked, outbox_wr, outbox_setFlow, feedCount, outbox_addCnt]

end

/-! ## A resend (R435) -/

section
variable {m : Mod} {e k q : Nat} {y : SentRecord} (hfind : (m.flow e k).sent.find? (fun z => decide (z.seq.toNat = q)) = some y)
include hfind

/-- The flow once a record has been sent once more. -/
def resentFlow (f : Flow) (y : SentRecord) : Flow := { f with sent := f.sent.map (fun z => if z.seq = y.seq then { z with resent := z.resent + 1 } else z) }

theorem resendRecord_held (hclosed : m.egressOpen e k = false) : m.resendRecord e k q = m := by
  simp only [resendRecord, hfind, hclosed, Bool.not_false, if_true]

section
variable (hopen : m.egressOpen e k = true)
include hopen

theorem resendRecord_fails (hmax : m.flowRetryMax e k ≤ y.resent) : m.resendRecord e k q = m.failFlow e k q := by
  simp only [resendRecord, hfind, hopen, Bool.not_true, if_neg Bool.false_ne_true, if_pos hmax]
theorem resendRecord_again (hmax : y.resent < m.flowRetryMax e k) :
    m.resendRecord e k q = ((m.setFlow e k (resentFlow (m.flow e k) y)).feedCount e 8).sendOut (.feedData e k y.seq y.bytes) := by
  simp only [resendRecord, hfind, hopen, Bool.not_true, if_neg Bool.false_ne_true, if_neg (Nat.not_le.mpr hmax), resentFlow]
theorem outbox_resendRecord (hmax : y.resent < m.flowRetryMax e k) : (m.resendRecord e k q).outbox = m.outbox ++ [.feedData e k y.seq y.bytes] := by
  have hkept : ((m.setFlow e k (resentFlow (m.flow e k) y)).feedCount e 8).outbox = m.outbox := by rw [feedCount, outbox_addCnt, outbox_setFlow]
  rw [resendRecord_again hfind hopen hmax, ← hkept]
  exact outbox_sendOut_feedData _ _ _ _ _

end
end

/-! ## Entries that post records (R432, R435) -/

/-- A FEED_RECV entry has joined the posted sequence of its flow. -/
def recvPosted (m : Mod) (r : Nat) (x : RingEntry) : Mod :=
  m.setRing r { m.ringOf r with prog := (m.ringOf r).prog.map (fun y => if y.index = x.index then { y with token := 1 } else y) }

/-- A FEED_SEND entry has joined it, with the numbers of its records in DETAIL; NEXT_SEQ is behind them. -/
def sendPosted (m : Mod) (e k : Nat) (x : RingEntry) (first count : Nat) : Mod :=
  (m.setRing (ringOfFlow e k) { m.ringOf (ringOfFlow e k) with prog := (m.ringOf (ringOfFlow e k)).prog.map (fun y =>
    if y.index = x.index then { y with token := 1, detail := feedDetail first count } else y) }).wr (flowReg e k 40) (BitVec.ofNat 64 (first + count))

end Mod

/-! ## The commands -/

section
variable {s : State} {e k : Nat} (hup : s.m.mainUp = true) (he : e < 2)
include hup he

section
variable {x : RingEntry} (hk : k < 2048) (hwork : (s.m.working (Mod.ringOfFlow e k)).find? (fun y => decide (y.token = 0)) = some x)
include hk hwork

theorem does_feedRecv (hop : entryOp x.image = 1) : Does (.feedRecv (Mod.ringOfFlow e k)) s ((s.m.recvPosted (Mod.ringOfFlow e k) x).showWindow e k) := by
  refine does_onRing hup (Mod.ringOfFlow_lt he hk) (show execFeedRecv _ s = onRing s _ _ from rfl) ?_
  dsimp only
  rw [hwork, Mod.ifaceOfRing_ringOfFlow he hk, Mod.flowOfRing_ringOfFlow hk]
  exact if_pos ⟨Mod.ringKind_ringOfFlow he hk, hop⟩

theorem does_feedSend {n : Mod} {a c : Nat} (hop : entryOp x.image = 2) (hcode : s.m.hbmCode ((s.m.slotOfRing (Mod.ringOfFlow e k)).getD 0) (num x.image 0x18 8) = 0)
    (ha : a = (s.m.rd (flowReg e k 40)).toNat) (hc : c = ceilDiv (num x.image 0x20 4) (s.m.flowRecMax e k)) (hn : n = s.m.sendPosted e k x a c) :
    Does (.feedSend (Mod.ringOfFlow e k)) s (n.pump e k (n.waitingRecords e k)) := by
  subst ha hc hn
  refine does_onRing hup (Mod.ringOfFlow_lt he hk) (show execFeedSend _ s = onRing s _ _ from rfl) ?_
  dsimp only
  rw [hwork, Mod.ifaceOfRing_ringOfFlow he hk, Mod.flowOfRing_ringOfFlow hk]
  have hkind : ¬ (ringKind (Mod.ringOfFlow e k) ≠ 4 ∨ entryOp x.image ≠ 2) := by simp [Mod.ringKind_ringOfFlow he hk, hop]
  dsimp only
  rw [if_neg hkind, hcode, if_neg (by decide), if_neg (by decide), Mod.sendPosted]

end

theorem does_feedAck {x : FeedAck} {n : Mod} (hn : s.m.takeFeedAck e x = n) : Does (.feedAck e x) s n := does_onFeed (f := fun m => m.takeFeedAck e x) hup he rfl hn
theorem does_feedRtoExpiry (q : W64) (hegress : s.m.flowEgress e k = true) (hstate : s.m.flowState e k = 1) : Does (.feedRtoExpiry e k q) s (s.m.resendRecord e k q.toNat) :=
  does_onFeed (f := fun m => if m.flowEgress e k && decide (m.flowState e k = 1) then m.resendRecord e k q.toNat else m) hup he rfl (if_pos (by simp [hegress, hstate]))
theorem does_pfcPauseFrame (xoff : Bool) (hon : s.m.feedOn e = true) (hpfc : s.m.flag (FD_CTL e) 1 = true) :
    Does (.pfcPauseFrame e xoff) s ((s.m.setFeed e { s.m.feed e with paused := xoff }).pumpAll e) :=
  does_onFeed (f := fun m => if m.feedOn e && m.flag (FD_CTL e) 1 then (m.setFeed e { m.feed e with paused := xoff }).pumpAll e else m) hup he rfl (if_pos (by simp [hon, hpfc]))
theorem does_feedXon (hxoff : (s.m.feed e).xoff = true) : Does (.feedXon e) s ((s.m.setFeed e { s.m.feed e with xoff := false }).sendOut (.pfc e false)) :=
  does_onFeed (f := fun m => if (m.feed e).xoff then (m.setFeed e { m.feed e with xoff := false }).sendOut (.pfc e false) else m) hup he rfl (if_pos hxoff)
theorem does_ethernetLinkDown (hlink : s.m.feedLink e = true) : Does (.ethernetLinkDown e) s ((s.m.setFlag (FD_STATUS e) 0 false).raiseFeed e 0x0D23 0 none) :=
  does_onFeed (f := fun m => if m.feedLink e then (m.setFlag (FD_STATUS e) 0 false).raiseFeed e 0x0D23 0 none else m) hup he rfl (if_pos hlink)
theorem does_ethernetLinkUp (hen : s.m.feedEn e = true) : Does (.ethernetLinkUp e) s ((s.m.setFlag (FD_STATUS e) 0 true).pumpAll e) :=
  does_onFeed (f := fun m => if m.feedEn e then (m.setFlag (FD_STATUS e) 0 true).pumpAll e else m) hup he rfl (if_pos hen)

end

/-- Settles O47: an entry by the records that it posts, an acknowledgement by the flow that it leaves, a resend by what the flow and its limit allow. -/
theorem feedEgress : Obligations.FeedEgress := by
  refine fun s e k hup he hk => ⟨?_, fun x hon hlink hflow hegress hstate hepoch htag hsack hcum hnone => ?_, fun q => does_feedRtoExpiry hup he q,
    fun y hfind => ⟨Mod.resendRecord_held hfind, fun hmax hopen => Mod.resendRecord_fails hfind hopen hmax, fun hmax hopen => Mod.outbox_resendRecord hfind hopen hmax⟩,
    does_pfcPauseFrame hup he, does_feedXon hup he, does_ethernetLinkDown hup he, does_ethernetLinkUp hup he⟩
  · rintro _ x rfl hwork
    exact ⟨does_feedRecv hup he hk hwork, fun n a c => does_feedSend hup he hk hwork⟩
  · have hflowAfter := Mod.flow_flowAcked (m := s.m) (e := e) (k := k) (x := x)
    exact ⟨_, does_feedAck hup he (Mod.takeFeedAck_plain hon hlink hk hflow hegress hstate hepoch htag hsack hcum hnone), congrArg Flow.cum hflowAfter, Mod.rd_flowAcked_cum,
      Mod.mem_flowAcked, congrArg Flow.sent hflowAfter, Mod.outbox_flowAcked⟩

end Sys2Proof.Machine
end

section
/-! PROOF. Dialogues that report, keep the flash, restart Gallery, open debug and zeroise (R451, R458, R459, R464, R465, R469, R502): what a dialogue that the Keeper takes leaves, and what each body answers. -/

open Sys2Proof.Safety

namespace Sys2Proof.Machine
namespace Mod

/-! ## A dialogue that is taken (R460, R462) -/

/-- A dialogue of which every check passes is served by its body, and the Keeper goes on. -/
theorem dialogue_asked {m : Mod} {op : Nat} {d : Dialogue} (h : Asked m op d) (f : Mod → Dialogue → Mod) : m.dialogue op f = (f m d).settle := by
  obtain ⟨-, -, ⟨r, hqueue⟩, hwaits, hchannel, hop, hdark, hform, hallowed⟩ := h
  have htaken : ¬ (d.begun = true ∨ d.ch = none ∨ d.op ≠ op) := by simp [hwaits, hchannel, hop]
  have hlight : ¬ (m.keeperState = 3 ∧ op ≠ 1) := fun hd => hdark.elim (· hd.1) hd.2
  simp only [dialogue, hqueue]
  rw [if_neg htaken, if_neg hlight, hform, hallowed]
  rfl

/-! ## The flash (R458, R464) -/

section
variable {m : Mod} {d : Dialogue} {k o : Nat} (hk : k = num d.data 0 1) (ho : o = num d.data 4 4)
include hk ho

theorem dlgFlashWrite_staged (hrecord : k < 4) (hroom : o + (d.data.drop 8).length ≤ targetSize k) (hstaged : m.stagings.contains k = true) :
    m.dlgFlashWrite d = (m.st (stagingAt k o) (d.data.drop 8)).endDialogue 0 [] := by
  subst hk ho
  simp only [dlgFlashWrite]
  rw [decide_eq_false (Nat.not_le.mpr hrecord), decide_eq_false (Nat.not_lt.mpr hroom), if_pos hstaged]
  rfl

theorem dlgFlashWrite_beyond (hbeyond : targetSize k < o + (d.data.drop 8).length) : m.dlgFlashWrite d = m.endDialogue 0x0F0C [] := by
  subst hk ho
  simp only [dlgFlashWrite]
  rw [decide_eq_true hbeyond, Bool.or_true]
  rfl

end

section
variable (m : Mod)

/-- A commit leaves RECOVERY by the Keeper's state alone (R460). -/
theorem leaveRecovery_cases : m.leaveRecovery = m ∨ m.leaveRecovery = m.setF KPR_STATUS 0 4 0 := by
  unfold leaveRecovery
  split
  · exact .inr rfl
  · exact .inl rfl

@[simp] theorem mem_leaveRecovery : m.leaveRecovery.mem = m.mem := by
  rcases m.leaveRecovery_cases with h | h <;> rw [h]
  exact mem_setF ..
@[simp] theorem stagings_leaveRecovery : m.leaveRecovery.stagings = m.stagings := by
  rcases m.leaveRecovery_cases with h | h <;> rw [h]
  rfl
@[simp] theorem kboot_leaveRecovery : m.leaveRecovery.kboot = m.kboot := by
  rcases m.leaveRecovery_cases with h | h <;> rw [h]
  rfl

/-- A copy of memory opens and closes no staging copy. -/
@[simp] theorem stagings_copyMem (src dst len : Nat) : (m.copyMem src dst len).stagings = m.stagings := by
  rw [copyMem]
  exact foldl_keeps (P := fun n => n.stagings = m.stagings) (fun n (p : Nat × Byte) => n.st (p.1 - src + dst) [p.2]) _ (fun _ _ _ hn => hn) _ rfl

/-- The module once the staged configuration record stands in its region: its staging copy is done with, and kboot has that the record verifies (R455, R464). -/
def configCommitted : Mod :=
  let n := m.copyMem (stagingAt 1 0) (flashAt (targetBase 1)) (targetSize 1)
  leaveRecovery { n with stagings := n.stagings.erase 1, kboot := setBit n.kboot 0 true }

theorem mem_configCommitted : m.configCommitted.mem = (m.copyMem (stagingAt 1 0) (flashAt (targetBase 1)) (targetSize 1)).mem := mem_leaveRecovery _
theorem stagings_configCommitted : m.configCommitted.stagings = m.stagings.erase 1 := by rw [configCommitted, stagings_leaveRecovery, stagings_copyMem]
theorem bit_kboot_configCommitted : bit m.configCommitted.kboot 0 = true := by rw [configCommitted, kboot_leaveRecovery, bit_setBit _ _ _ (by decide)]

end

section
variable {m : Mod} {d : Dialogue} {v : SignatureCheck}

theorem dlgCommit_config (htarget : num d.data 0 1 = 1) (hcheck : m.checkObject (stagingAt 1 0) (targetType 1) v.sigOk = 0) :
    m.dlgCommit d v = m.configCommitted.endDialogue 0 [] := by
  simp only [dlgCommit, htarget, hcheck]
  rfl

theorem dlgCommit_refused {c : W16} (hc : c = m.checkObject (stagingAt (num d.data 0 1) 0) (targetType (num d.data 0 1)) v.sigOk) (hrefused : c ≠ 0) :
    m.dlgCommit d v = m.endDialogue c [] := by
  have hcode : ∀ (p : Prop) [Decidable p], (if c = 0 ∧ p then (0x0F06 : W16) else c) = c := fun p _ => if_neg fun h => hrefused h.1
  subst hc
  exact Eq.trans (if_pos ((hcode _).trans_ne hrefused)) (congrArg (m.endDialogue · []) (hcode _))

variable (htarget : num d.data 0 1 = 0)
include htarget

theorem dlgAdvance_spent (hspent : num m.galHeader 0x10 4 ≤ m.svnOf 1) : m.dlgAdvance d = m.endDialogue 0x0F0D [] := by
  simp only [dlgAdvance, htarget]
  exact if_pos hspent
theorem dlgAdvance_gallery (hahead : m.svnOf 1 < num m.galHeader 0x10 4) :
    m.dlgAdvance d = ((m.setF KPR_SVN0 0 32 (num m.galHeader 0x10 4)).writeReplay).endDialogue 0 (bytesOf 4 (num m.galHeader 0x10 4)) := by
  simp only [dlgAdvance, htarget]
  exact if_neg (Nat.not_le.mpr hahead)

end

/-! ## Gallery restart and debug (R459, R469, R502) -/

section
variable {m : Mod} {v : SignatureCheck} (hopen : m.abandonCmds.anySealed = false)
include hopen

theorem dlgRestart_bootBank {g : Nat} (hgood : m.abandonCmds.goodBank [(m.bootBank, v.sigOk), (1 - m.bootBank, v.otherOk)] = some g) (hboot : g = m.bootBank) :
    m.dlgRestart v = (m.abandonCmds.runGallery g).endDialogue 0 [] := by
  simp [dlgRestart, hopen, hgood, hboot]
theorem dlgRestart_no_bank (hgood : m.abandonCmds.goodBank [(m.bootBank, v.sigOk), (1 - m.bootBank, v.otherOk)] = none) :
    m.dlgRestart v = ((m.abandonCmds.raiseKeeper 0x0F24 31 0 none).recovery).endDialogue 0x0F05 [] := by
  simp [dlgRestart, hopen, hgood]

end

section
variable {m : Mod}

theorem dlgDebugOn_opens (hallowed : m.debugAllowed = true) (hopen : m.anySealed = false) (hsealing : ∀ p, p < 8 → (m.kslot p).st ≠ .sealing) :
    m.dlgDebugOn = ((m.setFlag KPR_STATUS 4 true).setFlag KPR_STATUS 5 true).setPlan [.send (busDies.map (fun i => (i, msgDebug true)))] := by
  have hnone : (upto 8).any (fun p => decide ((m.kslot p).st = .sealing)) = false :=
    List.any_eq_false.mpr fun p hp => by simpa using hsealing p (List.mem_range.mp hp)
  rw [dlgDebugOn, hallowed, hopen, hnone]
  rfl
theorem dlgDebugOn_sealed (hsealed : m.anySealed = true) : m.dlgDebugOn = m.endDialogue 0x0F08 [] := by
  rw [dlgDebugOn, hsealed, Bool.or_true, Bool.true_or]
  rfl

end
end Mod

/-! ## What a dialogue answers -/

section
variable {s : State} {c : Instr} {op : Nat} {d : Dialogue} {f : Mod → Dialogue → Mod} {n : Mod} {v : SignatureCheck}

/-- A command on a dialogue that the Keeper takes does what the dialogue's body does. -/
theorem does_onDialogue (h : Asked s.m op d) (hc : exec c s = onDialogue s op f) (hm : f s.m d = n) : Does c s n.settle := by
  have hrails : (decide (s.m.modState ≠ 0) && !s.m.board.keeperDown) = true := by simp [h.1, h.2.1]
  rw [Does, hc, onDialogue, Mod.onWhen_next hrails, Mod.dialogue_asked h, hm]

theorem does_flashWrite (h : Asked s.m 0x30 d) (hm : s.m.dlgFlashWrite d = n) : Does .flashWrite s n.settle := does_onDialogue h rfl hm
theorem does_flashCommit (h : Asked s.m 0x31 d) (hm : s.m.dlgCommit d v = n) : Does (.flashCommit v) s n.settle := does_onDialogue h rfl hm
theorem does_advanceSvn (h : Asked s.m 0x32 d) (hm : s.m.dlgAdvance d = n) : Does .advanceSvn s n.settle := does_onDialogue h rfl hm
theorem does_galleryRestart (h : Asked s.m 0x33 d) (hm : s.m.dlgRestart v = n) : Does (.galleryRestart v) s n.settle := does_onDialogue h rfl hm
theorem does_debugEnable (h : Asked s.m 0x40 d) (hm : s.m.dlgDebugOn = n) : Does .debugEnable s n.settle := does_onDialogue h rfl hm

end

/-- Settles O50: each command by the body of its dialogue, a body by the checks it passes or the one that refuses it. -/
theorem keeperDialogues : Obligations.KeeperDialogues := by
  refine ⟨fun s d => ⟨?status, ?identity, ?measurements, ?written, ?beyond, ?committed, ?uncommitted, ?advanced⟩,
    fun s d => ⟨?restarted, ?opened, ?kept, ?closed, ?zeroised⟩⟩
  case status => exact fun h => does_onDialogue h rfl rfl
  case identity => exact fun h => does_onDialogue h rfl rfl
  case measurements => exact fun h => does_onDialogue h rfl rfl
  case written => exact fun k o h hk ho hrecord hroom hstaged => does_flashWrite h (Mod.dlgFlashWrite_staged hk ho hrecord hroom hstaged)
  case beyond => exact fun k o h hk ho hbeyond => does_flashWrite h (Mod.dlgFlashWrite_beyond hk ho hbeyond)
  case committed =>
    exact fun v h htarget hcheck => ⟨s.m.configCommitted, does_flashCommit h (Mod.dlgCommit_config htarget hcheck),
      s.m.mem_configCommitted, s.m.stagings_configCommitted, s.m.bit_kboot_configCommitted⟩
  case uncommitted => exact fun v h _ hcheck => does_flashCommit h (Mod.dlgCommit_refused rfl hcheck)
  case advanced =>
    exact fun h htarget => ⟨fun hspent => does_advanceSvn h (Mod.dlgAdvance_spent htarget hspent), fun hahead => does_advanceSvn h (Mod.dlgAdvance_gallery htarget hahead)⟩
  case restarted =>
    exact fun v g h hopen => ⟨fun hgood hboot => does_galleryRestart h (Mod.dlgRestart_bootBank hopen hgood hboot), fun hgood => does_galleryRestart h (Mod.dlgRestart_no_bank hopen hgood)⟩
  case opened => exact fun h hallowed hopen hsealing => does_debugEnable h (Mod.dlgDebugOn_opens hallowed hopen hsealing)
  case kept => exact fun h hsealed => does_debugEnable h (Mod.dlgDebugOn_sealed hsealed)
  case closed => exact fun h => does_onDialogue h rfl rfl
  case zeroised => exact fun h => does_onDialogue h rfl rfl

end Sys2Proof.Machine
end

section
/-! PROOF. A step runs the command at the front of the queue on the queue's rest. -/

namespace Sys2Proof.Machine

/-- Settles O1: the queue of `step` is first in, first out by its definition. -/
theorem stepRunsFront : Obligations.StepRunsFront := fun _ _ _ => rfl

end Sys2Proof.Machine
end

section
/-! PROOF. Writes of the error block (R552): the way of a write to it, the refusals and what a refusal leaves, the record that a cleared VALID bit zeroes. -/

open Sys2Proof.Safety

namespace Sys2Proof.Machine
namespace Mod

/-! ## A refused access, of the host too (R496, R521) -/

/-- A refusal that no status register shows answers its code; one of the host is also recorded in HI_REFUSAL and counted. -/
theorem commit_refused_cases {m n : Mod} {who : Requester} {a : Nat} {p : W16 × Mod} {c : W16} (h : p = (c, n)) (h11 : c.toNat / 256 ≠ 0x0B)
    (h14 : c.toNat / 256 ≠ 0x0E) (h17 : c.toNat / 256 ≠ 0x11) :
    m.commit who a p = n.answer c ∨ ∃ x, m.commit who a p = ((n.answer c).wr HI_REFUSAL x).addCnt CNT_BAR_REFUSED 1 := by
  subst h
  rw [commit, finishAccess, noteRange_unshown h11 h14 h17]
  dsimp only
  split
  · exact .inl rfl
  · exact .inr ⟨_, rfl⟩

/-- `n` is what a refusal with code `c` makes of `m`: of records, staged words and registers it touches those of R496 alone. -/
structure RefusedWith (m n : Mod) (c : W16) : Prop where
  code : n.reply.code = c
  firsts : n.firsts = m.firsts
  staged : n.staged = m.staged
  rd : ∀ a, a ≠ HI_REFUSAL → a ≠ CNT_BAR_REFUSED → n.rd a = m.rd a

theorem refusedWith_commit {m : Mod} {who : Requester} {a : Nat} {p : W16 × Mod} {c : W16} (h : p = (c, m)) (h11 : c.toNat / 256 ≠ 0x0B)
    (h14 : c.toNat / 256 ≠ 0x0E) (h17 : c.toNat / 256 ≠ 0x11) : RefusedWith m (m.commit who a p) c := by
  rcases commit_refused_cases (who := who) (a := a) h h11 h14 h17 with hn | ⟨x, hn⟩ <;> rw [hn]
  · exact ⟨rfl, rfl, rfl, fun _ _ _ => rfl⟩
  · refine ⟨rfl, rfl, rfl, fun b hrefusal hcount => ?_⟩
    rw [rd_addCnt_other _ _ hcount, rd_wr_other _ _ hrefusal]
    rfl

/-! ## The way to the error block (R551) -/

theorem regSpec_errReg {o : Nat} (ho : o < 0x80_0000) (halign : o % 8 = 0) : regSpec (errReg o) = errSpec o := by
  have hoff : errReg o - 0x80_0000 = o := Nat.add_sub_cancel_left ..
  have hbase : errReg o = 0x80_0000 + o := rfl
  unfold regSpec
  iterate 7 rw [if_neg (by omega)]
  rw [if_pos (by omega), hoff]

section
variable {m : Mod} {who : Requester} {o : Nat} {sp : RegSpec} {w : Bool} {v : W64}

theorem writeAt_err (ho : o < 0x2_0000) (halign : o % 8 = 0) (hspec : errSpec o = some sp) :
    m.writeAt who (errReg o) w v = m.writeErr o sp (lanes (errReg o) w v).1 (lanes (errReg o) w v).2 := by
  have hbase : errReg o = 0x80_0000 + o := rfl
  have hword : errReg o / 8 * 8 = errReg o := by omega
  have hfits : errReg o % (if w then 8 else 4) = 0 := by split <;> omega
  rw [writeAt, if_neg (not_not_intro hfits), hword]
  exact writeReg_err m who o ho sp ((regSpec_errReg (by omega) halign).trans hspec) _ _

/-- A write at an address of module space reaches that address. -/
theorem writeVia_module {a : Nat} : m.writeVia who .module a w v = m.commit who a (m.writeAt who a w v) := by
  rw [writeVia, if_neg fun hbar => absurd hbar.1 (by decide)]
  rfl

/-- The lanes of a write at a word's address hold its lower half, wide or narrow (R496). -/
theorem bit_lanes_low {a i : Nat} (halign : a % 8 = 0) (hi : i < 32) : bit (lanes a w v).1 i = true ∧ bit (lanes a w v).2 i = bit v i := by
  have hhalf : ∀ k < 32, bit (0xFFFF_FFFF : W64) k = true := by decide
  have hlow : ¬ a % 8 = 4 := by omega
  cases w
  · simp only [lanes, Bool.false_eq_true, if_false, if_neg hlow]
    refine ⟨hhalf i hi, ?_⟩
    rw [bit, BitVec.getLsbD_and, ← bit, ← bit, hhalf i hi, Bool.and_true]
  · exact ⟨(BitVec.getLsbD_allOnes ..).trans (decide_eq_true (by omega)), rfl⟩

/-- A writable field of the lower half takes the value's. -/
theorem bf_written_lanes {a lo len : Nat} (halign : a % 8 = 0) (hlow : lo + len ≤ 32) (hfield : ∀ i < len, bit (RegSpec.writable sp) (lo + i) = true) :
    bf (m.written a sp (lanes a w v).1 (lanes a w v).2) lo len = bf v lo len := by
  apply Nat.eq_of_testBit_eq
  intro i
  rw [testBit_bf, testBit_bf]
  by_cases hi : i < len
  · obtain ⟨hmask, hvalue⟩ := bit_lanes_low (w := w) (v := v) halign (show lo + i < 32 by omega)
    have hwrites : bit ((lanes a w v).1 &&& RegSpec.writable sp) (lo + i) = true := by
      rw [bit, BitVec.getLsbD_and, ← bit, ← bit, hmask, hfield i hi, Bool.and_self]
    have hbit := bit_merge ((lanes a w v).1 &&& RegSpec.writable sp) (merge sp.rws (m.rd a) (m.stagedWord a) &&& ~~~(sp.wo ||| sp.w1c)) (lanes a w v).2 (lo + i)
    rw [if_pos hwrites, hvalue] at hbit
    exact congrArg (decide (i < len) && ·) hbit
  · simp [hi]

/-! ## What the block refuses (R552) -/

theorem writeAt_errCtl_noRollbacks (h : v.toNat / 2 % 8 = 0) : m.writeAt who ERR_CTL w v = (0x1002, m) := by
  have hfield : bf v 1 3 = 0 := by simpa [bf, Nat.shiftRight_eq_div_pow] using h
  have hnew := bf_written_lanes (m := m) (w := w) (v := v) (sp := { reset := 7, rw := 0xF }) (a := ERR_CTL) (lo := 1) (len := 3) (by decide) (by decide) (by decide)
  rw [ERR_CTL, writeAt_err (by decide) (by decide) rfl, writeErr]
  exact if_pos ⟨rfl, hnew.trans hfield⟩

theorem writeAt_errDeadline_short {a : Nat} (ha : a = ERR_DL_STEP ∨ a = ERR_DL_PART) (h : v.toNat % 2 ^ 32 < 0x1_0000) : m.writeAt who a w v = (0x1002, m) := by
  have hshort : ∀ {r : W64} {b : Nat}, b % 8 = 0 → bf (m.written b { reset := r, rws := 0xFFFF_FFFF } (lanes b w v).1 (lanes b w v).2) 0 32 < 0x1_0000 := by
    intro r b hb
    have hwritable : ∀ i < 32, bit (RegSpec.writable { reset := 0, rws := 0xFFFF_FFFF }) (0 + i) = true := by decide
    rw [bf_written_lanes (sp := { reset := r, rws := 0xFFFF_FFFF }) hb (by decide) hwritable]
    simpa [bf] using h
  rcases ha with rfl | rfl
  · rw [ERR_DL_STEP, writeAt_err (by decide) (by decide) rfl, writeErr]
    exact (if_neg fun hctl => absurd hctl.1 (by decide)).trans (if_pos ⟨.inl rfl, hshort (by decide)⟩)
  · rw [ERR_DL_PART, writeAt_err (by decide) (by decide) rfl, writeErr]
    exact (if_neg fun hctl => absurd hctl.1 (by decide)).trans (if_pos ⟨.inr rfl, hshort (by decide)⟩)

end

/-! ## VALID bits that are cleared (R538, R552) -/

section
variable {m : Mod} {who : Requester} {v : W64} {k : Nat}

/-- The module once the record of one scope is cleared; what its HANDLING reads stays (R538). -/
def clearRecord (m : Mod) (k : Nat) : Mod := (m.setFlag ERR_FE_VALID k false).setFirst k { handling := m.handling k }

/-- The scopes whose VALID bit a write clears. -/
def clearedScopes (v : W64) : List Nat := (upto 9).filter (bit v)

theorem mem_clearedScopes : k ∈ clearedScopes v ↔ k < 9 ∧ bit v k = true := by simp [clearedScopes, upto]

theorem writeReg_feValid : m.writeReg who ERR_FE_VALID (BitVec.allOnes 64) v =
    if (clearedScopes v).any (fun i => decide (1 ≤ m.handling i ∧ m.handling i ≤ 3)) then (0x1001, m) else (0, forEach m (clearedScopes v) clearRecord) := by
  have hnine : ∀ i < 9, bit (0x1FF : W64) i = true ∧ bit (BitVec.allOnes 64) i = true := by decide
  have hscopes : (upto 9).filter (bit (v &&& BitVec.allOnes 64 &&& 0x1FF)) = clearedScopes v := by
    refine List.filter_congr fun i hi => ?_
    obtain ⟨hmask, hlane⟩ := hnine i (List.mem_range.mp hi)
    rw [bit] at hmask hlane ⊢
    rw [BitVec.getLsbD_and, BitVec.getLsbD_and, hmask, hlane, Bool.and_true, Bool.and_true, bit]
  rw [ERR_FE_VALID, writeReg_err m who 0x38 (by decide) { w1c := 0x1FF } (regSpec_errReg (by decide) (by decide))]
  rw [← hscopes, writeErr]
  exact (if_neg fun hctl => absurd hctl.1 (by decide)).trans ((if_neg fun hdl => absurd hdl.1 (by decide)).trans (if_pos rfl))

theorem writeReg_feValid_handled (h : ∃ k, k < 9 ∧ bit v k = true ∧ 1 ≤ m.handling k ∧ m.handling k ≤ 3) :
    m.writeReg who ERR_FE_VALID (BitVec.allOnes 64) v = (0x1001, m) := by
  obtain ⟨k, hk, hbit, hlow, hhigh⟩ := h
  rw [writeReg_feValid]
  exact if_pos (List.any_eq_true.mpr ⟨k, mem_clearedScopes.mpr ⟨hk, hbit⟩, decide_eq_true ⟨hlow, hhigh⟩⟩)
theorem writeReg_feValid_clears (h : ∀ k, k < 9 → bit v k = true → m.handling k = 0 ∨ m.handling k = 4) :
    m.writeReg who ERR_FE_VALID (BitVec.allOnes 64) v = (0, forEach m (clearedScopes v) clearRecord) := by
  rw [writeReg_feValid]
  refine if_neg (Bool.not_eq_true _ ▸ List.any_eq_false.mpr fun k hk => ?_)
  obtain ⟨hlt, hbit⟩ := mem_clearedScopes.mp hk
  have hidle := h k hlt hbit
  simp only [decide_eq_true_eq]
  omega

/-- What the block shows of a scope: its VALID bit and its record. -/
def recordView (m : Mod) (k : Nat) : Bool × ErrRec := (m.feValid k, m.first k)

theorem recordView_clearRecord (m : Mod) (i k : Nat) :
    (m.clearRecord i).recordView k = if k = i then (false, { handling := (m.recordView k).2.handling }) else m.recordView k := by
  have hvalid : (m.clearRecord i).feValid k = if k = i then false else m.feValid k := by
    change (m.setFlag ERR_FE_VALID i false).flag ERR_FE_VALID k = _
    by_cases hword : k < 64
    · split
      · next h => rw [h, flag_setFlag_same _ _ _ _ (h ▸ hword)]
      · next h => exact flag_setFlag_other_bit _ _ _ _ _ h hword
    · have hnone : ∀ w : W64, bit w k = false := fun w => BitVec.getLsbD_of_ge _ _ (Nat.le_of_not_lt hword)
      rw [flag, feValid, flag, hnone, hnone, ite_self]
  have hfirst : (m.clearRecord i).first k = if k = i then { handling := (m.first k).handling } else m.first k := by
    rw [clearRecord, first_setFirst]
    split
    · next h => subst h; rfl
    · rfl
  rw [recordView, hvalid, hfirst]
  split <;> rfl

/-- Each scope that the write names loses its record, and the others keep theirs. -/
theorem recordView_cleared (m : Mod) (v : W64) (k : Nat) :
    (forEach m (clearedScopes v) clearRecord).recordView k = if k ∈ clearedScopes v then (false, { handling := (m.recordView k).2.handling }) else m.recordView k :=
  forEach_pointwise (view := recordView) (f := clearRecord) (g := fun _ r => (false, { handling := r.2.handling })) recordView_clearRecord
    (List.nodup_range.filter _) m k

theorem firsts_sendErrVec (m : Mod) : m.sendErrVec.firsts = m.firsts := by
  rw [sendErrVec]
  split
  · rw [sendOut]
    split <;> rfl
  · rfl
theorem regs_sendErrVec (m : Mod) : m.sendErrVec.regs = m.regs := by
  rw [sendErrVec]
  split
  · rw [sendOut]
    split <;> rfl
  · rfl

/-- A scope without a valid record captures the next error (R537). -/
theorem capture_invalid {n : Mod} (r : ErrRec) (h : n.feValid k = false) (hk : k < 64) :
    ((n.capture k r).first k).code = r.code ∧ ((n.capture k r).first k).seq = r.seq ∧ (n.capture k r).feValid k = true := by
  have hcapture : n.capture k r = ((n.setFirst k { r with handling := n.handling k, deadline := (n.first k).deadline }).setFlag ERR_FE_VALID k true).sendErrVec := by
    rw [capture, h, if_neg Bool.false_ne_true]
  have hfirst : (n.capture k r).first k = { r with handling := n.handling k, deadline := (n.first k).deadline } := by
    rw [hcapture, first, firsts_sendErrVec, firsts_setFlag]
    exact first_setFirst_same ..
  have hvalid : (n.capture k r).feValid k = true := by
    rw [hcapture, feValid, flag, rd_of_regs (regs_sendErrVec _)]
    exact flag_setFlag_same _ _ _ _ hk
  rw [hfirst]
  exact ⟨rfl, rfl, hvalid⟩

end
end Mod

theorem does_registerWrite {s : State} {who : Requester} {a : Nat} {w : Bool} {v : W64} (hup : s.m.modState ≠ 0) (ha : a < 2 ^ 40) :
    Does (.registerWrite who .module (BitVec.ofNat 40 a) w v) s (s.m.commit who a (s.m.writeAt who a w v)) := by
  have haddr : (BitVec.ofNat 40 a).toNat = a := (BitVec.toNat_ofNat ..).trans (Nat.mod_eq_of_lt ha)
  refine does_of_next (o := execRegisterWrite who .module (BitVec.ofNat 40 a) w v s) (f := fun m => m.writeVia who .module (BitVec.ofNat 40 a).toNat w v) (Mod.onWhen_next (decide_eq_true hup)) rfl ?_
  rw [haddr, Mod.writeVia_module]

section
variable {s : State} {who : Requester} {v : W64} (hup : s.m.modState ≠ 0)
include hup

theorem errFeValidWrite_handled (h : ∃ k, k < 9 ∧ bit v k = true ∧ 1 ≤ s.m.handling k ∧ s.m.handling k ≤ 3) :
    ∃ n, Does (.errFeValidWrite who v) s n ∧ Mod.RefusedWith s.m n 0x1001 :=
  ⟨_, does_regWrite hup rfl rfl, Mod.refusedWith_commit (Mod.writeReg_feValid_handled h) (by decide) (by decide) (by decide)⟩
theorem registerWrite_noRollbacks {w : Bool} (h : v.toNat / 2 % 8 = 0) :
    ∃ n, Does (.registerWrite who .module (BitVec.ofNat 40 ERR_CTL) w v) s n ∧ Mod.RefusedWith s.m n 0x1002 :=
  ⟨_, does_registerWrite hup (by decide), Mod.refusedWith_commit (Mod.writeAt_errCtl_noRollbacks h) (by decide) (by decide) (by decide)⟩
theorem registerWrite_shortDeadline {w : Bool} {a : Nat} (ha : a = ERR_DL_STEP ∨ a = ERR_DL_PART) (h : v.toNat % 2 ^ 32 < 0x1_0000) :
    ∃ n, Does (.registerWrite who .module (BitVec.ofNat 40 a) w v) s n ∧ Mod.RefusedWith s.m n 0x1002 := by
  have hfits : a < 2 ^ 40 := by rcases ha with rfl | rfl <;> decide
  exact ⟨_, does_registerWrite hup hfits, Mod.refusedWith_commit (Mod.writeAt_errDeadline_short ha h) (by decide) (by decide) (by decide)⟩
theorem does_errFeValidWrite_clears (h : ∀ k, k < 9 → bit v k = true → s.m.handling k = 0 ∨ s.m.handling k = 4) :
    Does (.errFeValidWrite who v) s ((forEach s.m (Mod.clearedScopes v) Mod.clearRecord).answer 0) :=
  does_regWrite hup rfl (Mod.commit_done (Mod.writeReg_feValid_clears h))

end

/-- Settles O14: the refusals by what a refused access leaves, the cleared records by the loop over the scopes that the write names. -/
theorem errorBlockWrites : Obligations.ErrorBlockWrites := by
  refine fun s who v hup => ⟨fun h => ?_, fun w h => ?_, fun w a ha h => ?_, fun h => ?_⟩
  · obtain ⟨n, hdoes, hrefused⟩ := errFeValidWrite_handled (who := who) hup h
    exact ⟨_, hdoes, hrefused.code, hrefused.firsts, hrefused.rd _ (by decide) (by decide)⟩
  · obtain ⟨n, hdoes, hrefused⟩ := registerWrite_noRollbacks (who := who) (w := w) hup h
    exact ⟨_, hdoes, hrefused.code, hrefused.rd _ (by decide) (by decide)⟩
  · obtain ⟨n, hdoes, hrefused⟩ := registerWrite_shortDeadline (who := who) (w := w) hup ha h
    have hplace : a ≠ HI_REFUSAL ∧ a ≠ CNT_BAR_REFUSED := by rcases ha with rfl | rfl <;> decide
    exact ⟨_, hdoes, hrefused.code, hrefused.rd _ hplace.1 hplace.2, hrefused.staged⟩
  · refine ⟨_, does_errFeValidWrite_clears hup h, rfl, fun k hk => ?_⟩
    have hview := s.m.recordView_cleared v k
    refine ⟨fun hbit => ?_, fun hbit => ?_⟩
    · rw [if_pos (Mod.mem_clearedScopes.mpr ⟨hk, hbit⟩)] at hview
      obtain ⟨hvalid, hfirst⟩ := Prod.mk.inj hview
      exact ⟨hvalid, hfirst, fun r => Mod.capture_invalid r hvalid (by omega)⟩
    · rw [if_neg fun hmem => Bool.false_ne_true (hbit.symm.trans (Mod.mem_clearedScopes.mp hmem).2)] at hview
      exact Prod.mk.inj hview

end Sys2Proof.Machine
end

section
/-! PROOF. Attestation, keying, sealing and teardown of a slot (R474, R476 to R480, R484, R490, R491): what the end of a dialogue leaves of the slots, and what each dialogue's body answers once its checks pass. -/

open Sys2Proof.Safety

namespace Sys2Proof.Machine
namespace Mod

/-! ## What shows a slot, what queues the Keeper's steps and what responds leave the slots as they are -/

section
variable (m : Mod)

@[simp] theorem kslot_wr (a : Nat) (v : W64) (k : Nat) : (m.wr a v).kslot k = m.kslot k := rfl
@[simp] theorem kslot_setFlag (a i : Nat) (b : Bool) (k : Nat) : (m.setFlag a i b).kslot k = m.kslot k := rfl
@[simp] theorem nextDomain_setKslot (p : Nat) (x : KSlot) : (m.setKslot p x).nextDomain = m.nextDomain := rfl
theorem kslot_takeDomainNo (p : Nat) : (m.takeDomainNo p).kslot p = { m.kslot p with domain := BitVec.ofNat 16 m.nextDomain } := kslot_setKslot_same ..
@[simp] theorem mem_takeDomainNo (p : Nat) : (m.takeDomainNo p).mem = m.mem := rfl
@[simp] theorem nextDomain_takeDomainNo (p : Nat) : (m.takeDomainNo p).nextDomain = m.nextDomain + 1 := rfl
@[simp] theorem nextDomain_wr (a : Nat) (v : W64) : (m.wr a v).nextDomain = m.nextDomain := rfl
@[simp] theorem nextDomain_setFlag (a i : Nat) (b : Bool) : (m.setFlag a i b).nextDomain = m.nextDomain := rfl
theorem kslot_showSealing (p k : Nat) : (m.showSealing p).kslot k = m.kslot k := by
  rw [showSealing, kslot_setFlag, kslot_setFlag, kslot_setFlag]
theorem mem_showSealing (p : Nat) : (m.showSealing p).mem = m.mem := by
  rw [showSealing, mem_setFlag, mem_setFlag, mem_setFlag]
theorem draws_showSealing (p : Nat) : (m.showSealing p).draws = m.draws := by
  rw [showSealing, draws_setFlag, draws_setFlag, draws_setFlag]
theorem nextDomain_showSealing (p : Nat) : (m.showSealing p).nextDomain = m.nextDomain := by
  rw [showSealing, nextDomain_setFlag, nextDomain_setFlag, nextDomain_setFlag]

theorem kslot_setSealing (p : Nat) (st : Sealing) : (m.setSealing p st).kslot p = { m.kslot p with st := st } := by
  rw [setSealing, kslot_showSealing, kslot_setKslot_same]
theorem mem_setSealing (p : Nat) (st : Sealing) : (m.setSealing p st).mem = m.mem := by rw [setSealing, mem_showSealing, mem_setKslot]
theorem nextDomain_setSealing (p : Nat) (st : Sealing) : (m.setSealing p st).nextDomain = m.nextDomain := by
  rw [setSealing, nextDomain_showSealing, nextDomain_setKslot]

end

/-- `n` has the slots of `m`. -/
def SameSlots (m n : Mod) : Prop := ∀ k, n.kslot k = m.kslot k

namespace SameSlots
section
variable {m n : Mod}

theorem refl (m : Mod) : SameSlots m m := fun _ => rfl
theorem of_kslots {l : Mod} (h : SameSlots m n) (hslots : l.kslots = n.kslots) : SameSlots m l := fun k => by rw [kslot, hslots, ← kslot, h k]
theorem ite {c : Prop} [Decidable c] {l : Mod} (hn : SameSlots m n) (hl : SameSlots m l) : SameSlots m (if c then n else l) := by
  split <;> assumption
theorem wr {a : Nat} {v : W64} (h : SameSlots m n) : SameSlots m (n.wr a v) := h
theorem setF {a lo len v : Nat} (h : SameSlots m n) : SameSlots m (n.setF a lo len v) := h
theorem setPlan {plan : List KStep} (h : SameSlots m n) : SameSlots m (n.setPlan plan) := by
  rw [Mod.setPlan]
  split <;> exact h
theorem voidStacks {p : Nat} (h : SameSlots m n) : SameSlots m (n.voidStacks p).2 := h
theorem sendOut {o : Out} (h : SameSlots m n) : SameSlots m (n.sendOut o) := by
  unfold Mod.sendOut
  repeat' split
  all_goals exact h
theorem putRegWords {a c : Nat} {b : List Byte} (h : SameSlots m n) : SameSlots m (n.putRegWords a b c) := by
  induction c generalizing n a b with
  | zero => exact h
  | succ c ih => exact ih h.wr
theorem respond {ch : Nat} {req body : List Byte} {c : W16} (h : SameSlots m n) : SameSlots m (n.respond ch req c body) := by
  have hstatus : ∀ {b : List Byte} {w}, SameSlots m (if c = 0 then (n.putRegWords (MB_RSP ch 0) b w).setF (MB_STATUS ch) 0 2 2
      else ((n.putRegWords (MB_RSP ch 0) b w).setF (MB_STATUS ch) 0 2 2).setF (MB_STATUS ch) 48 16 c.toNat) := .ite h.putRegWords.setF h.putRegWords.setF.setF
  exact .ite hstatus.sendOut (.ite hstatus.sendOut hstatus)
/-- The end of a dialogue answers its requester; it changes no slot (R462, R463). -/
theorem endDialogue {c : W16} {body : List Byte} (h : SameSlots m n) : SameSlots m (n.endDialogue c body) := by
  unfold Mod.endDialogue
  split
  · exact h
  · next d r _ =>
    have hcode : SameSlots m (if c.toNat / 256 = 0x0F then { n with dialogues := r }.setF KPR_STATUS 48 16 c.toNat else { n with dialogues := r }) :=
      .ite (h.of_kslots (l := { n with dialogues := r }) rfl).setF (h.of_kslots rfl)
    dsimp only
    split
    · exact hcode.respond
    · exact hcode

end
end SameSlots

/-! ## Attestation (R474, R476, R477) -/

/-- The module once slot `p` is ATTESTED by manifest `man` and the attestation `a`, with the two key pairs drawn last (R477). -/
def attested (m : Mod) (p : Nat) (man a : List Byte) : Mod :=
  ({ m with draws := m.draws + 2 }.setKslot p { m.kslot p with
    st := .attested, manifest := man, manifestHash := sha256 man, attHash := sha256 a, kemAt := some (m.draws + 1), sealKey := some (m.draws + 2) }).showSealing p

/-- An attestation with its signature by the device's key (R477). -/
def signed (a : List Byte) : List Byte := a ++ bytesIn 17088 (Config.sign 17088 0 a)

section
variable {m : Mod} {d : Dialogue} {p : Nat}

theorem mem_attested (m : Mod) (p : Nat) (man a : List Byte) : (m.attested p man a).mem = m.mem := by rw [attested, mem_showSealing, mem_setKslot]
theorem draws_attested (m : Mod) (p : Nat) (man a : List Byte) : (m.attested p man a).draws = m.draws + 2 := by rw [attested, draws_showSealing, draws_setKslot]
theorem kslot_attested (man a : List Byte) : (m.attested p man a).kslot p = { m.kslot p with
    st := .attested, manifest := man, manifestHash := sha256 man, attHash := sha256 a, kemAt := some (m.draws + 1), sealKey := some (m.draws + 2) } := by
  rw [attested, kslot_showSealing, kslot_setKslot_same]

/-- A slot with an idle partition may be attested while it is UNSEALED or ATTESTED (R477). -/
theorem attest_guard (hpart : m.hasPart p = true) (hidle : m.jobRuns p = false) (hopen : (m.kslot p).st = .unsealed ∨ (m.kslot p).st = .attested) :
    (!m.hasPart p || m.jobRuns p || !(decide ((m.kslot p).st = .unsealed) || decide ((m.kslot p).st = .attested))) = false := by
  rw [hpart, hidle]
  rcases hopen with h | h <;> rw [h] <;> rfl

section
variable (hp : p = d.slot) (hpart : m.hasPart p = true) (hidle : m.jobRuns p = false) (hopen : (m.kslot p).st = .unsealed ∨ (m.kslot p).st = .attested)
  (hdebug : m.debugOn = false) (hleft : m.domainsGone = false)
include hp hpart hidle hopen hdebug hleft

theorem dlgAttest_accepted {man a : List Byte} (hman : man = d.data.drop 32) (hok : m.manifestOk p man = true)
    (ha : a = ({ m with draws := m.draws + 2 }).attestation p (d.data.take 32) man (m.draws + 1) (m.draws + 2)) :
    m.dlgAttest d = (m.attested p man (signed a)).endDialogue 0 (signed a) := by
  subst hp hman ha
  have hguard := attest_guard hpart hidle hopen
  simp only [dlgAttest, hguard, hdebug, hleft, hok, attested, signed, Bool.not_true, Bool.false_eq_true, if_false]
theorem dlgAttest_refused (hbad : m.manifestOk p (d.data.drop 32) = false) : m.dlgAttest d = m.endDialogue 0x0F10 [] := by
  subst hp
  have hguard := attest_guard hpart hidle hopen
  simp only [dlgAttest, hguard, hdebug, hleft, hbad, Bool.not_false, Bool.false_eq_true, if_false, if_true]

end

/-! ## Keying (R464, R479, R480) -/

theorem kslot_dropAttest_same (m : Mod) (p : Nat) : (m.dropAttest p).kslot p =
    { m.kslot p with st := .unsealed, kemAt := none, sealKey := none, manifest := [], manifestHash := [], attHash := [] } := by
  rw [dropAttest, kslot_showSealing, kslot_setKslot_same]
theorem kslot_dropAttest_other {k : Nat} (h : k ≠ p) : (m.dropAttest p).kslot k = m.kslot k := by
  rw [dropAttest, kslot_showSealing, kslot_setKslot, if_neg h]
theorem mem_dropAttest : (m.dropAttest p).mem = m.mem := by rw [dropAttest, mem_showSealing, mem_setKslot]

/-- The module once slot `p` is SEALING with the job key that a delivery brings, its KEM key spent (R480). -/
def keyed (m : Mod) (p kem : Nat) (data : List Byte) : Mod :=
  let tag : W16 := BitVec.ofNat 16 (num (m.kslot p).manifest 8 2)
  let n := m.setKslot p { m.kslot p with jk := bytesIn 32 (Config.unwrap kem data), kemAt := none, jobTag := tag }
  (((n.takeDomainNo p).setSealing p .sealing).wr (PART_JOB p) (tag.zeroExtend 64)).setFlag (PART_STATUS p) 23 false

theorem kslot_keyed (m : Mod) (p kem : Nat) (data : List Byte) : (m.keyed p kem data).kslot p = { m.kslot p with
    st := .sealing, jk := bytesIn 32 (Config.unwrap kem data), kemAt := none, jobTag := BitVec.ofNat 16 (num (m.kslot p).manifest 8 2),
    domain := BitVec.ofNat 16 m.nextDomain } := by
  rw [keyed, kslot_setFlag, kslot_wr, kslot_setSealing, kslot_takeDomainNo, kslot_setKslot_same, nextDomain_setKslot]

theorem mem_keyed (m : Mod) (p kem : Nat) (data : List Byte) : (m.keyed p kem data).mem = m.mem := by
  rw [keyed, mem_setFlag, mem_wr, mem_setSealing, mem_takeDomainNo, mem_setKslot]
theorem nextDomain_keyed (m : Mod) (p kem : Nat) (data : List Byte) : (m.keyed p kem data).nextDomain = m.nextDomain + 1 := by
  rw [keyed, nextDomain_setFlag, nextDomain_wr, nextDomain_setSealing, nextDomain_takeDomainNo, nextDomain_setKslot]

/-- The module once slot `p` has the domain and the keys that an OPEN_DOMAIN names (R464). -/
def opened (m : Mod) (p : Nat) (data : List Byte) : Mod :=
  let tag : W16 := BitVec.ofNat 16 (num data 0 2)
  let n := m.setKslot p { m.kslot p with jk := (data.drop 8).take 32, manifestHash := (data.drop 40).take 32, jobTag := tag }
  ((n.takeDomainNo p).wr (PART_JOB p) (tag.zeroExtend 64)).setFlag (PART_STATUS p) 23 false

theorem kslot_opened (m : Mod) (p : Nat) (data : List Byte) : (m.opened p data).kslot p = { m.kslot p with
    jk := (data.drop 8).take 32, manifestHash := (data.drop 40).take 32, jobTag := BitVec.ofNat 16 (num data 0 2), domain := BitVec.ofNat 16 m.nextDomain } := by
  rw [opened, kslot_setFlag, kslot_wr, kslot_takeDomainNo, kslot_setKslot_same, nextDomain_setKslot]

theorem mem_opened (m : Mod) (p : Nat) (data : List Byte) : (m.opened p data).mem = m.mem := by
  rw [opened, mem_setFlag, mem_wr, mem_takeDomainNo, mem_setKslot]
theorem nextDomain_opened (m : Mod) (p : Nat) (data : List Byte) : (m.opened p data).nextDomain = m.nextDomain + 1 := by
  rw [opened, nextDomain_setFlag, nextDomain_wr, nextDomain_takeDomainNo, nextDomain_setKslot]

theorem dlgOpen_accepted (hp : p = d.slot) (hpart : m.hasPart p = true) (hidle : m.jobRuns p = false) (hst : (m.kslot p).st = .unsealed)
    (hleft : m.domainsGone = false) : m.dlgOpen d = (m.opened p d.data).setPlan ((m.opened p d.data).openPlan p) := by
  subst hp
  simp only [dlgOpen, opened, hpart, hidle, hst, hleft, Bool.not_true, Bool.or_false, decide_true, Bool.false_eq_true, if_false]

section
variable {kem : Nat} (hp : p = d.slot) (hst : (m.kslot p).st = .attested) (hkem : (m.kslot p).kemAt = some kem) (hdebug : m.debugOn = false)
  (hleft : m.domainsGone = false) (hpart : m.hasPart p = true) (hidle : m.jobRuns p = false)
include hp hst hkem hdebug hleft hpart hidle

theorem dlgDeliver_badTag : m.dlgDeliver d false = (m.dropAttest p).endDialogue 0x0F0A [] := by
  subst hp
  simp only [dlgDeliver, hst, hkem, hdebug, hleft, hpart, hidle, Bool.not_true, Bool.not_false, Bool.or_false, Bool.false_eq_true, if_false, if_true]
theorem dlgDeliver_goodTag : m.dlgDeliver d true = (m.keyed p kem d.data).setPlan ((m.keyed p kem d.data).sealPlan p) := by
  subst hp
  simp only [dlgDeliver, keyed, hst, hkem, hdebug, hleft, hpart, hidle, Bool.not_true, Bool.or_false, Bool.false_eq_true, if_false]

end

theorem dlgDeliver_unattested (hst : (m.kslot d.slot).st ≠ .attested) (ok : Bool) : m.dlgDeliver d ok = m.endDialogue 0x0F0F [] := by
  rw [dlgDeliver]
  split
  · next h _ => exact absurd h hst
  · rfl

/-! ## What a sealed slot's dialogues ask of the dies (R484, R490) -/

theorem dlgEpoch_listed {w e f : Nat} (hp : p = d.slot) (hw : w = num d.data 0 4) (hf : f = w % 2048) (he : e = w / 2048 % 2) (hsealed : m.isSealed p = true)
    (hring : m.slotOfRing (ringOfFlow e f) = some p)
    (hlisted : (manifestList (m.kslot p).manifest (0x120 + 32 * num (m.kslot p).manifest 0x12 2 + 2 * num (m.kslot p).manifest 0x14 2)
      (num (m.kslot p).manifest 0x16 2) 4).contains (w % 4096) = true) :
    m.dlgEpoch d = m.setPlan [.send [msgKey (.feed e f (w / 4096 % 2)) p (w / 65536 % 256) (m.feedKey p e f (w / 65536 % 256))]] := by
  subst hp hw hf he
  refine if_pos ?_
  rw [hsealed, hlisted, hring, decide_eq_true rfl]
  rfl

theorem dlgSealExport_reads {r : List Dialogue} (hp : p = d.slot) (hqueue : m.dialogues = d :: r) (hsealed : m.isSealed p = true)
    (hpolicy : num (m.kslot p).manifest 0xD 1 % 2 = 1) (hrecord : (m.kslot p).exportRec ≠ []) (hindex : num d.data 0 2 < num d.data 2 2) :
    ∃ b, m.dlgSealExport d = ({ m with dialogues := { d with body := b } :: r } : Mod).setPlan [.send [(bridgeDie, msgMeasure)]] := by
  subst hp
  have hbad : (!m.isSealed d.slot || decide (num (m.kslot d.slot).manifest 0xD 1 % 2 = 0) || (m.kslot d.slot).exportRec.isEmpty ||
      decide (num d.data 2 2 ≤ num d.data 0 2)) = false := by
    simp [hsealed, hpolicy, hrecord, hindex]
  simp only [dlgSealExport, hqueue]
  exact ⟨_, if_neg (Bool.eq_false_iff.mp hbad)⟩

/-! ## The end of a sealing, teardown and scrub (R480, R490, R491) -/

theorem st_beginTeardown (m : Mod) (p : Nat) : ((m.beginTeardown p).kslot p).st = .tearing := by
  have hslots : SameSlots ((m.resetContexts p).setSealing p .tearing) (m.beginTeardown p) := (SameSlots.refl _).voidStacks.setPlan
  rw [hslots, kslot_setSealing]

section
variable (hop : d.op = 0x11) (hcode : d.code = 0)
include hop hcode

theorem finishDialogue_sealed (hscrubs : m.scrubFailed d.slot = false) :
    m.finishDialogue d = ((m.setSealing d.slot .sealed).setFlag (PART_STATUS d.slot) 23 true).endDialogue 0 [] := by
  simp only [finishDialogue, hop, hcode, hscrubs]
  rfl
theorem finishDialogue_scrubFailed (hscrubs : m.scrubFailed d.slot = true) :
    m.finishDialogue d = ({ m with dialogues := { d with code := 0x0224 } :: m.dialogues.drop 1 } : Mod).beginTeardown d.slot := by
  simp only [finishDialogue, hop, hcode, hscrubs]
  rfl
end

theorem dlgTeardown_sealed (hp : p = d.slot) (hsealed : m.isSealed p = true) (hidle : m.jobRuns p = false) : m.dlgTeardown d = m.beginTeardown p := by
  subst hp
  rw [dlgTeardown, hsealed, hidle]
  rfl
theorem dlgScrub_unsealed (hp : p = d.slot) (hpart : m.hasPart p = true) (hidle : m.jobRuns p = false) (hst : (m.kslot p).st = .unsealed) :
    m.dlgScrub d = m.beginScrub p := by
  subst hp
  rw [dlgScrub, hpart, hidle, hst]
  rfl

end
end Mod

/-! ## The events of a slot (R474, R480, R491) -/

theorem exec_sealingConfirm (p : Nat) (s : State) : exec (.sealingConfirm p) s = execSealingConfirm p s := rfl
theorem exec_teardownScrubDone (p : Nat) (s : State) : exec (.teardownScrubDone p) s = execTeardownScrubDone p s := rfl

section
variable {s : State} {d : Dialogue} {p : Nat}

section
variable (hup : s.m.modState ≠ 0) (hserved : s.m.inService = some d) (hp : p = d.slot) (hplan : d.plan = [.event]) (hquiet : s.m.busQuiet = true)
  (hscrubs : s.m.scrubsDone p = true)
include hup hserved hp hplan hquiet hscrubs

theorem does_sealingConfirm (hop : d.op = 0x11) (hcode : d.code = 0) : Does (.sealingConfirm p) s (s.m.setPlan [s.m.sendMeasure p]).settle := by
  rw [Does, exec_sealingConfirm, execSealingConfirm, Mod.onWhen_next (decide_eq_true hup), hserved]
  dsimp only
  rw [if_pos ⟨hop, hcode, hp.symm, hplan, hquiet, hscrubs⟩]
theorem does_teardownScrubDone (hst : (s.m.kslot p).st = .tearing) : Does (.teardownScrubDone p) s (s.m.endTeardown p).settle := by
  rw [Does, exec_teardownScrubDone, execTeardownScrubDone, Mod.onWhen_next (decide_eq_true hup), hserved]
  dsimp only
  rw [if_pos ⟨hp.symm, hst, hplan, hquiet, hscrubs⟩]

end

theorem does_kemKeyExpiry (hp : p < 8) (hst : (s.m.kslot p).st = .attested) : Does (.kemKeyExpiry p) s (s.m.dropAttest p) :=
  does_of_next (o := execKemKeyExpiry p s) (Mod.onWhen_next (decide_eq_true hp)) rfl (if_pos hst)

end

/-- Settles O51: each dialogue by its body once its checks pass, each event by its conditions. -/
theorem sealings : Obligations.Sealings := by
  intro s d p hp
  refine ⟨?attested, ?refused, ?delivered, ?undeliverable, ?confirmed, ?finished, ?epoch, ?exported, ?torn, ?unlocked, ?lapsed, ?opened, ?scrubbed⟩
  case attested =>
    intro a man h hpart hidle hopen hdebug hleft hman hok ha
    have hslot := s.m.kslot_attested (p := p) man (Mod.signed a)
    refine ⟨s.m.attested p man (Mod.signed a), does_onDialogue h rfl (Mod.dlgAttest_accepted hp hpart hidle hopen hdebug hleft hman hok ha), Mod.draws_attested .., Mod.mem_attested .., ?_⟩
    rw [hslot]
    exact ⟨rfl, rfl, rfl, rfl, rfl⟩
  case refused => exact fun h hpart hidle hst hdebug hleft hbad => does_onDialogue h rfl (Mod.dlgAttest_refused hp hpart hidle (.inl hst) hdebug hleft hbad)
  case delivered =>
    intro kem h hst hkem hdebug hleft hpart hidle
    have hdropped := s.m.kslot_dropAttest_same p
    have hslot := s.m.kslot_keyed p kem d.data
    refine ⟨does_onDialogue h rfl (Mod.dlgDeliver_badTag hp hst hkem hdebug hleft hpart hidle), congrArg KSlot.st hdropped, congrArg KSlot.kemAt hdropped,
      s.m.keyed p kem d.data, does_onDialogue h rfl (Mod.dlgDeliver_goodTag hp hst hkem hdebug hleft hpart hidle), ?_⟩
    rw [hslot]
    exact ⟨rfl, rfl, rfl, rfl, Mod.nextDomain_keyed .., Mod.mem_keyed ..⟩
  case undeliverable => exact fun h hst ok => does_onDialogue h rfl (Mod.dlgDeliver_unattested (hp ▸ hst) ok)
  case confirmed => exact fun hup hserved hop hcode hplan hquiet hscrubs => does_sealingConfirm hup hserved hp hplan hquiet hscrubs hop hcode
  case finished =>
    subst hp
    refine fun _ hop hcode => ⟨fun hscrubs => ?_, fun hscrubs => ?_⟩
    · rw [Mod.finishDialogue_sealed hop hcode hscrubs, (Mod.SameSlots.refl _).endDialogue, Mod.kslot_setFlag, Mod.kslot_setSealing]
    · rw [Mod.finishDialogue_scrubFailed hop hcode hscrubs, Mod.st_beginTeardown]
  case epoch => exact fun w e f h hw hf he hsealed hring hlisted => does_onDialogue h rfl (Mod.dlgEpoch_listed hp hw hf he hsealed hring hlisted)
  case exported =>
    intro r h hqueue hsealed hpolicy hrecord hindex
    obtain ⟨b, hbody⟩ := Mod.dlgSealExport_reads hp hqueue hsealed hpolicy hrecord hindex
    exact ⟨b, does_onDialogue h rfl hbody⟩
  case torn => exact fun h hsealed hidle => does_onDialogue h rfl (Mod.dlgTeardown_sealed hp hsealed hidle)
  case unlocked => exact fun hup hserved hst hplan hquiet hscrubs => does_teardownScrubDone hup hserved hp hplan hquiet hscrubs hst
  case lapsed =>
    intro hlt hst
    have hdropped := s.m.kslot_dropAttest_same p
    exact ⟨_, does_kemKeyExpiry hlt hst, congrArg KSlot.st hdropped, congrArg KSlot.kemAt hdropped, congrArg KSlot.manifest hdropped, Mod.mem_dropAttest,
      fun q hq => Mod.kslot_dropAttest_other hq⟩
  case opened =>
    intro h hpart hidle hst hleft
    refine ⟨s.m.opened p d.data, does_onDialogue h rfl (Mod.dlgOpen_accepted hp hpart hidle hst hleft), ?_⟩
    rw [s.m.kslot_opened p d.data]
    exact ⟨rfl, rfl, rfl, Mod.nextDomain_opened .., Mod.mem_opened ..⟩
  case scrubbed => exact fun h hpart hidle hst => does_onDialogue h rfl (Mod.dlgScrub_unsealed hp hpart hidle hst)

end Sys2Proof.Machine
end
